-- ==== Sys2Proof/Word.lean ====
section
/-! DEFINITION. The words of the block: register words, bytes, bit fields of a number, little- and big-endian bytes,
the reference of a register field, and the descriptor a host writes (R248). -/

namespace Sys2Proof

/-- A 32-bit BAR0 register word (R6). -/
abbrev Word := BitVec 32

/-- One byte of memory. -/
abbrev Byte := BitVec 8

/-- A register field: byte offset of its (low) word in BAR0, lowest bit, width. -/
structure FRef where
  addr : Nat
  lo : Nat
  w : Nat
  deriving DecidableEq, Repr

/-- A descriptor as it stands in host memory (R248, Table 11.3), with the global number of the submission ring it is
fetched from. `data` is what the host memory the job reads holds (a table, an image, a buffer), byte by byte, and
`hostErr` the byte offset at which that memory stops answering, if it does: both are facts of the host's side. -/
structure Desc where
  ring : Nat
  seq : Nat
  token : Nat
  opcode : Nat
  rsvd9 : Nat
  flags : Nat
  rsvd12 : Nat
  p : List Nat
  data : List Nat
  hostErr : Option Nat
  deriving DecidableEq, Repr

/-- What a boot finds outside the block: the straps as the balls stand (laid out as ID.STRAP bits 11 to 0), the bytes of
the two firmware copies in the QSPI flash (R409), the mask of self-tests that fail (R383), whether PFAIL_N is low when
RESET_N rises (R406), and the journal sequence numbers that lie in MRAM rows that no longer read (R283). -/
structure Boot where
  straps : Nat
  copyA : List Nat
  copyB : List Nat
  testsFail : Nat
  pfail : Bool
  torn : List Nat
  deriving DecidableEq, Repr

/-- The fields of a core's F0 instruction below its MOP (R195, Table 9.4). -/
structure F0 where
  acc : Nat
  sa : Nat
  sb : Nat
  lx : Nat
  px : Nat
  dx : Nat
  ly : Nat
  py : Nat
  dy : Nat
  modx : Nat
  mody : Nat
  deriving DecidableEq, Repr

/-- The fields of an F1 instruction below its OP. -/
structure F1 where
  dst : Nat
  sa : Nat
  sb : Nat
  sh : Nat
  t : Nat
  deriving DecidableEq, Repr

/-- The fields of an F2 instruction below its OP. -/
structure F2 where
  idx : Nat
  file : Nat
  imm : Nat
  deriving DecidableEq, Repr

/-- The fields of an F3 instruction below its S bit. -/
structure F3 where
  p : Nat
  d : Nat
  pm : Nat
  ofs : Nat
  deriving DecidableEq, Repr

/-- The fields of an F4 instruction below its OP. -/
structure F4 where
  target : Nat
  src : Nat
  count : Nat
  deriving DecidableEq, Repr

/-- The fields of an F5 instruction below its OP. -/
structure F5 where
  d : Nat
  code : Nat
  sreg : Nat
  deriving DecidableEq, Repr

/-- The field of `w` bits at bit `lo` of the number `v`. -/
def bits (v lo w : Nat) : Nat := v / 2 ^ lo % 2 ^ w

/-- `v` with its field of `w` bits at bit `lo` replaced by `x` (cut to `w` bits). -/
def setBits (v lo w x : Nat) : Nat :=
  v % 2 ^ lo + 2 ^ lo * (x % 2 ^ w) + 2 ^ (lo + w) * (v / 2 ^ (lo + w))

/-- Bit `i` of `v`. -/
def bit (v i : Nat) : Bool := v / 2 ^ i % 2 == 1

/-- 0 or 1. -/
def b2n (b : Bool) : Nat := if b then 1 else 0

/-- The `n` little-endian bytes of `v` (R4: host memory and recordings). -/
def le : Nat → Nat → List Nat
  | 0, _ => []
  | n + 1, v => v % 256 :: le n (v / 256)

/-- The `n` big-endian bytes of `v` (R4: packets on the wire). -/
def be (n v : Nat) : List Nat := (le n v).reverse

/-- The number that little-endian bytes spell. -/
def unle : List Nat → Nat
  | [] => 0
  | b :: t => b % 256 + 256 * unle t

/-- `n` zero bytes. -/
def zeros (n : Nat) : List Nat := List.replicate n 0

/-- A list of bytes cut or zero-padded to `n` bytes. -/
def padTo (n : Nat) (l : List Nat) : List Nat := (l ++ zeros n).take n

/-- The integer a two's-complement field of `w` bits spells (R3). -/
def signed (w v : Nat) : Int :=
  if bit v (w - 1) then (v % 2 ^ w : Nat) - (2 ^ w : Nat) else (v % 2 ^ w : Nat)

/-- The two's-complement field of `w` bits of an integer. -/
def unsigned (w : Nat) (x : Int) : Nat := (x % (2 ^ w : Nat)).toNat

/-- Entry `i` of a list, or `d`. -/
def nth {α : Type} (l : List α) (i : Nat) (d : α) : α := (l[i]?).getD d

/-- Entry `i` of a list changed by `f`; a list with no entry `i` is unchanged. -/
def modNth {α : Type} (l : List α) (i : Nat) (f : α → α) : List α :=
  match l, i with
  | [], _ => []
  | a :: t, 0 => f a :: t
  | a :: t, n + 1 => a :: modNth t n f

/-- Is the index set of a mask: the indices below `n` whose bit is set. -/
def maskList (n m : Nat) : List Nat := (List.range n).filter (bit m)

/-- The mask of a list of indices. -/
def listMask (l : List Nat) : Nat := l.eraseDups.foldl (fun m i => m + 2 ^ i) 0

/-- ceil(a / b). -/
def ceilDiv (a b : Nat) : Nat := (a + (b - 1)) / b

end Sys2Proof
end

