-- ==== Sys2Proof/Syntax.lean ====
section
/-! DEFINITION. The commands of the block: one constructor per row of spec/opcode_table.json, commands with operands first, each part in the table's order. Facts that reach the block from outside (a sample, a measured temperature, the outcome of an analogue step) are operands of the event that carries them. -/

namespace Sys2Proof

/-- A command: an operation of the host or an event, each a whole step of the block (95_what_each_step_holds.md). -/
inductive Instr where
  /-- CONFIGURE_SLOT_SOURCE (R42). CONFIGURE with TARGET 0x01 selects or prepares JESD204C link n, or returns input slot n to its intake. -/
  | configureSlotSource (d : Desc)
  /-- CONFIGURE_WINDOW_TABLE (R96). CONFIGURE with TARGET 0x02 loads a custom window or prototype table bank of a slice from host memory. -/
  | configureWindowTable (d : Desc)
  /-- CONFIGURE_MASK_TABLE (R114). CONFIGURE with TARGET 0x03 reads a mask table from host memory before the decision and loads it. -/
  | configureMaskTable (d : Desc)
  /-- CONFIGURE_FIR_BANK (R154). CONFIGURE with TARGET 0x04 loads NT FIR coefficients into bank A or B of a tuner. -/
  | configureFirBank (d : Desc)
  /-- CONFIGURE_GAIN_BANK (R171). CONFIGURE with TARGET 0x05 loads entries of one correlator gain bank. -/
  | configureGainBank (d : Desc)
  /-- CONFIGURE_SUBMISSION_RING (R264). CONFIGURE with TARGET 0x06 resizes, moves, rebinds or disables an empty submission ring. -/
  | configureSubmissionRing (d : Desc)
  /-- CONFIGURE_COMPLETION_RING (R264). CONFIGURE with TARGET 0x07 resizes, moves or disables an empty completion ring. -/
  | configureCompletionRing (d : Desc)
  /-- CONFIGURE_EVENT_RING (R264). CONFIGURE with TARGET 0x08 resizes or moves the empty event ring. -/
  | configureEventRing (d : Desc)
  /-- CONFIGURE_DISPLAY_PALETTE (R348). CONFIGURE with TARGET 0x09 loads palette entries into the palette shadow. -/
  | configureDisplayPalette (d : Desc)
  /-- COMMIT (R259). COMMIT captures shadow registers of the named groups and copies and schedules each group at its own instant. -/
  | commit (d : Desc)
  /-- EPOCH_COMMIT (R74). A COMMIT of the CLK epoch group is checked and left pending until its epoch request. -/
  | epochCommit (d : Desc)
  /-- TRIM_COMMIT (R73). A COMMIT of CLK.TRIM sets a new trim target toward which both synthesisers walk. -/
  | trimCommit (d : Desc)
  /-- STREAM_OPEN (R309). STREAM_OPEN checks a stream, reserves capacity and opens delivery of its source. -/
  | streamOpen (d : Desc)
  /-- STREAM_CLOSE (R310). STREAM_CLOSE stops a stream at the end of the packet in progress and completes its STREAM_OPEN. -/
  | streamClose (d : Desc)
  /-- ARM_TRIGGER_SINGLE (R122). ARM_TRIGGER with MODE SINGLE arms a mask trigger for one fire, with its reservations. -/
  | armTriggerSingle (d : Desc)
  /-- ARM_TRIGGER_REPEAT (R122). ARM_TRIGGER with MODE REPEAT arms a mask trigger until a DISARM. -/
  | armTriggerRepeat (d : Desc)
  /-- DISARM (R123). ARM_TRIGGER with MODE DISARM ends the arming of a trigger and completes both jobs in ring order. -/
  | disarm (d : Desc)
  /-- EXTRACT (R236). EXTRACT with MODE 0 reads a range of a freeze or the live ring into host memory or a stream. -/
  | extract (d : Desc)
  /-- EXTRACT_RELEASE (R236). EXTRACT with MODE 1 extracts a freeze range and then releases the freeze on DONE or PARTIAL. -/
  | extractRelease (d : Desc)
  /-- RELEASE (R236). EXTRACT with MODE 2 releases a held freeze without moving data. -/
  | release (d : Desc)
  /-- RECORD_START (R330). RECORD_START opens a recording on NVMe namespaces and reserves the record port. -/
  | recordStart (d : Desc)
  /-- RECORD_STOP (R338). RECORD_STOP ends a recording with a final checkpoint and footer. -/
  | recordStop (d : Desc)
  /-- CORE_LOAD (R203). CORE_LOAD verifies a core image and loads it into the named cores and the image store. -/
  | coreLoad (d : Desc)
  /-- CORE_RUN_START (R204). CORE_RUN with MODE START reserves budget and starts a loaded core at its entry. -/
  | coreRunStart (d : Desc)
  /-- CORE_RUN_STOP (R206). CORE_RUN with MODE STOP stops a running core at the next instruction boundary. -/
  | coreRunStop (d : Desc)
  /-- CALIBRATE (R62). CALIBRATE requests foreground calibration of the intakes named in INPUT_MASK under MODE. -/
  | calibrate (d : Desc)
  /-- SNAPSHOT (R391). SNAPSHOT schedules a copy of every performance counter at a sample time, with an optional dump. -/
  | snapshot (d : Desc)
  /-- BIST (R397). BIST job runs logic and/or memory self-test on one region that is out of service. -/
  | bist (d : Desc)
  /-- ATTEST_QUOTE (R374). ATTEST with WHAT 0 writes a signed quote of the measurement registers and nonce. -/
  | attestQuote (d : Desc)
  /-- ATTEST_CERTIFICATES (R374). ATTEST with WHAT 1 writes the device and authority certificates. -/
  | attestCertificates (d : Desc)
  /-- GENERATE (R376). KEY_OP GENERATE creates a new key of TYPE in a key-store handle from the DRBG. -/
  | generate (d : Desc)
  /-- IMPORT (R376). KEY_OP IMPORT unwraps an AES-256 key from an RSA-OAEP block into a handle. -/
  | importKey (d : Desc)
  /-- EXPORT_PUBLIC (R376). KEY_OP EXPORT_PUBLIC writes a signed public key record of an RSA key. -/
  | exportPublic (d : Desc)
  /-- DELETE (R376). KEY_OP DELETE zeroises one key-store handle. -/
  | deleteKey (d : Desc)
  /-- SET_OWNER (R371). KEY_OP SET_OWNER fuses the owner key hash into OTP once. -/
  | setOwner (d : Desc)
  /-- SVN_COMMIT (R370). KEY_OP SVN_COMMIT raises a rollback counter in OTP. -/
  | svnCommit (d : Desc)
  /-- ZEROISE (R379). KEY_OP ZEROISE starts zeroisation of scope 0 or 1. -/
  | zeroise (d : Desc)
  /-- RESEED (R376). KEY_OP RESEED forces a DRBG reseed. -/
  | reseed (d : Desc)
  /-- REVOKE_VENDOR (R371). KEY_OP REVOKE_VENDOR blows the revoke fuse of a vendor key slot. -/
  | revokeVendor (d : Desc)
  /-- MOVE (R294). MOVE checks one DMA descriptor, reserves its share and queues it on its channel. -/
  | move (d : Desc)
  /-- VIDEO_COMMIT (R349). VIDEO_COMMIT writes a new frame buffer BASE and STRIDE into the pending register. -/
  | videoCommit (d : Desc)
  /-- HK_TABLE (R361). HK_TABLE reads and installs a new housekeeping sequence table. -/
  | hkTable (d : Desc)
  /-- QUIESCE_DRAIN (R289). QUIESCE with MODE DRAIN stops deciding the function's descriptors until its other jobs are closed or TIMEOUT. -/
  | quiesceDrain (d : Desc)
  /-- QUIESCE_CLOSE (R289). QUIESCE with MODE CLOSE closes every standing job of the function. -/
  | quiesceClose (d : Desc)
  /-- QUIESCE_RESET (R289). QUIESCE with MODE RESET takes a soft reset once earlier completions are posted. -/
  | quiesceReset (d : Desc)
  /-- SLICE_RESET (R289). QUIESCE with MODE SLICE_RESET resets the named slices to their reset configuration. -/
  | sliceReset (d : Desc)
  /-- RESTRIPE (R239). RESTRIPE rebuilds the HBM interleave map, ring size and spares. -/
  | restripe (d : Desc)
  /-- CHECK_BUFFER (R323). CHECK with MODE BUFFER computes the CRC-32C of a host buffer in a check context. -/
  | checkBuffer (d : Desc)
  /-- CHECK_VERIFY (R323). CHECK with MODE VERIFY verifies hash chain, signatures and packets of recorded segments. -/
  | checkVerify (d : Desc)
  /-- FAULT_ACK_ACK (R290). FAULT_ACK with ACTION ACK sets ACKED in a fault record. -/
  | faultAckAck (d : Desc)
  /-- FAULT_ACK_RETURN (R290). FAULT_ACK with ACTION RETURN tests a failed unit and returns it to service on a pass. -/
  | faultAckReturn (d : Desc)
  /-- JOURNAL_READ (R291). JOURNAL_READ writes journal records, fault records or the event log to host memory. -/
  | journalRead (d : Desc)
  /-- SHED_ORDER (R279). SHED_ORDER assigns shedding ranks to open standing jobs of a ring. -/
  | shedOrder (d : Desc)
  /-- SUBMISSION_DOORBELL (R249). A write to a submission doorbell announces new descriptors, or is discarded with DB_BAD. -/
  | submissionDoorbell (func i idx : Nat)
  /-- COMPLETION_DOORBELL (R267). A write to a completion-ring head doorbell frees completion entries. -/
  | completionDoorbell (func i idx : Nat)
  /-- EVENT_DOORBELL (R267). A write to the event-ring head doorbell frees event entries. -/
  | eventDoorbell (idx : Nat)
  /-- DESCRIPTOR_FETCH (R250). The device reserves a completion entry and reads a descriptor once room exists, then decides it. -/
  | descriptorFetch (d : Desc)
  /-- FETCH_RETRY (R250). A failed descriptor fetch is retried 1 µs later, halting the ring after three failures. -/
  | fetchRetry (d : Desc)
  /-- COMPLETION_POST (R255). A completion entry is written once every earlier accepted job of its ring has completed. -/
  | completionPost (ring : Nat)
  /-- COALESCING_TIMEOUT (R247). The coalescing timer of a completion ring expires and its MSI-X vector fires. -/
  | coalescingTimeout (q : Nat)
  /-- REGISTER_WRITE (R8). A host write to a BAR0 register with no behaviour of its own acts per its access code. -/
  | registerWrite (func addr value : Nat) (collide : Bool)
  /-- RL_LOW_READ (R8). A read of the low word of an RL pair latches the high word. -/
  | rlLowRead (addr : Nat)
  /-- BAR0_UNSUPPORTED_ACCESS (R6). A BAR0 access of the wrong size or alignment completes with Unsupported Request and has no effect. -/
  | bar0UnsupportedAccess (addr size : Nat) (write : Bool)
  /-- DEBUG_WINDOW_ACCESS (R244). A read or write through BAR4 reaches SRAM or HBM as best-effort traffic. -/
  | debugWindowAccess (off n : Nat) (wr : Option (List Nat))
  /-- RING_REGISTER_WRITE (R263). A BAR0 write to ring registers is taken only while the ring is disabled. -/
  | ringRegisterWrite (func addr value : Nat)
  /-- FUNC_WRITE (R246). A write to HIF.FUNC[f] assigns VF ring ranges, or is discarded with CFG_BAD. -/
  | funcWrite (addr value : Nat) (enabled : Bool)
  /-- VFWIN_WRITE (R306). A write to DMA.VFWIN[f] places a VF's HBM window, or is discarded with CFG_BAD. -/
  | vfwinWrite (addr value : Nat) (enabled : Bool)
  /-- PMC_VALUE_PRESET (R390). A host write to a PMC VALUE pair presets count, WRAPS and OVF. -/
  | pmcValuePreset (addr value : Nat) (collide : Bool)
  /-- CLR_OVF (R389). A write of 1 to CLR_OVF clears a counter's sticky OVF. -/
  | clrOvf (k value : Nat)
  /-- ABANDON (R285). A write to JNL.CTL.ABANDON disables restored rings and keeps outcomes for JOURNAL_READ. -/
  | abandon (value : Nat)
  /-- RECOV_GO (R411). A write to ID.RECOV_GO makes the boot ROM read and verify a recovery image. -/
  | recovGo (value : Nat) (image : List Nat)
  /-- AUX_GO (R356). A write to VID.AUX_GO starts a DPCD read over AUX. -/
  | auxGo (value : Nat)
  /-- AUX_READ_DONE (R356). An AUX read completes or is NACKed and AUX_BUSY clears. -/
  | auxReadDone (data : Option (List Nat))
  /-- GO (R362). A write of GO to HK.LEG_CTL starts one LK2 conversion, or is discarded. -/
  | hkGo (value : Nat)
  /-- MGMT_READ (R425). A board management controller reads a BAR0 register over the I2C target. -/
  | mgmtRead (addr : Nat)
  /-- BEAT (R29). A beat of 16 samples with flags arrives at an input slot and is written to the ring and passed to slices. -/
  | beat (slot : Nat) (samples : List Int) (good cbit : Bool)
  /-- SPECTRUM (R102). A frame completes and its spectrum goes to the triggers, density builder and detectors. -/
  | spectrum (n trigIn checkFail : Nat)
  /-- TRIG_OUT_PULSE_END (R125). A TRIG_OUT pulse's width runs out and the pin falls if no other source holds it. -/
  | trigOutPulseEnd (pin : Nat)
  /-- DENSITY_PERIOD_CLOSE (R136). A density period closes by count or time and the buffers change roles. -/
  | densityPeriodClose (n : Nat)
  /-- DENSITY_READOUT_DONE (R137). The density readout pass finishes copying the closed buffer to HBM. -/
  | densityReadoutDone (n : Nat)
  /-- SPX_CHANGE_INSTANT (R110). At change instant C a slice applies captured engine, trigger, density and crossbar fields. -/
  | spxChangeInstant (n : Nat)
  /-- DDC_RESTART_INSTANT (R150). At restart instant C_D a tuner clears its state and starts a new output grid. -/
  | ddcRestartInstant (n t : Nat)
  /-- DDC_OUTPUT_SAMPLE (R163). A tuner produces an output sample, suppressed or written, and its threshold detector runs. -/
  | ddcOutputSample (n t : Nat)
  /-- DDC_BLOCK_WRITE (R161). A block of 2^LOG2BLK tuner samples closes and is written to the stream ring. -/
  | ddcBlockWrite (n t : Nat)
  /-- XFADE_END (R155). A cross-fade reaches XF_LEN outputs and the new bank alone is in force. -/
  | xfadeEnd (n t : Nat)
  /-- DDC_DELIVERY_END (R127). A trigger-started DDC delivery reaches DDC_DUR and stops. -/
  | ddcDeliveryEnd (id : Nat)
  /-- ZOOM_RECORD (R167). A zoom FFT record of T_Z frames is written to the slice history. -/
  | zoomRecord (n t : Nat)
  /-- ATTEN_CHANGE (R24). A committed attenuation lands at a beat boundary and starts the settling count. -/
  | attenChange (n : Nat)
  /-- F_PAYLOAD_STAGED (R181). An F-engine payload of S_P frames is staged in the F staging ring. -/
  | fPayloadStaged (i g : Nat)
  /-- CORRELATOR_HALF_FAIL (R179). The fault manager declares a correlator half failed and degraded mode starts. -/
  | correlatorHalfFail (h onset : Nat) (trip : Bool)
  /-- REF_IN_LOSS (R66). No REF_IN edge for 8 periods puts the loops in holdover. -/
  | refInLoss (mean : Int)
  /-- REF_IN_RETURN (R67). REF_IN stays within 200 ppm for 1 s and the loops rejoin it or REF_BAD is posted. -/
  | refInReturn (ofs : Int)
  /-- LOSS_OF_LOCK (R78). The active synthesiser loses lock and the datapath hands over to the standby or halts. -/
  | lossOfLock (onset : Nat)
  /-- LOCK_LOSS_STANDBY (R80). The standby synthesiser loses lock without affecting data. -/
  | lockLossStandby (onset : Nat)
  /-- LOCK_CONFIRMATION (R71). AL_LOCK sets after 256 good analogue comparisons. -/
  | lockConfirmation (syn : Nat) (phase : Int)
  /-- CK_DP_RELEASE (R77). CK_DP is released 4 µs after lock confirmation and fabric clocks return from CK_PROVE. -/
  | ckDpRelease (periods : Nat) (ntoLost : Bool)
  /-- SYNTH_RELOCK_RETRY (R80). A synthesiser that lost lock retries every 1 ms, becoming FAILED after 16 attempts. -/
  | synthRelockRetry (syn : Nat)
  /-- MEM_PLL (R81). The memory PLL loses lock and relocks while HBM traffic waits in the ballast. -/
  | memPll (onset : Nat)
  /-- PROVE_FALLBACK (R81). The control PLL loses lock and CK_PROVE moves to the internal oscillator. -/
  | proveFallback (onset : Nat)
  /-- EPOCH_INSTANT (R75). At t_E the epoch applies: ring discard, counter zeroed, links realign, relock begins. -/
  | epochInstant (phase tod : Nat)
  /-- PPS_EDGE (R84). A PPS_IN rising edge latches sample time and time of day and steers the counter. -/
  | ppsEdge (st tod : Nat)
  /-- TOD_PAIR_LATCH (R83). Every 2^24 samples the device latches a sample-time and time-of-day pair. -/
  | todPairLatch (tod : Nat)
  /-- PTP_MESSAGE (R85). A PTP event or general message is taken and the servo updated. -/
  | ptpMessage (port kind : Nat) (offset rate : Int) (tod utc : Nat)
  /-- SYSREF_PULSE (R89). A SYSREF_OUT edge falls due and aligns links in WAIT_SYSREF. -/
  | sysrefPulse (skews : List (Nat × Nat × Nat)) (off : List Nat)
  /-- LANE_CLOCK_RECOVERY (R44). All four lanes of a link recover clock and the link enters SYNC. -/
  | laneClockRecovery (link : Nat)
  /-- SYNC_HEADER_LOCK (R44). Sync-header or code-group lock on all lanes moves the link to ALIGN. -/
  | syncHeaderLock (link : Nat)
  /-- ILAS_RECEIVED (R37). Extended multiblock lock or a checked ILAS moves the link to WAIT_SYSREF, or sets ILAS_MISMATCH. -/
  | ilasReceived (link : Nat) (ok : Bool)
  /-- LINK_STEP_TIMEOUT (R44). A bring-up step's bound runs out and the sequence restarts at lane lock. -/
  | linkStepTimeout (link : Nat)
  /-- CRC12_FAILURE (R45). A multiblock fails CRC-12 and the beats it carried have VALID cleared. -/
  | crc12Failure (link beats : Nat)
  /-- LINK_LOCK_LOSS (R45). A lane or alignment is lost, the slot carries GAP and bring-up restarts. -/
  | linkLockLoss (link : Nat)
  /-- CAL_SENSOR_READ (R49). Every 10 ms the calibration controller reads intake temperatures and raises drift triggers. -/
  | calSensorRead (temps : List Int)
  /-- BACKGROUND_UPDATE (R48). After 2^24 samples an intake updates its offset and gain corrections. -/
  | backgroundUpdate (k : Nat)
  /-- SIDE_BY_SIDE_DONE (R53). A side-by-side run ends and its match check decides the hand-over. -/
  | sideBySideDone (samples : Nat) (gain skew : Int)
  /-- PRIMARY_CALIBRATION_DONE (R54). The isolated primary finishes calibration and tone residual and is reconnected. -/
  | primaryCalibrationDone (tone : Int) (pass : Bool)
  /-- IN_PLACE_CALIBRATION_DONE (R57). The 1.2 ms in-place calibration ends and the primary reconnects. -/
  | inPlaceCalibrationDone (tone : Int)
  /-- CALIBRATION_RETRY (R56). The retry delay after a rejected calibration runs out. -/
  | calibrationRetry (k : Nat)
  /-- INTAKE_FAULT (R58). The fault manager detects a failed intake and starts takeover by intake 8. -/
  | intakeFault (k onset : Nat)
  /-- SLICE_FAULT (R276). A slice fails and slice 8 takes over its logical slice. -/
  | sliceFault (k onset rel : Nat)
  /-- BIST_DONE (R398). A self-test finishes and its signature is compared with ID.BIST_EXP. -/
  | bistDone (kind index sigLogic sigMem : Nat)
  /-- RETRAINING_START (R219). A pseudo-channel due for retraining starts once no other retrains and the ballast is below 1 MiB. -/
  | retrainingStart (p : Nat) (temp : Int)
  /-- RETRAINING_DONE (R219). Retraining ends, releasing traffic or retiring the pseudo-channel. -/
  | retrainingDone (ok : Bool) (temp : Int)
  /-- FORCED_REFRESH (R216). A ninth postponed refresh falls due and nine refreshes stall one pseudo-channel. -/
  | forcedRefresh (p : Nat)
  /-- SELF_REFRESH_ENTRY (R217). A stack idle for SR_IDLE enters self-refresh. -/
  | selfRefreshEntry (k : Nat)
  /-- SELF_REFRESH_EXIT (R217). An access to a stack in self-refresh completes its exit. -/
  | selfRefreshExit (k : Nat)
  /-- STACK_RECOVERY (R221). A stack-wide interface failure resets the stack and retrains its channels. -/
  | stackRecovery (k : Nat)
  /-- STACK_RECOVERED (R241). Stack recovery finishes and held traffic is released. -/
  | stackRecovered (k : Nat) (failed : List Nat)
  /-- SPARE_READY (R239). A spare's poison fill ends and it becomes available. -/
  | spareReady (p : Nat)
  /-- PATROL_SCRUB (R223). The patrol scrubber reads and corrects HBM outside the ring every SCRUB_H hours. -/
  | patrolScrub (ces : List (Nat × Nat)) (ues : List Nat)
  /-- DMA_BURST_START (R298). A DMA burst starts once its pacing interval allows. -/
  | dmaBurstStart (ch : Nat)
  /-- DMA_BURST_DONE (R298). A DMA burst completes and the channel's progress and half-point interrupt update. -/
  | dmaBurstDone (ch : Nat) (ues : List Nat)
  /-- DMA_BURST_RETRY (R300). A failed burst is retried 1 µs after the failure, or the channel halts. -/
  | dmaBurstRetry (ch burst err : Nat)
  /-- DMA_TRANSFER_DONE (R303). A transfer's last burst and barrier read-back complete and the job completes. -/
  | dmaTransferDone (ch : Nat)
  /-- DATA_PACKET (R313). A stream's payload fills and a VITA 49.2 data packet with integrity block is sent. -/
  | dataPacket (id : Nat)
  /-- CONTEXT_PAIR (R315). A context pair falls due by change or CTX_PERIOD and is sent. -/
  | contextPair (id : Nat)
  /-- KEEPALIVE (R320). A stream idle for ALIVE ms sends a keepalive packet. -/
  | keepalive (id : Nat)
  /-- HOST_STREAM_RECORD_WRITE (R324). A record waiting for room before RD_OFS is written to a host-memory stream buffer. -/
  | hostStreamRecordWrite (id rdOfs : Nat)
  /-- ARP_REQUEST (R325). A received ARP request or Neighbor Solicitation for a port address is answered. -/
  | arpRequest (port : Nat) (v6 : Bool) (target mac ip : Nat)
  /-- ETH_PORT_FAILURE (R326). A port failure is detected and its streams move to the other port, with shedding. -/
  | ethPortFailure (p onset : Nat)
  /-- ETH_UP (R326). A returned port up for 1 s posts ETH_UP and rejoins. -/
  | ethUp (p : Nat)
  /-- RECORD_PORT_LINK_UP (R329). The record port link comes up and its namespaces are enumerated. -/
  | recordPortLinkUp (width speed : Nat) (found : List (List Nat))
  /-- REC_DOWN (R339). The record port is lost and every recording job is shed. -/
  | recDown (onset : Nat)
  /-- NVME_COMPLETION (R329). An NVMe Write or Flush completes, making chunks durable or failing the namespace after retries. -/
  | nvmeCompletion (ns : Nat) (flush : Bool) (status : Nat)
  /-- CHECKPOINT (R335). A checkpoint falls due every CKPT_MS and is written, signed if SIGN. -/
  | checkpoint (id : Nat)
  /-- SEGMENT_END (R337). A segment's data area fills and its index and footer are written and flushed. -/
  | segmentEnd (id : Nat)
  /-- DP_HPD_HIGH (R344). DP_HPD high for 100 ms starts link bring-up and EDID read. -/
  | dpHpdHigh (lanes rate : Nat) (edid : List Nat)
  /-- HPD_IRQ (R344). A DP_HPD pulse shorter than 2 ms makes the device read link status and retrain if needed. -/
  | hpdIrq (lost : Bool)
  /-- FRAME_DONE (R353). The last active pixel of a frame is sent and any UNDERRUN event is posted. -/
  | frameDone (under urgent : Nat)
  /-- HK_CONVERSION_DONE (R357). A housekeeping conversion ends, updating the slot and checking limits. -/
  | hkConversionDone (nv value : Int)
  /-- HK_SELF_CALIBRATION (R358). After each pass or every 1 s in LK2 mode the converter checks zero and reference. -/
  | hkSelfCalibration (ok : Bool)
  /-- INSTRUCTION_SAMPLE (R394). A core's sampling countdown reaches zero and a sample record is written. -/
  | instructionSample (n : Nat)
  /-- SAMPLE_DRAIN (R396). Sample records drain to HBM when 64 wait or at least every 1 ms. -/
  | sampleDrain (n : Nat)
  /-- PROGRESS (R282). A PROGRESS journal record falls due at least every 100 µs for a running job. -/
  | progress (job : Nat)
  /-- CONTROL_PAIR_FAILURE (R277). Lockstep compare fails and the standby pair rebuilds job state from the journal. -/
  | controlPairFailure (onset : Nat)
  /-- WATCHDOG (R414). The watchdog expires after 100 ms unserviced and resets the device. -/
  | watchdog (boot : Boot)
  /-- POWER_ON (R412). Supplies become valid and the power-on sequence through boot to full service runs. -/
  | powerOn (boot : Boot)
  /-- RESET_N (R405). RESET_N held low for 10 µs or longer resets the device and latches straps on release. -/
  | resetN (ns : Nat) (boot : Boot)
  /-- VF_FLR (R284). A VF FLR or VF Enable clear interrupts that VF's jobs and disables its rings. -/
  | vfFlr (f : Nat)
  /-- HOST_DOWN (R265). The host link reports DL_Down and host-memory traffic stops. -/
  | hostDown (recent : Nat)
  /-- HOST_UP (R265). The host link returns without reset and held entries are rewritten and posted. -/
  | hostUp (width speed : Nat)
  /-- RAIL_MONITOR_TRIP (R420). A rail leaves nominal by more than 6 % for 1 µs and the device acts per rail. -/
  | railMonitorTrip (group onset : Nat)
  /-- RAIL_RECOVERY (R420). A tripped rail has been back in range for 10 ms and the device restarts or recalibrates. -/
  | railRecovery (group : Nat) (boot : Boot)
  /-- ENTROPY_RETEST (R378). The entropy start-up test repeats every 1 s while degraded. -/
  | entropyRetest (pass : Bool)
  /-- CORE_MASK_SWAP (R198). A core writes 1 to MSWAP to request a swap of its mask shadow. -/
  | coreMaskSwap (n c : Nat)
  /-- CORE_SEND (R199). A core writes SEND to queue a message to another core of its slice. -/
  | coreSend (n c : Nat)
  /-- CORE_POST (R201). A core writes POST to post a CORE event within its reserved rate. -/
  | corePost (n c : Nat)
  /-- CORE_DMA_GO (R200). A core writes DMA_GO to issue a DMA request between data memory and HBM. -/
  | coreDmaGo (n c : Nat)
  /-- CORE_MSG_POP (R189). A core writes MSG_POP to discard the head message of its queue. -/
  | coreMsgPop (n c : Nat)
  /-- MAC (R190). F0 MAC adds a product to an accumulator, with optional parallel loads. -/
  | mac (n c : Nat) (x : F0)
  /-- MSU (R190). F0 MSU subtracts a product from an accumulator, with optional parallel loads. -/
  | msu (n c : Nat) (x : F0)
  /-- MPY (R190). F0 MPY replaces an accumulator with a product, with optional parallel loads. -/
  | mpy (n c : Nat) (x : F0)
  /-- PARALLEL_LOAD (R195). F0 with MOP none performs only its parallel loads. -/
  | parallelLoad (n c : Nat) (x : F0)
  /-- LOAD (R195). F3 load reads a data or window word into a D register. -/
  | load (n c : Nat) (x : F3)
  /-- STORE (R195). F3 store writes a D register to a data or window word. -/
  | store (n c : Nat) (x : F3)
  /-- ADD (R196). F1 ADD. -/
  | add (n c : Nat) (x : F1)
  /-- SUB (R196). F1 SUB. -/
  | sub (n c : Nat) (x : F1)
  /-- ADDS (R196). F1 saturating add. -/
  | adds (n c : Nat) (x : F1)
  /-- SUBS (R196). F1 saturating subtract. -/
  | subs (n c : Nat) (x : F1)
  /-- AND (R196). F1 bitwise AND. -/
  | and (n c : Nat) (x : F1)
  /-- OR (R196). F1 bitwise OR. -/
  | or (n c : Nat) (x : F1)
  /-- XOR (R196). F1 bitwise XOR. -/
  | xor (n c : Nat) (x : F1)
  /-- NOT (R196). F1 bitwise NOT. -/
  | not (n c : Nat) (x : F1)
  /-- SHL (R196). F1 logical shift left. -/
  | shl (n c : Nat) (x : F1)
  /-- SHR (R196). F1 logical shift right. -/
  | shr (n c : Nat) (x : F1)
  /-- ASR (R192). F1 arithmetic shift right with rounding. -/
  | asr (n c : Nat) (x : F1)
  /-- MIN (R196). F1 signed minimum. -/
  | min (n c : Nat) (x : F1)
  /-- MAX (R196). F1 signed maximum. -/
  | max (n c : Nat) (x : F1)
  /-- ABS (R196). F1 saturating absolute value. -/
  | abs (n c : Nat) (x : F1)
  /-- NEG (R196). F1 saturating negate. -/
  | neg (n c : Nat) (x : F1)
  /-- CMP (R196). F1 compare setting flags. -/
  | cmp (n c : Nat) (x : F1)
  /-- MOV (R196). F1 register move. -/
  | mov (n c : Nat) (x : F1)
  /-- EXT (R192). F1 narrowing of an accumulator into a D register. -/
  | ext (n c : Nat) (x : F1)
  /-- ACLR (R196). F1 accumulator clear. -/
  | aclr (n c : Nat) (x : F1)
  /-- ALD (R196). F1 accumulator load from two D registers. -/
  | ald (n c : Nat) (x : F1)
  /-- AADD (R196). F1 accumulator add. -/
  | aadd (n c : Nat) (x : F1)
  /-- ASUB (R196). F1 accumulator subtract. -/
  | asub (n c : Nat) (x : F1)
  /-- ASHL (R196). F1 accumulator shift left. -/
  | ashl (n c : Nat) (x : F1)
  /-- AASR (R196). F1 accumulator arithmetic shift right. -/
  | aasr (n c : Nat) (x : F1)
  /-- AGET (R196). F1 move of an accumulator field into a D register. -/
  | aget (n c : Nat) (x : F1)
  /-- MVX (R196). F1 move between register files. -/
  | mvx (n c : Nat) (x : F1)
  /-- LDI (R196). F2 load immediate. -/
  | ldi (n c : Nat) (x : F2)
  /-- ADDI (R196). F2 add immediate. -/
  | addi (n c : Nat) (x : F2)
  /-- ANDI (R196). F2 AND immediate. -/
  | andi (n c : Nat) (x : F2)
  /-- ORI (R196). F2 OR immediate. -/
  | ori (n c : Nat) (x : F2)
  /-- CMPI (R196). F2 compare immediate. -/
  | cmpi (n c : Nat) (x : F2)
  /-- BR (R196). F4 unconditional branch. -/
  | br (n c : Nat) (x : F4)
  /-- BEQ (R196). F4 branch if Z. -/
  | beq (n c : Nat) (x : F4)
  /-- BNE (R196). F4 branch if not Z. -/
  | bne (n c : Nat) (x : F4)
  /-- BLT (R196). F4 branch if N differs from V. -/
  | blt (n c : Nat) (x : F4)
  /-- BGE (R196). F4 branch if N equals V. -/
  | bge (n c : Nat) (x : F4)
  /-- CALL (R196). F4 CALL pushes the return address and jumps. -/
  | call (n c : Nat) (x : F4)
  /-- RET (R196). F4 RET pops the return address and jumps. -/
  | ret (n c : Nat) (x : F4)
  /-- LOOP (R196). F4 LOOP sets up a hardware loop. -/
  | loop (n c : Nat) (x : F4)
  /-- NOP (R196). F5 no operation. -/
  | nop (n c : Nat) (x : F5)
  /-- HALT (R206). F5 HALT stops the core and completes its START job DONE. -/
  | halt (n c : Nat) (x : F5)
  /-- WAIT (R196). F5 WAIT stalls until a message or DMA completion. -/
  | wait (n c : Nat) (x : F5)
  /-- MFS (R196). F5 read of a special register. -/
  | mfs (n c : Nat) (x : F5)
  /-- MTS (R187). F5 write of a special register. -/
  | mts (n c : Nat) (x : F5)
  /-- FENCE (R196). F5 FENCE stalls until no DMA request of the core is pending. -/
  | fence (n c : Nat) (x : F5)
  /-- DRAIN_TIMEOUT (R289). The TIMEOUT of a QUIESCE DRAIN runs out with jobs still open, and the QUIESCE completes DONE_FLAGGED with the open jobs in RESULT. -/
  | drainTimeout (job : Nat)
  /-- CODE_ERROR (R45). An 8b/10b disparity or not-in-table error on a link clears VALID on the beats of the affected frame and sets LINK_ERR.SYNC_HDR. -/
  | codeError (link beats : Nat)
  /-- ILLEGAL_INSTRUCTION (R195). A core fetches an instruction with format 110 or 111, a reserved opcode or a nonzero reserved field, and it traps with cause ILLEGAL. -/
  | illegalInstruction (n c : Nat)
  /-- MSI_X_INTERVAL_END (R247). The 1 µs minimum interval after an MSI-X vector fires ends, and triggers merged during it fire the vector. -/
  | msiXIntervalEnd (v : Nat)
  /-- NET_CFG_WRITE (R341). A host write to NET.CFG or a NET.PORT[p] field takes effect, or is discarded with NET.ERR.CFG_BAD while the port carries a stream or PTP. -/
  | netCfgWrite (addr value : Nat)
  /-- PMC_SMP_WRITE (R396). A host write to PMC.SMP[n] configures instruction sampling and loads the LFSR from SEED when EN is set. It is discarded with PMC.ERR.CFG_BAD while EN is 1 or when the region overlaps another. -/
  | pmcSmpWrite (addr value : Nat)
  /-- EVENT_POST (R262). A raised event is written to the event ring, or held in the MRAM event log until room exists. -/
  | eventPost
  /-- XCOR_CHANGE_INSTANT (R175). The correlator applies a configuration change at a frame start and cuts the integration. -/
  | xcorChangeInstant
  /-- INTEGRATION_BOUNDARY (R177). A correlator integration ends, accumulators swap and boundary-timed fields take effect. -/
  | integrationBoundary
  /-- CORRELATOR_READOUT_DONE (R177). The correlator readout pass ends and the record is written to the output ring. -/
  | correlatorReadoutDone
  /-- TRIM_STEP (R73). A trim walk step of at most 1 ppm falls due. -/
  | trimStep
  /-- EPOCH (R76). The beat at sample time 0 is delivered and the epoch COMMIT completes. -/
  | epoch
  /-- INTERNAL_EPOCH (R75). The device performs an epoch without a job once both synthesisers have locked. -/
  | internalEpoch
  /-- SYNC_IN_PULSE (R86). A qualifying SYNC_IN pulse requests the pending epoch or is counted IGNORED. -/
  | syncInPulse
  /-- SYNC_TIMEOUT (R74). No SYNC_IN pulse arrives within TIMEOUT and the epoch COMMIT completes CANCELLED. -/
  | syncTimeout
  /-- PPS_LOSS (R84). No PPS edge for 1.5 s posts PPS_LOSS. -/
  | ppsLoss
  /-- PTP_LOSS (R85). No Sync message for 4 s posts PTP_LOSS and holds the rate. -/
  | ptpLoss
  /-- CALIBRATION_START (R50). The device starts the next due foreground calibration, covered or in place. -/
  | calibrationStart
  /-- STEERING_SETTLED (R35). The 2 µs settling of a steering change ends. -/
  | steeringSettled
  /-- CAL_BIST_STEP (R61). Every PERIOD seconds a rotating intake self-test step starts. -/
  | calBistStep
  /-- ROTATION_STEP (R400). Every PERIOD seconds a rotating slice BIST step attaches slice 8 to a logical slice. -/
  | rotationStep
  /-- ROTATION_TIMEOUT (R400). A rotation step not switched within 60 s ends and counts in SKIPPED. -/
  | rotationTimeout
  /-- DP_UP (R344). DisplayPort link training succeeds. -/
  | dpUp
  /-- DP_TRAIN_FAIL (R344). DisplayPort training fails and a retry is scheduled 1 s later. -/
  | dpTrainFail
  /-- DP_DOWN (R344). DP_HPD low for 2 ms or longer takes the display link down. -/
  | dpDown
  /-- VBLANK (R350). At the start of vertical blanking the pending frame address, palette and timing latch. -/
  | vblank
  /-- LINE_MATCH (R353). Scan-out reaches line LINE_MATCH. -/
  | lineMatch
  /-- HK_ENTRY_DELAY_END (R360). An entry's DELAY runs out and its conversions start. -/
  | hkEntryDelayEnd
  /-- SNAPSHOT_COPY (R392). At sample time T every counter is copied into its shadow. -/
  | snapshotCopy
  /-- RESUME (R285). After a reset, with FETCH_EN set, the device posts RESUME and outcomes of interrupted jobs. -/
  | resume
  /-- PFAIL_N_FALL (R283). PFAIL_N falls, fetching stops and running jobs are parked in the journal. -/
  | pfailNFall
  /-- PFAIL_N_RISE (R283). PFAIL_N rises before supplies fail and fetching resumes. -/
  | pfailNRise
  /-- PERST_N (R414). PERST_N, a hot reset or a PF FLR resets host-facing blocks and retrains the host link. -/
  | perstN
  /-- ZEROIZE_N (R379). ZEROIZE_N held low for 10 µs starts scope-0 zeroisation. -/
  | zeroizeN
  /-- ZEROISED (R379). Zeroisation completes and ZEROISED is posted. -/
  | zeroised
  /-- DRBG_RESEED (R377). The DRBG reseeds after 2^20 requests or 60 s. -/
  | drbgReseed
  /-- ENTROPY_FAIL (R378). An entropy health test fails and the security state becomes DEGRADED. -/
  | entropyFail
  /-- CORE_BUDGET_TICK (R205). A new tick resets each core's cycle cap and releases cap stalls. -/
  | coreBudgetTick
  /-- SYNC_OUT_GENERATE (R86). In GENERATE mode the device starts its 8-period SYNC_OUT pulse at the first reference edge at or after the target sample time of its pending epoch COMMIT. -/
  | syncOutGenerate
  /-- DP_TRAIN_RETRY (R344). One second after a failed DisplayPort training the device starts a new training attempt. -/
  | dpTrainRetry
  /-- RESTRIPE_DONE (R239). The rebuild of the HBM map ends within 20 ms, the ring restarts with the next beat and the RESTRIPE completes with a RESTRIPE_DONE event. -/
  | restripeDone
  /-- MEM_PLL_RELOCK (R81). The memory PLL confirms relock, HBM traffic held in the ballast is released and RESTORED_ST is recorded. -/
  | memPllRelock
  /-- CONTROL_PLL_RELOCK (R67). The control PLL relocks and CK_PROVE returns to it from the internal oscillator. -/
  | controlPllRelock
  deriving DecidableEq, Repr

end Sys2Proof
end

