-- ==== Sys2Proof/Decode.lean ====
section
/-! DEFINITION. Reading a command from bits. The table gives no row a bit, so no word spells a command; the core
instruction words of R195 and R196, which a core fetches from its own instruction memory, are decoded and encoded here. -/

namespace Sys2Proof

/-- The command a word of the table spells: the table gives no row any bits, so none. -/
def decodeTableWord (_nbits _w : Nat) : Option Instr := none

/-- The F0 fields of a word. -/
def f0Of (w : Nat) : F0 :=
  ⟨bits w 26 1, bits w 22 4, bits w 18 4, bits w 17 1, bits w 14 3, bits w 10 4, bits w 9 1, bits w 6 3, bits w 2 4, bits w 1 1,
    bits w 0 1⟩

/-- The F1 fields of a word. -/
def f1Of (w : Nat) : F1 := ⟨bits w 20 4, bits w 16 4, bits w 12 4, bits w 6 6, bits w 5 1⟩

/-- The F2 fields of a word. -/
def f2Of (w : Nat) : F2 := ⟨bits w 21 4, bits w 18 3, bits w 0 16⟩

/-- The F3 fields of a word. -/
def f3Of (w : Nat) : F3 := ⟨bits w 25 3, bits w 21 4, bits w 20 1, bits w 0 16⟩

/-- The F4 fields of a word. -/
def f4Of (w : Nat) : F4 := ⟨bits w 13 13, bits w 12 1, bits w 0 12⟩

/-- The F5 fields of a word. -/
def f5Of (w : Nat) : F5 := ⟨bits w 20 4, bits w 4 16, bits w 0 4⟩

/-- Does register `idx` of file `file` exist: D has sixteen, P, M, B and L eight each (R186, R195)? -/
def fileOk (file idx : Nat) : Bool := file = 0 && idx < 16 || 1 ≤ file && file ≤ 4 && idx < 8

/-- The F1 instruction of an opcode; none where it is reserved or a field names nothing (R196). -/
def decodeF1 (n c op : Nat) (x : F1) : Option Instr :=
  match op with
  | 0x00 => some (.add n c x)
  | 0x01 => some (.sub n c x)
  | 0x02 => some (.adds n c x)
  | 0x03 => some (.subs n c x)
  | 0x04 => some (.and n c x)
  | 0x05 => some (.or n c x)
  | 0x06 => some (.xor n c x)
  | 0x07 => some (.not n c x)
  | 0x08 => some (.shl n c x)
  | 0x09 => some (.shr n c x)
  | 0x0A => some (.asr n c x)
  | 0x0B => some (.min n c x)
  | 0x0C => some (.max n c x)
  | 0x0D => some (.abs n c x)
  | 0x0E => some (.neg n c x)
  | 0x0F => some (.cmp n c x)
  | 0x10 => some (.mov n c x)
  | 0x11 => if x.sh < 32 then some (.ext n c x) else none
  | 0x12 => some (.aclr n c x)
  | 0x13 => some (.ald n c x)
  | 0x14 => some (.aadd n c x)
  | 0x15 => some (.asub n c x)
  | 0x16 => some (.ashl n c x)
  | 0x17 => some (.aasr n c x)
  | 0x18 => if x.sh < 3 then some (.aget n c x) else none
  | 0x19 => if fileOk (x.sh / 8) x.dst && fileOk (x.sh % 8) x.sa then some (.mvx n c x) else none
  | _ => none

/-- The F2 instruction of an opcode. -/
def decodeF2 (n c op : Nat) (x : F2) : Option Instr :=
  match op with
  | 0 => if fileOk x.file x.idx then some (.ldi n c x) else none
  | 1 => if fileOk x.file x.idx then some (.addi n c x) else none
  | 2 => if x.file = 0 then some (.andi n c x) else none
  | 3 => if x.file = 0 then some (.ori n c x) else none
  | 4 => if x.file = 0 then some (.cmpi n c x) else none
  | _ => none

/-- The F4 instruction of an opcode. -/
def decodeF4 (n c op : Nat) (x : F4) : Option Instr :=
  match op with
  | 0 => some (.br n c x)
  | 1 => some (.beq n c x)
  | 2 => some (.bne n c x)
  | 3 => some (.blt n c x)
  | 4 => some (.bge n c x)
  | 5 => some (.call n c x)
  | 6 => some (.loop n c x)
  | 7 => some (.ret n c x)
  | _ => none

/-- The F5 instruction of an opcode. -/
def decodeF5 (n c op : Nat) (x : F5) : Option Instr :=
  match op with
  | 0 => some (.nop n c x)
  | 1 => some (.halt n c x)
  | 2 => some (.wait n c x)
  | 3 => if x.sreg < 2 then some (.mfs n c x) else none
  | 4 => if x.sreg < 2 then some (.mts n c x) else none
  | 5 => some (.fence n c x)
  | _ => none

/-- The instruction a core of a slice reads from a 32-bit word; none where the word is illegal (R195, R196). -/
def decodeCore (n c w : Nat) : Option Instr :=
  match bits w 29 3 with
  | 0 =>
    match bits w 27 2 with
    | 0 => some (.parallelLoad n c (f0Of w))
    | 1 => some (.mac n c (f0Of w))
    | 2 => some (.msu n c (f0Of w))
    | _ => some (.mpy n c (f0Of w))
  | 1 => if bits w 0 5 = 0 then decodeF1 n c (bits w 24 5) (f1Of w) else none
  | 2 => if bits w 16 2 = 0 then decodeF2 n c (bits w 25 4) (f2Of w) else none
  | 3 =>
    if bits w 16 4 = 0 then some (if bits w 28 1 = 0 then .load n c (f3Of w) else .store n c (f3Of w)) else none
  | 4 => decodeF4 n c (bits w 26 3) (f4Of w)
  | 5 => decodeF5 n c (bits w 24 5) (f5Of w)
  | _ => none

/-- An F0 word. -/
def enc0 (mop : Nat) (x : F0) : Nat :=
  mop * 2 ^ 27 + x.acc * 2 ^ 26 + x.sa * 2 ^ 22 + x.sb * 2 ^ 18 + x.lx * 2 ^ 17 + x.px * 2 ^ 14 + x.dx * 2 ^ 10 + x.ly * 2 ^ 9
  + x.py * 2 ^ 6 + x.dy * 2 ^ 2 + x.modx * 2 + x.mody

/-- An F1 word. -/
def enc1 (op : Nat) (x : F1) : Nat :=
  1 * 2 ^ 29 + op * 2 ^ 24 + x.dst * 2 ^ 20 + x.sa * 2 ^ 16 + x.sb * 2 ^ 12 + x.sh * 2 ^ 6 + x.t * 2 ^ 5

/-- An F2 word. -/
def enc2 (op : Nat) (x : F2) : Nat := 2 * 2 ^ 29 + op * 2 ^ 25 + x.idx * 2 ^ 21 + x.file * 2 ^ 18 + x.imm

/-- An F3 word. -/
def enc3 (st : Nat) (x : F3) : Nat := 3 * 2 ^ 29 + st * 2 ^ 28 + x.p * 2 ^ 25 + x.d * 2 ^ 21 + x.pm * 2 ^ 20 + x.ofs

/-- An F4 word. -/
def enc4 (op : Nat) (x : F4) : Nat := 4 * 2 ^ 29 + op * 2 ^ 26 + x.target * 2 ^ 13 + x.src * 2 ^ 12 + x.count

/-- An F5 word. -/
def enc5 (op : Nat) (x : F5) : Nat := 5 * 2 ^ 29 + op * 2 ^ 24 + x.d * 2 ^ 20 + x.code * 2 ^ 4 + x.sreg

/-- The word of a core instruction; none for every other command. -/
def encodeCore (i : Instr) : Option Nat :=
  match i with
  | .parallelLoad _ _ x => some (enc0 0 x)
  | .mac _ _ x => some (enc0 1 x)
  | .msu _ _ x => some (enc0 2 x)
  | .mpy _ _ x => some (enc0 3 x)
  | .add _ _ x => some (enc1 0x00 x)
  | .sub _ _ x => some (enc1 0x01 x)
  | .adds _ _ x => some (enc1 0x02 x)
  | .subs _ _ x => some (enc1 0x03 x)
  | .and _ _ x => some (enc1 0x04 x)
  | .or _ _ x => some (enc1 0x05 x)
  | .xor _ _ x => some (enc1 0x06 x)
  | .not _ _ x => some (enc1 0x07 x)
  | .shl _ _ x => some (enc1 0x08 x)
  | .shr _ _ x => some (enc1 0x09 x)
  | .asr _ _ x => some (enc1 0x0A x)
  | .min _ _ x => some (enc1 0x0B x)
  | .max _ _ x => some (enc1 0x0C x)
  | .abs _ _ x => some (enc1 0x0D x)
  | .neg _ _ x => some (enc1 0x0E x)
  | .cmp _ _ x => some (enc1 0x0F x)
  | .mov _ _ x => some (enc1 0x10 x)
  | .ext _ _ x => some (enc1 0x11 x)
  | .aclr _ _ x => some (enc1 0x12 x)
  | .ald _ _ x => some (enc1 0x13 x)
  | .aadd _ _ x => some (enc1 0x14 x)
  | .asub _ _ x => some (enc1 0x15 x)
  | .ashl _ _ x => some (enc1 0x16 x)
  | .aasr _ _ x => some (enc1 0x17 x)
  | .aget _ _ x => some (enc1 0x18 x)
  | .mvx _ _ x => some (enc1 0x19 x)
  | .ldi _ _ x => some (enc2 0 x)
  | .addi _ _ x => some (enc2 1 x)
  | .andi _ _ x => some (enc2 2 x)
  | .ori _ _ x => some (enc2 3 x)
  | .cmpi _ _ x => some (enc2 4 x)
  | .load _ _ x => some (enc3 0 x)
  | .store _ _ x => some (enc3 1 x)
  | .br _ _ x => some (enc4 0 x)
  | .beq _ _ x => some (enc4 1 x)
  | .bne _ _ x => some (enc4 2 x)
  | .blt _ _ x => some (enc4 3 x)
  | .bge _ _ x => some (enc4 4 x)
  | .call _ _ x => some (enc4 5 x)
  | .loop _ _ x => some (enc4 6 x)
  | .ret _ _ x => some (enc4 7 x)
  | .nop _ _ x => some (enc5 0 x)
  | .halt _ _ x => some (enc5 1 x)
  | .wait _ _ x => some (enc5 2 x)
  | .mfs _ _ x => some (enc5 3 x)
  | .mts _ _ x => some (enc5 4 x)
  | .fence _ _ x => some (enc5 5 x)
  | _ => none

end Sys2Proof
end

