-- ==== Sys2Proof/Config.lean ====
section
/-! DEFINITION. What an implementation fixes: tables of constants the spec gives, and the values the spec leaves open
(opaque: nothing in Lean can see them). -/

namespace Sys2Proof.Config

/-- A value the spec leaves open, fresh for each count of the state's counter of free values. -/
opaque freeValue : Nat → Nat

/-- The expected self-test signature word at word offset `i` of the ID block (R398): not listed by the spec. -/
opaque bistExpected : Nat → Nat

/-- The complex result of the device's FFT of `n` real inputs (Q13.5, raw) under a shift schedule (R97 to R99): the
first n/2 bins and whether a component saturated. The spec gives the stages, their shifts, rounding and saturation, but
neither the twiddle factors' precision nor the rounding of their products, so the result is left open. -/
opaque fft : (n : Nat) → List Int → List Nat → List (Int × Int) × Bool

/-- The bank hashing of R213: which bits of the offset are the bank bits and which the lowest row bits is not given. -/
opaque hashBanks : Nat → Nat

/-- The 18-bit cosine and sine of the NCO at a 32-bit phase (R146): the spec bounds their spurs, not each value. -/
opaque ncoCos : Nat → Int
opaque ncoSin : Nat → Int

/-- The fixed coefficients of DEC4 (R144) and of the half-band stage of a given length (R145): not listed. -/
opaque dec4 : List Int
opaque halfBand : (taps : Nat) → List Int

/-- The complex zoom FFT of R165: window (Q2.16) and samples to the bins from −N/2 upward. Twiddle precision and the
narrowing of the window product are not given. -/
opaque zoomFft : List Int → List (Int × Int) → List (Int × Int)

/-- What the counters of the PMC block count, beside event 0 of a unit (R386 and the chapters that place a count). -/
inductive Count where
  | overRange | crc12 | codeError | markedBeats
  | frames | suppressed | overflowed | records
  | evaluated | fires | denied | inputs
  | written | stageOvf | thrEvents
  | usedFrames | checkFail | reqSat (input : Nat) | payloads
  | retired | stallCycles | capStalls | accOvf | messages | dmaBytes
  | corrected | uncorrectable | forcedRefresh | retrainings | ballastBytes
  | discards | refusals (res : Nat) | shed | journalRecords | pfails
  | bytes | bursts | retries | halts
  | packets | resends | fecCorr | nvmeErrors
  | urgent | underruns | poison
  | cycles
  deriving DecidableEq, Repr, Inhabited

/-- The catalogue of R386: the unit and event of counter k, its event number, kind, clock domain and name. The spec
leaves the numbering of the counters to the part, which shows it in the catalogue window. -/
opaque pmcUnit : Nat → Nat
opaque pmcCount : Nat → Count
opaque pmcWord : (k : Nat) → Nat
opaque pmcName : (k word : Nat) → Nat

/-- The 64-bit word of a cycle counter (event 0 of a unit, R386): cycles of the unit's clock up to a sample time, after a
preset. The model has no clock of its own, so the count is left open. -/
opaque cycleCount : (unit st preset : Nat) → Nat

/-- The reset word at offset `o` of ADM.RES[c]: capacity and ceiling of Table 12.1 at 16.000 GS/s (R268), the freeze
quota in MiB (R292). -/
def admReset (c o : Nat) : Nat :=
  let cap := match c with
    | 1 => 38400 | 2 => 7680 | 3 => 16384 | 4 => 896 | 5 => 896 | 6 => 752 | 7 => 752 | 8 => 448
    | 9 => 327680 | 10 => 524 | 11 => 16384 | 12 => 24576 | 13 => 64
    | n => if 16 ≤ n && n ≤ 24 then 4096 else 0
  if o = 0 then cap
  else if o = 4 then (if c = 2 || c = 12 || c = 13 then cap else cap * 9 / 10)
  else 0

/-- An RSA-3072 PSS signature (384 bytes) by the private key named `mat` over a message, made with the `n`-th salt (R335,
R368): the key and the salt are secret. -/
opaque pssSign : (mat n : Nat) → List Nat → List Nat

/-- AES-256-GCM under the key named `mat` (R336): IV, additional data and plaintext to ciphertext and 16-byte tag. -/
opaque gcm : (mat : Nat) → (iv aad pt : List Nat) → List Nat

/-- The 384-byte public modulus of the RSA key named `mat`. -/
opaque rsaModulus : (mat : Nat) → List Nat

/-- RSA-OAEP decryption of a block by the key named `mat` (R376): the name of the AES key it holds, none where it fails. -/
opaque oaep : (mat : Nat) → List Nat → Option Nat

/-- The 1,024-byte record of EXPORT_PUBLIC (R376): its contents are given, their places in it are not. -/
opaque publicRecord : (handle type serial : Nat) → (modulus sig : List Nat) → List Nat

/-- The device certificate and the authority's, in DER form, in the order ATTEST writes them (R372, R374). -/
opaque certificates : List Nat

/-- The DMA share, in 1/256 of its path, that a table load (OPCODE 0x01), a CHECK (0x15) and a JOURNAL_READ (0x17)
reserve (R270): the spec gives no number, only that no share above 230 could be admitted (R297). -/
opaque dmaShare : (opcode : Nat) → Fin 231

/-- The 64-bit serial number fused at manufacture (R243). -/
opaque serial : Nat

/-- The die temperature that a context packet carries for a link-sourced slot, in 1/64 °C (R315): not given. -/
opaque linkDieTemp : Nat

/-- The default housekeeping sequence table (R360): channels 0 to 30, then channel 31 with rails 0 to 7, each with
REPEAT 1 and DELAY 0. -/
def hkDefaultTable : List Nat :=
  (List.range 31).map (fun c => c + 256) ++ (List.range 8).map (fun r => 31 + 32 * r + 256)

end Sys2Proof.Config
end

