-- ==== Sys2Proof/Machine/RegMap.lean ====
section
/-! DEFINITION. The BAR0 register map of the spec: one field reference per register field, and one row per register word (address pattern, access masks, reset), after the register tables of 02_intake.md to 19_startup_straps.md (R8, R10). -/

namespace Sys2Proof.Machine

namespace Fr

/-! Fields of 02_intake.md, R47. -/
def INTK_STATE (n : Nat) : FRef := ⟨0x20000 + 0x1000 * n, 0, 3⟩
def INTK_STAT_STEER (n : Nat) : FRef := ⟨0x20000 + 0x1000 * n, 4, 4⟩
def INTK_STAT_SETTLED (n : Nat) : FRef := ⟨0x20000 + 0x1000 * n, 8, 1⟩
def INTK_ATTEN (n : Nat) : FRef := ⟨0x20004 + 0x1000 * n, 0, 5⟩
def INTK_ATTEN_NOW_ATTEN (n : Nat) : FRef := ⟨0x20008 + 0x1000 * n, 0, 5⟩
def INTK_ATTEN_NOW_SETTLE_BEATS (n : Nat) : FRef := ⟨0x20008 + 0x1000 * n, 16, 16⟩
def INTK_OVR_THR (n : Nat) : FRef := ⟨0x2000C + 0x1000 * n, 0, 11⟩
def INTK_OVR_TRIG_MASK (n : Nat) : FRef := ⟨0x2000C + 0x1000 * n, 12, 4⟩
def INTK_OVR_FAST_EN (n : Nat) : FRef := ⟨0x2000C + 0x1000 * n, 16, 1⟩
def INTK_OVR_HOLD (n : Nat) : FRef := ⟨0x2000C + 0x1000 * n, 17, 12⟩
def INTK_OVR_SEEN (n : Nat) : FRef := ⟨0x20010 + 0x1000 * n, 0, 1⟩
def INTK_OVR_FAST_NOW (n : Nat) : FRef := ⟨0x20010 + 0x1000 * n, 1, 1⟩
def INTK_SLOT_SOURCE (n : Nat) : FRef := ⟨0x20014 + 0x1000 * n, 0, 2⟩
def INTK_SLOT_FEEDER (n : Nat) : FRef := ⟨0x20014 + 0x1000 * n, 4, 4⟩
def INTK_SLOT_VALID_NOW (n : Nat) : FRef := ⟨0x20014 + 0x1000 * n, 8, 1⟩
def INTK_SLOT_GAP_NOW (n : Nat) : FRef := ⟨0x20014 + 0x1000 * n, 9, 1⟩
def INTK_LANE_POL_INV (n : Nat) : FRef := ⟨0x20800 + 0x1000 * n, 0, 4⟩
def INTK_LANE_MAP (n : Nat) : FRef := ⟨0x20800 + 0x1000 * n, 4, 8⟩
def INTK_LINK_PARAM (n : Nat) : FRef := ⟨0x20804 + 0x1000 * n, 0, 32⟩
def INTK_LINK_OFS (n : Nat) : FRef := ⟨0x20808 + 0x1000 * n, 0, 32⟩
def INTK_LINK_STATE (n : Nat) : FRef := ⟨0x2080C + 0x1000 * n, 0, 3⟩
def INTK_LINK_CDR_LOCK (n : Nat) : FRef := ⟨0x2080C + 0x1000 * n, 4, 4⟩
def INTK_LINK_SYNC_LOCK (n : Nat) : FRef := ⟨0x2080C + 0x1000 * n, 8, 4⟩
def INTK_LINK_SKEW (n : Nat) : FRef := ⟨0x2080C + 0x1000 * n, 16, 8⟩
def INTK_LINKERR_CRC12 (n : Nat) : FRef := ⟨0x20810 + 0x1000 * n, 0, 1⟩
def INTK_LINKERR_SYNC_HDR (n : Nat) : FRef := ⟨0x20810 + 0x1000 * n, 1, 1⟩
def INTK_LINKERR_ALIGN_LOSS (n : Nat) : FRef := ⟨0x20810 + 0x1000 * n, 2, 1⟩
def INTK_LINKERR_ILAS_MISMATCH (n : Nat) : FRef := ⟨0x20810 + 0x1000 * n, 3, 1⟩
def INTK_LINKERR_SKEW_OVF (n : Nat) : FRef := ⟨0x20810 + 0x1000 * n, 4, 1⟩
def INTK_LINKERR_SYSREF_PHASE (n : Nat) : FRef := ⟨0x20810 + 0x1000 * n, 5, 1⟩

/-! Fields of 03_calibration_spare.md, R64. -/
def CAL_CTL_DELTA : FRef := ⟨0x30000, 0, 5⟩
def CAL_CTL_BG_EN : FRef := ⟨0x30000, 8, 1⟩
def CAL_CTL_AUTO_EN : FRef := ⟨0x30000, 9, 1⟩
def CAL_POLICY_INTERRUPT : FRef := ⟨0x30004, 0, 8⟩
def CAL_BIST_PERIOD : FRef := ⟨0x30008, 0, 16⟩
def CAL_SPARE_USE : FRef := ⟨0x3000C, 0, 3⟩
def CAL_SPARE_WCOL : FRef := ⟨0x3000C, 3, 1⟩
def CAL_SPARE_INPUT : FRef := ⟨0x3000C, 4, 4⟩
def CAL_SPARE_PENDING : FRef := ⟨0x3000C, 8, 9⟩
def CAL_REC_COUNT (k : Nat) : FRef := ⟨0x30100 + 0x40 * k, 0, 32⟩
def CAL_REC_REJECTED (k : Nat) : FRef := ⟨0x30104 + 0x40 * k, 0, 32⟩
def CAL_REC_ABORTED (k : Nat) : FRef := ⟨0x30108 + 0x40 * k, 0, 32⟩
def CAL_REC_LAST_CAUSE (k : Nat) : FRef := ⟨0x3010C + 0x40 * k, 0, 3⟩
def CAL_REC_RETRY (k : Nat) : FRef := ⟨0x3010C + 0x40 * k, 3, 2⟩
def CAL_REC_BIST_PASS (k : Nat) : FRef := ⟨0x3010C + 0x40 * k, 5, 1⟩
def CAL_REC_LAST_ST (k : Nat) : FRef := ⟨0x30110 + 0x40 * k, 0, 64⟩
def CAL_REC_LAST_TOD (k : Nat) : FRef := ⟨0x30118 + 0x40 * k, 0, 64⟩
def CAL_REC_LAST_TEMP (k : Nat) : FRef := ⟨0x30120 + 0x40 * k, 0, 16⟩
def CAL_REC_TEMP_NOW (k : Nat) : FRef := ⟨0x30120 + 0x40 * k, 16, 16⟩
def CAL_REC_RES_GAIN (k : Nat) : FRef := ⟨0x30124 + 0x40 * k, 0, 16⟩
def CAL_REC_RES_SKEW (k : Nat) : FRef := ⟨0x30124 + 0x40 * k, 16, 16⟩
def CAL_REC_RES_TONE (k : Nat) : FRef := ⟨0x30128 + 0x40 * k, 0, 16⟩

/-! Fields of 04_clocks_time.md, R91. -/
def CLK_REF_SRC : FRef := ⟨0x10000, 0, 2⟩
def CLK_AUTO_REJOIN : FRef := ⟨0x10000, 2, 1⟩
def CLK_DL_BW : FRef := ⟨0x10000, 4, 7⟩
def CLK_PRESENT : FRef := ⟨0x10004, 0, 1⟩
def CLK_HOLDOVER : FRef := ⟨0x10004, 1, 1⟩
def CLK_PROVE_INT : FRef := ⟨0x10004, 2, 1⟩
def CLK_FREQ_OFS : FRef := ⟨0x10004, 16, 16⟩
def CLK_NTO_MUL : FRef := ⟨0x10008, 0, 16⟩
def CLK_NTO_DIV : FRef := ⟨0x10008, 16, 16⟩
def CLK_FS_N : FRef := ⟨0x1000C, 0, 5⟩
def CLK_FS_ODIV : FRef := ⟨0x1000C, 5, 1⟩
def CLK_FS_PDIV : FRef := ⟨0x1000C, 6, 2⟩
def CLK_FS_FRAC : FRef := ⟨0x1000C, 8, 24⟩
def CLK_FS_NOW : FRef := ⟨0x10010, 0, 32⟩
def CLK_TRIM_TARGET : FRef := ⟨0x10014, 0, 19⟩
def CLK_TRIM_NOW : FRef := ⟨0x10018, 0, 19⟩
def CLK_WALKING : FRef := ⟨0x10018, 19, 1⟩
def CLK_CLAMP : FRef := ⟨0x10018, 20, 1⟩
def CLK_SYN_SEED (s : Nat) : FRef := ⟨0x10040 + 0x20 * s, 0, 31⟩
def CLK_SYN_EN (s : Nat) : FRef := ⟨0x10040 + 0x20 * s, 31, 1⟩
def CLK_SYN_ROLE (s : Nat) : FRef := ⟨0x10044 + 0x20 * s, 0, 2⟩
def CLK_SYN_DL_LOCK (s : Nat) : FRef := ⟨0x10044 + 0x20 * s, 2, 1⟩
def CLK_SYN_AL_LOCK (s : Nat) : FRef := ⟨0x10044 + 0x20 * s, 3, 1⟩
def CLK_SYN_PHASE_ERR (s : Nat) : FRef := ⟨0x10044 + 0x20 * s, 16, 16⟩
def CLK_SYN_LOSS_COUNT (s : Nat) : FRef := ⟨0x10048 + 0x20 * s, 0, 32⟩
def CLK_SYNC_SRC : FRef := ⟨0x10080, 0, 1⟩
def CLK_SYNC_OUT_MODE : FRef := ⟨0x10080, 1, 2⟩
def CLK_SYNC_DELAY : FRef := ⟨0x10080, 4, 16⟩
def CLK_SYNC_TIMEOUT : FRef := ⟨0x10080, 20, 8⟩
def CLK_EPOCH_COUNT : FRef := ⟨0x10084, 0, 16⟩
def CLK_SYNC_IGNORED : FRef := ⟨0x10084, 16, 8⟩
def CLK_SYNC_PENDING : FRef := ⟨0x10084, 24, 1⟩
def CLK_EPOCH_PHASE : FRef := ⟨0x10088, 0, 16⟩
def CLK_CLKOUT_EN : FRef := ⟨0x1008C, 0, 1⟩
def CLK_CLKOUT_DIV : FRef := ⟨0x1008C, 1, 7⟩
def CLK_SYSREF_MODE : FRef := ⟨0x10090, 0, 2⟩
def CLK_SYSREF_MULT : FRef := ⟨0x10090, 8, 8⟩
def CLK_SYSREF_OFS : FRef := ⟨0x10090, 16, 15⟩
def CLK_TB_NOW : FRef := ⟨0x10100, 0, 64⟩
def CLK_RUNNING : FRef := ⟨0x10108, 0, 1⟩
def CLK_CONT_OK : FRef := ⟨0x10108, 1, 1⟩
def CLK_ALIGNED : FRef := ⟨0x10108, 2, 1⟩
def CLK_TOD_SRC : FRef := ⟨0x10110, 0, 2⟩
def CLK_PTP_PORT : FRef := ⟨0x10110, 2, 1⟩
def CLK_PROFILE : FRef := ⟨0x10110, 3, 1⟩
def CLK_TAU : FRef := ⟨0x10110, 8, 8⟩
def CLK_STEP_THR : FRef := ⟨0x10110, 16, 16⟩
def CLK_PPS_OFS : FRef := ⟨0x10114, 0, 32⟩
def CLK_TOD_NOW : FRef := ⟨0x10118, 0, 64⟩
def CLK_TOD_SET : FRef := ⟨0x10120, 0, 64⟩
def CLK_PPS_ST : FRef := ⟨0x10128, 0, 64⟩
def CLK_PPS_TOD : FRef := ⟨0x10130, 0, 64⟩
def CLK_TOD_VALID : FRef := ⟨0x10138, 0, 1⟩
def CLK_PPS_PRESENT : FRef := ⟨0x10138, 1, 1⟩
def CLK_PTP_LOCKED : FRef := ⟨0x10138, 2, 1⟩
def CLK_UTC_OFS : FRef := ⟨0x10138, 16, 16⟩
def CLK_EPOCH_TOD : FRef := ⟨0x10140, 0, 64⟩

/-! Fields of 05_spectral_engine.md, R112. -/
def SPX_CTL_EN (n : Nat) : FRef := ⟨0x80000 + 0x80000 * n, 0, 1⟩
def SPX_CTL_MODE (n : Nat) : FRef := ⟨0x80000 + 0x80000 * n, 1, 1⟩
def SPX_CTL_LOG2LEN (n : Nat) : FRef := ⟨0x80000 + 0x80000 * n, 2, 5⟩
def SPX_CTL_OVL (n : Nat) : FRef := ⟨0x80000 + 0x80000 * n, 7, 2⟩
def SPX_CTL_WIN (n : Nat) : FRef := ⟨0x80000 + 0x80000 * n, 9, 3⟩
def SPX_CTL_TBANK (n : Nat) : FRef := ⟨0x80000 + 0x80000 * n, 12, 1⟩
def SPX_CTL_BETA (n : Nat) : FRef := ⟨0x80000 + 0x80000 * n, 13, 8⟩
def SPX_SHIFT_S (n : Nat) : FRef := ⟨0x80004 + 0x80000 * n, 0, 32⟩
def SPX_DET_FREQ_DET (n : Nat) : FRef := ⟨0x80008 + 0x80000 * n, 0, 2⟩
def SPX_DET_TIME_DET (n : Nat) : FRef := ⟨0x80008 + 0x80000 * n, 2, 3⟩
def SPX_DET_OUT_FMT (n : Nat) : FRef := ⟨0x80008 + 0x80000 * n, 5, 2⟩
def SPX_DET_TRACE_EN (n : Nat) : FRef := ⟨0x80008 + 0x80000 * n, 8, 1⟩
def SPX_SPAN_START_BIN (n : Nat) : FRef := ⟨0x8000C + 0x80000 * n, 0, 16⟩
def SPX_SPAN_BPP (n : Nat) : FRef := ⟨0x8000C + 0x80000 * n, 16, 11⟩
def SPX_SPAN_LOG2P (n : Nat) : FRef := ⟨0x8000C + 0x80000 * n, 27, 4⟩
def SPX_INTEG_T (n : Nat) : FRef := ⟨0x80010 + 0x80000 * n, 0, 21⟩
def SPX_SK_M (n : Nat) : FRef := ⟨0x80014 + 0x80000 * n, 0, 17⟩
def SPX_SK_SK_SHIFT (n : Nat) : FRef := ⟨0x80014 + 0x80000 * n, 17, 5⟩
def SPX_SK_EN (n : Nat) : FRef := ⟨0x80014 + 0x80000 * n, 22, 1⟩
def SPX_CTL_NOW (n : Nat) : FRef := ⟨0x80040 + 0x80000 * n, 0, 32⟩
def SPX_RUNNING (n : Nat) : FRef := ⟨0x80044 + 0x80000 * n, 0, 1⟩
def SPX_PENDING (n : Nat) : FRef := ⟨0x80044 + 0x80000 * n, 1, 1⟩
def SPX_GEN (n : Nat) : FRef := ⟨0x80044 + 0x80000 * n, 8, 8⟩
def SPX_INPUT (n : Nat) : FRef := ⟨0x80044 + 0x80000 * n, 16, 4⟩
def SPX_LOGCORR (n : Nat) : FRef := ⟨0x80048 + 0x80000 * n, 0, 16⟩
def SPX_SUPP (n : Nat) : FRef := ⟨0x8004C + 0x80000 * n, 0, 8⟩
def SPX_CHG_ST (n : Nat) : FRef := ⟨0x80050 + 0x80000 * n, 0, 64⟩
def SPX_TCRC0 (n : Nat) : FRef := ⟨0x80058 + 0x80000 * n, 0, 32⟩
def SPX_TCRC1 (n : Nat) : FRef := ⟨0x8005C + 0x80000 * n, 0, 32⟩
def SPX_FFT_OVF (n : Nat) : FRef := ⟨0x80060 + 0x80000 * n, 0, 1⟩
def SPX_SK_SAT (n : Nat) : FRef := ⟨0x80060 + 0x80000 * n, 1, 1⟩
def SPX_CUT (n : Nat) : FRef := ⟨0x80060 + 0x80000 * n, 2, 1⟩

/-! Fields of 06_triggers_density.md, R142. -/
def TRG_POL (n : Nat) (m : Nat) : FRef := ⟨0x80100 + 0x80000 * n + 0x40 * m, 0, 1⟩
def TRG_COND (n : Nat) (m : Nat) : FRef := ⟨0x80100 + 0x80000 * n + 0x40 * m, 1, 2⟩
def TRG_MIN_BINS (n : Nat) (m : Nat) : FRef := ⟨0x80100 + 0x80000 * n + 0x40 * m, 4, 12⟩
def TRG_K (n : Nat) (m : Nat) : FRef := ⟨0x80100 + 0x80000 * n + 0x40 * m, 16, 16⟩
def TRG_START_BIN (n : Nat) (m : Nat) : FRef := ⟨0x80104 + 0x80000 * n + 0x40 * m, 0, 16⟩
def TRG_END_BIN (n : Nat) (m : Nat) : FRef := ⟨0x80104 + 0x80000 * n + 0x40 * m, 16, 16⟩
def TRG_HOLDOFF (n : Nat) (m : Nat) : FRef := ⟨0x80108 + 0x80000 * n + 0x40 * m, 0, 20⟩
def TRG_QUAL (n : Nat) (m : Nat) : FRef := ⟨0x80108 + 0x80000 * n + 0x40 * m, 20, 2⟩
def TRG_QPIN (n : Nat) (m : Nat) : FRef := ⟨0x80108 + 0x80000 * n + 0x40 * m, 22, 2⟩
def TRG_TABLE (n : Nat) (m : Nat) : FRef := ⟨0x8010C + 0x80000 * n + 0x40 * m, 0, 1⟩
def TRG_OWNER (n : Nat) (m : Nat) : FRef := ⟨0x8010C + 0x80000 * n + 0x40 * m, 1, 1⟩
def TRG_OWNER_CORE (n : Nat) (m : Nat) : FRef := ⟨0x8010C + 0x80000 * n + 0x40 * m, 2, 4⟩
def TRG_COL_LO (n : Nat) (m : Nat) : FRef := ⟨0x80110 + 0x80000 * n + 0x40 * m, 0, 10⟩
def TRG_COL_HI (n : Nat) (m : Nat) : FRef := ⟨0x80110 + 0x80000 * n + 0x40 * m, 16, 10⟩
def TRG_ROW_LO (n : Nat) (m : Nat) : FRef := ⟨0x80114 + 0x80000 * n + 0x40 * m, 0, 8⟩
def TRG_ROW_HI (n : Nat) (m : Nat) : FRef := ⟨0x80114 + 0x80000 * n + 0x40 * m, 8, 8⟩
def TRG_THRESH (n : Nat) (m : Nat) : FRef := ⟨0x80118 + 0x80000 * n + 0x40 * m, 0, 32⟩
def TRG_ARMED (n : Nat) (m : Nat) : FRef := ⟨0x80120 + 0x80000 * n + 0x40 * m, 0, 1⟩
def TRG_INSIDE (n : Nat) (m : Nat) : FRef := ⟨0x80120 + 0x80000 * n + 0x40 * m, 1, 1⟩
def TRG_KNOWN (n : Nat) (m : Nat) : FRef := ⟨0x80120 + 0x80000 * n + 0x40 * m, 2, 1⟩
def TRG_HOLDING (n : Nat) (m : Nat) : FRef := ⟨0x80120 + 0x80000 * n + 0x40 * m, 3, 1⟩
def TRG_TABLE_NOW (n : Nat) (m : Nat) : FRef := ⟨0x80120 + 0x80000 * n + 0x40 * m, 4, 1⟩
def TRG_SWAP_PENDING (n : Nat) (m : Nat) : FRef := ⟨0x80120 + 0x80000 * n + 0x40 * m, 5, 1⟩
def TRG_RUN (n : Nat) (m : Nat) : FRef := ⟨0x80120 + 0x80000 * n + 0x40 * m, 16, 16⟩
def TRG_FIRES (n : Nat) (m : Nat) : FRef := ⟨0x80124 + 0x80000 * n + 0x40 * m, 0, 32⟩
def TRG_LAST_ST (n : Nat) (m : Nat) : FRef := ⟨0x80128 + 0x80000 * n + 0x40 * m, 0, 64⟩
def TRG_TABLE_BAD (n : Nat) (m : Nat) : FRef := ⟨0x80130 + 0x80000 * n + 0x40 * m, 0, 1⟩
def TRG_FREEZE_DENIED (n : Nat) (m : Nat) : FRef := ⟨0x80130 + 0x80000 * n + 0x40 * m, 1, 1⟩
def TRG_PRE_CUT (n : Nat) (m : Nat) : FRef := ⟨0x80130 + 0x80000 * n + 0x40 * m, 2, 1⟩
def TRG_DDC_FAIL (n : Nat) (m : Nat) : FRef := ⟨0x80130 + 0x80000 * n + 0x40 * m, 3, 1⟩
def DEN_EN (n : Nat) : FRef := ⟨0x80200 + 0x80000 * n, 0, 1⟩
def DEN_MODE (n : Nat) : FRef := ⟨0x80200 + 0x80000 * n, 1, 1⟩
def DEN_LOG2CNT (n : Nat) : FRef := ⟨0x80200 + 0x80000 * n, 2, 5⟩
def DEN_FAST (n : Nat) : FRef := ⟨0x80200 + 0x80000 * n, 7, 1⟩
def DEN_DECAY (n : Nat) : FRef := ⟨0x80200 + 0x80000 * n, 8, 4⟩
def DEN_CLIP_LO (n : Nat) : FRef := ⟨0x80200 + 0x80000 * n, 12, 1⟩
def DEN_CLIP_HI (n : Nat) : FRef := ⟨0x80200 + 0x80000 * n, 13, 1⟩
def DEN_LOG2BPC (n : Nat) : FRef := ⟨0x80200 + 0x80000 * n, 14, 3⟩
def DEN_START_BIN (n : Nat) : FRef := ⟨0x80204 + 0x80000 * n, 0, 16⟩
def DEN_BOTTOM (n : Nat) : FRef := ⟨0x80208 + 0x80000 * n, 0, 16⟩
def DEN_STEP (n : Nat) : FRef := ⟨0x80208 + 0x80000 * n, 16, 10⟩
def DEN_PERIOD (n : Nat) : FRef := ⟨0x8020C + 0x80000 * n, 0, 24⟩
def DEN_RUNNING (n : Nat) : FRef := ⟨0x80210 + 0x80000 * n, 0, 1⟩
def DEN_BUF (n : Nat) : FRef := ⟨0x80210 + 0x80000 * n, 1, 1⟩
def DEN_READOUT (n : Nat) : FRef := ⟨0x80210 + 0x80000 * n, 2, 1⟩
def DEN_KTAKE (n : Nat) : FRef := ⟨0x80210 + 0x80000 * n, 8, 8⟩
def DEN_LAST_ST (n : Nat) : FRef := ⟨0x80218 + 0x80000 * n, 0, 64⟩
def DEN_SAT (n : Nat) : FRef := ⟨0x80220 + 0x80000 * n, 0, 1⟩
def DEN_LATE (n : Nat) : FRef := ⟨0x80220 + 0x80000 * n, 1, 1⟩
def HIST_BASE_MIB (n : Nat) : FRef := ⟨0x80280 + 0x80000 * n, 0, 16⟩
def HIST_SIZE_MIB (n : Nat) : FRef := ⟨0x80280 + 0x80000 * n, 16, 13⟩
def HIST_WR_OFS (n : Nat) : FRef := ⟨0x80284 + 0x80000 * n, 0, 26⟩
def HIST_OLDEST_OFS (n : Nat) : FRef := ⟨0x80288 + 0x80000 * n, 0, 26⟩
def HIST_WRAPS (n : Nat) : FRef := ⟨0x8028C + 0x80000 * n, 0, 32⟩

/-! Fields of 07_ddc.md, R168. -/
def DDC_EN (n : Nat) (t : Nat) : FRef := ⟨0x80400 + 0x80000 * n + 0x80 * t, 0, 1⟩
def DDC_FMT (n : Nat) (t : Nat) : FRef := ⟨0x80400 + 0x80000 * n + 0x80 * t, 1, 1⟩
def DDC_NHB (n : Nat) (t : Nat) : FRef := ⟨0x80400 + 0x80000 * n + 0x80 * t, 2, 2⟩
def DDC_LOG2BLK (n : Nat) (t : Nat) : FRef := ⟨0x80400 + 0x80000 * n + 0x80 * t, 4, 4⟩
def DDC_THR_EN (n : Nat) (t : Nat) : FRef := ⟨0x80400 + 0x80000 * n + 0x80 * t, 8, 1⟩
def DDC_FTW_LO (n : Nat) (t : Nat) : FRef := ⟨0x80404 + 0x80000 * n + 0x80 * t, 0, 32⟩
def DDC_FTW_HI (n : Nat) (t : Nat) : FRef := ⟨0x80408 + 0x80000 * n + 0x80 * t, 0, 16⟩
def DDC_POW (n : Nat) (t : Nat) : FRef := ⟨0x8040C + 0x80000 * n + 0x80 * t, 0, 32⟩
def DDC_CIC_R (n : Nat) (t : Nat) : FRef := ⟨0x80410 + 0x80000 * n + 0x80 * t, 0, 13⟩
def DDC_DF (n : Nat) (t : Nat) : FRef := ⟨0x80410 + 0x80000 * n + 0x80 * t, 16, 8⟩
def DDC_DEC4 (n : Nat) (t : Nat) : FRef := ⟨0x80414 + 0x80000 * n + 0x80 * t, 0, 5⟩
def DDC_CIC (n : Nat) (t : Nat) : FRef := ⟨0x80414 + 0x80000 * n + 0x80 * t, 5, 5⟩
def DDC_HB0 (n : Nat) (t : Nat) : FRef := ⟨0x80414 + 0x80000 * n + 0x80 * t, 10, 5⟩
def DDC_HB1 (n : Nat) (t : Nat) : FRef := ⟨0x80414 + 0x80000 * n + 0x80 * t, 15, 5⟩
def DDC_HB2 (n : Nat) (t : Nat) : FRef := ⟨0x80414 + 0x80000 * n + 0x80 * t, 20, 5⟩
def DDC_FIR (n : Nat) (t : Nat) : FRef := ⟨0x80414 + 0x80000 * n + 0x80 * t, 25, 5⟩
def DDC_SAT (n : Nat) (t : Nat) : FRef := ⟨0x80418 + 0x80000 * n + 0x80 * t, 0, 6⟩
def DDC_BANK (n : Nat) (t : Nat) : FRef := ⟨0x8041C + 0x80000 * n + 0x80 * t, 0, 1⟩
def DDC_XF_LEN (n : Nat) (t : Nat) : FRef := ⟨0x8041C + 0x80000 * n + 0x80 * t, 1, 13⟩
def DDC_THR_ON (n : Nat) (t : Nat) : FRef := ⟨0x80420 + 0x80000 * n + 0x80 * t, 0, 48⟩
def DDC_THR_OFF (n : Nat) (t : Nat) : FRef := ⟨0x80428 + 0x80000 * n + 0x80 * t, 0, 48⟩
def DDC_MIN_ON (n : Nat) (t : Nat) : FRef := ⟨0x80430 + 0x80000 * n + 0x80 * t, 0, 16⟩
def DDC_MIN_OFF (n : Nat) (t : Nat) : FRef := ⟨0x80430 + 0x80000 * n + 0x80 * t, 16, 16⟩
def DDC_RING_BASE_MIB (n : Nat) (t : Nat) : FRef := ⟨0x80434 + 0x80000 * n + 0x80 * t, 0, 16⟩
def DDC_RING_SIZE_MIB (n : Nat) (t : Nat) : FRef := ⟨0x80434 + 0x80000 * n + 0x80 * t, 16, 11⟩
def DDC_RUNNING (n : Nat) (t : Nat) : FRef := ⟨0x80440 + 0x80000 * n + 0x80 * t, 0, 1⟩
def DDC_SETTLING (n : Nat) (t : Nat) : FRef := ⟨0x80440 + 0x80000 * n + 0x80 * t, 1, 1⟩
def DDC_XFADE (n : Nat) (t : Nat) : FRef := ⟨0x80440 + 0x80000 * n + 0x80 * t, 2, 1⟩
def DDC_QUEUED (n : Nat) (t : Nat) : FRef := ⟨0x80440 + 0x80000 * n + 0x80 * t, 3, 1⟩
def DDC_BANK_NOW (n : Nat) (t : Nat) : FRef := ⟨0x80440 + 0x80000 * n + 0x80 * t, 4, 1⟩
def DDC_ABOVE (n : Nat) (t : Nat) : FRef := ⟨0x80440 + 0x80000 * n + 0x80 * t, 5, 1⟩
def DDC_GEN (n : Nat) (t : Nat) : FRef := ⟨0x80440 + 0x80000 * n + 0x80 * t, 8, 8⟩
def DDC_SUPP_LAST (n : Nat) (t : Nat) : FRef := ⟨0x80444 + 0x80000 * n + 0x80 * t, 0, 32⟩
def DDC_RESTART_ST (n : Nat) (t : Nat) : FRef := ⟨0x80448 + 0x80000 * n + 0x80 * t, 0, 64⟩
def DDC_SPAN (n : Nat) (t : Nat) : FRef := ⟨0x80450 + 0x80000 * n + 0x80 * t, 0, 32⟩
def DDC_WR_OFS (n : Nat) (t : Nat) : FRef := ⟨0x80454 + 0x80000 * n + 0x80 * t, 0, 26⟩
def DDC_OLDEST_OFS (n : Nat) (t : Nat) : FRef := ⟨0x80458 + 0x80000 * n + 0x80 * t, 0, 26⟩
def DDC_STAGE_OVF (n : Nat) (t : Nat) : FRef := ⟨0x8045C + 0x80000 * n + 0x80 * t, 0, 1⟩
def DDC_XF_CANCEL (n : Nat) (t : Nat) : FRef := ⟨0x8045C + 0x80000 * n + 0x80 * t, 1, 1⟩
def DDC_THR_CUT (n : Nat) (t : Nat) : FRef := ⟨0x8045C + 0x80000 * n + 0x80 * t, 2, 1⟩
def DDC_BCRC0 (n : Nat) (t : Nat) : FRef := ⟨0x80460 + 0x80000 * n + 0x80 * t, 0, 32⟩
def DDC_BCRC1 (n : Nat) (t : Nat) : FRef := ⟨0x80464 + 0x80000 * n + 0x80 * t, 0, 32⟩
def DDC_NT_A (n : Nat) (t : Nat) : FRef := ⟨0x80468 + 0x80000 * n + 0x80 * t, 0, 9⟩
def DDC_NT_B (n : Nat) (t : Nat) : FRef := ⟨0x80468 + 0x80000 * n + 0x80 * t, 16, 9⟩
def ZOOM_EN (n : Nat) : FRef := ⟨0x80600 + 0x80000 * n, 0, 1⟩
def ZOOM_LOG2N (n : Nat) : FRef := ⟨0x80600 + 0x80000 * n, 1, 5⟩
def ZOOM_OVL (n : Nat) : FRef := ⟨0x80600 + 0x80000 * n, 6, 2⟩
def ZOOM_WIN (n : Nat) : FRef := ⟨0x80600 + 0x80000 * n, 8, 3⟩
def ZOOM_BETA (n : Nat) : FRef := ⟨0x80600 + 0x80000 * n, 11, 8⟩
def ZOOM_TUNERS (n : Nat) : FRef := ⟨0x80600 + 0x80000 * n, 19, 4⟩
def ZOOM_TIME_DET (n : Nat) : FRef := ⟨0x80600 + 0x80000 * n, 23, 1⟩
def ZOOM_OUT_FMT (n : Nat) : FRef := ⟨0x80600 + 0x80000 * n, 24, 2⟩
def ZOOM_T_Z (n : Nat) : FRef := ⟨0x80604 + 0x80000 * n, 0, 17⟩
def ZOOM_RUNNING (n : Nat) : FRef := ⟨0x80608 + 0x80000 * n, 0, 1⟩
def ZOOM_ACTIVE (n : Nat) : FRef := ⟨0x80608 + 0x80000 * n, 4, 4⟩
def ZOOM_GEN (n : Nat) : FRef := ⟨0x80608 + 0x80000 * n, 8, 8⟩
def ZOOM_CUT (n : Nat) : FRef := ⟨0x8060C + 0x80000 * n, 0, 1⟩

/-! Fields of 08_correlator.md, R184. -/
def XCOR_CORR_EN : FRef := ⟨0x580000, 0, 1⟩
def XCOR_FENG_EN : FRef := ⟨0x580000, 1, 1⟩
def XCOR_FMT : FRef := ⟨0x580000, 2, 1⟩
def XCOR_DUALPOL : FRef := ⟨0x580000, 3, 1⟩
def XCOR_GBANK : FRef := ⟨0x580000, 4, 1⟩
def XCOR_LOG2NINT : FRef := ⟨0x580000, 5, 5⟩
def XCOR_CH_START : FRef := ⟨0x580004, 0, 13⟩
def XCOR_NCH : FRef := ⟨0x580004, 16, 13⟩
def XCOR_SRC : FRef := ⟨0x580008, 0, 32⟩
def XCOR_FMASK : FRef := ⟨0x58000C, 0, 8⟩
def XCOR_LOG2G : FRef := ⟨0x58000C, 8, 4⟩
def XCOR_LOG2NSPEC : FRef := ⟨0x58000C, 12, 4⟩
def XCOR_OUT_BASE_MIB : FRef := ⟨0x580010, 0, 16⟩
def XCOR_OUT_SIZE_MIB : FRef := ⟨0x580010, 16, 13⟩
def XCOR_FRING_BASE_MIB : FRef := ⟨0x580014, 0, 16⟩
def XCOR_FRING_SIZE_MIB : FRef := ⟨0x580014, 16, 13⟩
def XCOR_IN_SHIFT (i : Nat) : FRef := ⟨0x580040 + 0x10 * i, 0, 5⟩
def XCOR_IN_DELAY (i : Nat) : FRef := ⟨0x580044 + 0x10 * i, 0, 24⟩
def XCOR_IN_GCRC0 (i : Nat) : FRef := ⟨0x580048 + 0x10 * i, 0, 32⟩
def XCOR_IN_GCRC1 (i : Nat) : FRef := ⟨0x58004C + 0x10 * i, 0, 32⟩
def XCOR_RUNNING : FRef := ⟨0x580100, 0, 1⟩
def XCOR_HALVES : FRef := ⟨0x580100, 1, 2⟩
def XCOR_PENDING : FRef := ⟨0x580100, 3, 1⟩
def XCOR_GBANK_NOW : FRef := ⟨0x580100, 4, 1⟩
def XCOR_GEN : FRef := ⟨0x580100, 8, 8⟩
def XCOR_INT_ST : FRef := ⟨0x580108, 0, 64⟩
def XCOR_ACC_SAT : FRef := ⟨0x580110, 0, 1⟩
def XCOR_REQ_SAT : FRef := ⟨0x580110, 1, 1⟩
def XCOR_CUT : FRef := ⟨0x580110, 2, 1⟩
def XCOR_WR_OFS : FRef := ⟨0x580114, 0, 26⟩
def XCOR_OLDEST_OFS : FRef := ⟨0x580118, 0, 26⟩
def XCOR_F_WR_OFS : FRef := ⟨0x58011C, 0, 26⟩

/-! Fields of 09_cores.md, R209. -/
def CORE_STATE (n : Nat) (c : Nat) : FRef := ⟨0x81000 + 0x80000 * n + 0x20 * c, 0, 3⟩
def CORE_RESTARTED (n : Nat) (c : Nat) : FRef := ⟨0x81000 + 0x80000 * n + 0x20 * c, 3, 1⟩
def CORE_CAUSE (n : Nat) (c : Nat) : FRef := ⟨0x81000 + 0x80000 * n + 0x20 * c, 8, 8⟩
def CORE_PC (n : Nat) (c : Nat) : FRef := ⟨0x81000 + 0x80000 * n + 0x20 * c, 16, 13⟩
def CORE_IMG_CRC (n : Nat) (c : Nat) : FRef := ⟨0x81004 + 0x80000 * n + 0x20 * c, 0, 32⟩
def CORE_BUDGET (n : Nat) (c : Nat) : FRef := ⟨0x81008 + 0x80000 * n + 0x20 * c, 0, 9⟩
def CORE_EV_RATE (n : Nat) (c : Nat) : FRef := ⟨0x81008 + 0x80000 * n + 0x20 * c, 16, 16⟩
def CORE_DEPTH (n : Nat) (c : Nat) : FRef := ⟨0x8100C + 0x80000 * n + 0x20 * c, 0, 5⟩
def CORE_LOST (n : Nat) (c : Nat) : FRef := ⟨0x8100C + 0x80000 * n + 0x20 * c, 16, 16⟩
def CORE_SR (n : Nat) (c : Nat) : FRef := ⟨0x81010 + 0x80000 * n + 0x20 * c, 0, 16⟩
def CORE_DENIED (n : Nat) (c : Nat) : FRef := ⟨0x81010 + 0x80000 * n + 0x20 * c, 16, 16⟩
def CORE_DMA_OUT (n : Nat) (c : Nat) : FRef := ⟨0x81014 + 0x80000 * n + 0x20 * c, 0, 2⟩
def CORE_BUDGET_SUM (n : Nat) : FRef := ⟨0x81200 + 0x80000 * n, 0, 12⟩
def CORE_RUN_MASK (n : Nat) : FRef := ⟨0x81200 + 0x80000 * n, 16, 16⟩

/-! Fields of 10_hbm_capture.md, R242. -/
def MEM_WM_HIGH : FRef := ⟨0x600000, 0, 7⟩
def MEM_WM_LOW : FRef := ⟨0x600000, 8, 7⟩
def MEM_SR_IDLE : FRef := ⟨0x600000, 16, 10⟩
def MEM_SR_UNIT : FRef := ⟨0x600000, 26, 2⟩
def MEM_SCRUB_H : FRef := ⟨0x600004, 0, 16⟩
def MEM_GRAIN : FRef := ⟨0x600008, 0, 3⟩
def MEM_HASH : FRef := ⟨0x600008, 3, 1⟩
def MEM_N_ACT : FRef := ⟨0x600008, 4, 8⟩
def MEM_SPARES : FRef := ⟨0x600008, 12, 4⟩
def MEM_HOLED : FRef := ⟨0x600008, 16, 1⟩
def MEM_RING_GIB : FRef := ⟨0x600008, 24, 8⟩
def MEM_SYS_BASE_MIB : FRef := ⟨0x60000C, 0, 16⟩
def MEM_DELTA : FRef := ⟨0x600010, 0, 4⟩
def MEM_MAX_INT : FRef := ⟨0x600010, 4, 12⟩
def MEM_CE_THR : FRef := ⟨0x600010, 16, 16⟩
def MEM_FILL_KIB : FRef := ⟨0x600014, 0, 16⟩
def MEM_PEAK_KIB : FRef := ⟨0x600014, 16, 15⟩
def MEM_URGENT : FRef := ⟨0x600014, 31, 1⟩
def MEM_HELD_MIB : FRef := ⟨0x600018, 0, 16⟩
def MEM_RSVD_MIB : FRef := ⟨0x600018, 16, 16⟩
def MEM_FREEZES : FRef := ⟨0x60001C, 0, 7⟩
def MEM_LOSSES : FRef := ⟨0x60001C, 16, 8⟩
def MEM_CFG_BAD : FRef := ⟨0x600020, 0, 1⟩
def MEM_UE : FRef := ⟨0x600020, 1, 1⟩
def MEM_RETIRED : FRef := ⟨0x600020, 2, 1⟩
def MEM_BALLAST_FULL : FRef := ⟨0x600020, 3, 1⟩
def MEM_OLDEST_ST (n : Nat) : FRef := ⟨0x600100 + 0x8 * n, 0, 64⟩
def MEM_PC_STATE (p : Nat) : FRef := ⟨0x600400 + 0x4 * p, 0, 3⟩
def MEM_PC_SLOT (p : Nat) : FRef := ⟨0x600400 + 0x4 * p, 3, 8⟩
def MEM_PC_TEMP_TRAIN (p : Nat) : FRef := ⟨0x600400 + 0x4 * p, 16, 8⟩

/-! Fields of 11_host_rings.md, R267. -/
def HIF_FETCH_EN : FRef := ⟨0x700000, 0, 1⟩
def HIF_LINK_UP : FRef := ⟨0x700004, 0, 1⟩
def HIF_BOOT_DONE : FRef := ⟨0x700004, 1, 1⟩
def HIF_FULL_SERVICE : FRef := ⟨0x700004, 2, 1⟩
def HIF_HELD : FRef := ⟨0x700004, 3, 1⟩
def HIF_WIDTH : FRef := ⟨0x700004, 8, 5⟩
def HIF_SPEED : FRef := ⟨0x700004, 16, 4⟩
def HIF_WR_DISCARD : FRef := ⟨0x700008, 0, 1⟩
def HIF_CFG_BAD : FRef := ⟨0x700008, 1, 1⟩
def HIF_DB_BAD : FRef := ⟨0x700008, 2, 1⟩
def HIF_FETCH_ERR : FRef := ⟨0x700008, 3, 1⟩
def HIF_WCOL : FRef := ⟨0x700008, 4, 1⟩
def HIF_WINDOW : FRef := ⟨0x700010, 0, 9⟩
def HIF_WR_EN : FRef := ⟨0x700010, 16, 1⟩
def HIF_EV_BASE : FRef := ⟨0x700040, 0, 64⟩
def HIF_EV_LOG2SIZE : FRef := ⟨0x700048, 0, 5⟩
def HIF_EV_VECTOR : FRef := ⟨0x700048, 8, 8⟩
def HIF_EV_EN : FRef := ⟨0x700048, 31, 1⟩
def HIF_EV_CLASS_MASK : FRef := ⟨0x70004C, 1, 13⟩
def HIF_EV_HEAD : FRef := ⟨0x700050, 0, 17⟩
def HIF_EV_TAIL : FRef := ⟨0x700054, 0, 17⟩
def HIF_LOG_HELD : FRef := ⟨0x700058, 0, 15⟩
def HIF_EVSEQ_NEXT : FRef := ⟨0x70005C, 0, 32⟩
def SQ_BASE (r : Nat) : FRef := ⟨0x701000 + 0x20 * r, 0, 64⟩
def SQ_LOG2SIZE (r : Nat) : FRef := ⟨0x701008 + 0x20 * r, 0, 5⟩
def SQ_CQ (r : Nat) : FRef := ⟨0x701008 + 0x20 * r, 8, 6⟩
def SQ_PRIO (r : Nat) : FRef := ⟨0x701008 + 0x20 * r, 16, 2⟩
def SQ_EN (r : Nat) : FRef := ⟨0x701008 + 0x20 * r, 31, 1⟩
def SQ_SEQ_BASE (r : Nat) : FRef := ⟨0x70100C + 0x20 * r, 0, 32⟩
def SQ_SEQ_NEXT (r : Nat) : FRef := ⟨0x701010 + 0x20 * r, 0, 32⟩
def SQ_HEAD (r : Nat) : FRef := ⟨0x701014 + 0x20 * r, 0, 17⟩
def SQ_TAIL (r : Nat) : FRef := ⟨0x701018 + 0x20 * r, 0, 17⟩
def SQ_OUTSTANDING (r : Nat) : FRef := ⟨0x70101C + 0x20 * r, 0, 17⟩
def SQ_STANDING (r : Nat) : FRef := ⟨0x70101C + 0x20 * r, 17, 1⟩
def SQ_STATE (r : Nat) : FRef := ⟨0x70101C + 0x20 * r, 18, 2⟩
def SQ_DB_BAD (r : Nat) : FRef := ⟨0x70101C + 0x20 * r, 20, 1⟩
def CQ_BASE (q : Nat) : FRef := ⟨0x702000 + 0x20 * q, 0, 64⟩
def CQ_LOG2SIZE (q : Nat) : FRef := ⟨0x702008 + 0x20 * q, 0, 5⟩
def CQ_VECTOR (q : Nat) : FRef := ⟨0x702008 + 0x20 * q, 8, 8⟩
def CQ_EN (q : Nat) : FRef := ⟨0x702008 + 0x20 * q, 31, 1⟩
def CQ_N (q : Nat) : FRef := ⟨0x70200C + 0x20 * q, 0, 8⟩
def CQ_US (q : Nat) : FRef := ⟨0x70200C + 0x20 * q, 8, 16⟩
def CQ_HEAD (q : Nat) : FRef := ⟨0x702010 + 0x20 * q, 0, 17⟩
def CQ_TAIL (q : Nat) : FRef := ⟨0x702014 + 0x20 * q, 0, 17⟩
def CQ_RESERVED (q : Nat) : FRef := ⟨0x702018 + 0x20 * q, 0, 17⟩
def CQ_PHASE (q : Nat) : FRef := ⟨0x702018 + 0x20 * q, 17, 1⟩
def FUNC_SQ_FIRST (f : Nat) : FRef := ⟨0x703000 + 0x10 * f, 0, 6⟩
def FUNC_SQ_COUNT (f : Nat) : FRef := ⟨0x703000 + 0x10 * f, 8, 7⟩
def FUNC_CQ_FIRST (f : Nat) : FRef := ⟨0x703000 + 0x10 * f, 16, 6⟩
def FUNC_CQ_COUNT (f : Nat) : FRef := ⟨0x703000 + 0x10 * f, 24, 7⟩
def FUNC_OPMASK (f : Nat) : FRef := ⟨0x703004 + 0x10 * f, 1, 24⟩

/-! Fields of 12_guarantees_faults.md, R292. -/
def ADM_REDUCED : FRef := ⟨0x740000, 0, 1⟩
def ADM_SHEDDING : FRef := ⟨0x740000, 1, 1⟩
def ADM_LAST_REFUSED : FRef := ⟨0x740000, 8, 8⟩
def ADM_TICK_PS : FRef := ⟨0x740004, 0, 24⟩
def ADM_RES_CAP (c : Nat) : FRef := ⟨0x740100 + 0x10 * c, 0, 32⟩
def ADM_RES_CEIL (c : Nat) : FRef := ⟨0x740104 + 0x10 * c, 0, 32⟩
def ADM_RES_RSVD (c : Nat) : FRef := ⟨0x740108 + 0x10 * c, 0, 32⟩
def ADM_RES_JOBS (c : Nat) : FRef := ⟨0x74010C + 0x10 * c, 0, 16⟩
def FLTJNL_LAST_ID : FRef := ⟨0x8C0000, 0, 32⟩
def FLTJNL_UNACKED : FRef := ⟨0x8C0004, 0, 16⟩
def FLTJNL_BEYOND : FRef := ⟨0x8C0008, 0, 1⟩
def FLTJNL_JSEQ_NEXT : FRef := ⟨0x8C0100, 0, 32⟩
def FLTJNL_OPEN_JOBS : FRef := ⟨0x8C0104, 0, 15⟩
def FLTJNL_ABANDON : FRef := ⟨0x8C0108, 0, 1⟩
def FLTJNL_RESUME_PENDING : FRef := ⟨0x8C010C, 0, 1⟩
def FLTJNL_UNWARNED : FRef := ⟨0x8C010C, 1, 1⟩
def FLTJNL_PFAIL_NOW : FRef := ⟨0x8C010C, 2, 1⟩
def FLTJNL_LAST_RESET : FRef := ⟨0x8C010C, 8, 8⟩

/-! Fields of 13_dma.md, R306. -/
def DMA_RETRY : FRef := ⟨0x680000, 0, 3⟩
def DMA_BUSY : FRef := ⟨0x680004, 0, 32⟩
def DMA_HALTED : FRef := ⟨0x680008, 0, 32⟩
def DMA_CFG_BAD : FRef := ⟨0x68000C, 0, 1⟩
def DMA_CH_STATE (c : Nat) : FRef := ⟨0x680100 + 0x20 * c, 0, 2⟩
def DMA_CH_SHARE (c : Nat) : FRef := ⟨0x680100 + 0x20 * c, 8, 8⟩
def DMA_CH_BURST (c : Nat) : FRef := ⟨0x680100 + 0x20 * c, 16, 2⟩
def DMA_CH_LENGTH (c : Nat) : FRef := ⟨0x680104 + 0x20 * c, 0, 32⟩
def DMA_CH_DONE_BYTES (c : Nat) : FRef := ⟨0x680108 + 0x20 * c, 0, 32⟩
def DMA_CH_RETRIES (c : Nat) : FRef := ⟨0x68010C + 0x20 * c, 0, 8⟩
def DMA_CH_LAST_ERR (c : Nat) : FRef := ⟨0x68010C + 0x20 * c, 8, 8⟩
def DMA_CH_SQ (c : Nat) : FRef := ⟨0x68010C + 0x20 * c, 16, 6⟩
def DMA_CH_SEQ (c : Nat) : FRef := ⟨0x680110 + 0x20 * c, 0, 32⟩
def DMA_VFWIN_BASE_MIB (f : Nat) : FRef := ⟨0x680600 + 0x8 * f, 0, 16⟩
def DMA_VFWIN_SIZE_MIB (f : Nat) : FRef := ⟨0x680604 + 0x8 * f, 0, 17⟩

/-! Fields of 14_streams_record.md, R341. -/
def NET_MODE : FRef := ⟨0x780000, 0, 1⟩
def NET_PRIMARY : FRef := ⟨0x780000, 1, 1⟩
def NET_DEV_INDEX : FRef := ⟨0x780000, 4, 4⟩
def NET_ACTIVE : FRef := ⟨0x780004, 0, 1⟩
def NET_OPEN : FRef := ⟨0x780004, 16, 9⟩
def NET_CFG_BAD : FRef := ⟨0x780008, 0, 1⟩
def NET_PORT_STATE (p : Nat) : FRef := ⟨0x780100 + 0x80 * p, 0, 2⟩
def NET_PORT_FEC_LOCK (p : Nat) : FRef := ⟨0x780100 + 0x80 * p, 2, 1⟩
def NET_PORT_MAC (p : Nat) : FRef := ⟨0x780104 + 0x80 * p, 0, 48⟩
def NET_PORT_IPV4 (p : Nat) : FRef := ⟨0x78010C + 0x80 * p, 0, 32⟩
def NET_PORT_IPV6 (p : Nat) (j : Nat) : FRef := ⟨0x780110 + 0x80 * p + 0x4 * j, 0, 32⟩
def NET_PORT_SRC_PORT (p : Nat) : FRef := ⟨0x780120 + 0x80 * p, 0, 16⟩
def NET_PORT_DOMAIN (p : Nat) : FRef := ⟨0x780124 + 0x80 * p, 0, 8⟩
def NET_PORT_PTP_IPV6 (p : Nat) : FRef := ⟨0x780124 + 0x80 * p, 8, 1⟩
def NET_PORT_FAILOVER (p : Nat) : FRef := ⟨0x780124 + 0x80 * p, 9, 1⟩
def REC_LINK_UP : FRef := ⟨0x7C0000, 0, 1⟩
def REC_WIDTH : FRef := ⟨0x7C0000, 1, 4⟩
def REC_SPEED : FRef := ⟨0x7C0000, 5, 3⟩
def REC_NS_READY : FRef := ⟨0x7C0000, 8, 8⟩
def REC_OPEN : FRef := ⟨0x7C0000, 16, 3⟩
def REC_WCOL : FRef := ⟨0x7C0010, 0, 1⟩
def REC_NS_FAIL : FRef := ⟨0x7C0010, 1, 1⟩
def REC_NS_STATE (k : Nat) : FRef := ⟨0x7C0100 + 0x10 * k, 0, 3⟩
def REC_NS_VWC (k : Nat) : FRef := ⟨0x7C0100 + 0x10 * k, 3, 1⟩
def REC_NS_LBA4K (k : Nat) : FRef := ⟨0x7C0100 + 0x10 * k, 4, 1⟩
def REC_NS_CTRL (k : Nat) : FRef := ⟨0x7C0100 + 0x10 * k, 8, 8⟩
def REC_NS_MDTS_KIB (k : Nat) : FRef := ⟨0x7C0100 + 0x10 * k, 16, 16⟩
def REC_NS_CAP_LBAS (k : Nat) : FRef := ⟨0x7C0104 + 0x10 * k, 0, 64⟩
def REC_NS_NSID (k : Nat) : FRef := ⟨0x7C010C + 0x10 * k, 0, 32⟩
def REC_RUN (k : Nat) : FRef := ⟨0x7C0800 + 0x4 * k, 0, 32⟩

/-! Fields of 15_display.md, R356. -/
def VID_EN : FRef := ⟨0x800000, 0, 1⟩
def VID_BPC : FRef := ⟨0x800000, 1, 1⟩
def VID_HPOL : FRef := ⟨0x800000, 2, 1⟩
def VID_VPOL : FRef := ⟨0x800000, 3, 1⟩
def VID_EV_EN : FRef := ⟨0x800000, 4, 4⟩
def VID_PCLK : FRef := ⟨0x800004, 0, 20⟩
def VID_H_ACTIVE : FRef := ⟨0x800008, 0, 12⟩
def VID_H_TOTAL : FRef := ⟨0x800008, 16, 12⟩
def VID_H_SYNC_START : FRef := ⟨0x80000C, 0, 12⟩
def VID_H_SYNC_END : FRef := ⟨0x80000C, 16, 12⟩
def VID_V_ACTIVE : FRef := ⟨0x800010, 0, 12⟩
def VID_V_TOTAL : FRef := ⟨0x800010, 16, 12⟩
def VID_V_SYNC_START : FRef := ⟨0x800014, 0, 12⟩
def VID_V_SYNC_END : FRef := ⟨0x800014, 16, 12⟩
def VID_WM : FRef := ⟨0x800020, 0, 2⟩
def VID_LINE_MATCH : FRef := ⟨0x800024, 0, 12⟩
def VID_LINK : FRef := ⟨0x800040, 0, 2⟩
def VID_HPD : FRef := ⟨0x800040, 2, 1⟩
def VID_NOFIT : FRef := ⟨0x800040, 3, 1⟩
def VID_PENDING : FRef := ⟨0x800040, 4, 1⟩
def VID_LANES : FRef := ⟨0x800040, 5, 3⟩
def VID_RATE : FRef := ⟨0x800040, 8, 4⟩
def VID_LINE : FRef := ⟨0x800044, 0, 12⟩
def VID_FRAME : FRef := ⟨0x800048, 0, 64⟩
def VID_BASE_NOW : FRef := ⟨0x800050, 0, 64⟩
def VID_STRIDE_NOW : FRef := ⟨0x800058, 0, 16⟩
def VID_UNDERRUN_LINES : FRef := ⟨0x80005C, 0, 32⟩
def VID_POISON_WORDS : FRef := ⟨0x800060, 0, 32⟩
def VID_UNDERRUN : FRef := ⟨0x800064, 0, 1⟩
def VID_POISON : FRef := ⟨0x800064, 1, 1⟩
def VID_TRAIN_FAIL : FRef := ⟨0x800064, 2, 1⟩
def VID_AUX_ADDR : FRef := ⟨0x800100, 0, 20⟩
def VID_AUX_LEN : FRef := ⟨0x800100, 20, 4⟩
def VID_AUX_GO : FRef := ⟨0x800104, 0, 1⟩
def VID_AUX_BUSY : FRef := ⟨0x800108, 0, 1⟩
def VID_AUX_ERR : FRef := ⟨0x800108, 1, 1⟩
def VID_AUX_DATA (j : Nat) : FRef := ⟨0x800110 + 0x4 * j, 0, 32⟩
def VID_PALETTE (i : Nat) : FRef := ⟨0x800400 + 0x4 * i, 0, 30⟩
def VID_EDID (k : Nat) : FRef := ⟨0x800800 + 0x4 * k, 0, 32⟩

/-! Fields of 16_housekeeping.md, R366. -/
def HK_MODE : FRef := ⟨0x40000, 0, 1⟩
def HK_TIME : FRef := ⟨0x40000, 1, 2⟩
def HK_RUNNING : FRef := ⟨0x40004, 0, 1⟩
def HK_BUSY : FRef := ⟨0x40004, 1, 1⟩
def HK_ENTRY : FRef := ⟨0x40004, 2, 6⟩
def HK_NENT : FRef := ⟨0x40004, 8, 7⟩
def HK_FAULT : FRef := ⟨0x40004, 16, 1⟩
def HK_PASSES : FRef := ⟨0x40008, 0, 32⟩
def HK_LEG_DISCARD : FRef := ⟨0x4000C, 0, 1⟩
def HK_REF_FAIL : FRef := ⟨0x4000C, 1, 1⟩
def HK_TDAC_CODE : FRef := ⟨0x40010, 0, 12⟩
def HK_TDAC_TARGET : FRef := ⟨0x40010, 12, 4⟩
def HK_TDAC_EN : FRef := ⟨0x40010, 16, 1⟩
def HK_TDAC_PIN_EN : FRef := ⟨0x40010, 17, 1⟩
def HK_LEG_CHANNEL : FRef := ⟨0x40020, 0, 5⟩
def HK_LEG_RAIL : FRef := ⟨0x40020, 5, 3⟩
def HK_LEG_GO : FRef := ⟨0x40020, 8, 1⟩
def HK_LEG_BUSY : FRef := ⟨0x40024, 0, 1⟩
def HK_LEG_DONE : FRef := ⟨0x40024, 1, 1⟩
def HK_LEG_CODE : FRef := ⟨0x40028, 0, 24⟩
def HK_LEG_OVR : FRef := ⟨0x40028, 24, 1⟩
def HK_TABLE (i : Nat) : FRef := ⟨0x40800 + 0x4 * i, 0, 32⟩
def HK_PT_CODE (s : Nat) : FRef := ⟨0x40100 + 0x20 * s, 0, 24⟩
def HK_PT_OVR (s : Nat) : FRef := ⟨0x40100 + 0x20 * s, 24, 1⟩
def HK_PT_TEST (s : Nat) : FRef := ⟨0x40100 + 0x20 * s, 25, 1⟩
def HK_PT_VALID (s : Nat) : FRef := ⟨0x40100 + 0x20 * s, 26, 1⟩
def HK_PT_VALUE (s : Nat) : FRef := ⟨0x40104 + 0x20 * s, 0, 32⟩
def HK_PT_ST (s : Nat) : FRef := ⟨0x40108 + 0x20 * s, 0, 64⟩
def HK_PT_LO (s : Nat) : FRef := ⟨0x40110 + 0x20 * s, 0, 24⟩
def HK_PT_HI (s : Nat) : FRef := ⟨0x40114 + 0x20 * s, 0, 24⟩
def HK_PT_HYST (s : Nat) : FRef := ⟨0x40118 + 0x20 * s, 0, 16⟩
def HK_PT_LIM_EN (s : Nat) : FRef := ⟨0x40118 + 0x20 * s, 16, 1⟩
def HK_PT_STATE_LO (s : Nat) : FRef := ⟨0x40118 + 0x20 * s, 17, 1⟩
def HK_PT_STATE_HI (s : Nat) : FRef := ⟨0x40118 + 0x20 * s, 18, 1⟩
def HK_PT_COUNT (s : Nat) : FRef := ⟨0x4011C + 0x20 * s, 0, 32⟩

/-! Fields of 17_security.md, R385. -/
def SEC_APPROVED : FRef := ⟨0x840000, 0, 1⟩
def SEC_STATE : FRef := ⟨0x840000, 1, 2⟩
def SEC_OWNER_SET : FRef := ⟨0x840000, 3, 1⟩
def SEC_IDENTITY : FRef := ⟨0x840000, 4, 1⟩
def SEC_COPY : FRef := ⟨0x840004, 0, 2⟩
def SEC_CAUSE : FRef := ⟨0x840004, 8, 8⟩
def SEC_SVN_FW : FRef := ⟨0x840008, 0, 7⟩
def SEC_SVN_CORE : FRef := ⟨0x840008, 8, 7⟩
def SEC_REVOKED : FRef := ⟨0x840008, 16, 4⟩
def SEC_TESTS : FRef := ⟨0x84000C, 0, 16⟩
def SEC_SERIAL : FRef := ⟨0x840010, 0, 64⟩
def SEC_RESEED_CTR : FRef := ⟨0x840018, 0, 25⟩
def SEC_KEYS : FRef := ⟨0x84001C, 0, 7⟩
def SEC_M (j : Nat) : FRef := ⟨0x840100 + 0x4 * j, 0, 32⟩

/-! Fields of 18_counters_bist.md, R403. -/
def PMC_NCOUNT : FRef := ⟨0x880000, 0, 13⟩
def PMC_WCOL : FRef := ⟨0x880004, 0, 1⟩
def PMC_CFG_BAD : FRef := ⟨0x880004, 1, 1⟩
def PMC_SNAP_SEQ : FRef := ⟨0x880100, 0, 32⟩
def PMC_PENDING : FRef := ⟨0x880104, 0, 3⟩
def PMC_GATED : FRef := ⟨0x880104, 3, 1⟩
def PMC_SNAP_ST : FRef := ⟨0x880108, 0, 64⟩
def PMC_CAT_SEL : FRef := ⟨0x880200, 0, 13⟩
def PMC_UNIT : FRef := ⟨0x880204, 0, 9⟩
def PMC_EVENT : FRef := ⟨0x880204, 9, 8⟩
def PMC_QUANTITY : FRef := ⟨0x880204, 17, 1⟩
def PMC_DOMAIN : FRef := ⟨0x880204, 18, 3⟩
def PMC_PRESENT : FRef := ⟨0x880204, 31, 1⟩
def PMC_NAME (j : Nat) : FRef := ⟨0x880208 + 0x4 * j, 0, 32⟩
def SMP_EN (n : Nat) : FRef := ⟨0x880400 + 0x40 * n, 0, 1⟩
def SMP_LOG2N (n : Nat) : FRef := ⟨0x880400 + 0x40 * n, 1, 5⟩
def SMP_CORES (n : Nat) : FRef := ⟨0x880400 + 0x40 * n, 16, 16⟩
def SMP_SEED (n : Nat) : FRef := ⟨0x880404 + 0x40 * n, 0, 31⟩
def SMP_BASE_MIB (n : Nat) : FRef := ⟨0x880408 + 0x40 * n, 0, 16⟩
def SMP_SIZE_MIB (n : Nat) : FRef := ⟨0x880408 + 0x40 * n, 16, 7⟩
def SMP_WR_OFS (n : Nat) : FRef := ⟨0x88040C + 0x40 * n, 0, 26⟩
def SMP_DROPPED (n : Nat) : FRef := ⟨0x880410 + 0x40 * n, 0, 32⟩
def SMP_FILL (n : Nat) : FRef := ⟨0x880414 + 0x40 * n, 0, 13⟩
def PMCK_VALUE (k : Nat) : FRef := ⟨0x888000 + 0x10 * k, 0, 48⟩
def PMCK_WRAPS (k : Nat) : FRef := ⟨0x888004 + 0x10 * k, 16, 8⟩
def PMCK_OVF (k : Nat) : FRef := ⟨0x888004 + 0x10 * k, 24, 1⟩
def PMCK_MODE (k : Nat) : FRef := ⟨0x888008 + 0x10 * k, 0, 1⟩
def PMCK_MODE_NOW (k : Nat) : FRef := ⟨0x888008 + 0x10 * k, 1, 1⟩
def PMCK_CLR_OVF (k : Nat) : FRef := ⟨0x88800C + 0x10 * k, 0, 1⟩
def PMC_SNAP_SNAP (k : Nat) : FRef := ⟨0x8A0000 + 0x10 * k, 0, 64⟩
def BIST_PERIOD : FRef := ⟨0x881000, 0, 16⟩
def BIST_CORES : FRef := ⟨0x881000, 16, 1⟩
def BIST_STATE : FRef := ⟨0x881004, 0, 2⟩
def BIST_SLICE : FRef := ⟨0x881004, 4, 4⟩
def BIST_PASS : FRef := ⟨0x881004, 8, 9⟩
def BIST_SKIPPED : FRef := ⟨0x881008, 0, 32⟩
def BIST_LAST_KIND : FRef := ⟨0x881010, 0, 8⟩
def BIST_LAST_INDEX : FRef := ⟨0x881010, 8, 8⟩
def BIST_LAST_RESULT : FRef := ⟨0x881010, 16, 4⟩
def BIST_SIG_LOGIC : FRef := ⟨0x881018, 0, 64⟩
def BIST_SIG_MEM : FRef := ⟨0x881020, 0, 64⟩

/-! Fields of 19_startup_straps.md, R417. -/
def ID_REVISION : FRef := ⟨0x0, 0, 8⟩
def ID_PART : FRef := ⟨0x0, 8, 16⟩
def ID_BOOT : FRef := ⟨0x4, 0, 3⟩
def ID_REFSEL : FRef := ⟨0x4, 3, 2⟩
def ID_PCIE_WIDTH : FRef := ⟨0x4, 5, 1⟩
def ID_INPUTS : FRef := ⟨0x4, 6, 1⟩
def ID_HKLEGACY : FRef := ⟨0x4, 7, 1⟩
def ID_SECURE : FRef := ⟨0x4, 8, 1⟩
def ID_DISPLAY : FRef := ⟨0x4, 9, 1⟩
def ID_INDEX : FRef := ⟨0x4, 10, 2⟩
def ID_BOOT_RSVD : FRef := ⟨0x4, 12, 1⟩
def ID_SOURCE : FRef := ⟨0x8, 0, 2⟩
def ID_RECOV_WAIT : FRef := ⟨0x8, 2, 1⟩
def ID_RECOV_FAIL : FRef := ⟨0x8, 3, 1⟩
def ID_RECOV_ADDR : FRef := ⟨0x10, 0, 64⟩
def ID_RECOV_LEN : FRef := ⟨0x18, 0, 23⟩
def ID_RECOV_GO : FRef := ⟨0x1C, 0, 1⟩
def FLT_PIN_MASK : FRef := ⟨0x8C0010, 1, 16⟩
def FLT_PIN_FORCE : FRef := ⟨0x8C0010, 17, 1⟩
def FLT_PIN_STATE : FRef := ⟨0x8C0010, 18, 1⟩
def FLT_PIN_WHY : FRef := ⟨0x8C0010, 19, 4⟩

end Fr

/-- Row of the register map: word addresses `base + i * s1 + j * s2`, `i < n1`, `j < n2`; `rw` the bits a host write sets (RW, SH, RWS, RL of R8), `w1c` those a 1 clears, `rl` 1 or 2 for the low or high word of an RL pair, `rws` the bits that survive every warm reset, `reset` the Reset column. -/
structure RegRow where
  base : Nat
  n1 : Nat
  s1 : Nat
  n2 : Nat
  s2 : Nat
  rw : Nat
  w1c : Nat
  rl : Nat
  rws : Nat
  reset : Nat
  deriving DecidableEq, Repr

/-- Register words of 02_intake.md. -/
def rows02 : List RegRow := [
  ⟨0x20000, 9, 0x1000, 1, 0x4, 0x0, 0x0, 0, 0x0, 0xF0⟩,
  ⟨0x20004, 9, 0x1000, 1, 0x4, 0x1F, 0x0, 0, 0x0, 0x1F⟩,
  ⟨0x20008, 9, 0x1000, 1, 0x4, 0x0, 0x0, 0, 0x0, 0x1F⟩,
  ⟨0x2000C, 8, 0x1000, 1, 0x4, 0x1FFFF7FF, 0x0, 0, 0x0, 0x2007F8⟩,
  ⟨0x20010, 8, 0x1000, 1, 0x4, 0x0, 0x1, 0, 0x0, 0x0⟩,
  ⟨0x20014, 8, 0x1000, 1, 0x4, 0x0, 0x0, 0, 0x0, 0x2F2⟩,
  ⟨0x20800, 8, 0x1000, 1, 0x4, 0xFFF, 0x0, 0, 0x0, 0xE40⟩,
  ⟨0x20804, 8, 0x1000, 1, 0x4, 0x0, 0x0, 0, 0x0, 0x0⟩,
  ⟨0x20808, 8, 0x1000, 1, 0x4, 0x0, 0x0, 0, 0x0, 0x0⟩,
  ⟨0x2080C, 8, 0x1000, 1, 0x4, 0x0, 0x0, 0, 0x0, 0x0⟩,
  ⟨0x20810, 8, 0x1000, 1, 0x4, 0x0, 0x3F, 0, 0x0, 0x0⟩]

/-- Register words of 03_calibration_spare.md. -/
def rows03 : List RegRow := [
  ⟨0x30000, 1, 0x1000000, 1, 0x4, 0x31F, 0x0, 0, 0x0, 0x304⟩,
  ⟨0x30004, 1, 0x1000000, 1, 0x4, 0xFF, 0x0, 0, 0x0, 0x0⟩,
  ⟨0x30008, 1, 0x1000000, 1, 0x4, 0xFFFF, 0x0, 0, 0x0, 0x0⟩,
  ⟨0x3000C, 1, 0x1000000, 1, 0x4, 0x0, 0x8, 0, 0x0, 0xF0⟩,
  ⟨0x30100, 9, 0x40, 1, 0x4, 0xFFFFFFFF, 0x0, 0, 0xFFFFFFFF, 0x0⟩,
  ⟨0x30104, 9, 0x40, 1, 0x4, 0xFFFFFFFF, 0x0, 0, 0xFFFFFFFF, 0x0⟩,
  ⟨0x30108, 9, 0x40, 1, 0x4, 0xFFFFFFFF, 0x0, 0, 0xFFFFFFFF, 0x0⟩,
  ⟨0x3010C, 9, 0x40, 1, 0x4, 0x0, 0x0, 0, 0x0, 0x0⟩,
  ⟨0x30110, 9, 0x40, 1, 0x4, 0xFFFFFFFF, 0x0, 1, 0x0, 0x0⟩,
  ⟨0x30114, 9, 0x40, 1, 0x4, 0xFFFFFFFF, 0x0, 2, 0x0, 0x0⟩,
  ⟨0x30118, 9, 0x40, 1, 0x4, 0xFFFFFFFF, 0x0, 1, 0x0, 0x0⟩,
  ⟨0x3011C, 9, 0x40, 1, 0x4, 0xFFFFFFFF, 0x0, 2, 0x0, 0x0⟩,
  ⟨0x30120, 9, 0x40, 1, 0x4, 0x0, 0x0, 0, 0x0, 0x0⟩,
  ⟨0x30124, 9, 0x40, 1, 0x4, 0x0, 0x0, 0, 0x0, 0x0⟩,
  ⟨0x30128, 9, 0x40, 1, 0x4, 0x0, 0x0, 0, 0x0, 0x8000⟩]

/-- Register words of 04_clocks_time.md. -/
def rows04 : List RegRow := [
  ⟨0x10000, 1, 0x1000000, 1, 0x4, 0x7F7, 0x0, 0, 0x0, 0xA4⟩,
  ⟨0x10004, 1, 0x1000000, 1, 0x4, 0x0, 0x0, 0, 0x0, 0x0⟩,
  ⟨0x10008, 1, 0x1000000, 1, 0x4, 0xFFFFFFFF, 0x0, 0, 0x0, 0x10050⟩,
  ⟨0x1000C, 1, 0x1000000, 1, 0x4, 0xFFFFFFFF, 0x0, 0, 0x0, 0x14⟩,
  ⟨0x10010, 1, 0x1000000, 1, 0x4, 0x0, 0x0, 0, 0x0, 0x14⟩,
  ⟨0x10014, 1, 0x1000000, 1, 0x4, 0x7FFFF, 0x0, 0, 0x0, 0x0⟩,
  ⟨0x10018, 1, 0x1000000, 1, 0x4, 0x0, 0x0, 0, 0x0, 0x0⟩,
  ⟨0x10040, 2, 0x20, 1, 0x4, 0xFFFFFFFF, 0x0, 0, 0x0, 0xAA5F19C3⟩,
  ⟨0x10044, 2, 0x20, 1, 0x4, 0x0, 0x0, 0, 0x0, 0x2⟩,
  ⟨0x10048, 2, 0x20, 1, 0x4, 0x0, 0x0, 0, 0x0, 0x0⟩,
  ⟨0x10080, 1, 0x1000000, 1, 0x4, 0xFFFFFF7, 0x0, 0, 0x0, 0xA00004⟩,
  ⟨0x10084, 1, 0x1000000, 1, 0x4, 0x0, 0x0, 0, 0x0, 0x0⟩,
  ⟨0x10088, 1, 0x1000000, 1, 0x4, 0x0, 0x0, 0, 0x0, 0x0⟩,
  ⟨0x1008C, 1, 0x1000000, 1, 0x4, 0xFF, 0x0, 0, 0x0, 0x20⟩,
  ⟨0x10090, 1, 0x1000000, 1, 0x4, 0x7FFFFF03, 0x0, 0, 0x0, 0x802⟩,
  ⟨0x10100, 1, 0x1000000, 1, 0x4, 0xFFFFFFFF, 0x0, 1, 0x0, 0x0⟩,
  ⟨0x10104, 1, 0x1000000, 1, 0x4, 0xFFFFFFFF, 0x0, 2, 0x0, 0x0⟩,
  ⟨0x10108, 1, 0x1000000, 1, 0x4, 0x0, 0x0, 0, 0x0, 0x0⟩,
  ⟨0x10110, 1, 0x1000000, 1, 0x4, 0xFFFFFF0F, 0x0, 0, 0x0, 0x641000⟩,
  ⟨0x10114, 1, 0x1000000, 1, 0x4, 0xFFFFFFFF, 0x0, 0, 0x0, 0x0⟩,
  ⟨0x10118, 1, 0x1000000, 1, 0x4, 0xFFFFFFFF, 0x0, 1, 0x0, 0x0⟩,
  ⟨0x1011C, 1, 0x1000000, 1, 0x4, 0xFFFFFFFF, 0x0, 2, 0x0, 0x0⟩,
  ⟨0x10120, 1, 0x1000000, 1, 0x4, 0xFFFFFFFF, 0x0, 1, 0x0, 0x0⟩,
  ⟨0x10124, 1, 0x1000000, 1, 0x4, 0xFFFFFFFF, 0x0, 2, 0x0, 0x0⟩,
  ⟨0x10128, 1, 0x1000000, 1, 0x4, 0xFFFFFFFF, 0x0, 1, 0x0, 0x0⟩,
  ⟨0x1012C, 1, 0x1000000, 1, 0x4, 0xFFFFFFFF, 0x0, 2, 0x0, 0x0⟩,
  ⟨0x10130, 1, 0x1000000, 1, 0x4, 0xFFFFFFFF, 0x0, 1, 0x0, 0x0⟩,
  ⟨0x10134, 1, 0x1000000, 1, 0x4, 0xFFFFFFFF, 0x0, 2, 0x0, 0x0⟩,
  ⟨0x10138, 1, 0x1000000, 1, 0x4, 0x0, 0x0, 0, 0x0, 0x0⟩,
  ⟨0x10140, 1, 0x1000000, 1, 0x4, 0xFFFFFFFF, 0x0, 1, 0x0, 0x0⟩,
  ⟨0x10144, 1, 0x1000000, 1, 0x4, 0xFFFFFFFF, 0x0, 2, 0x0, 0x0⟩]

/-- Register words of 05_spectral_engine.md. -/
def rows05 : List RegRow := [
  ⟨0x80000, 9, 0x80000, 1, 0x4, 0x1FFFFF, 0x0, 0, 0x0, 0x902AC⟩,
  ⟨0x80004, 9, 0x80000, 1, 0x4, 0xFFFFFFFF, 0x0, 0, 0x0, 0x55555555⟩,
  ⟨0x80008, 9, 0x80000, 1, 0x4, 0x17F, 0x0, 0, 0x0, 0x5⟩,
  ⟨0x8000C, 9, 0x80000, 1, 0x4, 0x7FFFFFFF, 0x0, 0, 0x0, 0x50010000⟩,
  ⟨0x80010, 9, 0x80000, 1, 0x4, 0x1FFFFF, 0x0, 0, 0x0, 0x100⟩,
  ⟨0x80014, 9, 0x80000, 1, 0x4, 0x7FFFFF, 0x0, 0, 0x0, 0x202000⟩,
  ⟨0x80040, 9, 0x80000, 1, 0x4, 0x0, 0x0, 0, 0x0, 0x902AC⟩,
  ⟨0x80044, 9, 0x80000, 1, 0x4, 0x0, 0x0, 0, 0x0, 0xF0000⟩,
  ⟨0x80048, 9, 0x80000, 1, 0x4, 0x0, 0x0, 0, 0x0, 0x0⟩,
  ⟨0x8004C, 9, 0x80000, 1, 0x4, 0x0, 0x0, 0, 0x0, 0x0⟩,
  ⟨0x80050, 9, 0x80000, 1, 0x4, 0xFFFFFFFF, 0x0, 1, 0x0, 0x0⟩,
  ⟨0x80054, 9, 0x80000, 1, 0x4, 0xFFFFFFFF, 0x0, 2, 0x0, 0x0⟩,
  ⟨0x80058, 9, 0x80000, 1, 0x4, 0x0, 0x0, 0, 0x0, 0x0⟩,
  ⟨0x8005C, 9, 0x80000, 1, 0x4, 0x0, 0x0, 0, 0x0, 0x0⟩,
  ⟨0x80060, 9, 0x80000, 1, 0x4, 0x0, 0x7, 0, 0x0, 0x0⟩]

/-- Register words of 06_triggers_density.md. -/
def rows06 : List RegRow := [
  ⟨0x80100, 9, 0x80000, 2, 0x40, 0xFFFFFFF7, 0x0, 0, 0x0, 0x10010⟩,
  ⟨0x80104, 9, 0x80000, 2, 0x40, 0xFFFFFFFF, 0x0, 0, 0x0, 0x3FF0000⟩,
  ⟨0x80108, 9, 0x80000, 2, 0x40, 0xFFFFFF, 0x0, 0, 0x0, 0x0⟩,
  ⟨0x8010C, 9, 0x80000, 2, 0x40, 0x3F, 0x0, 0, 0x0, 0x0⟩,
  ⟨0x80110, 9, 0x80000, 2, 0x40, 0x3FF03FF, 0x0, 0, 0x0, 0x3FF0000⟩,
  ⟨0x80114, 9, 0x80000, 2, 0x40, 0xFFFF, 0x0, 0, 0x0, 0xFF00⟩,
  ⟨0x80118, 9, 0x80000, 2, 0x40, 0xFFFFFFFF, 0x0, 0, 0x0, 0x1⟩,
  ⟨0x80120, 9, 0x80000, 2, 0x40, 0x0, 0x0, 0, 0x0, 0x0⟩,
  ⟨0x80124, 9, 0x80000, 2, 0x40, 0x0, 0x0, 0, 0x0, 0x0⟩,
  ⟨0x80128, 9, 0x80000, 2, 0x40, 0xFFFFFFFF, 0x0, 1, 0x0, 0x0⟩,
  ⟨0x8012C, 9, 0x80000, 2, 0x40, 0xFFFFFFFF, 0x0, 2, 0x0, 0x0⟩,
  ⟨0x80130, 9, 0x80000, 2, 0x40, 0x0, 0xF, 0, 0x0, 0x0⟩,
  ⟨0x80200, 9, 0x80000, 1, 0x4, 0x1FFFF, 0x0, 0, 0x0, 0xB8⟩,
  ⟨0x80204, 9, 0x80000, 1, 0x4, 0xFFFF, 0x0, 0, 0x0, 0x0⟩,
  ⟨0x80208, 9, 0x80000, 1, 0x4, 0x3FFFFFF, 0x0, 0, 0x0, 0x20E200⟩,
  ⟨0x8020C, 9, 0x80000, 1, 0x4, 0xFFFFFF, 0x0, 0, 0x0, 0x100⟩,
  ⟨0x80210, 9, 0x80000, 1, 0x4, 0x0, 0x0, 0, 0x0, 0x100⟩,
  ⟨0x80218, 9, 0x80000, 1, 0x4, 0xFFFFFFFF, 0x0, 1, 0x0, 0x0⟩,
  ⟨0x8021C, 9, 0x80000, 1, 0x4, 0xFFFFFFFF, 0x0, 2, 0x0, 0x0⟩,
  ⟨0x80220, 9, 0x80000, 1, 0x4, 0x0, 0x3, 0, 0x0, 0x0⟩,
  ⟨0x80280, 9, 0x80000, 1, 0x4, 0x1FFFFFFF, 0x0, 0, 0x0, 0x0⟩,
  ⟨0x80284, 9, 0x80000, 1, 0x4, 0x0, 0x0, 0, 0x0, 0x0⟩,
  ⟨0x80288, 9, 0x80000, 1, 0x4, 0x0, 0x0, 0, 0x0, 0x0⟩,
  ⟨0x8028C, 9, 0x80000, 1, 0x4, 0x0, 0x0, 0, 0x0, 0x0⟩]

/-- Register words of 07_ddc.md. -/
def rows07 : List RegRow := [
  ⟨0x80400, 9, 0x80000, 4, 0x80, 0x1FF, 0x0, 0, 0x0, 0x8C⟩,
  ⟨0x80404, 9, 0x80000, 4, 0x80, 0xFFFFFFFF, 0x0, 0, 0x0, 0x0⟩,
  ⟨0x80408, 9, 0x80000, 4, 0x80, 0xFFFF, 0x0, 0, 0x0, 0x0⟩,
  ⟨0x8040C, 9, 0x80000, 4, 0x80, 0xFFFFFFFF, 0x0, 0, 0x0, 0x0⟩,
  ⟨0x80410, 9, 0x80000, 4, 0x80, 0xFF1FFF, 0x0, 0, 0x0, 0x10010⟩,
  ⟨0x80414, 9, 0x80000, 4, 0x80, 0x3FFFFFFF, 0x0, 0, 0x0, 0x2318C411⟩,
  ⟨0x80418, 9, 0x80000, 4, 0x80, 0x3F, 0x0, 0, 0x0, 0x3F⟩,
  ⟨0x8041C, 9, 0x80000, 4, 0x80, 0x3FFF, 0x0, 0, 0x0, 0x0⟩,
  ⟨0x80420, 9, 0x80000, 4, 0x80, 0xFFFFFFFF, 0x0, 0, 0x0, 0xFFFFFFFF⟩,
  ⟨0x80424, 9, 0x80000, 4, 0x80, 0xFFFF, 0x0, 0, 0x0, 0xFFFF⟩,
  ⟨0x80428, 9, 0x80000, 4, 0x80, 0xFFFFFFFF, 0x0, 0, 0x0, 0xFFFFFFFF⟩,
  ⟨0x8042C, 9, 0x80000, 4, 0x80, 0xFFFF, 0x0, 0, 0x0, 0xFFFF⟩,
  ⟨0x80430, 9, 0x80000, 4, 0x80, 0xFFFFFFFF, 0x0, 0, 0x0, 0x10001⟩,
  ⟨0x80434, 9, 0x80000, 4, 0x80, 0x7FFFFFF, 0x0, 0, 0x0, 0x0⟩,
  ⟨0x80440, 9, 0x80000, 4, 0x80, 0x0, 0x0, 0, 0x0, 0x0⟩,
  ⟨0x80444, 9, 0x80000, 4, 0x80, 0x0, 0x0, 0, 0x0, 0x0⟩,
  ⟨0x80448, 9, 0x80000, 4, 0x80, 0xFFFFFFFF, 0x0, 1, 0x0, 0x0⟩,
  ⟨0x8044C, 9, 0x80000, 4, 0x80, 0xFFFFFFFF, 0x0, 2, 0x0, 0x0⟩,
  ⟨0x80450, 9, 0x80000, 4, 0x80, 0x0, 0x0, 0, 0x0, 0x0⟩,
  ⟨0x80454, 9, 0x80000, 4, 0x80, 0x0, 0x0, 0, 0x0, 0x0⟩,
  ⟨0x80458, 9, 0x80000, 4, 0x80, 0x0, 0x0, 0, 0x0, 0x0⟩,
  ⟨0x8045C, 9, 0x80000, 4, 0x80, 0x0, 0x7, 0, 0x0, 0x0⟩,
  ⟨0x80460, 9, 0x80000, 4, 0x80, 0x0, 0x0, 0, 0x0, 0x0⟩,
  ⟨0x80464, 9, 0x80000, 4, 0x80, 0x0, 0x0, 0, 0x0, 0x0⟩,
  ⟨0x80468, 9, 0x80000, 4, 0x80, 0x0, 0x0, 0, 0x0, 0x10001⟩,
  ⟨0x80600, 9, 0x80000, 1, 0x4, 0x3FFFFFF, 0x0, 0, 0x0, 0x1824158⟩,
  ⟨0x80604, 9, 0x80000, 1, 0x4, 0x1FFFF, 0x0, 0, 0x0, 0x40⟩,
  ⟨0x80608, 9, 0x80000, 1, 0x4, 0x0, 0x0, 0, 0x0, 0x0⟩,
  ⟨0x8060C, 9, 0x80000, 1, 0x4, 0x0, 0x1, 0, 0x0, 0x0⟩]

/-- Register words of 08_correlator.md. -/
def rows08 : List RegRow := [
  ⟨0x580000, 1, 0x1000000, 1, 0x4, 0x3FF, 0x0, 0, 0x0, 0x2A4⟩,
  ⟨0x580004, 1, 0x1000000, 1, 0x4, 0x1FFF1FFF, 0x0, 0, 0x0, 0x10000000⟩,
  ⟨0x580008, 1, 0x1000000, 1, 0x4, 0xFFFFFFFF, 0x0, 0, 0x0, 0xFFFFFFFF⟩,
  ⟨0x58000C, 1, 0x1000000, 1, 0x4, 0xFFFF, 0x0, 0, 0x0, 0x3A00⟩,
  ⟨0x580010, 1, 0x1000000, 1, 0x4, 0x1FFFFFFF, 0x0, 0, 0x0, 0x0⟩,
  ⟨0x580014, 1, 0x1000000, 1, 0x4, 0x1FFFFFFF, 0x0, 0, 0x0, 0x0⟩,
  ⟨0x580040, 8, 0x10, 1, 0x4, 0x1F, 0x0, 0, 0x0, 0x8⟩,
  ⟨0x580044, 8, 0x10, 1, 0x4, 0xFFFFFF, 0x0, 0, 0x0, 0x0⟩,
  ⟨0x580048, 8, 0x10, 1, 0x4, 0x0, 0x0, 0, 0x0, 0x0⟩,
  ⟨0x58004C, 8, 0x10, 1, 0x4, 0x0, 0x0, 0, 0x0, 0x0⟩,
  ⟨0x580100, 1, 0x1000000, 1, 0x4, 0x0, 0x0, 0, 0x0, 0x0⟩,
  ⟨0x580108, 1, 0x1000000, 1, 0x4, 0xFFFFFFFF, 0x0, 1, 0x0, 0x0⟩,
  ⟨0x58010C, 1, 0x1000000, 1, 0x4, 0xFFFFFFFF, 0x0, 2, 0x0, 0x0⟩,
  ⟨0x580110, 1, 0x1000000, 1, 0x4, 0x0, 0x7, 0, 0x0, 0x0⟩,
  ⟨0x580114, 1, 0x1000000, 1, 0x4, 0x0, 0x0, 0, 0x0, 0x0⟩,
  ⟨0x580118, 1, 0x1000000, 1, 0x4, 0x0, 0x0, 0, 0x0, 0x0⟩,
  ⟨0x58011C, 1, 0x1000000, 1, 0x4, 0x0, 0x0, 0, 0x0, 0x0⟩]

/-- Register words of 09_cores.md. -/
def rows09 : List RegRow := [
  ⟨0x81000, 9, 0x80000, 16, 0x20, 0x0, 0x0, 0, 0x0, 0x0⟩,
  ⟨0x81004, 9, 0x80000, 16, 0x20, 0x0, 0x0, 0, 0x0, 0x0⟩,
  ⟨0x81008, 9, 0x80000, 16, 0x20, 0x0, 0x0, 0, 0x0, 0x0⟩,
  ⟨0x8100C, 9, 0x80000, 16, 0x20, 0x0, 0x0, 0, 0x0, 0x0⟩,
  ⟨0x81010, 9, 0x80000, 16, 0x20, 0x0, 0x0, 0, 0x0, 0x0⟩,
  ⟨0x81014, 9, 0x80000, 16, 0x20, 0x0, 0x0, 0, 0x0, 0x0⟩,
  ⟨0x81200, 9, 0x80000, 1, 0x4, 0x0, 0x0, 0, 0x0, 0x0⟩]

/-- Register words of 10_hbm_capture.md. -/
def rows10 : List RegRow := [
  ⟨0x600000, 1, 0x1000000, 1, 0x4, 0xFFF7F7F, 0x0, 0, 0x0, 0x641030⟩,
  ⟨0x600004, 1, 0x1000000, 1, 0x4, 0xFFFF, 0x0, 0, 0x0, 0x18⟩,
  ⟨0x600008, 1, 0x1000000, 1, 0x4, 0x0, 0x0, 0, 0x0, 0x3000878A⟩,
  ⟨0x60000C, 1, 0x1000000, 1, 0x4, 0x0, 0x0, 0, 0x0, 0xEF00⟩,
  ⟨0x600010, 1, 0x1000000, 1, 0x4, 0xFFFFFFFF, 0x0, 0, 0x0, 0x3E8E104⟩,
  ⟨0x600014, 1, 0x1000000, 1, 0x4, 0x0, 0x0, 0, 0x0, 0x0⟩,
  ⟨0x600018, 1, 0x1000000, 1, 0x4, 0x0, 0x0, 0, 0x0, 0x0⟩,
  ⟨0x60001C, 1, 0x1000000, 1, 0x4, 0x0, 0x0, 0, 0x0, 0x0⟩,
  ⟨0x600020, 1, 0x1000000, 1, 0x4, 0x0, 0xF, 0, 0x0, 0x0⟩,
  ⟨0x600100, 8, 0x8, 1, 0x4, 0xFFFFFFFF, 0x0, 1, 0x0, 0x0⟩,
  ⟨0x600104, 8, 0x8, 1, 0x4, 0xFFFFFFFF, 0x0, 2, 0x0, 0x0⟩,
  ⟨0x600400, 1, 0x1000000, 128, 0x4, 0x0, 0x0, 0, 0x0, 0x7F8⟩]

/-- Register words of 11_host_rings.md. -/
def rows11 : List RegRow := [
  ⟨0x700000, 1, 0x1000000, 1, 0x4, 0x1, 0x0, 0, 0x0, 0x0⟩,
  ⟨0x700004, 1, 0x1000000, 1, 0x4, 0x0, 0x0, 0, 0x0, 0x0⟩,
  ⟨0x700008, 1, 0x1000000, 1, 0x4, 0x0, 0x1F, 0, 0x0, 0x0⟩,
  ⟨0x700010, 1, 0x1000000, 1, 0x4, 0x101FF, 0x0, 0, 0x0, 0x0⟩,
  ⟨0x700040, 1, 0x1000000, 1, 0x4, 0xFFFFFFFF, 0x0, 1, 0x0, 0x0⟩,
  ⟨0x700044, 1, 0x1000000, 1, 0x4, 0xFFFFFFFF, 0x0, 2, 0x0, 0x0⟩,
  ⟨0x700048, 1, 0x1000000, 1, 0x4, 0x8000FF1F, 0x0, 0, 0x0, 0x0⟩,
  ⟨0x70004C, 1, 0x1000000, 1, 0x4, 0x3FFE, 0x0, 0, 0x0, 0x3FFC⟩,
  ⟨0x700050, 1, 0x1000000, 1, 0x4, 0x0, 0x0, 0, 0x0, 0x0⟩,
  ⟨0x700054, 1, 0x1000000, 1, 0x4, 0x0, 0x0, 0, 0x0, 0x0⟩,
  ⟨0x700058, 1, 0x1000000, 1, 0x4, 0x0, 0x0, 0, 0x0, 0x0⟩,
  ⟨0x70005C, 1, 0x1000000, 1, 0x4, 0x0, 0x0, 0, 0x0, 0x0⟩,
  ⟨0x701000, 64, 0x20, 1, 0x4, 0xFFFFFFFF, 0x0, 1, 0x0, 0x0⟩,
  ⟨0x701004, 64, 0x20, 1, 0x4, 0xFFFFFFFF, 0x0, 2, 0x0, 0x0⟩,
  ⟨0x701008, 64, 0x20, 1, 0x4, 0x80033F1F, 0x0, 0, 0x0, 0x0⟩,
  ⟨0x70100C, 64, 0x20, 1, 0x4, 0xFFFFFFFF, 0x0, 0, 0x0, 0x0⟩,
  ⟨0x701010, 64, 0x20, 1, 0x4, 0x0, 0x0, 0, 0x0, 0x0⟩,
  ⟨0x701014, 64, 0x20, 1, 0x4, 0x0, 0x0, 0, 0x0, 0x0⟩,
  ⟨0x701018, 64, 0x20, 1, 0x4, 0x0, 0x0, 0, 0x0, 0x0⟩,
  ⟨0x70101C, 64, 0x20, 1, 0x4, 0x0, 0x100000, 0, 0x0, 0x0⟩,
  ⟨0x702000, 64, 0x20, 1, 0x4, 0xFFFFFFFF, 0x0, 1, 0x0, 0x0⟩,
  ⟨0x702004, 64, 0x20, 1, 0x4, 0xFFFFFFFF, 0x0, 2, 0x0, 0x0⟩,
  ⟨0x702008, 64, 0x20, 1, 0x4, 0x8000FF1F, 0x0, 0, 0x0, 0x0⟩,
  ⟨0x70200C, 64, 0x20, 1, 0x4, 0xFFFFFF, 0x0, 0, 0x0, 0x1⟩,
  ⟨0x702010, 64, 0x20, 1, 0x4, 0x0, 0x0, 0, 0x0, 0x0⟩,
  ⟨0x702014, 64, 0x20, 1, 0x4, 0x0, 0x0, 0, 0x0, 0x0⟩,
  ⟨0x702018, 64, 0x20, 1, 0x4, 0x0, 0x0, 0, 0x0, 0x20000⟩,
  ⟨0x703000, 16, 0x10, 1, 0x4, 0x7F3F7F3F, 0x0, 0, 0x0, 0x0⟩,
  ⟨0x703004, 16, 0x10, 1, 0x4, 0x1FFFFFE, 0x0, 0, 0x0, 0x0⟩]

/-- Register words of 12_guarantees_faults.md. -/
def rows12 : List RegRow := [
  ⟨0x740000, 1, 0x1000000, 1, 0x4, 0x0, 0x0, 0, 0x0, 0x0⟩,
  ⟨0x740004, 1, 0x1000000, 1, 0x4, 0x0, 0x0, 0, 0x0, 0xFA000⟩,
  ⟨0x740100, 32, 0x10, 1, 0x4, 0x0, 0x0, 0, 0x0, 0x0⟩,
  ⟨0x740104, 32, 0x10, 1, 0x4, 0x0, 0x0, 0, 0x0, 0x0⟩,
  ⟨0x740108, 32, 0x10, 1, 0x4, 0x0, 0x0, 0, 0x0, 0x0⟩,
  ⟨0x74010C, 32, 0x10, 1, 0x4, 0x0, 0x0, 0, 0x0, 0x0⟩,
  ⟨0x8C0000, 1, 0x1000000, 1, 0x4, 0x0, 0x0, 0, 0x0, 0x0⟩,
  ⟨0x8C0004, 1, 0x1000000, 1, 0x4, 0x0, 0x0, 0, 0x0, 0x0⟩,
  ⟨0x8C0008, 1, 0x1000000, 1, 0x4, 0x0, 0x0, 0, 0x0, 0x0⟩,
  ⟨0x8C0100, 1, 0x1000000, 1, 0x4, 0x0, 0x0, 0, 0x0, 0x0⟩,
  ⟨0x8C0104, 1, 0x1000000, 1, 0x4, 0x0, 0x0, 0, 0x0, 0x0⟩,
  ⟨0x8C0108, 1, 0x1000000, 1, 0x4, 0x0, 0x0, 0, 0x0, 0x0⟩,
  ⟨0x8C010C, 1, 0x1000000, 1, 0x4, 0x0, 0x0, 0, 0x0, 0x0⟩]

/-- Register words of 13_dma.md. -/
def rows13 : List RegRow := [
  ⟨0x680000, 1, 0x1000000, 1, 0x4, 0x7, 0x0, 0, 0x0, 0x3⟩,
  ⟨0x680004, 1, 0x1000000, 1, 0x4, 0x0, 0x0, 0, 0x0, 0x0⟩,
  ⟨0x680008, 1, 0x1000000, 1, 0x4, 0x0, 0x0, 0, 0x0, 0x0⟩,
  ⟨0x68000C, 1, 0x1000000, 1, 0x4, 0x0, 0x1, 0, 0x0, 0x0⟩,
  ⟨0x680100, 32, 0x20, 1, 0x4, 0x0, 0x0, 0, 0x0, 0x0⟩,
  ⟨0x680104, 32, 0x20, 1, 0x4, 0x0, 0x0, 0, 0x0, 0x0⟩,
  ⟨0x680108, 32, 0x20, 1, 0x4, 0x0, 0x0, 0, 0x0, 0x0⟩,
  ⟨0x68010C, 32, 0x20, 1, 0x4, 0x0, 0x0, 0, 0x0, 0x0⟩,
  ⟨0x680110, 32, 0x20, 1, 0x4, 0x0, 0x0, 0, 0x0, 0x0⟩,
  ⟨0x680600, 16, 0x8, 1, 0x4, 0xFFFF, 0x0, 0, 0x0, 0x0⟩,
  ⟨0x680604, 16, 0x8, 1, 0x4, 0x1FFFF, 0x0, 0, 0x0, 0x0⟩]

/-- Register words of 14_streams_record.md. -/
def rows14 : List RegRow := [
  ⟨0x780000, 1, 0x1000000, 1, 0x4, 0xF3, 0x0, 0, 0x0, 0x0⟩,
  ⟨0x780004, 1, 0x1000000, 1, 0x4, 0x0, 0x0, 0, 0x0, 0x0⟩,
  ⟨0x780008, 1, 0x1000000, 1, 0x4, 0x0, 0x1, 0, 0x0, 0x0⟩,
  ⟨0x780100, 2, 0x80, 1, 0x4, 0x0, 0x0, 0, 0x0, 0x0⟩,
  ⟨0x780104, 2, 0x80, 1, 0x4, 0xFFFFFFFF, 0x0, 0, 0x0, 0x0⟩,
  ⟨0x780108, 2, 0x80, 1, 0x4, 0xFFFF, 0x0, 0, 0x0, 0x0⟩,
  ⟨0x78010C, 2, 0x80, 1, 0x4, 0xFFFFFFFF, 0x0, 0, 0x0, 0x0⟩,
  ⟨0x780110, 2, 0x80, 4, 0x4, 0xFFFFFFFF, 0x0, 0, 0x0, 0x0⟩,
  ⟨0x780120, 2, 0x80, 1, 0x4, 0xFFFF, 0x0, 0, 0x0, 0xC000⟩,
  ⟨0x780124, 2, 0x80, 1, 0x4, 0x3FF, 0x0, 0, 0x0, 0x0⟩,
  ⟨0x7C0000, 1, 0x1000000, 1, 0x4, 0x0, 0x0, 0, 0x0, 0x0⟩,
  ⟨0x7C0010, 1, 0x1000000, 1, 0x4, 0x0, 0x3, 0, 0x0, 0x0⟩,
  ⟨0x7C0100, 8, 0x10, 1, 0x4, 0x0, 0x0, 0, 0x0, 0x0⟩,
  ⟨0x7C0104, 8, 0x10, 1, 0x4, 0xFFFFFFFF, 0x0, 1, 0x0, 0x0⟩,
  ⟨0x7C0108, 8, 0x10, 1, 0x4, 0xFFFFFFFF, 0x0, 2, 0x0, 0x0⟩,
  ⟨0x7C010C, 8, 0x10, 1, 0x4, 0x0, 0x0, 0, 0x0, 0x0⟩,
  ⟨0x7C0800, 1, 0x1000000, 64, 0x4, 0xFFFFFFFF, 0x0, 0, 0x0, 0xFFFFFFFF⟩]

/-- Register words of 15_display.md. -/
def rows15 : List RegRow := [
  ⟨0x800000, 1, 0x1000000, 1, 0x4, 0xFF, 0x0, 0, 0x0, 0xE⟩,
  ⟨0x800004, 1, 0x1000000, 1, 0x4, 0xFFFFF, 0x0, 0, 0x0, 0x24414⟩,
  ⟨0x800008, 1, 0x1000000, 1, 0x4, 0xFFF0FFF, 0x0, 0, 0x0, 0x8980780⟩,
  ⟨0x80000C, 1, 0x1000000, 1, 0x4, 0xFFF0FFF, 0x0, 0, 0x0, 0x80407D8⟩,
  ⟨0x800010, 1, 0x1000000, 1, 0x4, 0xFFF0FFF, 0x0, 0, 0x0, 0x4650438⟩,
  ⟨0x800014, 1, 0x1000000, 1, 0x4, 0xFFF0FFF, 0x0, 0, 0x0, 0x441043C⟩,
  ⟨0x800020, 1, 0x1000000, 1, 0x4, 0x3, 0x0, 0, 0x0, 0x2⟩,
  ⟨0x800024, 1, 0x1000000, 1, 0x4, 0xFFF, 0x0, 0, 0x0, 0x0⟩,
  ⟨0x800040, 1, 0x1000000, 1, 0x4, 0x0, 0x0, 0, 0x0, 0x0⟩,
  ⟨0x800044, 1, 0x1000000, 1, 0x4, 0x0, 0x0, 0, 0x0, 0x0⟩,
  ⟨0x800048, 1, 0x1000000, 1, 0x4, 0xFFFFFFFF, 0x0, 1, 0x0, 0x0⟩,
  ⟨0x80004C, 1, 0x1000000, 1, 0x4, 0xFFFFFFFF, 0x0, 2, 0x0, 0x0⟩,
  ⟨0x800050, 1, 0x1000000, 1, 0x4, 0xFFFFFFFF, 0x0, 1, 0x0, 0x0⟩,
  ⟨0x800054, 1, 0x1000000, 1, 0x4, 0xFFFFFFFF, 0x0, 2, 0x0, 0x0⟩,
  ⟨0x800058, 1, 0x1000000, 1, 0x4, 0x0, 0x0, 0, 0x0, 0x0⟩,
  ⟨0x80005C, 1, 0x1000000, 1, 0x4, 0x0, 0x0, 0, 0x0, 0x0⟩,
  ⟨0x800060, 1, 0x1000000, 1, 0x4, 0x0, 0x0, 0, 0x0, 0x0⟩,
  ⟨0x800064, 1, 0x1000000, 1, 0x4, 0x0, 0x7, 0, 0x0, 0x0⟩,
  ⟨0x800100, 1, 0x1000000, 1, 0x4, 0xFFFFFF, 0x0, 0, 0x0, 0x0⟩,
  ⟨0x800104, 1, 0x1000000, 1, 0x4, 0x0, 0x0, 0, 0x0, 0x0⟩,
  ⟨0x800108, 1, 0x1000000, 1, 0x4, 0x0, 0x0, 0, 0x0, 0x0⟩,
  ⟨0x800110, 1, 0x1000000, 4, 0x4, 0x0, 0x0, 0, 0x0, 0x0⟩,
  ⟨0x800400, 1, 0x1000000, 256, 0x4, 0x0, 0x0, 0, 0x0, 0x0⟩,
  ⟨0x800800, 1, 0x1000000, 64, 0x4, 0x0, 0x0, 0, 0x0, 0x0⟩]

/-- Register words of 16_housekeeping.md. -/
def rows16 : List RegRow := [
  ⟨0x40000, 1, 0x1000000, 1, 0x4, 0x7, 0x0, 0, 0x0, 0x0⟩,
  ⟨0x40004, 1, 0x1000000, 1, 0x4, 0x0, 0x0, 0, 0x0, 0x2700⟩,
  ⟨0x40008, 1, 0x1000000, 1, 0x4, 0x0, 0x0, 0, 0x0, 0x0⟩,
  ⟨0x4000C, 1, 0x1000000, 1, 0x4, 0x0, 0x3, 0, 0x0, 0x0⟩,
  ⟨0x40010, 1, 0x1000000, 1, 0x4, 0x3FFFF, 0x0, 0, 0x0, 0x0⟩,
  ⟨0x40020, 1, 0x1000000, 1, 0x4, 0xFF, 0x0, 0, 0x0, 0x0⟩,
  ⟨0x40024, 1, 0x1000000, 1, 0x4, 0x0, 0x2, 0, 0x0, 0x0⟩,
  ⟨0x40028, 1, 0x1000000, 1, 0x4, 0x0, 0x0, 0, 0x0, 0x0⟩,
  ⟨0x40100, 39, 0x20, 1, 0x4, 0x0, 0x0, 0, 0x0, 0x0⟩,
  ⟨0x40104, 39, 0x20, 1, 0x4, 0x0, 0x0, 0, 0x0, 0x0⟩,
  ⟨0x40108, 39, 0x20, 1, 0x4, 0xFFFFFFFF, 0x0, 1, 0x0, 0x0⟩,
  ⟨0x4010C, 39, 0x20, 1, 0x4, 0xFFFFFFFF, 0x0, 2, 0x0, 0x0⟩,
  ⟨0x40110, 39, 0x20, 1, 0x4, 0xFFFFFF, 0x0, 0, 0x0, 0x0⟩,
  ⟨0x40114, 39, 0x20, 1, 0x4, 0xFFFFFF, 0x0, 0, 0x0, 0xFFFFFF⟩,
  ⟨0x40118, 39, 0x20, 1, 0x4, 0x1FFFF, 0x0, 0, 0x0, 0x0⟩,
  ⟨0x4011C, 39, 0x20, 1, 0x4, 0x0, 0x0, 0, 0x0, 0x0⟩,
  ⟨0x40800, 1, 0x1000000, 64, 0x4, 0x0, 0x0, 0, 0x0, 0x0⟩]

/-- Register words of 17_security.md. -/
def rows17 : List RegRow := [
  ⟨0x840000, 1, 0x1000000, 1, 0x4, 0x0, 0x0, 0, 0x0, 0x10⟩,
  ⟨0x840004, 1, 0x1000000, 1, 0x4, 0x0, 0x0, 0, 0x0, 0x0⟩,
  ⟨0x840008, 1, 0x1000000, 1, 0x4, 0x0, 0x0, 0, 0x0, 0x0⟩,
  ⟨0x84000C, 1, 0x1000000, 1, 0x4, 0x0, 0x0, 0, 0x0, 0x0⟩,
  ⟨0x840010, 1, 0x1000000, 1, 0x4, 0xFFFFFFFF, 0x0, 1, 0x0, 0x0⟩,
  ⟨0x840014, 1, 0x1000000, 1, 0x4, 0xFFFFFFFF, 0x0, 2, 0x0, 0x0⟩,
  ⟨0x840018, 1, 0x1000000, 1, 0x4, 0x0, 0x0, 0, 0x0, 0x0⟩,
  ⟨0x84001C, 1, 0x1000000, 1, 0x4, 0x0, 0x0, 0, 0x0, 0x1⟩,
  ⟨0x840100, 1, 0x1000000, 24, 0x4, 0x0, 0x0, 0, 0x0, 0x0⟩]

/-- Register words of 18_counters_bist.md. -/
def rows18 : List RegRow := [
  ⟨0x880000, 1, 0x1000000, 1, 0x4, 0x0, 0x0, 0, 0x0, 0x177C⟩,
  ⟨0x880004, 1, 0x1000000, 1, 0x4, 0x0, 0x3, 0, 0x0, 0x0⟩,
  ⟨0x880100, 1, 0x1000000, 1, 0x4, 0x0, 0x0, 0, 0x0, 0x0⟩,
  ⟨0x880104, 1, 0x1000000, 1, 0x4, 0x0, 0x0, 0, 0x0, 0x0⟩,
  ⟨0x880108, 1, 0x1000000, 1, 0x4, 0xFFFFFFFF, 0x0, 1, 0x0, 0x0⟩,
  ⟨0x88010C, 1, 0x1000000, 1, 0x4, 0xFFFFFFFF, 0x0, 2, 0x0, 0x0⟩,
  ⟨0x880200, 1, 0x1000000, 1, 0x4, 0x1FFF, 0x0, 0, 0x0, 0x0⟩,
  ⟨0x880204, 1, 0x1000000, 1, 0x4, 0x0, 0x0, 0, 0x0, 0x80000000⟩,
  ⟨0x880208, 1, 0x1000000, 6, 0x4, 0x0, 0x0, 0, 0x0, 0x0⟩,
  ⟨0x880400, 8, 0x40, 1, 0x4, 0xFFFF003F, 0x0, 0, 0x0, 0xFFFF0018⟩,
  ⟨0x880404, 8, 0x40, 1, 0x4, 0x7FFFFFFF, 0x0, 0, 0x0, 0x2A5F19C3⟩,
  ⟨0x880408, 8, 0x40, 1, 0x4, 0x7FFFFF, 0x0, 0, 0x0, 0x0⟩,
  ⟨0x88040C, 8, 0x40, 1, 0x4, 0x0, 0x0, 0, 0x0, 0x0⟩,
  ⟨0x880410, 8, 0x40, 1, 0x4, 0x0, 0x0, 0, 0x0, 0x0⟩,
  ⟨0x880414, 8, 0x40, 1, 0x4, 0x0, 0x0, 0, 0x0, 0x0⟩,
  ⟨0x881000, 1, 0x1000000, 1, 0x4, 0x1FFFF, 0x0, 0, 0x0, 0x0⟩,
  ⟨0x881004, 1, 0x1000000, 1, 0x4, 0x0, 0x0, 0, 0x0, 0xF0⟩,
  ⟨0x881008, 1, 0x1000000, 1, 0x4, 0x0, 0x0, 0, 0x0, 0x0⟩,
  ⟨0x881010, 1, 0x1000000, 1, 0x4, 0x0, 0x0, 0, 0x0, 0x0⟩,
  ⟨0x881018, 1, 0x1000000, 1, 0x4, 0xFFFFFFFF, 0x0, 1, 0x0, 0x0⟩,
  ⟨0x88101C, 1, 0x1000000, 1, 0x4, 0xFFFFFFFF, 0x0, 2, 0x0, 0x0⟩,
  ⟨0x881020, 1, 0x1000000, 1, 0x4, 0xFFFFFFFF, 0x0, 1, 0x0, 0x0⟩,
  ⟨0x881024, 1, 0x1000000, 1, 0x4, 0xFFFFFFFF, 0x0, 2, 0x0, 0x0⟩,
  ⟨0x888000, 6012, 0x10, 1, 0x4, 0xFFFFFFFF, 0x0, 1, 0x0, 0x0⟩,
  ⟨0x888004, 6012, 0x10, 1, 0x4, 0x1FFFFFF, 0x0, 2, 0x0, 0x0⟩,
  ⟨0x888008, 6012, 0x10, 1, 0x4, 0x1, 0x0, 0, 0x0, 0x3⟩,
  ⟨0x88800C, 6012, 0x10, 1, 0x4, 0x0, 0x0, 0, 0x0, 0x0⟩,
  ⟨0x8A0000, 6012, 0x10, 1, 0x4, 0x0, 0x0, 0, 0x0, 0x0⟩,
  ⟨0x8A0004, 6012, 0x10, 1, 0x4, 0x0, 0x0, 0, 0x0, 0x0⟩]

/-- Register words of 19_startup_straps.md. -/
def rows19 : List RegRow := [
  ⟨0x0, 1, 0x1000000, 1, 0x4, 0x0, 0x0, 0, 0x0, 0x108B1⟩,
  ⟨0x4, 1, 0x1000000, 1, 0x4, 0x0, 0x0, 0, 0x0, 0x0⟩,
  ⟨0x8, 1, 0x1000000, 1, 0x4, 0x0, 0x8, 0, 0x0, 0x0⟩,
  ⟨0x10, 1, 0x1000000, 1, 0x4, 0xFFFFFFFF, 0x0, 1, 0x0, 0x0⟩,
  ⟨0x14, 1, 0x1000000, 1, 0x4, 0xFFFFFFFF, 0x0, 2, 0x0, 0x0⟩,
  ⟨0x18, 1, 0x1000000, 1, 0x4, 0x7FFFFF, 0x0, 0, 0x0, 0x0⟩,
  ⟨0x1C, 1, 0x1000000, 1, 0x4, 0x0, 0x0, 0, 0x0, 0x0⟩,
  ⟨0x8C0010, 1, 0x1000000, 1, 0x4, 0x3FFFE, 0x0, 0, 0x0, 0xDFFFE⟩]

/-- The whole map, block by block. -/
def regRows : List RegRow :=
  rows02 ++ rows03 ++ rows04 ++ rows05 ++ rows06 ++ rows07 ++ rows08 ++ rows09 ++ rows10 ++ rows11 ++ rows12 ++ rows13 ++ rows14 ++ rows15 ++ rows16 ++ rows17 ++ rows18 ++ rows19

end Sys2Proof.Machine
end

