-- ==== Sys2Proof/Machine/State.lean ====
section
/-! DEFINITION. What the block holds: the state of every unit the spec describes, as plain data, the queue of waiting
commands, the reasons a step can stop, and the state right after reset. -/

namespace Sys2Proof.Machine

/-- Why the block stops with a fault. -/
inductive Fault where
  /-- Raised by RESET_N alone: a low pulse between 1 µs and 10 µs, whose effect R405 leaves undefined. Safe: no next
  state is claimed. -/
  | resetPulseUndefined (ns : Nat)
  deriving DecidableEq, Repr

/-- Why a command is refused by the model. -/
inductive Refusal where
  /-- Raised by an arm of `exec` whose command has no meaning yet. Safe: no next state is claimed. -/
  | notModelled (mnemonic : String)
  deriving DecidableEq, Repr

/-- Register words listed by BAR0 offset, ascending; an unlisted word holds its reset value. -/
abbrev RegFile := List (Nat × Word)

/-! ## Host interface, jobs, journal and faults (chapters 11 and 12) -/

/-- A job: a descriptor once accepted (R252), until its journal records retire (R282). `id` is the order of
acceptance, `idx` the submission-ring index it was fetched at, `cqIdx` the completion-ring index of its entry. -/
structure Job where
  id : Nat
  func : Nat
  ring : Nat
  idx : Nat
  cq : Nat
  cqIdx : Nat
  d : Desc
  standing : Bool
  opened : Bool
  waiting : Bool        -- BARRIER not yet satisfied (R251)
  acceptSt : Nat        -- sample time of the acceptance instant
  done : Option Nat     -- completion status once completed
  posted : Bool
  result : Nat
  extent : Nat
  flt : Nat
  rank : Nat            -- shedding rank (R279)
  res : List (Nat × Nat) -- units reserved, by resource code (R269)
  flagged : Bool        -- a COMMIT whose queued swap started late (R156)
  cap : RegFile         -- the shadow words a COMMIT captured at acceptance (R109, R158)
  deriving DecidableEq, Repr

/-- A completion entry (R253, Table 11.5). -/
structure Cpl where
  seq : Nat
  token : Nat
  opcode : Nat
  status : Nat
  sq : Nat
  result : Nat
  extent : Nat
  flt : Nat
  dword : Nat
  dres : Nat
  phase : Nat
  deriving DecidableEq, Repr

/-- An event record raised (R260). -/
structure Ev where
  evseq : Nat
  cls : Nat
  cause : Nat
  func : Nat
  st : Nat
  pay : List Nat
  deriving DecidableEq, Repr

/-- A journal record (R281, Table 12.9); `job` links it to the job whose records retire together (R282). -/
structure JRec where
  jseq : Nat
  kind : Nat
  func : Nat
  sq : Nat
  opcode : Nat
  seq : Nat
  token : Nat
  extent : Nat
  cqIdx : Nat
  status : Nat
  flt : Nat
  job : Nat
  st : Nat
  tod : Nat
  cq : Nat              -- the completion ring its ring is bound to
  deriving DecidableEq, Repr

/-- A fault record (R278, Table 12.6). -/
structure Flt where
  id : Nat
  kind : Nat
  index : Nat
  spare : Nat
  beyond : Bool
  acked : Bool
  returned : Bool
  shed : Bool
  takeover : Bool
  onset : Nat
  detect : Nat
  restored : Nat
  tod : Nat
  slots : Nat
  epoch : Nat
  affected : Nat
  nShed : Nat
  deriving DecidableEq, Repr

/-- What the device keeps per completion ring beside its registers: coalescing (R247). -/
structure CqSt where
  elig : Nat := 0
  timer : Bool := false
  deriving DecidableEq, Repr

/-- What leaves the block, in order: the model's own log, so that what the spec has the device send can be stated. -/
inductive Out where
  /-- One 32-byte completion entry written at a slot of completion ring `q` (R253). -/
  | completion (q slot : Nat) (e : Cpl) (bytes : List Nat)
  /-- One 64-byte event record written at a slot of the event ring (R260). -/
  | event (slot : Nat) (e : Ev) (bytes : List Nat)
  /-- MSI-X vector of the PF (R247). -/
  | msix (v : Nat)
  /-- Read data of a BAR0, BAR4 or I2C read. -/
  | readData (addr v : Nat)
  /-- A completion with Unsupported Request (R6). -/
  | unsupported
  /-- Bytes written to host memory. -/
  | hostWrite (addr : Nat) (bytes : List Nat)
  /-- A UDP payload (or an ARP or neighbour answer) handed to Ethernet port `port`; `net` is its addressing: source and
  destination MAC, VLAN tag (0 none), IPv6, source and destination IP address, DSCP, source and destination UDP port. -/
  | packet (port : Nat) (net bytes : List Nat)
  /-- An NVMe command on namespace `ns`: opcode, byte address, data. -/
  | nvme (ns opc lba : Nat) (bytes : List Nat)
  /-- The oldest Write or Flush of namespace `ns` issued again after a retryable status (R329). -/
  | nvmeRetry (ns : Nat) (flush : Bool)
  /-- A pulse or edge on a pin named by number (0 to 3 TRIG_OUT, 4 SYNC_OUT, 5 SYSREF_OUT). -/
  | edge (pin level : Nat)
  /-- A pixel line or frame of the display, by frame-buffer address. -/
  | frame (base : Nat) (black : Bool)
  /-- A DisplayPort AUX request for a DPCD address. -/
  | aux (addr : Nat)
  deriving DecidableEq, Repr

/-- A granule of the capture ring: its validity-map entry (R230). `wr` lists the 64-beat groups written, `dropped`
the beats dropped at the ring's entry (R226), `gapped` the beats written as GAP under R231. -/
structure Gran where
  first : Nat
  d : Nat
  wr : Nat
  gseq : Nat
  slot : Nat
  live : Bool
  ue : Bool
  epoch : Nat
  holds : Nat
  dropped : List Nat
  gapped : List Nat
  src : Nat
  deriving DecidableEq, Repr

/-- A freeze-table entry (R126, R233 to R235). -/
structure Freeze where
  id : Nat
  slots : Nat
  start : Nat
  stop : Nat
  epoch : Nat
  complete : Bool
  charge : Nat
  grans : List Nat
  job : Nat
  deriving DecidableEq, Repr

/-- A loss-table record (R232). -/
structure Loss where
  slot : Nat
  pc : Nat
  kind : Nat
  bound : Nat
  st : Nat
  deriving DecidableEq, Repr

/-- The HBM behind the controllers: sparse bytes (sorted, no entry equal to the byte an unlisted address reads as),
poisoned bytes, slots whose whole content is poison but for the bytes rewritten since, and holes (R220 to R223). -/
structure Hbm where
  cells : List (Nat × Byte) := []
  poison : List Nat := []
  slotPoison : List (Nat × List Nat) := []
  holes : List Nat := []
  tags : List (Nat × Nat) := []      -- 16-bit metadata of 32-byte words (R212)
  temp : List (Nat × Int) := []      -- stack temperatures last seen (R219)
  stalled : List Nat := []           -- slots held (R219, R221, R81)
  training : Option Nat := none      -- the pseudo-channel that retrains (R219)
  fill : Nat := 0                    -- ballast fill in bytes (R224)
  ueSec : List (Nat × Nat) := []     -- last UE event per pseudo-channel (R222)
  ueTimes : List (Nat × Nat) := []   -- uncorrectable words per pseudo-channel, last second (R219)
  trained : List (Nat × Nat) := []   -- sample time of the last training per pseudo-channel (R219)
  recovering : List Nat := []        -- stacks in recovery (R221)
  gran : List (Nat × Gran) := []
  lastTaken : Option Nat := none     -- granule most recently taken (R229)
  gseq : Nat := 0
  curGran : List (Option Nat) := List.replicate 8 none
  ringNext : List Nat := List.replicate 8 0  -- sample time after the last beat written, per slot (R231)
  freezes : List Freeze := []
  nextFreeze : Nat := 1
  losses : List Loss := []
  ringOn : Bool := true              -- the ring writer runs (R239)
  restripe : Option (Nat × Desc) := none  -- the RESTRIPE in progress: its job and descriptor
  deriving DecidableEq, Repr

/-! ## Clocks and time (chapter 04) -/

/-- An epoch COMMIT accepted and pending (R74): its job, the words captured, its target. -/
structure EpochReq where
  job : Nat
  cap : RegFile
  target : Nat
  immediate : Bool
  timed : Bool       -- SYNC_CTL.SRC = 0: the request is a sample time
  requested : Bool   -- the epoch request has come
  generated : Bool   -- its SYNC_OUT pulse has been sent (R86)
  deriving DecidableEq, Repr

/-- The epoch under way between t_E and sample time 0 (R75, R76). -/
structure EpochRun where
  job : Option Nat
  relock : Bool
  fsChanged : Bool
  late : Bool
  aligned : Bool
  deriving DecidableEq, Repr

/-- Clock state beside the CLK registers. -/
structure ClkSt where
  pairSt : Nat := 0
  pairTod : Nat := 0
  synTry : List Nat := [0, 0]            -- relock attempts since the loss (R80)
  synFlt : List Nat := [0, 0]            -- fault record of the loss, 0 none
  synAck : List (Option Nat) := [none, none]  -- FAULT_ACK RETURN waiting on the synthesiser (R290)
  synSeed : List Nat := [0, 0]           -- LFSR loaded at the last relock (R69)
  epoch : Option EpochReq := none
  run : Option EpochRun := none
  halted : Bool := false                 -- R79
  relocked : Bool := false               -- lock confirmed, CK_DP not yet released (R77)
  gapFlt : Nat := 0                      -- fault record of the clock gap in progress, 0 none
  skipped : Nat := 0                     -- sample times counted while CK_DP is gated (R82)
  started : Bool := false                -- an internal epoch has run since power-on
  internalDue : Bool := false            -- an internal epoch is due (R75, R85, R414)
  refBad : Bool := false
  sysrefLeft : Nat := 0                  -- ON_DEMAND pulses left (R89)
  sysrefNext : Nat := 0
  ppsEdge : Bool := false                -- an edge has been seen and PPS_LOSS not posted since
  ptpLost : Bool := false
  ptpSync : Bool := false                -- a Sync message has been seen
  ptpAcquired : Bool := false
  ptpMoved : Bool := false               -- PTP runs on the other port (R327)
  ptpOffset : Int := 0                   -- servo offset, ns (R85)
  memPll : Option Nat := none            -- fault record while the memory PLL relocks
  ctlPll : Option Nat := none
  prove : Bool := true                   -- fabric and control run on CK_PROVE (R77)
  syncOut : Bool := false                -- SYNC_OUT level
  freqHold : Int := 0                    -- NTO offset frozen in holdover, 0.001 ppm (R66)
  trims : List (Nat × Nat × Int) := []   -- CLK.TRIM commits not yet in effect: job, target sample time, value (R73)
  target : Int := 0                      -- trim target in force, 0.001 ppm
  todSet : Bool := false                 -- CLK.TOD_SET written and not yet applied (R84)
  active : Nat := 0                      -- the synthesiser that is or was active last
  walkRef : Bool := false                -- the NTOs walk onto a returned reference (R67)
  deriving DecidableEq, Repr

/-! ## Input slots, links and calibration (chapters 02 and 03) -/

/-- An attenuation change committed and not yet landed (R24). -/
structure AttenReq where
  job : Nat
  intake : Nat
  atten : Nat
  target : Nat
  deriving DecidableEq, Repr

/-- An input slot beside its registers (R12, R24, R29 to R33, R51, R58). -/
structure SlotSt where
  next : Nat := 0            -- sample time of its next beat
  gapSource : Bool := false  -- GAP since a change of source, until the first good beat (R12)
  gapFault : Bool := false   -- GAP of an intake fault or an ended hand-over (R58, R59)
  gapBeats : Nat := 0        -- beats still to be sent as GAP by a switch to a prepared link (R44)
  cal : Bool := false        -- a covered hand-over is in progress (R52)
  settle : Nat := 0          -- beats still to be marked invalid (R24)
  ovrHold : Nat := 0         -- 4,096 less the beats since the last with OVR (R33)
  restore : Nat := 0         -- fault record that waits for the first beat served again, 0 none
  lost : Bool := false       -- link in service lost; VALID_RETURN due (R45)
  crcBad : Nat := 0          -- beats to be marked invalid by a CRC-12 failure or a code error (R45)
  linkReq : Bool := false    -- link prepared or selected (PREPARE or SRC)
  skewAt : Option Nat := none -- sample time of the last SKEW_OVF event of a run of failed attempts (R44)
  ilasBad : Bool := false    -- the ILAS did not match: the link waits in ALIGN (R37)
  deriving DecidableEq, Repr

/-- Why an intake is due for foreground calibration (R49). -/
structure CalDue where
  startUp : Bool := false
  fs : Bool := false
  temp : Bool := false
  retry : Bool := false
  jobs : List Nat := []      -- CALIBRATE jobs waiting on its first attempt
  mode1 : Bool := false      -- MODE 1 of such a job
  mode2 : Bool := false      -- a MODE 2 request left pending (R62)
  forced : Bool := false     -- drift of 10 °C reached while deferred (R57)
  interrupt : Bool := false  -- the input's bit of CAL.POLICY when it fell due (R57, R64)
  deriving DecidableEq, Repr

/-- How a foreground calibration or intake self-test runs. -/
inductive CalHow where
  | covered    -- Table 3.1
  | inPlace    -- R57, with a GAP on the slot
  | silent     -- in place with no effect on any slot (start-up, link-sourced slot, intake 8)
  | bist       -- rotating self-test, covered (R61)
  | bist8      -- self-test of intake 8 in place
  deriving DecidableEq, Repr

/-- The foreground calibration in progress; `step` numbers the steps of Table 3.1. -/
structure CalRun where
  k : Nat
  how : CalHow
  step : Nat
  repeats : Nat
  retried : Bool            -- the step-3 mismatch has been retried (R55)
  own : Bool                -- intake 8 calibrates in place before that retry (R55)
  reject : Option Nat       -- cause of a rejection so far
  jobs : List Nat
  gap : Bool                -- it opened a gap on the slot
  start : Nat
  handback : Option Nat     -- FAULT_ACK RETURN whose unit is handed back covered (R290)
  deriving DecidableEq, Repr

/-- A CALIBRATE job in progress: intakes not finished, result codes so far (R62). -/
structure CalJob where
  job : Nat
  left : Nat
  codes : Nat
  flagged : Bool
  finished : Nat
  deriving DecidableEq, Repr

/-- Calibration state beside the CAL registers. -/
structure CalSt where
  due : List CalDue := List.replicate 9 {}
  run : Option CalRun := none
  base : List Int := List.replicate 9 0      -- baseline temperature, Q8.8 °C (R49, R56)
  retryWait : List Bool := List.replicate 9 false
  started : List Bool := List.replicate 9 false  -- start-up calibration finished or replaced by stored coefficients
  failed : List Bool := List.replicate 9 false
  sched : List Bool := List.replicate 9 false    -- a retry schedule runs (R56)
  busy55 : Bool := false                     -- R55
  takeover : Option Nat := none              -- intake that intake 8 replaces
  takeFlt : Nat := 0
  rotation : Nat := 0                        -- next intake of the rotating self-test
  jobs : List CalJob := []
  steering : Bool := false                   -- a steering change of intake 8 settles (R35)
  steerNext : Option Nat := none             -- a steering request that waits for the settling, 0xF none (R35)
  bgN : List Nat := List.replicate 9 0       -- samples integrated by background tracking (R48)
  bgUpdates : List Nat := List.replicate 9 0
  returns : List Nat := []                   -- returned intakes that wait to take their input back (R290)
  deriving DecidableEq, Repr

/-! ## Slices: engine, detectors, triggers, density, history (chapters 05 and 06) -/

/-- A beat in a slice's sample buffer. -/
structure SBeat where
  t : Nat
  d : Nat
  flags : Nat
  samples : List Int
  deriving DecidableEq, Repr

/-- The trace in progress (R104, R105). Points are powers, or log values when TIME_DET averages logs. -/
structure TraceSt where
  frames : Nat := 0
  used : Nat := 0
  first : Nat := 0
  stop : Nat := 0
  pts : List Nat := []
  logs : List Int := []
  flags : Nat := 0
  ovf : Nat := 0
  atten0 : Nat := 0
  atten : Nat := 0
  attChg : Bool := false
  chg : Bool := true
  deriving DecidableEq, Repr

/-- The spectral-kurtosis block in progress (R108). -/
structure SkSt where
  added : Nat := 0
  frames : Nat := 0
  first : Nat := 0
  stop : Nat := 0
  s1 : List Nat := []
  s2 : List Nat := []
  flags : Nat := 0
  ovf : Nat := 0
  satd : Bool := false
  atten0 : Nat := 0
  atten : Nat := 0
  attChg : Bool := false
  chg : Bool := true
  deriving DecidableEq, Repr

/-- A closed density period whose readout pass runs (R137, R138). -/
structure DenOut where
  cells : List (Nat × Nat)
  first : Nat
  stop : Nat
  used : Nat
  flags : Nat
  ovf : Nat
  late : Bool
  decay : Nat
  atten : Nat
  seq : Nat
  deriving DecidableEq, Repr

/-- The density builder (R133 to R139): cells are listed sparsely by row × 1,024 + column. -/
structure DenSt where
  cells : List (Nat × Nat) := []
  used : Nat := 0
  first : Nat := 0
  stop : Nat := 0
  flags : Nat := 0
  ovf : Nat := 0
  group : Nat := 0                 -- spectra seen of the current group
  gFirst : Nat := 0                -- start of the group's first frame
  gCols : List Int := []           -- column levels of the group so far
  gHas : Bool := false             -- a frame without GAP has been taken into the group
  chg : Bool := true
  late : Bool := false
  due : Bool := false              -- the period's end has come
  atten0 : Nat := 0
  attChg : Bool := false
  start : Nat := 0                 -- sample time at which the period began (TIME mode)
  out : Option DenOut := none
  deriving DecidableEq, Repr

/-- A trigger beside its registers (R118 to R128). -/
structure TrgSt where
  job : Nat := 0                   -- the ARM_TRIGGER job that holds it armed, 0 none
  fired : Bool := false            -- a SINGLE arming has fired
  hold : Nat := 0                  -- hold-off frames left
  hits : Nat := 0                  -- density hits of the period
  hitFired : Bool := false         -- DENSITY has fired in the period
  postEnd : Nat := 0               -- end of the freeze window of the SINGLE fire, 0 none
  ddcEnd : Nat := 0                -- end of the DDC delivery the fire started, 0 none
  ddcOpen : Bool := false          -- a DDC delivery of the fire runs until its stream is closed
  freeze : Nat := 0                -- freeze last created for this arming
  flagged : Bool := false          -- a window touched a loss record (R234)
  swapReq : Bool := false          -- a core's swap request (R131)
  deriving DecidableEq, Repr

/-- A change of an SLC block accepted and not yet at its change instant (R109, R110). -/
structure SpxChange where
  job : Nat
  cap : RegFile
  t : Nat                          -- the COMMIT's target
  at_ : Nat                        -- C
  spx : Bool
  trg : Nat                        -- bit m: TRG[m]
  den : Bool
  xbar : Option Nat                -- input slot the slice takes, 0xF none
  deriving DecidableEq, Repr

/-- A complete record of a history (R140): offset and length in 64-byte units, as the ring holds them. -/
structure HistRec where
  ofs : Nat
  len : Nat
  deriving DecidableEq, Repr

/-- A logical slice: what its physical slice computes for it. -/
structure Slice where
  phys : Nat := 0                  -- physical slice that serves it
  failed : Bool := false           -- the physical slice that served it has failed and nothing replaces it
  buf : List SBeat := []
  next : Nat := 0                  -- start of the next frame of the grid
  gapUntil : Nat := 0              -- results of frames that start earlier carry GAP (a takeover's gap)
  win : List Int := []             -- window or prototype in force, Q2.16
  pend : List SpxChange := []
  banks : List (List Int) := [[], []]   -- custom tables (R96)
  bankLen : List Nat := [0, 0]
  trace : TraceSt := {}
  seqs : List Nat := [0, 0, 0, 0, 0, 0, 0, 0]  -- record counts by KIND (R107)
  sk : SkSt := {}
  den : DenSt := {}
  masks : List (List Nat) := [[], [], [], []]  -- table words: 2 × trigger + table (R113)
  maskRest : List (List Nat) := [[], [], [], []]  -- words of the table memories beyond the breakpoints in use
  trg : List TrgSt := [{}, {}]
  hist : List HistRec := []
  notify : Nat := 0
  deriving DecidableEq, Repr

/-! ## Performance counters (chapter 18) -/

/-- A counter that has counted: its unit (Table 18.1), what it counts, 48-bit count, WRAPS, OVF (R386, R389). -/
structure Counter where
  unit : Nat
  event : Config.Count
  value : Nat
  wraps : Nat
  ovf : Bool
  deriving DecidableEq, Repr

/-- A SNAPSHOT job pending (R391). -/
structure SnapReq where
  job : Nat
  t : Nat
  immediate : Bool
  deriving DecidableEq, Repr

/-- Instruction sampling of a logical slice beside PMC.SMP[n] (R394 to R396). -/
structure SmpSt where
  lfsr : Nat := 1
  left : List Nat := List.replicate 16 0     -- countdown per core
  seq : Nat := 0
  due : List (List Nat) := []                -- samples taken and not yet recorded, oldest first: bytes from 4 on
  ring : List (List Nat) := []               -- records waiting for the drain, oldest first
  deriving DecidableEq, Repr

/-! ## Tuners and zoom (chapter 07) -/

/-- A change of a tuner accepted and not yet at its instant C_D (R150, R159): `cap` the words captured, empty for the
restart a crossbar change brings. -/
structure TunChange where
  job : Nat
  cap : RegFile
  at_ : Nat
  deriving DecidableEq, Repr

/-- The block in progress of a tuner (R161). -/
structure DdcBlk where
  first : Nat := 0
  data : List (Int × Int) := []   -- newest first
  flags : Nat := 0                -- flag summary; [4] STAGE_OVF, [6] CHG, [7] ATT_CHG, [8] XFADE
  flagFirst : Option Nat := none
  flagLast : Option Nat := none
  ovf : Nat := 0
  atten : Nat := 0
  bank : Nat := 0
  deriving DecidableEq, Repr

/-- A block in a tuner's stream ring: place in 64-byte units, first sample time, sample spacing, samples. -/
structure DdcRec where
  ofs : Nat
  len : Nat
  first : Nat
  step : Nat
  count : Nat
  phys : Nat
  deriving DecidableEq, Repr

/-- The filter stages of a tuner: delay lines newest first, CIC registers, slot samples taken since the restart. -/
structure DdcChain where
  n : Nat := 0
  dec4 : List (Int × Int) := []
  integ : List (Int × Int) := []
  comb : List (Int × Int) := []
  hb : List (List (Int × Int)) := []
  fir : List (Int × Int) := []
  deriving DecidableEq, Repr

/-- A cross-fade in progress: outputs done, length, bank it leads to (R155). -/
structure Fade where
  k : Nat
  len : Nat
  bank : Nat
  deriving DecidableEq, Repr

/-- The threshold detector (R163). -/
structure ThrSt where
  run : Nat := 0
  first : Nat := 0
  peak : Nat := 0
  st : Nat := 0
  count : Nat := 0
  flags : Nat := 0
  deriving DecidableEq, Repr

/-- A tuner beside its registers. -/
structure Tuner where
  inq : List SBeat := []          -- beats received and not wholly taken
  start : Nat := 0                -- C_D of the configuration
  d : Nat := 1                    -- divider of the slot
  j : Nat := 0                    -- next output
  s : Nat := 0                    -- outputs suppressed, S of R151
  chain : DdcChain := {}
  marks : List (Nat × Nat) := []  -- beats whose flags matter: time, flag summary with [4] attenuation change
  clear : Nat := 0                -- outputs whose span starts earlier carry GAP (R153)
  banks : List (List Int) := [[131072], [131072]]
  fade : Option Fade := none
  fadeAt : Option (Nat × Nat × Nat) := none  -- a fade due: sample time, bank, length
  queued : Option (Nat × Nat × Nat × Nat) := none -- a queued swap: job, bank, length, C_D (R156)
  pend : List TunChange := []
  blk : DdcBlk := {}
  firstBlk : Bool := true         -- the next block is the configuration's first
  seq : Nat := 0
  blocks : List DdcRec := []
  thr : ThrSt := {}
  deriving DecidableEq, Repr

/-- The zoom frames of one tuner (R166, R167). -/
structure ZoomSt where
  from_ : Nat := 0                -- sample time from which frames may start
  buf : List (Nat × Int × Int × Nat) := []  -- outputs not yet out of every frame, newest first: time, I, Q, flags
  frames : Nat := 0
  used : Nat := 0
  first : Nat := 0
  stop : Nat := 0
  pts : List Nat := []
  flags : Nat := 0
  atten : Nat := 0
  chg : Bool := true
  deriving DecidableEq, Repr

/-- A ZOOM COMMIT accepted and not yet at its target (R166). -/
structure ZoomChange where
  job : Nat
  cap : RegFile
  at_ : Nat
  deriving DecidableEq, Repr

/-- The zoom FFT of a slice. -/
structure Zoom where
  tun : List ZoomSt := [{}, {}, {}, {}]
  pend : List ZoomChange := []
  deriving DecidableEq, Repr

/-! ## Streams (chapter 14) -/

/-- A record, block or payload that waits in a stream: the HBM address of its ring place, its bytes, its time, the
sample-time step of its samples (0 for records), its first and end sample to deliver, its physical slice. -/
structure Item where
  key : Nat
  bytes : List Nat
  st : Nat
  step : Nat
  lo : Nat
  hi : Nat
  phys : Nat
  flags : Nat := 0
  deriving DecidableEq, Repr

/-- A packet kept for resending (R326): when it was sent, its VITA bytes. -/
structure Sent where
  st : Nat
  bytes : List Nat
  deriving DecidableEq, Repr

/-- An open stream (R307 to R320, R324). -/
structure Stream where
  job : Nat
  p : List Nat                    -- the words of its STREAM_OPEN
  port : Nat
  sent : Nat := 0                 -- data packets sent: the tether counter's full value
  pkts : Nat := 0                 -- packets sent, all kinds
  queue : List Item := []
  pos : Nat := 0                  -- samples or bytes of the head item already sent
  ctx : List Nat := []            -- contents of the last context pair
  ctxDue : Bool := true           -- a pair precedes the next data packet
  ovr : Nat := 0                  -- OVR beats since the last pair
  lastPhys : Nat := 0
  window : Option (Nat × Nat) := none  -- a trigger delivery: start, end (0: until the stream is closed)
  closing : Nat := 0              -- job that closes it, 0 none
  log : List Sent := []
  wrOfs : Nat := 0                -- host-memory streams: WR_OFS, RD_OFS last seen, LOST
  rdOfs : Nat := 0
  lost : Nat := 0
  join : Nat := 0                 -- recordings: map index
  ctxAt : Nat := 0                -- sample time of the last context pair
  dataAt : Nat := 0               -- sample time of the last data packet, of the opening before any
  charge : Nat × Nat := (0, 1)    -- what it is charged against its recording, bytes per second, as a fraction (R330)
  pschg : Bool := false           -- PSLICE_CHG is due in the next pair
  resend : Bool := false          -- RESEND is due in the next pair
  deriving DecidableEq, Repr

/-! ## The correlator (chapter 08) -/

/-- What one correlator input gives for a frame: input, flag summary with [4] FFT_OVF, attenuation, requantised channels,
requantiser saturations. -/
structure XIn where
  i : Nat
  flags : Nat
  atten : Nat
  y : List (Int × Int)
  sats : Nat
  deriving DecidableEq, Repr

/-- A frame of the common grid of which some bound inputs have come. -/
structure XFrame where
  start : Nat
  stop : Nat
  ins : List XIn
  deriving DecidableEq, Repr

/-- An integration: in progress, or closed and being read out (R175 to R178). `acc` lists product p × NCH + channel. -/
structure XInt where
  begin_ : Nat := 0              -- where it begins: a boundary or a change instant
  first : Nat := 0
  stop : Nat := 0
  frames : Nat := 0
  usedEven : Nat := 0
  usedOdd : Nat := 0
  acc : List (Int × Int) := []
  flags : Nat := 0
  sats : List Nat := []          -- saturated components: 2 × cell, + 1 imaginary
  reqSats : Nat := 0
  attens : List (Nat × Nat) := []
  attChg : Bool := false
  chg : Bool := false
  cut : Bool := false
  degraded : Bool := false
  deriving DecidableEq, Repr

/-- A COMMIT of XCOR accepted (R175, R176): what of it still waits. -/
structure XChange where
  job : Nat
  cap : RegFile
  target : Nat
  instant : Bool       -- its change instant has not come
  boundary : Bool      -- GBANK, SHIFT and DELAY have not taken effect
  deriving DecidableEq, Repr

/-- An F-engine payload being filled: input, group, frames so far with their flags and bytes (R181). -/
structure FBuf where
  i : Nat
  g : Nat
  first : Nat
  stop : Nat
  frames : Nat
  flags : Nat
  bytes : List Nat
  deriving DecidableEq, Repr

/-- The correlator beside its registers. -/
structure Xcor where
  banks : List (List Nat) := List.replicate 16 []  -- gain words: 2 × input + bank; an absent entry is 0x7FFF
  wait : List XFrame := []
  cur : XInt := {}
  running : Bool := false
  out : Option (Nat × List Nat) := none  -- a closed record being read out: its first sample time, its bytes
  seq : Nat := 0
  recs : List HistRec := []
  fbufs : List FBuf := []
  pend : List XChange := []
  failed : List Nat := []              -- halves declared failed
  degFrom : Nat := 0                   -- grid index from which the survivor takes every channel (R179)
  fails : List (Nat × Nat) := []       -- check failures: half, grid index
  ret : List Nat := []                 -- halves that return at the next boundary (R180)
  flt : Nat := 0
  changeSt : Nat := 0                  -- the last change instant
  deriving DecidableEq, Repr

/-! ## Cores (chapter 09) -/

/-- A message in a core's queue (R199): source 0 trigger, 1 record notice, 2 core; sending core; 32 bytes. -/
structure Msg where
  src : Nat
  from_ : Nat
  bytes : List Nat
  deriving DecidableEq, Repr

/-- An active hardware loop: start, end, remaining count (R186). -/
structure Loop where
  start : Nat
  stop : Nat
  count : Nat
  deriving DecidableEq, Repr

/-- A core image once loaded (R202), as the core image store holds it (R203). -/
structure Image where
  im : List Nat
  dm : List Nat       -- 16-bit words from word address `base` on
  base : Nat
  entry : Nat
  crc : Nat
  deriving DecidableEq, Repr

/-- How a running core is ending (R206). -/
inductive CoreEnd where
  | stop (job : Nat)
  | trap (cause : Nat)
  deriving DecidableEq, Repr

/-- A core of a logical slice beside its registers in BAR0 (R186 to R207). -/
structure Core where
  d : List Nat := List.replicate 16 0
  a : List Int := [0, 0]
  p : List Nat := List.replicate 8 0
  m : List Nat := List.replicate 8 0
  b : List Nat := List.replicate 8 0
  l : List Nat := List.replicate 8 0
  pc : Nat := 0
  sr : Nat := 0
  ret : List Nat := []               -- return stack, top first
  loops : List Loop := []            -- loop stack, innermost first
  im : List Nat := []                -- instruction memory; beyond the list a word reads 0
  dm : List (Nat × Nat) := []        -- data memory: 16-bit words that are not 0, ascending
  image : Option Image := none       -- its copy in the core image store
  msgs : List Msg := []
  lost : Bool := false               -- MSG_STAT.LOST
  notify : Nat := 0
  sendData : List Nat := List.replicate 16 0
  sendFull : Bool := false
  evData : List Nat := List.replicate 12 0
  postDenied : Bool := false
  dmaHbm : List Nat := [0, 0, 0]
  dmaLocal : Nat := 0
  dmaLen : Nat := 0
  dmaGo : Nat := 0
  tags : List Nat := List.replicate 8 0
  dmaOut : Nat := 0                  -- requests pending
  dmaDone : Bool := false            -- a request has completed since a WAIT last ended
  timeLatch : List Nat := [0, 0, 0]
  job : Nat := 0                     -- its CORE_RUN START, 0 none
  scrBase : Nat := 0
  scrSize : Nat := 0
  dmaRate : Nat := 0
  posts : List Nat := []             -- sample times of the posts of the last second (R201)
  used : Nat := 0                    -- cycles used in this tick (R205)
  capped : Bool := false
  ending : Option CoreEnd := none    -- ends once its DMA requests have completed
  accHot : Nat := 0                  -- accumulators the previous instruction wrote by MAC, MSU or MPY (R197)
  pHot : Nat := 0                    -- pointers the previous F1 or F2 instruction wrote
  waitCause : Nat := 0               -- why the instruction at PC has stalled since its issue (R395), 0 it has not
  deriving DecidableEq, Repr

/-! ## DMA (chapter 13) -/

/-- Whose transfer it is. -/
inductive XOwner where
  | core (n c tag : Nat)
  | move (job : Nat)
  | extract (job : Nat)
  deriving DecidableEq, Repr

/-- A transfer on a DMA channel (R293, R294). Spaces: 0 host, 1 HBM, 2 core data memory. -/
structure Xfer where
  owner : XOwner
  srcSpace : Nat
  dstSpace : Nat
  share : Nat
  burst : Nat
  retry : Nat
  bar : Bool
  irqHalf : Bool
  irqFull : Bool
  length : Nat
  src : Nat
  dst : Nat
  gap : Nat                  -- least sample times between the starts of bursts k and k + 16; 0 unpaced
  host : List Nat            -- bytes the host memory of the source holds
  issued : Nat := 0          -- bursts issued
  flight : List Nat := []    -- bursts issued and not complete
  tries : List (Nat × Nat) := []  -- retries per burst
  retries : Nat := 0
  lastErr : Nat := 0
  starts : List Nat := []    -- sample times at which the last 16 bursts began, newest first
  fail : Option Nat := none  -- the burst whose retries are exhausted
  half : Bool := false       -- the half interrupt has fired
  deriving DecidableEq, Repr

/-- A DMA channel: its transfer, those queued on it. -/
structure Chan where
  cur : Option Xfer := none
  queue : List Xfer := []
  deriving DecidableEq, Repr

/-- An EXTRACT in progress (R236 to R238). -/
structure ExtractSt where
  job : Nat
  freeze : Nat
  release : Bool
  plan : List (Nat × Nat × Nat × Nat × Nat)  -- blocks not yet read: slot, index, first sample time, beats, divider
  grans : List Nat                       -- granules a live extract holds
  stream : Option Nat
  lost : Nat
  deriving DecidableEq, Repr

/-! ## Recordings (chapter 14) -/

/-- A recording's stream map entry (Table 14.7): stream ID, TAG, kind, JOIN_CSEQ. -/
structure MapEnt where
  id : Nat
  tag : Nat
  kind : Nat
  join : Nat
  deriving DecidableEq, Repr

/-- An open recording (R330 to R338). `job` is its RECORD_START. -/
structure Rec where
  job : Nat
  p : List Nat                       -- the words of its RECORD_START
  cseq : Nat := 0                    -- chunks written
  chain : List Nat := []             -- chain value of the last chunk, 32 bytes
  prevH : List Nat := zeros 32       -- chain value at the end of the segment before
  map : List MapEnt := []
  seg : Nat := 0                     -- segment in progress
  begun : Bool := false              -- its header has been written
  ofs : Nat := 0                     -- bytes of its data area filled
  index : List (Nat × Nat × Nat) := []  -- 64 KiB span, offset in it of the first chunk header, that chunk's ST
  ckpt : Nat := 0                    -- sample time of the last checkpoint
  iv : Nat := 0                      -- IV_PREFIX
  need : Nat := 0                    -- bytes of the chunk that does not fit, 0 none
  writes : List (Nat × Option Nat) := []  -- Writes outstanding: namespace, CSEQ of a chunk
  held : List (Nat × Nat) := []      -- chunks written and not flushed: namespace, CSEQ
  flushes : List Nat := []           -- namespaces with a Flush outstanding
  tries : List (Nat × Nat) := []     -- retries of the oldest command per namespace
  ended : Option (Nat × Nat × Nat) := none -- end code, status, RECORD_STOP job, once the last command is issued
  deriving DecidableEq, Repr

/-! ## Security (chapter 17) -/

/-- A key of the key store: handle, TYPE, its material by name, invocation counter. -/
structure Key where
  handle : Nat
  type : Nat
  mat : Nat
  ctr : Nat
  deriving DecidableEq, Repr

/-- Security state beside the SEC registers. -/
structure SecSt where
  keys : List Key := []              -- handles 1 to 99
  nextMat : Nat := 1                 -- MODEL'S OWN: names the key material made so far
  vendor : List (List Nat) := []     -- vendor key hashes in OTP, slots 0 to 3 (R368); a slot not listed holds zeros
  owner : List Nat := []             -- owner key hash in OTP, empty while unset
  fwSvn : Nat := 0                   -- SVN of the running firmware
  fwSlot : Nat := 4                  -- vendor slot that verified it, 4 none
  entropyBad : Bool := false
  exhausted : Bool := false          -- the reseed counter has reached 2^24 (R378)
  zeroise : Option (Nat × Nat) := none  -- zeroisation in progress: scope, KEY_OP job (0 none)
  secure : Option Bool := none       -- STRAP_SECURE at the previous boot
  deriving DecidableEq, Repr

/-! ## Display (chapter 15) -/

/-- A timing COMMIT accepted and not in effect (R346). -/
structure VidChange where
  job : Nat
  cap : RegFile
  target : Nat
  deriving DecidableEq, Repr

/-- Display state beside the VID registers. -/
structure VidSt where
  pend : List VidChange := []
  frame : Option (Nat × Nat × Nat) := none   -- pending register: job, BASE, STRIDE
  shadow : List (Nat × Nat) := []            -- palette shadow entries that differ from the palette in force
  loaded : Bool := false                     -- the shadow waits for a blanking
  match_ : Nat := 0                          -- LINE_MATCH taken at the start of the frame
  under : Nat := 0                           -- underrun lines of the frame
  modeDone : Bool := false                   -- MODE_DONE is due when the first frame of the new mode begins
  blanking : Bool := false
  sink : Option (Nat × Nat) := none          -- what both ends support: lanes, rate
  auxReq : Bool := false
  deriving DecidableEq, Repr

/-! ## Housekeeping (chapter 16) -/

/-- Housekeeping state beside the HK registers. -/
structure HkSt where
  rep : Nat := 0               -- conversions of the entry done
  delay : Bool := true         -- the entry's DELAY runs
  next : Option (List Nat) := none   -- a new table that waits for the conversion in progress
  nextJob : Nat := 0
  mode : Nat := 0              -- mode in force
  tdac : Nat := 0              -- TDAC word in force
  time : Nat := 0              -- TIME in force
  calDue : Bool := false       -- a pass has ended: the self-calibration is due
  leg : Option (Nat × Nat) := none   -- LK2 conversion: channel, rail
  written : List Nat := []     -- slots whose limits were written since their last result (R364)
  deriving DecidableEq, Repr

/-! ## Self-test (chapter 18) -/

/-- A self-test in progress: the job that asked for it (0 the rotation), region, test type, a FAULT_ACK RETURN, its fault. -/
structure BistRun where
  job : Nat
  kind : Nat
  index : Nat
  type : Nat
  ack : Bool
  flt : Nat
  deriving DecidableEq, Repr

/-- A rotation step or the hand-back of a repaired slice (R290, R400 to R402): logical slice, phase (0 attach, 1 test,
2 hand-back), the physical slices that hand over and take over, the tick boundary A, the step's own or a repair's. -/
structure RotSt where
  m : Nat
  phase : Nat
  from_ : Nat
  to_ : Nat
  a : Nat
  repair : Bool
  deriving DecidableEq, Repr

/-! ## Jobs that stand over a function (chapter 12) -/

/-- A QUIESCE in progress: its job, function, MODE, the sample time at which its TIMEOUT runs out. -/
structure Quiesce where
  job : Nat
  func : Nat
  mode : Nat
  stop : Nat
  deriving DecidableEq, Repr

/-! ## The block -/

/-- The state of the block. -/
structure State where
  pending : List Instr := []           -- commands waiting, first in first out (the row's cut)
  regs : RegFile := []                 -- BAR0 words stored; shadow of SH registers (R8)
  force : RegFile := []                -- words in force of SH registers (R8)
  rlLatch : RegFile := []              -- high words latched by a read of the low word (R8)
  rlPend : RegFile := []               -- low words written and waiting for the high word (R8)
  samp : Nat := 0                      -- sample time of the latest beat boundary (R17)
  freeCtr : Nat := 0                   -- MODEL'S OWN: counts the free values used
  out : List Out := []                 -- MODEL'S OWN: what has left the block, oldest first
  jobs : List Job := []                -- accepted jobs, in order of acceptance (R252, R282)
  nextJob : Nat := 1
  evq : List Ev := []                  -- events raised and not yet posted or logged (R262)
  evlog : List Ev := []                -- the MRAM event log (R262)
  evPhase : Nat := 1                   -- PHASE of the next event record (R260, R264)
  journal : List JRec := []            -- journal records not retired (R281, R282)
  faults : List Flt := []              -- fault records, oldest first (R278)
  parked : Bool := false               -- a PARK record is the journal's last word (R283)
  everUsed : Bool := false             -- the journal has been written since manufacture (R284)
  cqs : List CqSt := List.replicate 64 {}
  msixBusy : List Nat := []            -- vectors within 1 µs of firing (R247)
  msixMerged : List Nat := []          -- vectors with triggers merged meanwhile
  msixMasked : List Nat := []          -- vectors masked in the MSI-X table
  msixPend : List Nat := []            -- pending bits of masked vectors
  fetchFail : List (Nat × Nat × Nat) := []  -- ring, failed attempts, index of a descriptor fetch being retried (R250)
  lastRing : Nat := 63                 -- ring served last (R250)
  recent : Nat := 0                    -- ring entries issued in the 10 µs before the loss of the host link (R265)
  resumeHold : Nat := 0                -- CAUSE of the RESUME to post, 0 none (R285)
  resumeFlags : Nat := 0
  resumeFunc : Nat := 0
  oldEpoch : Nat := 0
  oldSt : Nat := 0
  oldTod : Nat := 0
  jseqLast : Nat := 0
  unknown : Nat := 0                   -- jobs completed under R286
  abandoned : Bool := false            -- RESUME waits for the first event ring enabled (R285)
  capOut : List Nat := []               -- resources lost entirely to a fault (R280)
  ctlPair : Nat := 0                   -- control pair in charge (R277)
  ctlFailed : List Nat := []           -- control pairs failed
  straps : Nat := 0                    -- straps latched, as ID.STRAP (R407)
  pins : Nat := 0                      -- TRIG_OUT[3:0] levels (R33, R125)
  pulses : List Nat := [0, 0, 0, 0]    -- trigger pulses that hold each TRIG_OUT pin (R125)
  hbm : Hbm := {}
  clk : ClkSt := {}
  slots : List SlotSt := (List.range 8).map (fun _ => {})
  attens : List AttenReq := []
  cal : CalSt := {}
  slices : List Slice := (List.range 9).map (fun n => { phys := n })
  sliceFailed : List Nat := []         -- physical slices failed and not returned (R276)
  trigIn : Nat := 0                    -- TRIG_IN levels last sampled (R119)
  counts : List Counter := []          -- performance counters that have counted (R386)
  snapped : List Counter := []         -- their shadows at the last copy (R392)
  snaps : List SnapReq := []           -- SNAPSHOTs pending (R391)
  smp : List SmpSt := List.replicate 8 {}
  tuners : List Tuner := List.replicate 36 {}  -- four per logical slice: 4n + t
  zooms : List Zoom := List.replicate 9 {}
  streams : List Stream := []          -- open streams, in order of acceptance
  xcor : Xcor := {}
  cores : List Core := List.replicate 144 {}   -- sixteen per logical slice: 16n + c
  chans : List Chan := List.replicate 32 {}    -- DMA channels
  extracts : List ExtractSt := []
  recs : List Rec := []                -- open recordings
  sec : SecSt := {}
  vid : VidSt := {}
  hk : HkSt := {}
  bists : List BistRun := []
  rot : Option RotSt := none
  rotNext : Nat := 0                   -- logical slice of the next rotation step (R400)
  sliceBack : List Nat := []           -- repaired slices that wait for their hand-back (R290)
  quiesces : List Quiesce := []
  linkLost : Bool := false             -- the host link went down without a reset of the function (R265)
  intr : Nat := 0                      -- jobs completed INTERRUPTED since the last RESUME (R287)
  jlast : Nat × Nat × Nat := (0, 0, 0) -- JSEQ, sample time and time of day of the last journal record (R287)
  inReset : Bool := false              -- a core rail has tripped and the block holds itself in reset (R420)
  rails : List Nat := []               -- rail groups tripped: 0 core, 1 converter, 2 HBM, 3 SerDes; 4 while intakes calibrate after 1
  bootTests : Nat := 0                -- MODEL'S OWN: the self-tests that fail at this boot (R383), kept for a recovery image
  booted : Bool := false               -- the firmware runs
  resetDue : Nat := 0                  -- a QUIESCE RESET waits for earlier completions: its job, 0 none
  sram : List (Nat × Byte) := []       -- SRAM bytes written through the debug window (R244)
  aux : Nat := 0                       -- AUX requests sent
  deriving DecidableEq, Repr

/-- The machine right after reset: every register at the value of its table (no word listed), every unit idle, no
command waiting. -/
def State.reset : State := {}

end Sys2Proof.Machine
end

