-- ==== Sys2Proof/Machine/Regs.lean ====
section
/-! DEFINITION. Reading and writing BAR0 register words, register fields, shadow and in-force values (R6 to R9). -/

namespace Sys2Proof.Machine

/-- The word a sparse register file lists at an address. -/
def rfGet : RegFile → Nat → Option Word
  | [], _ => none
  | (b, w) :: t, a => if b = a then some w else rfGet t a

/-- Write one word of a sparse register file, kept in ascending order of address. -/
def rfPut : RegFile → Nat → Word → RegFile
  | [], a, v => [(a, v)]
  | (b, w) :: t, a, v =>
    if b = a then (a, v) :: t
    else if a < b then (a, v) :: (b, w) :: t
    else (b, w) :: rfPut t a v

/-- The words of a file whose address lies outside [lo, hi). -/
def rfDrop (l : RegFile) (lo hi : Nat) : RegFile := l.filter (fun p => p.1 < lo || hi ≤ p.1)

/-- The row of the register map that describes the word at offset `a`, searched among one block's rows. -/
def findRow (l : List RegRow) (a : Nat) : Option RegRow :=
  l.find? (fun r =>
    r.base ≤ a && (a - r.base) / r.s1 < r.n1 && ((a - r.base) % r.s1) / r.s2 < r.n2
      && ((a - r.base) % r.s1) % r.s2 = 0)

/-- The rows of the block an offset lies in (R10). -/
def blockRows (a : Nat) : List RegRow :=
  if a < 0x10000 then rows19
  else if a < 0x20000 then rows04
  else if a < 0x30000 then rows02
  else if a < 0x40000 then rows03
  else if a < 0x80000 then rows16
  else if a < 0x580000 then rows05 ++ rows06 ++ rows07 ++ rows09
  else if a < 0x600000 then rows08
  else if a < 0x680000 then rows10
  else if a < 0x700000 then rows13
  else if a < 0x740000 then rows11
  else if a < 0x780000 then rows12
  else if a < 0x800000 then rows14
  else if a < 0x840000 then rows15
  else if a < 0x880000 then rows17
  else if a < 0x8C0000 then rows18
  else rows12 ++ rows19

/-- The register-map row of the word at BAR0 offset `a`; none where the offset is unassigned (R7). -/
def regRow (a : Nat) : Option RegRow := findRow (blockRows a) a

/-- Word `i` of the housekeeping sequence table right after a power-on reset (R360). -/
def hkTableReset (i : Nat) : Nat := nth Config.hkDefaultTable i 0

/-- The reset value of the register word at offset `a`, where the tables give it per index (R47 to R417). -/
def regReset (a : Nat) : Word :=
  if a = 0x880444 then 0x1D3B6E07#32
  else if a = 0x703004 then 0x01FFFFFE#32
  else if 0x800400 ≤ a && a < 0x800800 && a % 4 = 0 then
    let i := (a - 0x800400) / 4
    let g := 4 * i + i / 64
    BitVec.ofNat 32 (g + 1024 * g + 1048576 * g)
  else if 0x740100 ≤ a && a < 0x740300 && a % 4 = 0 then
    BitVec.ofNat 32 (Config.admReset ((a - 0x740100) / 16) ((a - 0x740100) % 16))
  else if 0x40800 ≤ a && a < 0x40900 && a % 4 = 0 then BitVec.ofNat 32 (hkTableReset ((a - 0x40800) / 4))
  else if 0x100 ≤ a && a < 0x1A8 && a % 4 = 0 then BitVec.ofNat 32 (Config.bistExpected (a / 4))
  else
    match regRow a with
    | some r => BitVec.ofNat 32 r.reset
    | none => 0#32

/-- The stored word of the register at offset `a` (for SH registers: the shadow, R8). -/
def State.reg (s : State) (a : Nat) : Word := (rfGet s.regs a).getD (regReset a)

/-- The word in force of an SH register (R8). -/
def State.forceReg (s : State) (a : Nat) : Word := (rfGet s.force a).getD (regReset a)

/-- Store a register word. -/
def State.setReg (s : State) (a : Nat) (v : Word) : State := { s with regs := rfPut s.regs a v }

/-- Store a word in force. -/
def State.setForceReg (s : State) (a : Nat) (v : Word) : State := { s with force := rfPut s.force a v }

/-- The value of a register field (a field wider than its word goes on in the next word). -/
def State.fld (s : State) (f : FRef) : Nat :=
  if f.lo + f.w ≤ 32 then bits (s.reg f.addr).toNat f.lo f.w
  else bits ((s.reg f.addr).toNat + 2 ^ 32 * (s.reg (f.addr + 4)).toNat) f.lo f.w

/-- Store a register field. -/
def State.setFld (s : State) (f : FRef) (v : Nat) : State :=
  if f.lo + f.w ≤ 32 then s.setReg f.addr (BitVec.ofNat 32 (setBits (s.reg f.addr).toNat f.lo f.w v))
  else
    let x := setBits ((s.reg f.addr).toNat + 2 ^ 32 * (s.reg (f.addr + 4)).toNat) f.lo f.w v
    (s.setReg f.addr (BitVec.ofNat 32 x)).setReg (f.addr + 4) (BitVec.ofNat 32 (x / 2 ^ 32))

/-- A one-bit field as a truth value. -/
def State.flag (s : State) (f : FRef) : Bool := s.fld f = 1

/-- The value in force of a field of an SH register. -/
def State.inf (s : State) (f : FRef) : Nat :=
  if f.lo + f.w ≤ 32 then bits (s.forceReg f.addr).toNat f.lo f.w
  else bits ((s.forceReg f.addr).toNat + 2 ^ 32 * (s.forceReg (f.addr + 4)).toNat) f.lo f.w

/-- Store a field in force. -/
def State.setInf (s : State) (f : FRef) (v : Nat) : State :=
  if f.lo + f.w ≤ 32 then s.setForceReg f.addr (BitVec.ofNat 32 (setBits (s.forceReg f.addr).toNat f.lo f.w v))
  else
    let x := setBits ((s.forceReg f.addr).toNat + 2 ^ 32 * (s.forceReg (f.addr + 4)).toNat) f.lo f.w v
    (s.setForceReg f.addr (BitVec.ofNat 32 x)).setForceReg (f.addr + 4) (BitVec.ofNat 32 (x / 2 ^ 32))

/-- The words a COMMIT captures: the shadow of every listed address (R259). -/
def State.capture (s : State) (l : List Nat) : RegFile := l.map (fun a => (a, s.reg a))

/-- Captured words taken into force. -/
def State.apply (s : State) (c : RegFile) : State := { s with force := c.foldl (fun f p => rfPut f p.1 p.2) s.force }

/-- A captured value of a field; the value in force where the capture does not hold the word. -/
def State.capFld (s : State) (c : RegFile) (f : FRef) : Nat :=
  let g a := (rfGet c a).getD (s.forceReg a)
  if f.lo + f.w ≤ 32 then bits (g f.addr).toNat f.lo f.w
  else bits ((g f.addr).toNat + 2 ^ 32 * (g (f.addr + 4)).toNat) f.lo f.w

/-- Add one to a field, saturating at its top value. -/
def State.incSat (s : State) (f : FRef) : State :=
  if s.fld f + 1 < 2 ^ f.w then s.setFld f (s.fld f + 1) else s

/-- Add one to a field, wrapping. -/
def State.incWrap (s : State) (f : FRef) : State := s.setFld f (s.fld f + 1)

/-- The registers of a block back to their reset values (R414), but for the RWS bits, whose words are kept. -/
def State.resetRegs (s : State) (lo hi : Nat) : State :=
  { s with
    regs := (rfDrop s.regs lo hi) ++ ((s.regs.filter (fun p => lo ≤ p.1 && p.1 < hi)).filterMap (fun p =>
      match regRow p.1 with
      | some r => if r.rws = 0 then none
          else some (p.1, (p.2 &&& BitVec.ofNat 32 r.rws) ||| (regReset p.1 &&& ~~~ BitVec.ofNat 32 r.rws))
      | none => none))
    force := rfDrop s.force lo hi
    rlLatch := rfDrop s.rlLatch lo hi
    rlPend := rfDrop s.rlPend lo hi }

/-- What a host write of an RW/W1C/RO word leaves in it, by the row's masks (R7, R8): RW bits take the value written,
W1C bits are cleared by a 1, every other bit is kept. -/
def writeMasked (r : RegRow) (old v : Word) : Word :=
  let rw := BitVec.ofNat 32 r.rw ||| BitVec.ofNat 32 r.rws
  let w1 := BitVec.ofNat 32 r.w1c
  (old &&& ~~~ rw &&& ~~~ (w1 &&& v)) ||| (v &&& rw)

end Sys2Proof.Machine
end

