-- ==== Sys2Proof/Machine/Ops.lean ====
section
/-! DEFINITION. The operations every unit shares: rates and times, events, fault records, the journal, completions and
resources (chapters 04, 11 and 12). -/

namespace Sys2Proof.Machine

/-! ## Status codes (R254) -/

/-- Completion status codes, Table 11.12. -/
def stDone : Nat := 0x00
def stFlagged : Nat := 0x01
def stPartial : Nat := 0x02
def stInterrupted : Nat := 0x03
def stShed : Nat := 0x04
def stCancelled : Nat := 0x05
def stRefFormat : Nat := 0x10
def stRefBudget : Nat := 0x11
def stRefSequence : Nat := 0x12
def stRefWindow : Nat := 0x13
def stRefSecurity : Nat := 0x14
def stRefState : Nat := 0x15
def stErrBus : Nat := 0x20
def stErrFinal : Nat := 0x21
def stErrMedia : Nat := 0x22
def stErrCheck : Nat := 0x23

/-- A refusal: status, DETAIL_WORD, DETAIL_RES (R252, R253). -/
structure Refuse where
  status : Nat
  dword : Nat
  dres : Nat
  deriving DecidableEq, Repr

def refuseFormat (k : Nat) : Option Refuse := some ⟨stRefFormat, k, 0⟩
def refuseState : Option Refuse := some ⟨stRefState, 0xFF, 0⟩
def refuseWindow : Option Refuse := some ⟨stRefWindow, 0xFF, 0⟩
def refuseSecurity : Option Refuse := some ⟨stRefSecurity, 0xFF, 0⟩

/-- The first refusal of a list of checks (R252: only the first check that fails is reported). -/
def firstRefusal : List (Option Refuse) → Option Refuse
  | [] => none
  | some r :: _ => some r
  | none :: t => firstRefusal t

/-- A check: the refusal `r` where `bad` holds. -/
def check (bad : Bool) (r : Option Refuse) : Option Refuse := if bad then r else none

/-! ## Rates and times -/

/-- Reference frequency of the digital loops in Hz, by SRC (R65, Table 4.1). -/
def refHz (src : Nat) : Nat := if src = 0 then 10000000 else 100000000

/-- PDIV of its field (R68). -/
def pdivOf (x : Nat) : Nat := if x = 0 then 64 else if x = 1 then 80 else 96

/-- A frequency in Hz as a fraction. -/
structure Rate where
  num : Nat
  den : Nat
  deriving DecidableEq, Repr

/-- f_NTO of R68 for given field values. -/
def ntoRate (src mul div : Nat) : Rate := ⟨refHz src * mul, div⟩

/-- f_VCO of R68. -/
def vcoRate (r : Rate) (n frac : Nat) : Rate := ⟨r.num * (n * 2 ^ 24 + frac), r.den * 2 ^ 24⟩

/-- FS of R68, before any trim. -/
def fsRate (vco : Rate) (odiv pdiv : Nat) : Rate := ⟨vco.num * 64, vco.den * ((odiv + 1) * pdivOf pdiv)⟩

/-- f_NTO in force. -/
def State.nto (s : State) : Rate :=
  ntoRate (s.inf Fr.CLK_REF_SRC) (s.inf Fr.CLK_NTO_MUL) (Nat.max 1 (s.inf Fr.CLK_NTO_DIV))

/-- FS in force, before any trim (R68). -/
def State.fs (s : State) : Rate :=
  fsRate (vcoRate s.nto (s.inf Fr.CLK_FS_N) (s.inf Fr.CLK_FS_FRAC)) (s.inf Fr.CLK_FS_ODIV) (s.inf Fr.CLK_FS_PDIV)

/-- FS in force with the trim (R83): the trim is in 0.001 ppm. -/
def State.fsNow (s : State) : Rate :=
  ⟨(s.fs.num * ((10 ^ 9 : Int) + signed 19 (s.fld Fr.CLK_TRIM_NOW)).toNat), s.fs.den * 10 ^ 9⟩

/-- floor(x × r) for a duration x = a/b seconds: periods of a rate. -/
def Rate.floorMul (r : Rate) (a b : Nat) : Nat := r.num * a / (r.den * b)

/-- ceil(x × r). -/
def Rate.ceilMul (r : Rate) (a b : Nat) : Nat := ceilDiv (r.num * a) (r.den * b)

/-- Samples of FS in `ns` nanoseconds, rounded up. -/
def State.samplesOfNs (s : State) (ns : Nat) : Nat := s.fs.ceilMul ns (10 ^ 9)

/-- Is a rate within lo..hi Hz, both included. -/
def Rate.within (r : Rate) (lo hi : Nat) : Bool := lo * r.den ≤ r.num && r.num ≤ hi * r.den

/-- The tick in ps under the FS in force: 1,024 CK_DP periods (R2, R268). -/
def State.tickPs (s : State) : Nat := 16384 * 10 ^ 12 * s.fs.den / s.fs.num

/-- tod(t) of R83, rounded half up to 1 ns. -/
def State.todAt (s : State) (t : Nat) : Nat :=
  let f := s.fsNow
  let d : Int := (t : Int) - s.clk.pairSt
  ((s.clk.pairTod : Int) + (2 * d * (10 ^ 9 * f.den : Nat) + (f.num : Nat)) / (2 * (f.num : Nat) : Nat)).toNat

/-- The time of day now. -/
def State.todNow (s : State) : Nat := s.todAt s.samp

/-- EPOCH_COUNT[7:0]. -/
def State.epoch8 (s : State) : Nat := s.fld Fr.CLK_EPOCH_COUNT % 256

/-- The sample time 50 µs after now, the earliest target of a timed job (R158, R272). -/
def State.earliest (s : State) : Nat := s.samp + s.samplesOfNs 50000

/-! ## Free values -/

/-- The next free value (a value the spec leaves open). -/
def State.free (s : State) : Nat := Config.freeValue s.freeCtr

/-- The state after a free value is used. -/
def State.useFree (s : State) : State := { s with freeCtr := s.freeCtr + 1 }

/-- The state after `n` free values are used. -/
def State.useFrees (s : State) (n : Nat) : State := { s with freeCtr := s.freeCtr + n }

/-- Log something that leaves the block. -/
def State.emit (s : State) (o : Out) : State := { s with out := s.out ++ [o] }

/-! ## Performance counters (R386, R389) -/

/-- Add `n` to a count of 48 bits; each wrap adds 1 to WRAPS, whose own wrap sets OVF. -/
def Counter.add (c : Counter) (n : Nat) : Counter :=
  let v := c.value + n
  let w := c.wraps + v / 2 ^ 48
  { c with value := v % 2 ^ 48, wraps := w % 256, ovf := c.ovf || 256 ≤ w }

/-- Change the counter of a unit and event, which counts from 0 when it first counts. -/
def modCounter (f : Counter → Counter) : List Counter → Nat → Config.Count → List Counter
  | [], u, e => [f ⟨u, e, 0, 0, false⟩]
  | c :: t, u, e => if c.unit = u && c.event = e then f c :: t else c :: modCounter f t u e

/-- Count `n` events of a unit. -/
def State.count (s : State) (unit : Nat) (e : Config.Count) (n : Nat) : State :=
  if n = 0 then s else { s with counts := modCounter (fun c => c.add n) s.counts unit e }

/-! ## Which units are powered (R16) -/

/-- Is STRAP_INPUTS 1 (four active inputs)? -/
def State.fourInputs (s : State) : Bool := bit s.straps 6

/-- Is unit `n` (an input slot, intake, slice or link) powered? Unit 8 always is. -/
def State.powered (s : State) (n : Nat) : Bool := n = 8 || n < 4 || !s.fourInputs && n < 8

/-- Approved mode (R381). -/
def State.approved (s : State) : Bool := bit s.straps 8

/-! ## Events (R260 to R262) -/

/-- Raise an event stamped with a sample time: it takes the next EVSEQ and waits to be posted. -/
def State.raiseAt (s : State) (cls cause func st : Nat) (pay : List Nat) : State :=
  let e : Ev := ⟨s.fld Fr.HIF_EVSEQ_NEXT, cls, cause, func, st, padTo 48 pay⟩
  { (s.incWrap Fr.HIF_EVSEQ_NEXT) with evq := s.evq ++ [e] }

/-- Raise an event now. -/
def State.raise (s : State) (cls cause func : Nat) (pay : List Nat) : State := s.raiseAt cls cause func s.samp pay

/-- A CLOCK event with its source (R90, R261). -/
def State.clockEv (s : State) (cause source : Nat) : State :=
  s.raise 6 cause 0 (source :: zeros 7 ++ le 8 s.todNow)

/-- A LINK event (R261): kind, index, LINK_STAT.STATE. -/
def State.linkEv (s : State) (cause kind index state : Nat) : State := s.raise 8 cause 0 [kind, index, state]

/-- A MEMORY event (R241, R261). -/
def State.memEv (s : State) (cause pc slot : Nat) : State := s.raise 7 cause 0 [pc, slot]

/-- A CAL event (R63, R261). -/
def State.calEv (s : State) (cause intake input : Nat) : State := s.raise 3 cause 0 [intake, input]

/-- The 64 bytes of an event record (Table 11.9). -/
def evBytes (e : Ev) (phase : Nat) : List Nat :=
  [e.cls % 16, e.cause % 256, e.func % 16, 128 * (phase % 2)] ++ le 4 e.evseq ++ le 8 e.st ++ padTo 48 e.pay

/-- The classes whose events are discarded first when the log is full (R262). -/
def evLow (c : Nat) : Bool := c = 1 || c = 2 || c = 0xD || c = 0xB || c = 0xC

/-- Entries of a ring of 2^k. -/
def ringSize (k : Nat) : Nat := 2 ^ k

/-- Distance from index `a` forward to index `b` modulo 2 × 2^k (R249). -/
def ringDist (k a b : Nat) : Nat := (b + 2 * ringSize k - a % (2 * ringSize k)) % (2 * ringSize k)

/-- The index after `a`. -/
def ringNext (k a : Nat) : Nat := (a + 1) % (2 * ringSize k)

/-! ## MSI-X (R247) -/

/-- Trigger an MSI-X vector: merged within 1 µs of its last message, pending while masked. -/
def State.fireVector (s : State) (v : Nat) : State :=
  if s.msixMasked.contains v then { s with msixPend := (v :: s.msixPend).eraseDups }
  else if s.msixBusy.contains v then { s with msixMerged := (v :: s.msixMerged).eraseDups }
  else { (s.emit (.msix v)) with msixBusy := v :: s.msixBusy }

/-! ## FAULT_N and fault records (R278, R415) -/

/-- FLT.PIN.WHY and STATE as the conditions of R415 stand. -/
def State.updatePin (s : State) : State :=
  let boot := !s.flag Fr.HIF_BOOT_DONE
  let err := s.fld Fr.SEC_STATE = 2
  let un := s.faults.any (fun f => !f.acked && bit (s.fld Fr.FLT_PIN_MASK) (f.kind - 1))
  let bey := s.flag Fr.FLTJNL_BEYOND
  let why := b2n boot + 2 * b2n err + 4 * b2n un + 8 * b2n bey
  (s.setFld Fr.FLT_PIN_WHY why).setFld Fr.FLT_PIN_STATE (b2n (0 < why || s.flag Fr.FLT_PIN_FORCE))

/-- The FLT registers as the fault records stand (R292). -/
def State.updateFlt (s : State) : State :=
  let s1 := s.setFld Fr.FLTJNL_UNACKED (s.faults.countP (fun f => !f.acked))
  (s1.setFld Fr.FLTJNL_BEYOND (b2n (s.faults.any (fun f => f.beyond && !f.acked && !f.returned)))).updatePin

/-- Bytes 0 to 47 of a fault record (Table 12.6): the payload of its events. -/
def fltPay (f : Flt) : List Nat :=
  le 4 f.id ++ [f.kind, f.index, f.spare,
    b2n f.beyond + 2 * b2n f.acked + 4 * b2n f.returned + 8 * b2n f.shed + 16 * b2n f.takeover]
  ++ le 8 f.onset ++ le 8 f.detect ++ le 8 f.restored ++ le 8 f.tod ++ [f.slots, f.epoch, 0, 0] ++ le 4 f.affected

/-- The 64 bytes of a fault record. -/
def fltBytes (f : Flt) : List Nat := fltPay f ++ le 4 f.nShed ++ zeros 12

/-- Change the fault record with a given number. -/
def State.modFlt (s : State) (id : Nat) (f : Flt → Flt) : State :=
  ({ s with faults := s.faults.map (fun (r : Flt) => if r.id = id then f r else r) }).updateFlt

/-- The accepted jobs not yet completed that meet a condition. -/
def State.openJobs (s : State) (p : Job → Bool) : List Job := s.jobs.filter (fun j => j.done.isNone && p j)

/-- Create a fault record and post its FAULT event; a takeover also sets SPARE, the flag and posts TAKEOVER (R276,
R278). `hit` are the open jobs the fault affects: each carries the first fault that affected it (R253). -/
def State.fault (s : State) (kind index : Nat) (spare : Option Nat) (beyond : Bool) (onset slots : Nat)
    (restored : Nat) (hit : Job → Bool) : State :=
  let id := s.fld Fr.FLTJNL_LAST_ID + 1
  let n := (s.openJobs hit).length
  let f : Flt := ⟨id, kind, index, spare.getD 0xFF, beyond, false, false, false, spare.isSome, onset, s.samp,
    restored, s.todNow, slots, s.epoch8, n, 0⟩
  let keep := if s.faults.length < 256 then s.faults else s.faults.drop (s.faults.length - 255)
  let s1 := { (s.setFld Fr.FLTJNL_LAST_ID id) with
    faults := keep ++ [f]
    jobs := s.jobs.map (fun (j : Job) => if j.done.isNone && hit j && j.flt = 0 then { j with flt := id } else j) }
  let s2 := s1.updateFlt.raise 4 kind 0 (fltPay f)
  if spare.isSome then s2.raise 5 kind 0 (fltPay f) else s2

/-- The number of the latest fault record. -/
def State.lastFlt (s : State) : Nat := s.fld Fr.FLTJNL_LAST_ID

/-- Note the sample time from which a unit is served again (R278). -/
def State.restoredAt (s : State) (id t : Nat) : State :=
  if id = 0 then s else s.modFlt id (fun f => { f with restored := t })

/-! ## Functions and rings (R245, R246) -/

/-- The VF whose range covers submission ring `r`; 0, the PF, where none does. -/
def State.ownerSq (s : State) (r : Nat) : Nat :=
  ((List.range 16).find? (fun f => 0 < f && s.fld (Fr.FUNC_SQ_FIRST f) ≤ r
    && r < s.fld (Fr.FUNC_SQ_FIRST f) + s.fld (Fr.FUNC_SQ_COUNT f))).getD 0

/-- The VF whose range covers completion ring `q`; 0 where none does. -/
def State.ownerCq (s : State) (q : Nat) : Nat :=
  ((List.range 16).find? (fun f => 0 < f && s.fld (Fr.FUNC_CQ_FIRST f) ≤ q
    && q < s.fld (Fr.FUNC_CQ_FIRST f) + s.fld (Fr.FUNC_CQ_COUNT f))).getD 0

/-- The number function `f` gives to submission ring `r`. -/
def State.localSq (s : State) (f r : Nat) : Nat := if f = 0 then r else r - s.fld (Fr.FUNC_SQ_FIRST f)

/-- The ring that function `f` numbers `i`, none outside its range. -/
def State.globalSq (s : State) (f i : Nat) : Option Nat :=
  if f = 0 then (if i < 64 then some i else none)
  else if i < s.fld (Fr.FUNC_SQ_COUNT f) && s.fld (Fr.FUNC_SQ_FIRST f) + i < 64 then some (s.fld (Fr.FUNC_SQ_FIRST f) + i)
  else none

/-- The completion ring that function `f` numbers `i`. -/
def State.globalCq (s : State) (f i : Nat) : Option Nat :=
  if f = 0 then (if i < 64 then some i else none)
  else if i < s.fld (Fr.FUNC_CQ_COUNT f) && s.fld (Fr.FUNC_CQ_FIRST f) + i < 64 then some (s.fld (Fr.FUNC_CQ_FIRST f) + i)
  else none

/-! ## The journal (R281, R282) -/

/-- Write a journal record. -/
def State.jrec (s : State) (kind func sq : Nat) (d : Desc) (extent cqIdx status flt job : Nat) : State :=
  let r : JRec := ⟨s.fld Fr.FLTJNL_JSEQ_NEXT, kind, func, sq, d.opcode, d.seq, d.token, extent, cqIdx, status, flt,
    job, s.samp, s.todNow, s.fld (Fr.SQ_CQ d.ring)⟩
  { ((s.incWrap Fr.FLTJNL_JSEQ_NEXT).count 426 .journalRecords 1) with
    journal := s.journal ++ [r]
    everUsed := true
    jlast := (r.jseq, s.samp, r.tod) }

/-- A journal record about a job. -/
def State.jrecJob (s : State) (kind : Nat) (j : Job) (status : Nat) : State :=
  s.jrec kind j.func (s.localSq j.func j.ring) j.d j.extent j.cqIdx status j.flt j.id

/-- The 32 bytes of a journal record (Table 12.9). -/
def jrecBytes (r : JRec) : List Nat :=
  le 4 r.jseq ++ [r.kind, r.func, r.sq, r.opcode] ++ le 4 r.seq ++ le 4 r.token ++ le 8 r.extent ++ le 3 r.cqIdx
  ++ [r.status] ++ le 4 r.flt

/-- The number of journal units held (R270): jobs whose records are not retired. -/
def State.updateJnl (s : State) : State := s.setFld Fr.FLTJNL_OPEN_JOBS s.jobs.length

/-! ## Completions (R253 to R256) -/

/-- The 32 bytes of a completion entry (Table 11.5). -/
def cplBytes (e : Cpl) : List Nat :=
  le 4 e.seq ++ le 4 e.token ++ [e.opcode % 256, e.status % 256, e.sq % 64, 0] ++ le 4 e.result ++ le 8 e.extent
  ++ le 4 e.flt ++ [e.dword % 256, e.dres % 256, 0, 128 * (e.phase % 2)]

/-- May ring entries be written now: the host link is up and no RESUME is due (R265, R285). -/
def State.mayPost (s : State) : Bool := s.flag Fr.HIF_LINK_UP && !s.flag Fr.FLTJNL_RESUME_PENDING

/-- Count an eligible completion toward the interrupt of completion ring `q` (R247). -/
def State.coalesce (s : State) (q : Nat) : State :=
  let c := nth s.cqs q {}
  let n := c.elig + 1
  if s.fld (Fr.CQ_US q) = 0 || Nat.max 1 (s.fld (Fr.CQ_N q)) ≤ n then
    ({ s with cqs := modNth s.cqs q (fun _ => {}) }).fireVector (s.fld (Fr.CQ_VECTOR q))
  else { s with cqs := modNth s.cqs q (fun _ => ⟨n, true⟩) }

/-- Write one completion entry at the tail of its completion ring: the reserved entry is used, PHASE toggles on each
wrap (R253), an eligible one counts toward the interrupt (R247). -/
def State.postEntry (s : State) (q : Nat) (e : Cpl) (interrupt : Bool) : State :=
  let k := s.fld (Fr.CQ_LOG2SIZE q)
  let tail := s.fld (Fr.CQ_TAIL q)
  let slot := tail % ringSize k
  let e1 := { e with phase := s.fld (Fr.CQ_PHASE q) }
  let next := ringNext k tail
  let s1 := s.emit (.completion q slot e1 (cplBytes e1))
  let s2 := (s1.setFld (Fr.CQ_TAIL q) next).setFld (Fr.CQ_RESERVED q) (s.fld (Fr.CQ_RESERVED q) - 1)
  let s3 := if next % ringSize k = 0 then s2.setFld (Fr.CQ_PHASE q) (1 - s.fld (Fr.CQ_PHASE q)) else s2
  if interrupt || 1 < e.status then s3.coalesce q else s3

/-- Change the job with a given number. -/
def State.modJob (s : State) (id : Nat) (f : Job → Job) : State :=
  { s with jobs := s.jobs.map (fun (j : Job) => if j.id = id then f j else j) }

/-- The job with a given number. -/
def State.job (s : State) (id : Nat) : Option Job := s.jobs.find? (fun j => j.id = id)

/-- Is a job accepted and not completed? -/
def State.jobOpen (s : State) (id : Nat) : Bool := s.jobs.any (fun j => j.id = id && j.done.isNone)

/-- An open standing job's STANDING bit of its ring. -/
def State.updateStanding (s : State) (r : Nat) : State :=
  s.setFld (Fr.SQ_STANDING r) (b2n (s.jobs.any (fun j => j.ring = r && j.standing && j.done.isNone)))

/-- Complete an open job: its status, RESULT and EXTENT are set and its reservations return (R270); its entry is
posted in ring order later (R255). -/
def State.complete (s : State) (id status result extent : Nat) : State :=
  match s.job id with
  | none => s
  | some j =>
    if j.done.isSome then s
    else
      let st := if status = stDone && j.flt ≠ 0 then stFlagged else status
      (s.modJob id (fun j =>
        { j with done := some st, result := result, extent := extent, res := [], waiting := false })).updateStanding
          j.ring

/-- Set what an open job has done so far. -/
def State.setExtent (s : State) (id extent : Nat) : State :=
  s.modJob id (fun j => if j.done.isNone then { j with extent := extent } else j)

/-- Post the oldest job of ring `r` not yet posted, if it has completed: COMPLETING, the entry, POSTED (R255, R282). -/
def State.postHead (s : State) (r : Nat) : State :=
  match s.jobs.find? (fun j => j.ring = r && !j.posted) with
  | none => s
  | some j =>
    match j.done with
    | none => s
    | some st =>
      let j1 := { j with cqIdx := s.fld (Fr.CQ_TAIL j.cq) }
      let s1 := s.jrecJob 3 j1 st
      let s2 := s1.postEntry j.cq ⟨j.d.seq, j.d.token, j.d.opcode, st, s.localSq j.func j.ring, j.result, j.extent,
        j.flt, 0xFF, 0, 0⟩ (bit j.d.flags 9)
      let s3 := (s2.modJob j.id (fun x => { x with posted := true, cqIdx := j1.cqIdx })).jrecJob 4 j1 st
      s3.setFld (Fr.SQ_OUTSTANDING r) (s3.fld (Fr.SQ_OUTSTANDING r) - 1)

/-- HIF.STAT.HELD: completions or events are held (R262, R265). -/
def State.updateHeld (s : State) : State :=
  let held := !s.evlog.isEmpty || (!s.flag Fr.HIF_LINK_UP && s.jobs.any (fun j => j.done.isSome && !j.posted))
  (s.setFld Fr.HIF_LOG_HELD s.evlog.length).setFld Fr.HIF_HELD (b2n held)

/-! ## Resources (R268, R269) -/

/-- Units per tick of a rate given in bytes per second, for a unit of `unit` bytes. -/
def State.unitsOf (s : State) (bytesPerS unit : Nat) : Nat :=
  ceilDiv (bytesPerS * 16384 * s.fs.den) (s.fs.num * unit)

/-- floor(rate × tick / unit): a capacity (R268). -/
def State.capUnits (s : State) (bytesPerS unit : Nat) : Nat := bytesPerS * 16384 * s.fs.den / (s.fs.num * unit)

/-- The ring in bytes. -/
def State.ringBytes (s : State) : Nat := s.fld Fr.MEM_RING_GIB * 2 ^ 30

/-- C of resource `c` under the FS and memory in force (Table 12.1). -/
def State.capacity (s : State) (c : Nat) : Nat :=
  if s.capOut.contains c then 0
  else match c with
    | 1 => s.capUnits (20000000000 * s.fld Fr.MEM_N_ACT) 64
    | 2 => s.capUnits 480000000000 64
    | 3 => 16384
    | 4 => s.capUnits 56000000000 64
    | 5 => s.capUnits 56000000000 64
    | 6 => s.capUnits 47000000000 64
    | 7 => s.capUnits 47000000000 64
    | 8 => s.capUnits 28000000000 64
    | 9 => 327680
    | 10 => s.capUnits (2000000 * 256) 1
    | 11 => 16384
    | 12 => s.ringBytes / 2
    | 13 => 64
    | n => if 16 ≤ n && n ≤ 24 then 4096 else 0

/-- The ceiling of a resource: floor(0.9 × C) but for 0x02, 0x0C and 0x0D (R268). -/
def State.ceiling (s : State) (c : Nat) : Nat :=
  if c = 2 || c = 12 || c = 13 then s.capacity c else s.capacity c * 9 / 10

/-- Units of resource `c` in a list of reservations. -/
def unitsIn (l : List (Nat × Nat)) (c : Nat) : Nat := (l.filter (fun p => p.1 = c)).foldl (fun n p => n + p.2) 0

/-- Units of resource `c` that jobs and freezes hold. -/
def State.jobUnits (s : State) (c : Nat) : Nat :=
  s.jobs.foldl (fun n j => n + unitsIn j.res c) 0
  + (if c = 11 then s.jobs.length else 0)
  + (if c = 12 then s.hbm.freezes.foldl (fun n f => n + f.charge) 0 else 0)
  + (if c = 13 then s.hbm.freezes.length else 0)

/-- Jobs holding units of resource `c`. -/
def State.jobsHolding (s : State) (c : Nat) : Nat :=
  if c = 11 then s.jobs.length else s.jobs.countP (fun j => 0 < unitsIn j.res c)

/-- CAP, CEIL and TICK_PS follow the FS in force (R268, R292): recomputed at each epoch. -/
def State.updateCaps (s : State) : State :=
  let s1 := s.setFld Fr.ADM_TICK_PS s.tickPs
  (List.range 25).foldl (fun st c =>
    let d := if c = 12 then 2 ^ 20 else 1
    (st.setFld (Fr.ADM_RES_CAP c) (s.capacity c / d)).setFld (Fr.ADM_RES_CEIL c) (s.ceiling c / d)) s1

/-- HBM, fabric and a real-time write of a rate in bytes per second: reservations on 0x01, 0x02 and 0x03 (R270). -/
def State.writeUnits (s : State) (bytesPerS : Nat) : List (Nat × Nat) :=
  [(1, s.unitsOf bytesPerS 64), (2, s.unitsOf bytesPerS 64), (3, s.unitsOf bytesPerS 64)]

/-- HBM and fabric reservations of a rate in bytes per second (R270). -/
def State.readUnits (s : State) (bytesPerS : Nat) : List (Nat × Nat) :=
  [(1, s.unitsOf bytesPerS 64), (3, s.unitsOf bytesPerS 64)]

end Sys2Proof.Machine
end

