-- ==== Sys2Proof/Machine/Mem.lean ====
section
/-! DEFINITION. The HBM: bytes, poison, interleaving, the ballast buffer, the capture ring with its validity map, the
freezes and the loss table (chapter 10). -/

namespace Sys2Proof.Machine

/-! ## Bytes -/

/-- The byte a sparse memory holds at an address; an unlisted address reads 0 (a choice of the model). -/
def cellGet : List (Nat × Byte) → Nat → Byte
  | [], _ => 0#8
  | (b, w) :: t, a => if b = a then w else cellGet t a

/-- Remove an address from a sparse memory. -/
def cellDel : List (Nat × Byte) → Nat → List (Nat × Byte)
  | [], _ => []
  | (b, w) :: t, a => if b = a then cellDel t a else (b, w) :: cellDel t a

/-- Insert a byte in ascending order of address. -/
def cellIns : List (Nat × Byte) → Nat → Byte → List (Nat × Byte)
  | [], a, v => [(a, v)]
  | (b, w) :: t, a, v => if a < b then (a, v) :: (b, w) :: t else (b, w) :: cellIns t a v

/-- Write one byte, keeping the canonical form: ascending addresses, no entry equal to what an unlisted one reads. -/
def cellPut (l : List (Nat × Byte)) (a : Nat) (v : Byte) : List (Nat × Byte) :=
  if v = 0#8 then cellDel l a else cellIns (cellDel l a) a v

/-- The canonical form of a sparse memory. -/
def Memory.wf : List (Nat × Byte) → Bool
  | [] => true
  | (_, w) :: [] => w != 0#8
  | (a, w) :: (b, x) :: t => w != 0#8 && decide (a < b) && Memory.wf ((b, x) :: t)

/-! ## Interleaving (R210, R213) -/

/-- The grain in bytes of a GRAIN code: 256 B to 64 KiB. -/
def grainBytes (g : Nat) : Nat := 256 * 4 ^ g

/-- The interleave slot of an HBM address under the map in force. -/
def State.slotOf (s : State) (a : Nat) : Nat := a / grainBytes (s.fld Fr.MEM_GRAIN) % Nat.max 1 (s.fld Fr.MEM_N_ACT)

/-- The byte offset of an address within its pseudo-channel, bank bits hashed when HASH is 1. Which bits of the offset
are the four bank and the four lowest row bits is left to the implementation (a free choice of the map's geometry). -/
def State.offOf (s : State) (a : Nat) : Nat :=
  let g := grainBytes (s.fld Fr.MEM_GRAIN)
  let off := a / g / Nat.max 1 (s.fld Fr.MEM_N_ACT) * g + a % g
  if s.flag Fr.MEM_HASH then Config.hashBanks off else off

/-- The physical pseudo-channel that fills an interleave slot. -/
def State.pcOfSlot (s : State) (slot : Nat) : Option Nat :=
  (List.range 128).find? (fun p => s.fld (Fr.MEM_PC_SLOT p) = slot)

/-- Bytes of the HBM address space (R211). -/
def State.hbmSize (s : State) : Nat := s.fld Fr.MEM_N_ACT * 2 ^ 29

/-- The first byte of the system area (R211). -/
def State.sysBase (s : State) : Nat := s.fld Fr.MEM_SYS_BASE_MIB * 2 ^ 20

/-- Does a region overlap the ring or the system area, or leave the address space (R211)? -/
def State.badRegion (s : State) (base len : Nat) : Bool := base < s.ringBytes || s.sysBase < base + len

/-! ## Poison (R218, R220 to R223) -/

/-- Does the byte at an address read as poison? -/
def State.isPoison (s : State) (a : Nat) : Bool :=
  let sl := s.slotOf a
  s.hbm.holes.contains sl || s.hbm.poison.contains a
  || s.hbm.slotPoison.any (fun p => p.1 = sl && !p.2.contains a)

/-- The map entry of a granule. -/
def State.gran (s : State) (j : Nat) : Option Gran := (s.hbm.gran.find? (fun p => p.1 = j)).map (·.2)

/-- The 32 bytes of a map entry (R230). -/
def granEntry (g : Gran) : List Nat :=
  le 8 g.first ++ le 8 g.wr ++ le 8 g.gseq
  ++ [g.slot + 16 * b2n g.live + 32 * b2n (0 < g.holds) + 64 * b2n g.ue, g.epoch] ++ le 2 g.holds ++ zeros 4

/-- Bytes of the validity map, the first part of the system area (R211). -/
def mapBytes : Nat := 32 * 2 ^ 20

/-- Does an address lie in the validity map? -/
def State.inMap (s : State) (a : Nat) : Bool := s.sysBase ≤ a && a < s.sysBase + mapBytes

/-- The byte of the validity map at an offset: entries of granules never taken hold 0. -/
def State.mapByte (s : State) (o : Nat) : Nat := ((s.gran (o / 32)).map (fun g => nth (granEntry g) (o % 32) 0)).getD 0

/-- The byte at an HBM address; none where it is poison. The validity map reads as its entries stand. -/
def State.hbmByte (s : State) (a : Nat) : Option Nat :=
  if s.inMap a then some (s.mapByte (a - s.sysBase))
  else if s.isPoison a then none else some (cellGet s.hbm.cells a).toNat

/-- `n` bytes from an address; poison reads none. -/
def State.hbmBytes (s : State) (a n : Nat) : List (Option Nat) := (List.range n).map (fun i => s.hbmByte (a + i))

/-- `n` bytes from an address, poison read as zeros. -/
def State.hbmData (s : State) (a n : Nat) : List Nat := (s.hbmBytes a n).map (fun b => b.getD 0)

/-- Write one byte: a hole discards it, a written byte is poison no longer. -/
def Hbm.write1 (h : Hbm) (slot a v : Nat) : Hbm :=
  if h.holes.contains slot then h
  else
    { h with
      cells := cellPut h.cells a (BitVec.ofNat 8 v)
      poison := h.poison.filter (· ≠ a)
      slotPoison := h.slotPoison.map (fun p => if p.1 = slot then (p.1, a :: p.2) else p) }

/-- Write bytes from an address on; bytes beyond the address space are discarded. -/
def State.hbmWrite (s : State) : Nat → List Nat → State
  | _, [] => s
  | a, b :: t =>
    State.hbmWrite (if a < s.hbmSize then { s with hbm := s.hbm.write1 (s.slotOf a) a b } else s) (a + 1) t

/-! ## The ballast buffer (R224 to R226) -/

/-- Ballast bytes at which it is full, urgent, and urgent no more. -/
def ballastSize : Nat := 52428800
def ballastUrgent : Nat := 13107200
def ballastCalm : Nat := 1048576

/-- The ballast fill registers, after a change of the fill. -/
def State.setFill (s : State) (f : Nat) : State :=
  let s1 := { s with hbm := { s.hbm with fill := f } }
  let s2 := s1.setFld Fr.MEM_FILL_KIB (Nat.min 65535 (f / 1024))
  let s3 := if s2.fld Fr.MEM_PEAK_KIB < f / 4096 then s2.setFld Fr.MEM_PEAK_KIB (f / 4096) else s2
  if ballastUrgent ≤ f then s3.setFld Fr.MEM_URGENT 1
  else if f < ballastCalm then s3.setFld Fr.MEM_URGENT 0 else s3

/-- A real-time write: bytes for stalled slots wait in the ballast, their data reaches HBM after the stall (no reader
sees a stalled slot meanwhile). -/
def State.rtWrite (s : State) (a : Nat) (bs : List Nat) : State :=
  let wait := ((List.range bs.length).filter (fun i => s.hbm.stalled.contains (s.slotOf (a + i)))).length
  let s1 := s.hbmWrite a bs
  if wait = 0 then s1 else s1.setFill (s1.hbm.fill + wait)

/-- STATE of a pseudo-channel. -/
def pcActive : Nat := 0
def pcSpare : Nat := 1
def pcFilling : Nat := 2
def pcTraining : Nat := 3
def pcSelfRefresh : Nat := 4
def pcRetired : Nat := 5
def pcFailed : Nat := 6

/-- The slots that stay held when the memory PLL is back: those of pseudo-channels in training or in self-refresh. -/
def State.heldElse (s : State) : List Nat :=
  ((List.range 128).filter (fun p => s.fld (Fr.MEM_PC_STATE p) = pcTraining || s.fld (Fr.MEM_PC_STATE p) = pcSelfRefresh)).map
    (fun p => s.fld (Fr.MEM_PC_SLOT p))

/-- Release the stall of some slots: the ballast empties when no slot is stalled (R225). While the memory PLL has
lost lock every slot stays held (R81). -/
def State.unstall (s : State) (sl : List Nat) : State :=
  if s.clk.memPll.isSome then s
  else
    let rest := s.hbm.stalled.filter (fun x => !sl.contains x)
    let s1 := { s with hbm := { s.hbm with stalled := rest } }
    if rest.isEmpty then s1.setFill 0 else s1

/-- Stall some slots. -/
def State.stall (s : State) (sl : List Nat) : State :=
  { s with hbm := { s.hbm with stalled := (s.hbm.stalled ++ sl).eraseDups } }

/-! ## Granules (R227 to R232) -/

/-- Bytes of a granule, and beats in it. -/
def granBytes : Nat := 98304
def granBeats : Nat := 4096

/-- The number of granules of the ring. -/
def State.granCount (s : State) : Nat := s.ringBytes / granBytes

/-- Change the map entry of a granule. -/
def Hbm.modGran (h : Hbm) (j : Nat) (f : Gran → Gran) : Hbm :=
  { h with gran := h.gran.map (fun (p : Nat × Gran) => if p.1 = j then (p.1, f p.2) else p) }

/-- Store the map entry of a granule, in ascending order. -/
def putGran : List (Nat × Gran) → Nat → Gran → List (Nat × Gran)
  | [], j, g => [(j, g)]
  | (i, x) :: t, j, g =>
    if i = j then (j, g) :: t else if j < i then (j, g) :: (i, x) :: t else (i, x) :: putGran t j g

/-- The first granule from `j` on, in ascending order with wrap, that nothing holds (R229). -/
def nextFree (held : List Nat) (n : Nat) : Nat → Nat → Nat
  | 0, j => j
  | k + 1, j => if held.contains j then nextFree held n k ((j + 1) % n) else j

/-- OLDEST_ST of a slot (R229). -/
def State.updateOldest (s : State) (n : Nat) : State :=
  let l := (s.hbm.gran.filter (fun p => p.2.live && p.2.slot = n && p.2.epoch = s.epoch8 && p.2.holds = 0)).map
    (fun p => p.2.first)
  s.setFld (Fr.MEM_OLDEST_ST n) (l.foldl Nat.min (2 ^ 64 - 1))

/-- RETIRED loss records lapse once no LIVE or HELD entry carries a GSEQ at or below their bound (R232). -/
def Hbm.lapse (h : Hbm) : Hbm :=
  { h with losses := h.losses.filter (fun l =>
      l.kind = 2 || h.gran.any (fun p => (p.2.live || 0 < p.2.holds) && p.2.gseq ≤ l.bound)) }

/-- The freeze registers (R242). -/
def State.updateFreezeRegs (s : State) : State :=
  let mib n := ceilDiv n (2 ^ 20)
  let charged := s.hbm.freezes.foldl (fun n f => n + f.charge) 0
    + ((s.jobs.filter (fun j => j.d.opcode = 6)).foldl (fun n j => n + unitsIn j.res 12) 0)
  let rsvd := (s.jobs.filter (fun j => j.d.opcode ≠ 6)).foldl (fun n j => n + unitsIn j.res 12) 0
  (((s.setFld Fr.MEM_HELD_MIB (mib charged)).setFld Fr.MEM_RSVD_MIB (mib rsvd)).setFld Fr.MEM_FREEZES
    s.hbm.freezes.length).setFld Fr.MEM_LOSSES s.hbm.losses.length

/-- Does a granule cover any part of a window? -/
def granHits (g : Gran) (start stop : Nat) : Bool := g.first < stop && start < g.first + 65536 * g.d

/-- Take the next granule for a slot (R229): its content is discarded, open freezes whose window it meets hold it. -/
def State.takeGran (s : State) (slot first d : Nat) : State :=
  let n := Nat.max 1 s.granCount
  let held := (s.hbm.gran.filter (fun p => 0 < p.2.holds)).map (·.1)
  let j := nextFree held n (held.length + 1) ((s.hbm.lastTaken.map (fun x => (x + 1) % n)).getD 0)
  let g0 : Gran := ⟨first, d, 0, s.hbm.gseq + 1, slot, true, false, s.epoch8, 0, [], [], s.fld (Fr.INTK_SLOT_SOURCE slot)⟩
  let takers := s.hbm.freezes.filter (fun f =>
    !f.complete && bit f.slots slot && f.epoch = s.epoch8 && granHits g0 f.start f.stop)
  let h := s.hbm
  let h1 := { h with
    gran := putGran h.gran j { g0 with holds := takers.length }
    lastTaken := some j
    gseq := h.gseq + 1
    curGran := modNth h.curGran slot (fun _ => some j)
    tags := h.tags.filter (fun p => p.1 < j * granBytes || (j + 1) * granBytes ≤ p.1)
    freezes := h.freezes.map (fun (f : Freeze) => if takers.any (fun x => x.id = f.id) then { f with grans := f.grans ++ [j] } else f) }
  ({ s with hbm := h1.lapse }).updateOldest slot

/-- The 24 bytes of a beat's sixteen 12-bit samples (R227). -/
def beatBytes (samples : List Nat) : List Nat :=
  le 24 (((List.range 16).map (fun i => nth samples i 0 % 4096 * 2 ^ (12 * i))).foldl (· + ·) 0)

/-- Note the flag nibble of beat `k` of a granule in the metadata of its quad's first word (R227). -/
def Hbm.setTag (h : Hbm) (word k flags : Nat) : Hbm :=
  let old := ((h.tags.find? (fun p => p.1 = word)).map (·.2)).getD 0
  { h with tags := (word, setBits old (4 * (k % 4)) 4 flags) :: h.tags.filter (fun p => p.1 ≠ word) }

/-- Write one beat at its place in the slot's current granule. -/
def State.writeBeatAt (s : State) (j k : Nat) (samples : List Nat) (flags : Nat) (gap : Bool) : State :=
  let a := j * granBytes + 24 * k
  let s1 := s.rtWrite a (beatBytes samples)
  let h1 := s1.hbm.setTag (j * granBytes + k / 4 * 96) k flags
  { s1 with hbm := h1.modGran j (fun g =>
      { g with
        wr := setBits g.wr (k / 64) 1 1
        gapped := if gap then k :: g.gapped else g.gapped.filter (· ≠ k)
        dropped := g.dropped.filter (· ≠ k) }) }

/-- Write the skipped positions `k0 ≤ k < k1` of one granule as GAP beats (R231). -/
def State.fillGap (s : State) (j k0 : Nat) : Nat → State
  | 0 => s
  | n + 1 => ((s.fillGap j k0 n)).writeBeatAt j (k0 + n) [] 8 true

/-- Freezes whose window every slot's writer has passed are complete (R234). -/
def State.completeFreezes (s : State) : State :=
  { s with hbm := { s.hbm with freezes := s.hbm.freezes.map (fun (f : Freeze) =>
      if !f.complete && f.epoch = s.epoch8
          && (maskList 8 f.slots).all (fun n => f.stop ≤ nth s.hbm.ringNext n 0) then { f with complete := true }
      else f) } }

/-- The ring writer stores one beat of a slot (R227 to R231): it takes a granule where the beat lies in none of the
slot's, fills the skipped positions that share a 64-beat group with a written beat, and drops the beat while the
ballast is full (R226). -/
def State.ringWrite (s : State) (slot t d : Nat) (samples : List Nat) (flags : Nat) : State :=
  if !s.hbm.ringOn then s
  else
    let span := 65536 * d
    let first := t / span * span
    let k := (t - first) / (16 * d)
    let prev := nth s.hbm.ringNext slot 0
    let cur := (nth s.hbm.curGran slot none).bind (fun j => (s.gran j).map (fun g => (j, g)))
    let here (g : Gran) : Bool := g.live && g.slot = slot && g.first = first && g.d = d && g.epoch = s.epoch8
    -- the tail of the group that held the last written beat before a gap
    let s0 := match cur with
      | some (j, g) =>
        if prev < t && g.live && g.slot = slot && g.d = d && g.epoch = s.epoch8 && g.first < prev
            && prev < g.first + span then
          let k0 := (prev - g.first) / (16 * d)
          let stop := Nat.min (ceilDiv k0 64 * 64) (if g.first = first then k else granBeats)
          s.fillGap j k0 (stop - k0)
        else s
      | none => s
    let s1 := match cur with
      | some (_, g) => if here g then s0 else s0.takeGran slot first d
      | none => s0.takeGran slot first d
    match nth s1.hbm.curGran slot none with
    | none => s1
    | some j =>
      let full := !s1.hbm.stalled.isEmpty && ballastSize ≤ s1.hbm.fill + 24
      let s2 :=
        if prev < t && 0 < k % 64 && (prev + 16 * d ≤ t) then
          let from_ := Nat.max (k / 64 * 64) (if first ≤ prev then (prev - first) / (16 * d) else 0)
          s1.fillGap j from_ (k - from_)
        else s1
      let s3 :=
        if full then
          let s' := { s2 with hbm := s2.hbm.modGran j (fun g => { g with dropped := k :: g.dropped }) }
          if s'.flag Fr.MEM_BALLAST_FULL then s'
          else (s'.setFld Fr.MEM_BALLAST_FULL 1).memEv 6 0xFF 0xFF
        else s2.writeBeatAt j k samples flags false
      ({ s3 with hbm := { s3.hbm with ringNext := modNth s3.hbm.ringNext slot (fun _ => t + 16 * d) } }).completeFreezes

/-! ## Freezes (R126, R233 to R235) -/

/-- Create a freeze over a window of some slots: it holds every granule that covers any part of it. -/
def State.newFreeze (s : State) (slots start stop charge job : Nat) : State :=
  let hit := s.hbm.gran.filter (fun p =>
    p.2.live && bit slots p.2.slot && p.2.epoch = s.epoch8 && granHits p.2 start stop)
  let js := hit.map (·.1)
  let h := s.hbm
  let f : Freeze := ⟨h.nextFreeze, slots, start, stop, s.epoch8, false, charge, js, job⟩
  let h1 := { h with
    gran := h.gran.map (fun (p : Nat × Gran) => if js.contains p.1 then (p.1, { p.2 with holds := p.2.holds + 1 }) else p)
    freezes := h.freezes ++ [f]
    nextFreeze := h.nextFreeze + 1 }
  let s1 := { s with hbm := h1 }
  let s2 := (List.range 8).foldl (fun st n => if bit slots n then st.updateOldest n else st) s1
  s2.completeFreezes.updateFreezeRegs

/-- Let go of granules a freeze or extract held. -/
def State.unhold (s : State) (js : List Nat) : State :=
  let h := s.hbm
  let h1 := { h with gran := h.gran.map (fun (p : Nat × Gran) => if js.contains p.1 then (p.1, { p.2 with holds := p.2.holds - 1 }) else p) }
  (List.range 8).foldl (fun st n => st.updateOldest n) { s with hbm := h1.lapse }

/-- Hold granules for an extract of the live ring (R236). -/
def State.hold (s : State) (js : List Nat) : State :=
  let h := s.hbm
  (List.range 8).foldl (fun st n => st.updateOldest n) { s with hbm := { h with gran := h.gran.map (fun (p : Nat × Gran) =>
    if js.contains p.1 then (p.1, { p.2 with holds := p.2.holds + 1 }) else p) } }

/-- Release a freeze: its charge and its granules return (R234). -/
def State.releaseFreeze (s : State) (id : Nat) : State :=
  match s.hbm.freezes.find? (fun f => f.id = id) with
  | none => s
  | some f =>
    let s1 := { s with hbm := { s.hbm with freezes := s.hbm.freezes.filter (fun x => x.id ≠ id) } }
    (s1.unhold f.grans).updateFreezeRegs

/-- At an epoch or a warm reset: every granule nothing holds is discarded, freezes not yet passed are complete (R75,
R234, R235). -/
def State.dropGranules (s : State) : State :=
  let h := s.hbm
  let h1 := { h with
    gran := h.gran.filter (fun p => 0 < p.2.holds)
    curGran := List.replicate 8 none
    ringNext := List.replicate 8 0
    freezes := h.freezes.map (fun (f : Freeze) => { f with complete := true }) }
  (List.range 8).foldl (fun st n => st.updateOldest n) { s with hbm := h1.lapse }

/-! ## What a reader gets (R230, R232, R238) -/

/-- The 32 bytes of a loss record (R232). -/
def lossEntry (l : Loss) : List Nat := le 2 l.slot ++ le 2 l.pc ++ [l.kind, 0, 0, 0] ++ le 8 l.bound ++ le 8 l.st ++ zeros 8

/-- Is a granule's position `k` a GAP for readers (R230)? -/
def granGap (g : Gran) (k : Nat) : Bool := !g.live && g.holds = 0 || !bit g.wr (k / 64) || g.dropped.contains k

/-- Is the byte at an address of a granule covered by a loss record (R232)? -/
def State.lossCovers (s : State) (g : Gran) (a : Nat) : Bool :=
  s.hbm.losses.any (fun l => l.slot = s.slotOf a && (l.kind = 2 || g.gseq ≤ l.bound))

/-- The beat at position `k` of a granule as a reader gets it: flags, samples, and whether it was lost to poison or a
loss record (R230, R238). -/
def State.readBeat (s : State) (j : Nat) (g : Gran) (k : Nat) : Nat × List Nat × Bool :=
  let quad := j * granBytes + k / 4 * 96
  let lost := (List.range 96).any (fun i => s.isPoison (quad + i) || s.lossCovers g (quad + i))
  if granGap g k then (8, zeros 24, false)
  else if lost then (8, zeros 24, true)
  else
    let tag := ((s.hbm.tags.find? (fun p => p.1 = quad)).map (·.2)).getD 0
    (bits tag (4 * (k % 4)) 4, s.hbmData (j * granBytes + 24 * k) 24, false)

end Sys2Proof.Machine
end

