-- ==== Sys2Proof/Machine/Intake.lean ====
section
/-! DEFINITION. Input slots, attenuators, over-range, the flags of a beat, and the JESD204C links (chapter 02). -/

namespace Sys2Proof.Machine

/-- Change slot `n`. -/
def State.modSlot (s : State) (n : Nat) (f : SlotSt → SlotSt) : State := { s with slots := modNth s.slots n f }

/-- Slot `n`. -/
def State.slot (s : State) (n : Nat) : SlotSt := nth s.slots n {}

/-- Is link `n` prepared or sourcing its slot (R43)? -/
def State.linkUsed (s : State) (n : Nat) : Bool := (s.slot n).linkReq

/-! ## Link parameters (R38 to R43) -/

/-- The divider D of a LINK_PARAM word. -/
def linkDiv (p : Nat) : Nat := bits p 27 4 + 1

/-- N′ of a LINK_PARAM word. -/
def linkNp (p : Nat) : Nat := if bit p 4 then 16 else 12

/-- Table 2.5: M code, N′ code, S, F, E. -/
def linkRows : List (Nat × Nat × Nat × Nat × Nat) :=
  [(0, 0, 8, 3, 3), (0, 0, 16, 6, 3), (0, 1, 2, 1, 1), (0, 1, 4, 2, 1), (1, 0, 4, 3, 3), (1, 1, 2, 2, 1)]

/-- Do the parameters match a row of Table 2.5 and the NRES and CS limits (R40)? -/
def linkRowOk (p : Nat) : Bool :=
  let n := bits p 8 5
  let cs := bits p 5 1
  linkRows.any (fun r => bits p 3 1 = r.1 && bits p 4 1 = r.2.1 && bits p 13 5 = r.2.2.1 && bits p 18 4 = r.2.2.2.1
    && bits p 22 5 = (if bit p 2 then 31 else r.2.2.2.2 - 1))
  && (if bit p 4 then 12 ≤ n && n + cs ≤ 16 else n = 12 && cs = 0)

/-- The rate rules of R42 under a given FS: slot rate at most 10.5 GS/s, lane rate within R36. -/
def linkRateOk (fs : Rate) (p : Nat) : Bool :=
  let slot : Rate := ⟨fs.num, fs.den * linkDiv p⟩
  slot.within 0 10500000000
  && (if bit p 2 then (Rate.mk (slot.num * linkNp p * 10) (slot.den * 32)).within 3000000000 12500000000
      else (Rate.mk (slot.num * linkNp p * 66) (slot.den * 256)).within 6000000000 32500000000)

/-- Is LINK_LANE.MAP a permutation of the four lanes? -/
def lanePerm (m : Nat) : Bool := ([0, 1, 2, 3].map (fun i => bits m (2 * i) 2)).eraseDups.length = 4

/-- Is a link of the block broken by a new FS (R43)? -/
def State.linkBreaks (s : State) (fs : Rate) : Bool :=
  (List.range 8).any (fun n => s.linkUsed n && !linkRateOk fs (s.fld (Fr.INTK_LINK_PARAM n)))

/-! ## Link bring-up (R44) -/

/-- ON_DEMAND mode sends 8 pulses at consecutive periods (R89). -/
def State.demandSysref (s : State) : State := { s with clk := { s.clk with sysrefLeft := 8 } }

/-- The bring-up sequence of link `n` from lane lock. -/
def State.linkStart (s : State) (n : Nat) : State :=
  (((s.setFld (Fr.INTK_LINK_STATE n) 1).setFld (Fr.INTK_LINK_CDR_LOCK n) 0).setFld (Fr.INTK_LINK_SYNC_LOCK n) 0).modSlot n
    (fun x => { x with ilasBad := false })

/-- Link `n` powered down (R46). -/
def State.linkOff (s : State) (n : Nat) : State :=
  (((s.setFld (Fr.INTK_LINK_STATE n) 0).setFld (Fr.INTK_LINK_CDR_LOCK n) 0).setFld (Fr.INTK_LINK_SYNC_LOCK n) 0).modSlot n
    (fun x => { x with linkReq := false, ilasBad := false, lost := false, skewAt := none })

/-- A LINK event of JESD204C link `n`. -/
def State.jesdEv (s : State) (cause n : Nat) : State := s.linkEv cause 0 n (s.fld (Fr.INTK_LINK_STATE n))

/-- A slot leaves DATA for bring-up in service: it carries GAP, and a valid beat will post VALID_RETURN (R45). -/
def State.linkRestart (s : State) (n : Nat) : State :=
  let s1 := s.linkStart n
  if s.fld (Fr.INTK_SLOT_SOURCE n) = 1 then s1.modSlot n (fun x => { x with lost := true, gapSource := true }) else s1

/-- LANE_CLOCK_RECOVERY (R44): CDR to SYNC. -/
def execLaneClockRecovery (n : Nat) (s : State) : Host.Outcome State Fault Refusal :=
  .next (if n < 8 && s.fld (Fr.INTK_LINK_STATE n) = 1 then
    (s.setFld (Fr.INTK_LINK_CDR_LOCK n) 0xF).setFld (Fr.INTK_LINK_STATE n) 2 else s)

/-- SYNC_HEADER_LOCK (R44): SYNC to ALIGN. -/
def execSyncHeaderLock (n : Nat) (s : State) : Host.Outcome State Fault Refusal :=
  .next (if n < 8 && s.fld (Fr.INTK_LINK_STATE n) = 2 then
    (s.setFld (Fr.INTK_LINK_SYNC_LOCK n) 0xF).setFld (Fr.INTK_LINK_STATE n) 3 else s)

/-- ILAS_RECEIVED (R37, R44): ALIGN to WAIT_SYSREF, which sends 8 pulses in ON_DEMAND mode; an 8b/10b link whose ILAS
differs sets ILAS_MISMATCH, posts a LINK event and stays in ALIGN. -/
def execIlasReceived (n : Nat) (ok : Bool) (s : State) : Host.Outcome State Fault Refusal :=
  .next (
    if n < 8 && s.fld (Fr.INTK_LINK_STATE n) = 3 && !(s.slot n).ilasBad then
      if ok || !bit (s.fld (Fr.INTK_LINK_PARAM n)) 2 then
        let s1 := s.setFld (Fr.INTK_LINK_STATE n) 4
        if s.inf Fr.CLK_SYSREF_MODE = 2 then s1.demandSysref else s1
      else
        ((s.setFld (Fr.INTK_LINKERR_ILAS_MISMATCH n) 1).modSlot n (fun x => { x with ilasBad := true })).jesdEv 4 n
    else s)

/-- LINK_STEP_TIMEOUT (R44): the step's bound has run out; a LINK event names it and the sequence restarts. -/
def execLinkStepTimeout (n : Nat) (s : State) : Host.Outcome State Fault Refusal :=
  let st := s.fld (Fr.INTK_LINK_STATE n)
  .next (
    if n < 8 && 1 ≤ st && st ≤ 4 && !(s.slot n).ilasBad then
      (s.jesdEv (if st = 1 then 1 else if st = 2 then 2 else 3) n).linkStart n
    else s)

/-- CRC12_FAILURE (R45): the beats the multiblock carried lose VALID; the link stays in DATA. -/
def execCrc12Failure (n beats : Nat) (s : State) : Host.Outcome State Fault Refusal :=
  .next (
    if n < 8 && s.fld (Fr.INTK_LINK_STATE n) = 5 && !bit (s.fld (Fr.INTK_LINK_PARAM n)) 2 then
      ((s.setFld (Fr.INTK_LINKERR_CRC12 n) 1).count (9 + n) .crc12 1).modSlot n (fun x => { x with crcBad := Nat.max x.crcBad beats })
    else s)

/-- CODE_ERROR (R45): an 8b/10b disparity or not-in-table error. -/
def execCodeError (n beats : Nat) (s : State) : Host.Outcome State Fault Refusal :=
  .next (
    if n < 8 && s.fld (Fr.INTK_LINK_STATE n) = 5 && bit (s.fld (Fr.INTK_LINK_PARAM n)) 2 then
      ((s.setFld (Fr.INTK_LINKERR_SYNC_HDR n) 1).count (9 + n) .codeError 1).modSlot n (fun x => { x with crcBad := Nat.max x.crcBad beats })
    else s)

/-- LINK_LOCK_LOSS (R45): a lane or the alignment is lost; the slot carries GAP and bring-up restarts. -/
def execLinkLockLoss (n : Nat) (s : State) : Host.Outcome State Fault Refusal :=
  let st := s.fld (Fr.INTK_LINK_STATE n)
  .next (
    if n < 8 && 2 ≤ st && st ≤ 5 then
      if st = 5 then ((s.setFld (Fr.INTK_LINKERR_ALIGN_LOSS n) 1).jesdEv 6 n).linkRestart n
      else (s.setFld (Fr.INTK_LINKERR_ALIGN_LOSS n) 1).linkStart n
    else s)

/-- A link in WAIT_SYSREF meets a SYSREF_OUT pulse: it aligns, or its skew beyond 20 ns restarts the sequence, with one
event at the first failed attempt of a run and a further one each second (R44). -/
def State.sysrefAlign (s : State) (m : Nat × Nat × Nat) : State :=
  let n := m.1
  if n < 8 && s.fld (Fr.INTK_LINK_STATE n) = 4 then
    let s1 := s.setFld (Fr.INTK_LINK_SKEW n) (Nat.min 255 m.2.1)
    if m.2.2 ≤ 20000 then (s1.setFld (Fr.INTK_LINK_STATE n) 5).modSlot n (fun x => { x with skewAt := none })
    else
      let due := match (s.slot n).skewAt with
        | none => true
        | some t => t + s.samplesOfNs 1000000000 ≤ s.samp || s.samp < t
      let s2 := (s1.setFld (Fr.INTK_LINKERR_SKEW_OVF n) 1)
      let s3 := if due then (s2.jesdEv 5 n).modSlot n (fun x => { x with skewAt := some s.samp }) else s2
      s3.linkStart n
  else s

/-- The sample time of SYSREF edges: k × P + OFS (R89). -/
def State.sysrefPeriod (s : State) : Nat := Nat.max 1 (s.inf Fr.CLK_SYSREF_MULT) * 32768

/-- SYSREF_PULSE (R39, R44, R89): an edge falls due. `skews` gives the lane skew measured (link, octets, ps) and `off`
the links in DATA whose boundary it misses. -/
def execSysrefPulse (skews : List (Nat × Nat × Nat)) (off : List Nat) (s : State) : Host.Outcome State Fault Refusal :=
  let m := s.inf Fr.CLK_SYSREF_MODE
  .next (
    if s.flag Fr.CLK_RUNNING && s.clk.sysrefNext ≤ s.samp && (m = 1 || m = 2 && 0 < s.clk.sysrefLeft) then
      let s1 := (s.emit (.edge 5 1)).emit (.edge 5 0)
      let s2 := { s1 with clk := { s1.clk with
        sysrefNext := s1.clk.sysrefNext + s.sysrefPeriod
        sysrefLeft := s1.clk.sysrefLeft - 1 } }
      let s3 := skews.foldl State.sysrefAlign s2
      off.foldl (fun st n =>
        if n < 8 && s.fld (Fr.INTK_LINK_STATE n) = 5 then st.setFld (Fr.INTK_LINKERR_SYSREF_PHASE n) 1 else st) s3
    else s)

/-! ## The slot-source CONFIGURE (R12, R38 to R46, R258) -/

/-- Format checks of a slot-source CONFIGURE (R42, R258); `fs` is FS in force. -/
def slotSourceFmt (s : State) (d : Desc) : Option Refuse :=
  let w := nth d.p 0 0
  let n := bits w 8 8
  let p := nth d.p 1 0
  let o := nth d.p 2 0
  let used := bit p 0 || bit p 1
  firstRefusal [
    check (8 ≤ n || bits w 16 8 ≠ 0 || bits w 24 8 ≠ 0) (refuseFormat 0),
    check (bit p 7 || bit p 31) (refuseFormat 1),
    check (o ≥ 4096) (refuseFormat 2),
    check (used && (!linkRowOk p || !bit p 2 && !bit p 6 || !linkRateOk s.fs p)) (refuseFormat 1),
    check (used && !lanePerm (s.fld (Fr.INTK_LANE_MAP n))) (refuseFormat 1),
    check (nth d.p 3 0 ≠ 0) (refuseFormat 3)]

/-- State checks of a slot-source CONFIGURE (R16, R42). -/
def slotSourceState (s : State) (d : Desc) : Option Refuse :=
  let n := bits (nth d.p 0 0) 8 8
  let p := nth d.p 1 0
  check (!s.powered n || (bit p 0 || bit p 1) && s.inf Fr.CLK_SYSREF_MODE = 0) refuseState

/-- Does intake 8 carry input `n` in a covered hand-over or self-test whose primary is isolated? -/
def State.spareCarries (s : State) (n : Nat) : Bool :=
  match s.cal.run with
  | some r => r.k = n && (r.how = CalHow.covered || r.how = CalHow.bist) && (r.step = 5 || r.step = 6)
  | none => false

/-- The effect of a slot-source CONFIGURE: select link `n`, prepare it, or return the slot to its intake with the link
powered down; what is already in force changes nothing, unless its ILAS differed (R37). -/
def slotSourceApply (s : State) (d : Desc) : State :=
  let n := bits (nth d.p 0 0) 8 8
  let p := nth d.p 1 0
  let o := nth d.p 2 0
  let cur := s.fld (Fr.INTK_LINK_PARAM n)
  let src := s.fld (Fr.INTK_SLOT_SOURCE n)
  let same := cur / 4 = p / 4 && s.fld (Fr.INTK_LINK_OFS n) = o
  let load (st : State) : State := (st.setFld (Fr.INTK_LINK_PARAM n) p).setFld (Fr.INTK_LINK_OFS n) o
  if bit p 0 then
    if src = 1 && same && !(s.slot n).ilasBad then s
    else
      let s1 := ((load s).setFld (Fr.INTK_SLOT_SOURCE n) 1).setFld (Fr.INTK_SLOT_FEEDER n) 0xF
      let up := (s.slot n).linkReq && same && !(s.slot n).ilasBad && s.fld (Fr.INTK_LINK_STATE n) ≠ 0
      let inData := up && s.fld (Fr.INTK_LINK_STATE n) = 5
      let s2 := s1.modSlot n (fun x =>
        { x with linkReq := true, gapSource := true, gapBeats := if inData then 1 else 0 })
      if up then s2 else s2.linkStart n
  else
    let feeder := if s.cal.takeover = some n || s.spareCarries n then 8 else n
    let s1 := if src = 1 then
        ((s.setFld (Fr.INTK_SLOT_SOURCE n) 0).setFld (Fr.INTK_SLOT_FEEDER n) feeder).modSlot n (fun x =>
          { x with gapSource := true, lost := false })
      else s
    if bit p 1 then
      if (s.slot n).linkReq && same && !(s.slot n).ilasBad then load s1
      else ((load s1).modSlot n (fun x => { x with linkReq := true })).linkStart n
    else if (s.slot n).linkReq then ((load s1).setFld (Fr.INTK_LINK_OFS n) o).linkOff n
    else s1

/-! ## Attenuators (R24 to R26) -/

/-- Beats marked invalid after a change: ceil(40 ns × FS / 16). -/
def State.settleBeats (s : State) : Nat := s.fs.ceilMul 40 (16 * 10 ^ 9)

/-- Land one attenuation change on intake `n`. -/
def State.landAtten (s : State) (r : AttenReq) : State :=
  let n := r.intake
  let s0 := { s with attens := s.attens.filter (fun x => x ≠ r) }
  if s.inf (Fr.INTK_ATTEN n) = r.atten then s0
  else
    let s1 := s0.setInf (Fr.INTK_ATTEN n) r.atten
    if n = 8 then
      if s.fld Fr.CAL_SPARE_INPUT = 0xF then s1.setFld (Fr.INTK_ATTEN_NOW_ATTEN 8) r.atten else s1
    else
      let s2 := s1.setFld (Fr.INTK_ATTEN_NOW_ATTEN n) r.atten
      let s3 := if s.fld Fr.CAL_SPARE_INPUT = n then s2.setFld (Fr.INTK_ATTEN_NOW_ATTEN 8) r.atten else s2
      if s.fld (Fr.INTK_SLOT_SOURCE n) = 1 then s3
      else
        let x := s.slot n
        let total := if 0 < x.settle then s.fld (Fr.INTK_ATTEN_NOW_SETTLE_BEATS n) - x.settle else 0
        (s3.setFld (Fr.INTK_ATTEN_NOW_SETTLE_BEATS n) (total + s.settleBeats)).modSlot n (fun y =>
          { y with settle := s.settleBeats })

/-- The sample time of the next beat of the input an intake serves. -/
def State.nextOf (s : State) (n : Nat) : Nat := if n = 8 then s.samp + 16 else (s.slot n).next

/-- Land every change of intake `n` whose target the next beat boundary has reached. -/
def State.landAttens (s : State) (n : Nat) : State :=
  (s.attens.filter (fun r => r.intake = n && r.target ≤ s.nextOf n)).foldl State.landAtten s

/-! ## Over-range and the TRIG_OUT pins (R32, R33, R125) -/

/-- The level of TRIG_OUT pin `k`: the OR of its sources. -/
def State.pinLevel (s : State) (k : Nat) : Bool :=
  0 < nth s.pulses k 0
  || (List.range 8).any (fun n => s.flag (Fr.INTK_OVR_FAST_NOW n) && bit (s.fld (Fr.INTK_OVR_TRIG_MASK n)) k)

/-- The TRIG_OUT pins as their sources stand; each edge leaves the block. -/
def State.updatePins (s : State) : State :=
  [0, 1, 2, 3].foldl (fun st k =>
    let l := st.pinLevel k
    if l = bit st.pins k then st
    else ({ st with pins := setBits st.pins k 1 (b2n l) }).emit (.edge k (b2n l))) s

/-- Does any sample meet the over-range threshold (R32)? -/
def overRange (thr : Nat) (samples : List Int) : Bool := samples.any (fun c => thr ≤ c.natAbs)

/-- The fast over-range signal of slot `n` after a beat (R33): one of its last HOLD beats carried OVR. `ovrHold` is 4,096
less the beats since the last that did. -/
def State.fastOvr (s : State) (n : Nat) (ovr : Bool) : State :=
  let hold := s.fld (Fr.INTK_OVR_HOLD n)
  let left := if ovr then 4096 else (s.slot n).ovrHold - 1
  let s1 := s.modSlot n (fun x => { x with ovrHold := left })
  (s1.setFld (Fr.INTK_OVR_FAST_NOW n) (b2n (s.flag (Fr.INTK_OVR_FAST_EN n)
    && 4096 < left + (if hold = 0 then 4096 else hold)))).updatePins

/-! ## The flags of a beat (R12, R24, R29 to R31, R45, R51, R57, R58) -/

/-- Does slot `n` carry GAP whatever the converter delivers? -/
def State.slotGap (s : State) (n : Nat) : Bool :=
  let x := s.slot n
  let src := s.fld (Fr.INTK_SLOT_SOURCE n)
  let f := s.fld (Fr.INTK_SLOT_FEEDER n)
  let wait (k : Nat) : Bool := s.powered k && !nth s.cal.failed k false && !nth s.cal.started k false
  x.gapFault || 0 < x.gapBeats
  || (if src = 0 then
        s.rails.contains 1 || s.rails.contains 4 && (List.range 9).any wait || 9 ≤ f || s.fld (Fr.INTK_STATE f) = 0 || s.fld (Fr.INTK_STATE f) = 2 || s.fld (Fr.INTK_STATE f) = 4
        || s.fld (Fr.INTK_STATE f) = 5 || !nth s.cal.started f false
      else if src = 1 then s.fld (Fr.INTK_LINK_STATE n) ≠ 5
      else true)

/-- The divider of slot `n`: D of its link, 1 from an intake. -/
def State.slotDiv (s : State) (n : Nat) : Nat :=
  if s.fld (Fr.INTK_SLOT_SOURCE n) = 1 then linkDiv (s.fld (Fr.INTK_LINK_PARAM n)) else 1

/-- A beat as the slot delivers it. -/
structure Beat where
  t : Nat
  d : Nat
  samples : List Int
  valid : Bool
  ovr : Bool
  cal : Bool
  gap : Bool
  deriving DecidableEq, Repr

/-- The flag nibble of a beat: VALID, OVR, CAL, GAP from bit 0 (R29). -/
def Beat.flags (b : Beat) : Nat := b2n b.valid + 2 * b2n b.ovr + 4 * b2n b.cal + 8 * b2n b.gap

/-- A conversion clipped to the full-scale code of its sign (R28). -/
def clip12 (x : Int) : Int := if 2047 < x then 2047 else if x < -2048 then -2048 else x

/-- The beat slot `n` delivers from what its source converts: `good` tells whether every sample is a good conversion,
`cbit` whether a control bit of a link with CS = 1 is set. -/
def State.mkBeat (s : State) (n : Nat) (samples : List Int) (good cbit : Bool) : Beat :=
  let x := s.slot n
  let src := s.fld (Fr.INTK_SLOT_SOURCE n)
  let cs := (List.range 16).map (fun i => clip12 (nth samples i 0))
  let inv := (src ≠ 1 && 0 < x.settle) || (src = 1 && 0 < x.crcBad) || !good
  let gap := s.slotGap n || x.gapSource && inv
  if gap then ⟨x.next, s.slotDiv n, List.replicate 16 0, false, false, false, true⟩
  else
    ⟨x.next, s.slotDiv n, cs, !inv,
      overRange (s.fld (Fr.INTK_OVR_THR n)) cs || src = 1 && bit (s.fld (Fr.INTK_LINK_PARAM n)) 5 && cbit,
      x.cal && src = 0, false⟩

/-- What a delivered beat does to its slot: counts run, status follows, a fault record gets its first sample time
served again, VALID_RETURN is posted (R12, R24, R32, R33, R45, R58, R278). -/
def State.slotBeat (s : State) (n : Nat) (b : Beat) : State :=
  let x := s.slot n
  let s1 := s.modSlot n (fun y =>
    { y with
      next := b.t + 16 * b.d
      settle := y.settle - 1
      crcBad := y.crcBad - 1
      gapBeats := y.gapBeats - 1
      gapSource := y.gapSource && !b.valid
      lost := y.lost && !b.valid
      restore := if b.gap then y.restore else 0 })
  let s2 := (s1.setFld (Fr.INTK_SLOT_VALID_NOW n) (b2n b.valid)).setFld (Fr.INTK_SLOT_GAP_NOW n) (b2n b.gap)
  let s2a := if 0 < x.crcBad && !b.valid then s2.count (9 + n) .markedBeats 1 else s2
  let s3 := if b.ovr then (s2a.setFld (Fr.INTK_OVR_SEEN n) 1).count n .overRange 1 else s2a
  let s4 := s3.fastOvr n b.ovr
  let s5 := if b.gap then s4 else s4.restoredAt x.restore b.t
  let s6 := if x.lost && b.valid then s5.jesdEv 7 n else s5
  let now := Nat.max s.samp b.t
  ({ s6 with samp := now }).setFld Fr.CLK_TB_NOW now

end Sys2Proof.Machine
end

