-- ==== Sys2Proof/Machine/Affect.lean ====
section
/-! DEFINITION. What the units upstream tell those downstream: the streams that carry a source, the cores that wait for a
notice, the jobs that rest on an input slot (chapters 09, 12 and 14). -/

namespace Sys2Proof.Machine

/-! ## Streams (R307, R310, R324) -/

/-- The fields of a stream's STREAM_OPEN (R307, R308). -/
def Stream.id (x : Stream) : Nat := nth x.p 0 0
def Stream.slice (x : Stream) : Nat := bits x.id 24 4
def Stream.kind (x : Stream) : Nat := bits x.id 16 8
def Stream.inst (x : Stream) : Nat := bits x.id 0 16
def Stream.dest (x : Stream) : Nat := bits (nth x.p 1 0) 0 2
def Stream.trig (x : Stream) : Bool := bit (nth x.p 1 0) 4

/-- Change the streams that meet a condition. -/
def State.modStreams (s : State) (p : Stream → Bool) (f : Stream → Stream) : State :=
  { s with streams := s.streams.map (fun (x : Stream) => if p x then f x else x) }

/-- Change the stream with an ID. -/
def State.modStream (s : State) (id : Nat) (f : Stream → Stream) : State := s.modStreams (fun x => x.id = id) f

/-- The open stream with an ID. -/
def State.stream (s : State) (id : Nat) : Option Stream := s.streams.find? (fun x => x.id = id)

/-- Does a stream carry source `kind` of slice `n`, instance `inst`? -/
def Stream.carries (x : Stream) (kind n inst : Nat) : Bool :=
  x.kind = kind && x.inst = inst && (x.slice = n || 7 ≤ kind) && x.closing = 0

/-- The part of an item inside a delivery window (R127): samples from the start on, up to the end where it has one. -/
def Item.within (i : Item) (w : Nat × Nat) : Item :=
  let idx (t : Nat) : Nat := if t ≤ i.st then 0 else ceilDiv (t - i.st) (Nat.max 1 i.step)
  { i with lo := Nat.max i.lo (idx w.1), hi := if w.2 = 0 then i.hi else Nat.min i.hi (idx w.2) }

/-- A stream takes an item: one opened for triggers only what its delivery window holds. -/
def Stream.take (x : Stream) (i : Item) : Stream :=
  if x.trig then
    match x.window with
    | none => x
    | some w => let i1 := i.within w; if i1.lo < i1.hi then { x with queue := x.queue ++ [i1] } else x
  else { x with queue := x.queue ++ [i] }

/-- A record, block or payload of a source goes to every stream that carries it (R310). -/
def State.streamItem (s : State) (kind n inst : Nat) (i : Item) : State :=
  s.modStreams (fun x => x.carries kind n inst) (fun x => x.take i)

/-- Records overwritten at their source: a host-memory stream in which one waits skips and counts it (R324). -/
def State.streamGone (s : State) (kind n inst : Nat) (keys : List Nat) : State :=
  if keys.isEmpty then s
  else s.modStreams (fun x => x.carries kind n inst && x.dest = 1) (fun x =>
    { x with
      queue := x.queue.filter (fun i => !keys.contains i.key)
      lost := x.lost + x.queue.countP (fun i => keys.contains i.key) })

/-- A stream ends: its STREAM_OPEN completes with the data packets sent and the records lost (R310). -/
def State.endStream (s : State) (id status : Nat) : State :=
  match s.stream id with
  | none => s
  | some x =>
    let s1 := s.complete x.job status x.lost x.sent
    let left := s.streams.filter (fun y => y.id ≠ id)
    ({ s1 with streams := left }).setFld Fr.NET_OPEN left.length

/-- Note in a fault record how many jobs were shed because of it (R278). -/
def State.noteShed (s : State) (flt n : Nat) : State :=
  if n = 0 then s else s.modFlt flt (fun f => { f with shed := true, nShed := f.nShed + n })

/-- A job is shed because of a fault: its completion carries the fault (R280). -/
def State.blame (s : State) (job flt : Nat) : State :=
  s.modJob job (fun j => if j.done.isNone && j.flt = 0 then { j with flt := flt } else j)

/-- Shed every stream that meets a condition because of fault `flt` (R280). -/
def State.shedStreams (s : State) (flt : Nat) (p : Stream → Bool) : State :=
  let hit := s.streams.filter p
  ((hit.foldl (fun st x => (st.blame x.job flt).endStream x.id stShed) s).noteShed flt hit.length).count 411 .shed hit.length

/-- Does an open stream carry a source of slice `n` (R141)? -/
def State.sliceStreamed (s : State) (n : Nat) : Bool := s.streams.any (fun x => x.slice = n && 3 ≤ x.kind && x.kind ≤ 6)

/-- Does an open stream carry tuner `t` of slice `n` (R162)? -/
def State.tunerStreamed (s : State) (n t : Nat) : Bool := s.streams.any (fun x => x.slice = n && x.kind = 1 && x.inst = t)

/-- Does a stream ID name a DDC stream of a logical slice opened to start on trigger (R122)? -/
def State.trigStream (s : State) (id slice : Nat) : Bool :=
  (s.stream id).any (fun x => x.kind = 1 && x.slice = slice && x.trig)

/-! ## Cores: messages (R128, R199) -/

/-- Core `c` of logical slice `n`. -/
def State.core (s : State) (n c : Nat) : Core := nth s.cores (16 * n + c) {}

/-- Change core `c` of slice `n`. -/
def State.modCore (s : State) (n c : Nat) (f : Core → Core) : State := { s with cores := modNth s.cores (16 * n + c) f }

/-- PMC unit of a core of a logical slice: that of the physical slice which serves it. -/
def State.coreUnit (s : State) (n c : Nat) : Nat := 98 + 16 * (nth s.slices n {}).phys + c

/-- The function whose CORE_RUN runs a core. -/
def State.coreFunc (s : State) (n c : Nat) : Nat := ((s.job (s.core n c).job).map (·.func)).getD 0

/-- Queue a trigger message or a record notice to a core: a full queue discards it, sets LOST and counts it. -/
def State.queueMsg (s : State) (n c : Nat) (m : Msg) : State :=
  let k := s.core n c
  if k.msgs.length < 16 then
    ((s.modCore n c (fun x => { x with msgs := x.msgs ++ [m] })).setFld (Fr.CORE_DEPTH n c) (k.msgs.length + 1)).count
      (s.coreUnit n c) .messages 1
  else (s.modCore n c (fun x => { x with lost := true })).incSat (Fr.CORE_LOST n c)

/-- Queue a record notice to every core of a slice whose NOTIFY names the record's KIND. -/
def State.notify (s : State) (n kind seq addr len first : Nat) : State :=
  let bytes := [kind, 0, 0, 0] ++ le 4 seq ++ le 8 addr ++ le 4 len ++ le 8 first ++ zeros 4
  (List.range 16).foldl (fun st c => if bit (st.core n c).notify (kind - 1) then st.queueMsg n c ⟨1, 0, bytes⟩ else st) s

/-- Queue a trigger message to a core. -/
def State.trigMsg (s : State) (n c : Nat) (bytes : List Nat) : State := s.queueMsg n c ⟨0, 0, bytes⟩

/-! ## Jobs that rest on an input slot or a slice (R253, R276) -/

/-- Does open job `j` rest on logical slice `n`: a trigger armed on it, a core of it, a stream of it, a recording that
holds such a stream? -/
def State.jobOnSlice (s : State) (n : Nat) (j : Job) : Bool :=
  let w := nth j.d.p 0 0
  match j.d.opcode with
  | 0x03 => bits w 24 4 = n && bits w 16 8 ≤ 6
  | 0x05 => bits w 0 4 = n
  | 0x07 => s.streams.any (fun x => x.dest = 2 && nth x.p 3 0 = w && x.slice = n)
  | 0x0A => bits w 0 4 = n
  | _ => false

/-- Does open job `j` rest on the beats of input slot `n`: on a slice the slot feeds, or as a trigger that freezes the
slot? -/
def State.jobOnSlot (s : State) (n : Nat) (j : Job) : Bool :=
  (List.range 9).any (fun k => s.fld (Fr.SPX_INPUT k) = n && s.jobOnSlice k j)
  || j.d.opcode = 0x05 && bit (nth j.d.p 0 0) 8 && bit (nth j.d.p 3 0) n

/-! ## Trigger-started delivery (R127) -/

/-- Bytes of a tuner's block as the stream ring holds it. -/
def State.ddcItem (s : State) (n t : Nat) (r : DdcRec) : Item :=
  let base := s.inf (Fr.DDC_RING_BASE_MIB n t) * 2 ^ 20
  ⟨base + r.ofs * 64, s.hbmData (base + r.ofs * 64) (r.len * 64), r.first, r.step, 0, r.count, r.phys, 0⟩

/-- A trigger fire starts delivery of a DDC stream from its first sample at or after `first`, the blocks already in the
ring first, or moves the end of the delivery in progress: the new state, and whether the start failed. -/
def State.ddcFire (s : State) (id first durUs : Nat) : State × Bool :=
  match s.stream id with
  | none => (s, true)
  | some x =>
    if x.closing ≠ 0 then (s, true)
    else
      let stop := if durUs = 0 then 0 else first + s.samplesOfNs (1000 * durUs)
      match x.window with
      | some w => (s.modStream id (fun y => { y with window := some (w.1, if w.2 = 0 || stop = 0 then 0 else Nat.max w.2 stop) }), false)
      | none =>
        let tn := nth s.tuners (4 * x.slice + x.inst) {}
        let items := (tn.blocks.filter (fun r => first ≤ r.first + (r.count - 1) * r.step)).map (s.ddcItem x.slice x.inst)
        (s.modStream id (fun y => items.foldl Stream.take { y with window := some (first, stop) }), false)

end Sys2Proof.Machine
end

