-- ==== Sys2Proof/Machine/Calibration.lean ====
section
/-! DEFINITION. Calibration, the spare intake, takeovers and the rotating self-test (chapter 03). -/

namespace Sys2Proof.Machine

/-- Is anything due? -/
def CalDue.any (d : CalDue) : Bool :=
  d.startUp || d.fs || d.temp || d.retry || !d.jobs.isEmpty || d.mode2 || d.forced

/-- Change what intake `k` is due for; CAL.POLICY is read when a calibration falls due (R64). -/
def State.modDue (s : State) (k : Nat) (f : CalDue → CalDue) : State :=
  let g (d : CalDue) : CalDue :=
    if !d.any && (f d).any then { f d with interrupt := bit (s.fld Fr.CAL_POLICY_INTERRUPT) k } else f d
  { s with cal := { s.cal with due := modNth s.cal.due k g } }

/-- What intake `k` is due for. -/
def State.due (s : State) (k : Nat) : CalDue := nth s.cal.due k {}

/-- CAL.SPARE.PENDING: the intakes that have a calibration pending. -/
def State.updatePending (s : State) : State :=
  s.setFld Fr.CAL_SPARE_PENDING (listMask ((List.range 9).filter (fun k => (s.due k).any)))

/-- Drift of intake `k` from its baseline, Q8.8 °C. -/
def State.drift (s : State) (k : Nat) : Nat :=
  (signed 16 (s.fld (Fr.CAL_REC_TEMP_NOW k)) - nth s.cal.base k 0).natAbs

/-- The step of DELTA and the fixed limit of R57 in Q8.8 °C. -/
def calHalfDegree : Nat := 128
def calTenDegrees : Nat := 2560

/-- Does intake 8 serve an input (takeover, covered calibration or BIST)? -/
def State.spareServes (s : State) : Bool := s.fld Fr.CAL_SPARE_INPUT ≠ 0xF

/-- Is intake 8 busy (R57): covering a failed intake, failed itself, or under R55? -/
def State.spareBusy (s : State) : Bool := s.cal.takeover.isSome || s.cal.busy55 || nth s.cal.failed 8 false

/-! ## Steering of intake 8 (R35) -/

/-- Steer intake 8 to an input, or to none (0xF); while it settles the request waits. -/
def State.steer8 (s : State) (n : Nat) : State :=
  if s.cal.steering then { s with cal := { s.cal with steerNext := some n } }
  else
    let s1 := { s with cal := { s.cal with steering := true } }
    (s1.setFld (Fr.INTK_STAT_STEER 8) n).setFld (Fr.INTK_STAT_SETTLED 8) 0

/-- A self-test of intake 8 or slice 8 that R18 ends (R399): NOT_RUN and ABORTED, DONE_FLAGGED. -/
def State.abortBist (s : State) (kind index : Nat) : State :=
  match s.bists.find? (fun b => b.kind = kind && b.index = index) with
  | none => s
  | some b =>
    let s1 := { s with bists := s.bists.filter (fun x => x.kind ≠ kind || x.index ≠ index) }
    let s2 := ((s1.setFld Fr.BIST_LAST_KIND kind).setFld Fr.BIST_LAST_INDEX index).setFld Fr.BIST_LAST_RESULT 12
    if b.job = 0 then s2 else s2.complete b.job stFlagged 12 0

/-- Intake 8 begins to serve input `n` for a use: steered, with the input's attenuation (R25, Table 3.1 step 1). -/
def State.lendSpare (s : State) (n use : Nat) : State :=
  let s1 := ((s.abortBist 3 8).setFld Fr.CAL_SPARE_USE use).setFld Fr.CAL_SPARE_INPUT n
  ((s1.setFld (Fr.INTK_STATE 8) 3).setFld (Fr.INTK_ATTEN_NOW_ATTEN 8) (s.inf (Fr.INTK_ATTEN n))).steer8 n

/-- Intake 8 serves no input from now on (its steering settles after). -/
def State.freeSpare (s : State) : State :=
  let use := if nth s.cal.failed 8 false || s.cal.busy55 then 5 else 0
  let s1 := (s.setFld Fr.CAL_SPARE_USE use).setFld Fr.CAL_SPARE_INPUT 0xF
  (s1.setFld (Fr.INTK_STATE 8) (if nth s.cal.failed 8 false then 5 else 1)).setFld (Fr.INTK_ATTEN_NOW_ATTEN 8)
    (s.inf (Fr.INTK_ATTEN 8))

/-! ## Outcomes of a calibration (R54, R56, R60, R62) -/

/-- Report intake `k`'s first attempt to one CALIBRATE job: a result code at the intake's place among the named ones;
the job completes once every named intake has finished (R62). -/
def State.calReport (s : State) (k code : Nat) (job : Nat) : State :=
  match s.cal.jobs.find? (fun c => c.job = job) with
  | none => s
  | some c =>
    if !bit c.left k then s
    else
      let mask := bits ((s.job job).map (fun j => nth j.d.p 0 0) |>.getD 0) 0 9
      let place := (maskList k mask).length
      let c1 : CalJob := ⟨job, setBits c.left k 1 0, c.codes + code * 4 ^ place, c.flagged || code ≠ 0,
        c.finished + (if code = 3 then 0 else 1)⟩
      let s1 := { s with cal := { s.cal with jobs := s.cal.jobs.map (fun (x : CalJob) => if x.job = job then c1 else x) } }
      if c1.left = 0 then
        ({ s1 with cal := { s1.cal with jobs := s1.cal.jobs.filter (fun x => x.job ≠ job) } }).complete job
          (if c1.flagged then stFlagged else stDone) c1.codes c1.finished
      else s1.setExtent job c1.finished

/-- Report to a list of jobs. -/
def State.calReports (s : State) (k code : Nat) (l : List Nat) : State := l.foldl (fun st j => st.calReport k code j) s

/-- Intake `k` has calibrated: counters, temperatures and baselines, the schedule ends (R49, R56, R64). -/
def State.calSuccess (s : State) (r : CalRun) : State :=
  let k := r.k
  let tod := if s.flag Fr.CLK_TOD_VALID then s.todNow else 0
  let s1 := (s.incWrap (Fr.CAL_REC_COUNT k)).setFld (Fr.CAL_REC_LAST_ST k) s.samp
  let s2 := ((s1.setFld (Fr.CAL_REC_LAST_TOD k) tod).setFld (Fr.CAL_REC_LAST_TEMP k)
    (s.fld (Fr.CAL_REC_TEMP_NOW k))).setFld (Fr.CAL_REC_RETRY k) 0
  let s3 := { s2 with cal := { s2.cal with
    base := modNth s2.cal.base k (fun _ => signed 16 (s.fld (Fr.CAL_REC_TEMP_NOW k)))
    sched := modNth s2.cal.sched k (fun _ => false)
    retryWait := modNth s2.cal.retryWait k (fun _ => false)
    started := modNth s2.cal.started k (fun _ => true)
    busy55 := s2.cal.busy55 && !(k = 8 && !r.jobs.isEmpty) } }
  let s4 := if k = 8 && s.cal.busy55 then s3.freeSpare else s3
  ((s4.modDue k (fun d => { d with temp := false, forced := false, mode2 := false, retry := false })).calReports k
    (if r.gap then 1 else 0) r.jobs).updatePending

/-- A calibration of intake `k` is rejected: the retry schedule of R56 starts, goes on or ends with a CAL event. -/
def State.calRejected (s : State) (r : CalRun) (cause : Nat) : State :=
  let k := r.k
  let s1 := (s.incWrap (Fr.CAL_REC_REJECTED k)).setFld (Fr.CAL_REC_LAST_CAUSE k) cause
  let s2 := { s1 with cal := { s1.cal with started := modNth s1.cal.started k (fun _ => true) } }
  let on := nth s.cal.sched k false
  let s3 :=
    if !on then
      ({ s2 with cal := { s2.cal with
        sched := modNth s2.cal.sched k (fun _ => true)
        retryWait := modNth s2.cal.retryWait k (fun _ => true) } }).setFld (Fr.CAL_REC_RETRY k) 0
    else if s.fld (Fr.CAL_REC_RETRY k) < 3 then
      { s2 with cal := { s2.cal with retryWait := modNth s2.cal.retryWait k (fun _ => true) } }
    else
      ({ s2 with cal := { s2.cal with
        sched := modNth s2.cal.sched k (fun _ => false)
        base := modNth s2.cal.base k (fun _ => signed 16 (s.fld (Fr.CAL_REC_TEMP_NOW k))) } }).calEv cause k
          (if k < 8 then k else 0xF)
  ((s3.modDue k (fun d => { d with forced := false })).calReports k 2 r.jobs).updatePending

/-- A calibration of intake `m` ended by a takeover: neither success nor rejection, counted, pending again (R60). -/
def State.calAborted (s : State) (r : CalRun) : State :=
  if r.how = CalHow.covered then
    let s1 := ((s.incWrap (Fr.CAL_REC_ABORTED r.k)).setFld (Fr.CAL_REC_LAST_CAUSE r.k) 5).calEv 5 r.k r.k
    ((s1.modDue r.k (fun d => { d with temp := true })).calReports r.k 2 r.jobs).updatePending
  else s

/-- Record the residuals of a match check (R53, R64): for the intake and for intake 8. -/
def State.calResiduals (s : State) (k : Nat) (gain skew : Int) : State :=
  let put (st : State) (i : Nat) : State :=
    (st.setFld (Fr.CAL_REC_RES_GAIN i) (unsigned 16 gain)).setFld (Fr.CAL_REC_RES_SKEW i) (unsigned 16 skew)
  put (put s k) 8

/-- Set the calibration in progress. -/
def State.setRun (s : State) (r : Option CalRun) : State := { s with cal := { s.cal with run := r } }

/-! ## Starting a calibration (R50 to R52, R57) -/

/-- How a due calibration of intake `k` may run now; none where it must stay pending. -/
def State.calHow (s : State) (k : Nat) : Option CalHow :=
  let d := s.due k
  if nth s.cal.failed k false || !s.powered k || s.rails.contains 1 then none
  else if d.startUp then some CalHow.silent
  else if k = 8 then (if s.spareServes then none else some CalHow.silent)
  else if s.fld (Fr.INTK_SLOT_SOURCE k) = 1 then some CalHow.silent
  else if d.mode1 then some CalHow.inPlace
  else if !s.spareBusy then some CalHow.covered
  else if d.forced then some CalHow.inPlace
  else if d.interrupt && (d.fs || d.temp || d.retry || !d.jobs.isEmpty) && !(d.mode2
      && !d.fs && !d.temp && !d.retry) then some CalHow.inPlace
  else none

/-- Among the due intakes that can run, the next one: those due by an FS change in ascending number, then the largest
drift, ties to the lowest number (R50). -/
def State.calNext (s : State) : Option Nat :=
  let l := (List.range 9).filter (fun k => (s.due k).any && (s.calHow k).isSome)
  match l.find? (fun k => (s.due k).fs) with
  | some k => some k
  | none => l.foldl (fun b k => match b with
      | none => some k
      | some m => if s.drift m < s.drift k then some k else some m) none

/-- Jobs whose intake's calibration must stay pending report code 3 (R57, R62); a MODE 2 request stays pending. -/
def State.calPendReports (s : State) : State :=
  (List.range 9).foldl (fun st k =>
    let d := st.due k
    if !d.jobs.isEmpty && (st.calHow k).isNone then
      (st.calReports k 3 d.jobs).modDue k (fun x =>
        { x with jobs := [], mode1 := false, temp := x.temp || !x.mode2 })
    else st) s

/-- End a running self-test to lend intake 8 elsewhere (R18): the primary resumes under the GAP of R59's second row. -/
def State.endBist (s : State) : State :=
  match s.cal.run with
  | some r =>
    if r.how = CalHow.bist then
      let s1 := if s.fld (Fr.INTK_SLOT_FEEDER r.k) = 8 then
          ((s.setFld (Fr.INTK_SLOT_FEEDER r.k) r.k).setFld (Fr.INTK_STATE r.k) 1).modSlot r.k (fun x =>
            { x with gapFault := true })
        else s
      ((s1.modSlot r.k (fun x => { x with cal := false })).freeSpare).setRun none
    else if r.how = CalHow.bist8 then (s.freeSpare).setRun none
    else s
  | none => s

/-- A TAKEOVER event of a unit that a spare comes to serve after its fault (R19, R276). -/
def State.lateTakeover (s : State) (kind index spare : Nat) : State :=
  match (s.faults.filter (fun f => f.kind = kind && f.index = index && !f.returned)).getLast? with
  | none => s
  | some f =>
    let f1 := { f with spare := spare, takeover := true }
    (s.modFlt f.id (fun _ => f1)).raise 5 kind 0 (fltPay f1)

/-- Intake 8, free again, takes over a failed intake that nothing replaces (R19). -/
def State.coverFailed (s : State) : State :=
  if s.spareBusy || s.cal.run.isSome then s
  else
    match (List.range 8).find? (fun k => nth s.cal.failed k false && s.fld (Fr.INTK_SLOT_SOURCE k) = 0) with
    | none => s
    | some k =>
      let s1 := { s with cal := { s.cal with takeover := some k } }
      let s2 := (s1.lendSpare k 3).lateTakeover 1 k 8
      s2.modSlot k (fun x => { x with restore := (((s.faults.filter (fun f => f.kind = 1 && f.index = k && !f.returned)).getLast?).map (·.id)).getD 0 })

/-- A returned intake takes its input back through a covered hand-over, from step 6 on (R290). -/
def State.handBack (s : State) (k : Nat) : State :=
  if s.cal.run.isSome then { s with cal := { s.cal with returns := s.cal.returns ++ [k] } }
  else (s.modSlot k (fun x => { x with cal := true })).setRun
    (some ⟨k, CalHow.covered, 6, 0, false, false, none, [], false, s.samp, some 0⟩)

/-- CALIBRATION_START (R34, R49 to R52, R57): the next due calibration starts, covered, in place with a GAP, or in place
with no effect on a slot; the others stay pending. -/
def execCalibrationStart (s : State) : Host.Outcome State Fault Refusal :=
  let busy := match s.cal.run with
    | some r => r.how ≠ CalHow.bist && r.how ≠ CalHow.bist8
    | none => false
  .next (
    if busy then s
    else if !s.cal.returns.isEmpty then
      (({ s.endBist with cal := { s.endBist.cal with returns := s.cal.returns.tail } }).handBack (s.cal.returns.headD 0))
    else
      let s0 := s.calPendReports
      match s0.calNext with
      | none => s0.updatePending
      | some k =>
        match s0.calHow k with
        | none => s0
        | some how =>
          let d := s0.due k
          let s1 := (s0.endBist).modDue k (fun x =>
            { x with startUp := false, fs := false, temp := false, retry := false, jobs := [], mode1 := false, mode2 := false })
          let r : CalRun := ⟨k, how, 1, 0, false, false, none, d.jobs, how = CalHow.inPlace, s.samp, none⟩
          let s2 := if how = CalHow.inPlace && d.forced && s.spareBusy && !d.interrupt
            then s1.calEv 4 k k else s1
          let s3 := match how with
            | .covered => (s2.lendSpare k 1).modSlot k (fun x => { x with cal := true })
            | .inPlace => s2.setFld (Fr.INTK_STATE k) 2
            | _ => if k = 8 then (s2.setFld Fr.CAL_SPARE_USE 4).setFld (Fr.INTK_STATE 8) 2
                   else s2.setFld (Fr.INTK_STATE k) 2
          (s3.setRun (some r)).updatePending
    )

/-! ## The steps of a covered hand-over (Table 3.1) -/

/-- The hand-over is given up before any switch: input n loses nothing and intake 8 is let go. -/
def State.abandonHandover (s : State) (r : CalRun) : State :=
  ((s.modSlot r.k (fun x => { x with cal := false })).freeSpare.steer8 0xF).setRun none

/-- The intake that feeds input slot `n`; a slot that takes its beats from its link keeps reading none. -/
def State.setFeeder (s : State) (n v : Nat) : State :=
  if s.fld (Fr.INTK_SLOT_SOURCE n) = 0 then s.setFld (Fr.INTK_SLOT_FEEDER n) v else s

/-- Slot n switches to intake 8 and the primary is isolated (step 4). -/
def State.switchToSpare (s : State) (r : CalRun) : State :=
  let s1 := (s.setFeeder r.k 8).setFld (Fr.INTK_STATE r.k) (if r.how = CalHow.bist then 4 else 2)
  s1.setRun (some { r with step := 5, repeats := 0 })

/-- Slot n switches back to its primary and intake 8 is disconnected (steps 7 and 8). -/
def State.switchBack (s : State) (r : CalRun) : State :=
  let s1 := (s.setFeeder r.k r.k).setFld (Fr.INTK_STATE r.k) 1
  (s1.setRun (some { r with step := 8 })).steer8 0xF

/-- STEERING_SETTLED (R11, R35): the 2 µs settling ends; a waiting request starts the next settling, else what waited
for it goes on: a takeover switches the slot, a hand-over begins its side-by-side run or ends. -/
def execSteeringSettled (s : State) : Host.Outcome State Fault Refusal :=
  .next (
    if !s.cal.steering then s
    else match s.cal.steerNext with
      | some n =>
        let s1 := { s with cal := { s.cal with steerNext := none } }
        (s1.setFld (Fr.INTK_STAT_STEER 8) n).setFld (Fr.INTK_STAT_SETTLED 8) 0
      | none =>
        let s1 := ({ s with
          cal := { s.cal with steering := false }
          slots := s.slots.map (fun (x : SlotSt) => { x with gapFault := false }) }).setFld (Fr.INTK_STAT_SETTLED 8) 1
        let s2 := match s1.cal.takeover with
          | some k =>
            if s1.fld (Fr.INTK_STAT_STEER 8) = k && s1.fld (Fr.INTK_SLOT_SOURCE k) = 0 then
              s1.setFld (Fr.INTK_SLOT_FEEDER k) 8 else s1
          | none => s1
        match s2.cal.run with
        | some r =>
          if (r.how = CalHow.covered || r.how = CalHow.bist) && r.step = 1 && !r.own then s2.setRun (some { r with step := 3 })
          else if r.step = 8 then
            ((s2.modSlot r.k (fun x => { x with cal := false })).freeSpare.setRun none).coverFailed
          else s2
        | none => s2)

/-- SIDE_BY_SIDE_DONE (R52 to R56): a side-by-side run of 4,096 samples ends with `samples` left after exclusion; the
match check within ±0.05 dB and ±0.5 ps decides the hand-over (step 3) or the new coefficients (step 6). -/
def execSideBySideDone (samples : Nat) (gain skew : Int) (s : State) : Host.Outcome State Fault Refusal :=
  .next (match s.cal.run with
    | none => s
    | some r =>
      if r.step ≠ 3 && r.step ≠ 6 || r.how = CalHow.inPlace || r.how = CalHow.silent then s
      else if samples < 2048 && r.repeats < 4 then s.setRun (some { r with repeats := r.repeats + 1 })
      else
        let span := samples < 2048
        let pass := !span && gain.natAbs ≤ 50 && skew.natAbs ≤ 50
        let s1 := s.calResiduals r.k gain skew
        if r.step = 3 then
          if pass then s1.switchToSpare r
          else if span then
            if r.how = CalHow.bist then s1.abandonHandover r else (s1.abandonHandover r).calRejected r 6
          else if r.how = CalHow.bist then s1.abandonHandover r
          else if r.retried then
            let s2 := s1.abandonHandover r
            let s3 := { s2 with cal := { s2.cal with busy55 := true } }
            ((s3.setFld Fr.CAL_SPARE_USE 5).calEv 3 8 r.k).modDue r.k (fun d =>
              { d with temp := true, jobs := r.jobs }) |>.updatePending
          else
            let s2 := (s1.modSlot r.k (fun x => { x with cal := false })).freeSpare.steer8 0xF
            ((s2.setFld Fr.CAL_SPARE_USE 4).setFld (Fr.INTK_STATE 8) 2).setRun
              (some { r with own := true, step := 1, repeats := 0 })
        else if r.handback.isSome then
          let s2 := s1.switchBack r
          { s2 with cal := { s2.cal with takeover := none, takeFlt := 0 } }
        else
          match r.reject with
          | some c => (s1.switchBack r).calRejected r c
          | none =>
            if r.how = CalHow.bist then s1.switchBack r
            else if pass then (s1.switchBack r).calSuccess r
            else (s1.switchBack r).calRejected r (if span then 6 else 2))

/-- −60 dBFS in units of 1/64 dBFS (R54). -/
def toneLimit : Int := -3840

/-- PRIMARY_CALIBRATION_DONE (R52, R54, R61): step 5 ends. A tone residual above −60 dBFS rejects the coefficients; a
self-test that fails leaves intake 8 on the slot as a takeover with no gap. -/
def execPrimaryCalibrationDone (tone : Int) (pass : Bool) (s : State) : Host.Outcome State Fault Refusal :=
  .next (match s.cal.run with
    | none => s
    | some r =>
      if r.how = CalHow.bist8 then
        let s1 := (s.setFld (Fr.CAL_REC_BIST_PASS 8) (b2n pass)).setRun none
        if pass then s1.freeSpare
        else
          let s2 := { s1 with cal := { s1.cal with failed := modNth s1.cal.failed 8 (fun _ => true) } }
          s2.freeSpare.fault 1 8 none false s.samp 0 0 (fun _ => false)
      else if r.step ≠ 5 then s
      else if r.how = CalHow.bist then
        let s1 := s.setFld (Fr.CAL_REC_BIST_PASS r.k) (b2n pass)
        if pass then (s1.setFld (Fr.INTK_STATE r.k) 1).setRun (some { r with step := 6, repeats := 0 })
        else
          let s2 := ({ s1 with cal := { s1.cal with
            failed := modNth s1.cal.failed r.k (fun _ => true)
            takeover := some r.k } }).setRun none
          let s3 := ((s2.setFld (Fr.INTK_STATE r.k) 5).setFld Fr.CAL_SPARE_USE 3).modSlot r.k (fun x => { x with cal := false })
          let s4 := s3.fault 1 r.k (some 8) false s.samp (2 ^ r.k) s.samp (s3.jobOnSlot r.k)
          { s4 with cal := { s4.cal with takeFlt := s4.lastFlt } }
      else if r.how = CalHow.covered then
        let s1 := (s.setFld (Fr.CAL_REC_RES_TONE r.k) (unsigned 16 tone)).setFld (Fr.INTK_STATE r.k) 1
        s1.setRun (some { r with step := 6, repeats := 0, reject := if toneLimit < tone then some 1 else none })
      else s)

/-- IN_PLACE_CALIBRATION_DONE (R51, R55, R57): the in-place calibration ends and the intake reconnects. -/
def execInPlaceCalibrationDone (tone : Int) (s : State) : Host.Outcome State Fault Refusal :=
  .next (match s.cal.run with
    | none => s
    | some r =>
      if r.own then
        let s0 := (s.setFld (Fr.CAL_REC_RES_TONE 8) (unsigned 16 tone)).setFld (Fr.INTK_STATE 8) 1
        let r8 : CalRun := ⟨8, CalHow.silent, 1, 0, false, false, none, [], false, r.start, none⟩
        let s1 := if toneLimit < tone then s0.calRejected r8 1 else s0.calSuccess r8
        let s2 := (s1.lendSpare r.k 1).modSlot r.k (fun x => { x with cal := true })
        s2.setRun (some { r with own := false, retried := true, step := 1, repeats := 0 })
      else if r.how = CalHow.inPlace || r.how = CalHow.silent then
        let s1 := (s.setFld (Fr.CAL_REC_RES_TONE r.k) (unsigned 16 tone)).setFld (Fr.INTK_STATE r.k) 1
        let s2 := (if r.k ≠ 8 then s1
          else if s1.cal.takeover.isSome then (s1.setFld Fr.CAL_SPARE_USE 3).setFld (Fr.INTK_STATE 8) 3
          else s1.freeSpare).setRun none
        if toneLimit < tone then s2.calRejected r 1 else s2.calSuccess r
      else s)

/-- CALIBRATION_RETRY (R49, R56): the delay after a rejection has run out; the same intake is due again. -/
def execCalibrationRetry (k : Nat) (s : State) : Host.Outcome State Fault Refusal :=
  .next (
    if k < 9 && nth s.cal.retryWait k false then
      let s1 := { s with cal := { s.cal with retryWait := modNth s.cal.retryWait k (fun _ => false) } }
      ((s1.setFld (Fr.CAL_REC_RETRY k) (s.fld (Fr.CAL_REC_RETRY k) + 1)).modDue k (fun d =>
        { d with retry := true })).updatePending
    else s)

/-- CAL_SENSOR_READ (R49, R57): every intake's die temperature (Q8.8 °C) is read; drift beyond DELTA makes an intake due
unless a retry schedule runs for it, and a deferred calibration that reaches 10 °C is forced. -/
def execCalSensorRead (temps : List Int) (s : State) : Host.Outcome State Fault Refusal :=
  let delta := calHalfDegree * Nat.min 16 (Nat.max 1 (s.fld Fr.CAL_CTL_DELTA))
  .next ((List.range 9).foldl (fun st k =>
    let st1 := match temps[k]? with
      | some t => st.setFld (Fr.CAL_REC_TEMP_NOW k) (unsigned 16 t)
      | none => st
    let running := match st.cal.run with
      | some r => r.k = k
      | none => false
    let st2 :=
      if st1.powered k && st1.flag Fr.CAL_CTL_AUTO_EN && delta < st1.drift k && !nth st.cal.sched k false && !running then
        st1.modDue k (fun d => { d with temp := true })
      else st1
    let since := (signed 16 (st2.fld (Fr.CAL_REC_TEMP_NOW k)) - signed 16 (st2.fld (Fr.CAL_REC_LAST_TEMP k))).natAbs
    let d := st2.due k
    if k < 8 && (d.fs || d.temp || d.retry) && st2.spareBusy && calTenDegrees ≤ since then
      st2.modDue k (fun d => { d with forced := true })
    else st2) s).updatePending

/-- BACKGROUND_UPDATE (R48): after 2²⁴ contributing samples a running intake updates its offset and gain corrections;
the corrections themselves are analogue and stay inside the intake. -/
def execBackgroundUpdate (k : Nat) (s : State) : Host.Outcome State Fault Refusal :=
  .next (
    if k < 9 && s.flag Fr.CAL_CTL_BG_EN && 2 ^ 24 ≤ nth s.cal.bgN k 0
        && (s.fld (Fr.INTK_STATE k) = 1 || s.fld (Fr.INTK_STATE k) = 3) then
      { s with cal := { s.cal with
        bgN := modNth s.cal.bgN k (fun n => n - 2 ^ 24)
        bgUpdates := modNth s.cal.bgUpdates k (· + 1) } }
    else s)

/-- The intake whose turn a self-test step is: powered-down and failed ones are skipped (R61). -/
def State.rotationNext (s : State) : Option Nat :=
  ((List.range 9).map (fun i => (s.cal.rotation + i) % 9)).find? (fun k => s.powered k && !nth s.cal.failed k false)

/-- CAL_BIST_STEP (R61): a rotating self-test step starts, covered for intakes 0 to 7, in place for intake 8. -/
def execCalBistStep (s : State) : Host.Outcome State Fault Refusal :=
  .next (
    match s.rotationNext with
    | none => s
    | some k =>
      let move (st : State) : State := { st with cal := { st.cal with rotation := (k + 1) % 9 } }
      let idle := s.fld Fr.CAL_SPARE_USE = 0 && s.cal.run.isNone && !s.spareBusy
      if s.fld Fr.CAL_BIST_PERIOD = 0 then s
      else if k = 8 then
        if idle then
          move (((s.setFld Fr.CAL_SPARE_USE 2).setFld (Fr.INTK_STATE 8) 4).setRun
            (some ⟨8, CalHow.bist8, 5, 0, false, false, none, [], false, s.samp, none⟩))
        else s
      else if idle then
        move (((s.lendSpare k 2).modSlot k (fun x => { x with cal := true })).setRun
          (some ⟨k, CalHow.bist, 1, 0, false, false, none, [], false, s.samp, none⟩))
      else move s)

/-! ## Intake faults (R18, R19, R58 to R60) -/

/-- End whatever holds intake 8 for input m when a fault needs it (R59): before the switch nothing is lost; while intake
8 feeds the slot, the primary resumes under GAP; during the hand-back the slot is already the primary's. -/
def State.endCover (s : State) : State :=
  match s.cal.run with
  | none => s
  | some r =>
    if r.how = CalHow.covered || r.how = CalHow.bist then
      let s1 := if r.own then (s.setFld (Fr.INTK_STATE 8) 1) else s
      let s2 := if s1.fld (Fr.INTK_SLOT_FEEDER r.k) = 8 then
          ((s1.setFld (Fr.INTK_SLOT_FEEDER r.k) r.k).setFld (Fr.INTK_STATE r.k) 1).modSlot r.k (fun x =>
            { x with gapFault := true })
        else s1
      let s3 := (s2.modSlot r.k (fun x => { x with cal := false })).setRun none
      (if r.step < 7 then s3.calAborted r else s3).freeSpare
    else if r.how = CalHow.bist8 then (s.setRun none).freeSpare
    else if r.k = 8 then ((s.setRun none).freeSpare.modDue 8 (fun d => { d with temp := true, jobs := r.jobs })).updatePending
    else s

/-- INTAKE_FAULT (R11, R18, R19, R58 to R60, R276): the fault manager detects a failed intake. Intake 8 takes over input
k where it can; a second failure, or a failure of intake 8 while it serves a takeover, has no replacement. -/
def execIntakeFault (k onset : Nat) (s : State) : Host.Outcome State Fault Refusal :=
  .next (
    if 9 ≤ k || nth s.cal.failed k false then s
    else
      let fail (st : State) : State :=
        ({ st with cal := { st.cal with failed := modNth st.cal.failed k (fun _ => true) } }).setFld (Fr.INTK_STATE k) 5
      if k = 8 then
        match s.cal.takeover with
        | some m =>
          let s1 := (fail s).setFld Fr.CAL_SPARE_USE 5
          s1.fault 1 8 none true onset (2 ^ m) 0 (s1.jobOnSlot m)
        | none =>
          let m := s.fld Fr.CAL_SPARE_INPUT
          let s1 := fail (s.endCover)
          let s2 := ({ s1 with slots := s1.slots.map (fun (x : SlotSt) => { x with gapFault := false }) }).setFld Fr.CAL_SPARE_USE 5
          s2.fault 1 8 none false onset (if m < 8 && s.fld (Fr.INTK_SLOT_FEEDER m) = 8 then 2 ^ m else 0) s.samp
            (fun _ => false)
      else if s.fld (Fr.INTK_SLOT_SOURCE k) = 1 then
        let s1 := match s.cal.run with
          | some r => if r.k = k then (s.setRun none).calReports k 2 r.jobs else s
          | none => s
        (fail s1).fault 1 k none false onset 0 s.samp (fun _ => false)
      else if s.cal.takeover.isSome || nth s.cal.failed 8 false then
        let s1 := match s.cal.run with
          | some r => if r.k = k then (s.setRun none).calReports k 2 r.jobs else s
          | none => s
        (fail s1).fault 1 k none true onset (2 ^ k) 0 (s1.jobOnSlot k)
      else
        let covered := match s.cal.run with
          | some r => r.k = k && s.fld (Fr.INTK_SLOT_FEEDER k) = 8
          | none => false
        let s1 := match s.cal.run with
          | some r =>
            if r.k = k && s.fld (Fr.INTK_SLOT_FEEDER k) = 8 then
              ((s.setRun none).calAborted r).modSlot k (fun x => { x with cal := false })
            else if r.k = k && r.how ≠ CalHow.covered && r.how ≠ CalHow.bist then (s.setRun none).calReports k 2 r.jobs
            else s.endCover
          | none => s
        let s2 := { (fail s1) with cal := { (fail s1).cal with takeover := some k } }
        let s3 := if covered then s2.setFld Fr.CAL_SPARE_USE 3 else s2.lendSpare k 3
        let s4 := s3.fault 1 k (some 8) false onset (2 ^ k) (if covered then s.samp else 0) (s3.jobOnSlot k)
        let s5 := { s4 with cal := { s4.cal with takeFlt := s4.lastFlt } }
        if covered then s5 else s5.modSlot k (fun x => { x with restore := s4.lastFlt }))

/-! ## The CALIBRATE job (R62) -/

/-- Format checks of CALIBRATE. -/
def calibrateFmt (d : Desc) : Option Refuse :=
  let w := nth d.p 0 0
  check (w % 512 = 0 || bits w 9 2 = 3 || bits w 11 21 ≠ 0) (refuseFormat 0)

/-- State checks of CALIBRATE: a powered-down input, or an intake failed and not returned. -/
def calibrateState (s : State) (d : Desc) : Option Refuse :=
  check ((maskList 9 (nth d.p 0 0)).any (fun k => !s.powered k || nth s.cal.failed k false)) refuseState

/-- The effect of CALIBRATE: every named intake becomes due; one already calibrating serves the job (R50). -/
def calibrateApply (s : State) (d : Desc) (job : Nat) : State :=
  let w := nth d.p 0 0
  let mask := w % 512
  let mode := bits w 9 2
  let s1 : State := { s with cal := { s.cal with jobs := s.cal.jobs ++ [⟨job, mask, 0, false, 0⟩] } }
  ((maskList 9 mask).foldl (fun (st : State) k =>
    match st.cal.run with
    | some r =>
      if r.k = k && r.how ≠ CalHow.bist && r.how ≠ CalHow.bist8 && r.step < 7 then st.setRun (some { r with jobs := r.jobs ++ [job] })
      else st.modDue k (fun x =>
        { x with jobs := x.jobs ++ [job], mode1 := x.mode1 || mode = 1 && k ≠ 8, mode2 := x.mode2 || mode = 2 && k ≠ 8 })
    | none => st.modDue k (fun x =>
        { x with jobs := x.jobs ++ [job], mode1 := x.mode1 || mode = 1 && k ≠ 8, mode2 := x.mode2 || mode = 2 && k ≠ 8 }))
    s1).updatePending

end Sys2Proof.Machine
end

