-- ==== Sys2Proof/Machine/Clock.lean ====
section
/-! DEFINITION. References, synthesisers, relock, trim, time of day and SYNC (chapter 04). -/

namespace Sys2Proof.Machine

/-- Change the clock state. -/
def State.modClk (s : State) (f : ClkSt → ClkSt) : State := { s with clk := f s.clk }

/-- The other synthesiser. -/
def otherSyn (x : Nat) : Nat := 1 - x

/-- The ROLE codes of CLK.SYN[s].STAT (R91). -/
def roleActive : Nat := 0
def roleStandby : Nat := 1
def roleRelocking : Nat := 2
def roleFailed : Nat := 3

/-- The mask of the input slots with a source. -/
def State.activeSlots (s : State) : Nat := listMask ((List.range 8).filter (fun n => s.fld (Fr.INTK_SLOT_SOURCE n) < 2))

/-! ## The reference input (R66, R67) -/

/-- Does SRC in force select REF_IN? -/
def State.srcIsRef (s : State) : Bool := s.inf Fr.CLK_REF_SRC < 2

/-- REF_IN_LOSS (R66): holdover at the mean frequency `mean` (0.001 ppm), CK_PROVE on the internal oscillator, REF_LOSS;
while REF_IN is unused only PRESENT changes. -/
def execRefInLoss (mean : Int) (s : State) : Host.Outcome State Fault Refusal :=
  let s1 := s.setFld Fr.CLK_PRESENT 0
  .next (
    if s.srcIsRef && !s.flag Fr.CLK_HOLDOVER then
      let s2 := (s1.setFld Fr.CLK_HOLDOVER 1).setFld Fr.CLK_PROVE_INT 1
      (s2.modClk (fun c => { c with freqHold := mean, walkRef := false })).clockEv 1 4
    else s1)

/-- FREQ_OFS, signed 0.01 ppm, saturating (R91). -/
def freqOfs (x : Int) : Nat := unsigned 16 (if 32767 < x then 32767 else if x < -32768 then -32768 else x)

/-- REF_IN_RETURN (R67): REF_IN is back at `ofs` (0.01 ppm) from the holdover frequency. Within ±200 ppm and with
AUTO_REJOIN the loops walk onto it and ALIGNED clears; beyond, REF_BAD and holdover go on. -/
def execRefInReturn (ofs : Int) (s : State) : Host.Outcome State Fault Refusal :=
  let s1 := (s.setFld Fr.CLK_PRESENT 1).setFld Fr.CLK_FREQ_OFS (freqOfs ofs)
  .next (
    if s.srcIsRef && s.flag Fr.CLK_HOLDOVER && !s.clk.refBad then
      if ofs.natAbs ≤ 20000 then
        if s.flag Fr.CLK_AUTO_REJOIN then
          (((s1.setFld Fr.CLK_HOLDOVER 0).setFld Fr.CLK_ALIGNED 0).modClk (fun c => { c with walkRef := true })).clockEv 2 4
        else s1
      else (s1.modClk (fun c => { c with refBad := true })).clockEv 3 4
    else s1)

/-! ## Synthesisers (R69 to R71, R77 to R80) -/

/-- The LFSR seed is loaded at the start of a relock; 0 loads 1 (R69). -/
def State.loadSeed (s : State) (x : Nat) : State :=
  s.modClk (fun c => { c with synSeed := modNth c.synSeed x (fun _ => Nat.max 1 (s.fld (Fr.CLK_SYN_SEED x))) })

/-- A synthesiser goes to RELOCKING. -/
def State.synRelock (s : State) (x : Nat) : State :=
  (((s.setFld (Fr.CLK_SYN_ROLE x) roleRelocking).setFld (Fr.CLK_SYN_AL_LOCK x) 0).setFld (Fr.CLK_SYN_DL_LOCK x) 0).loadSeed x

/-- A loss of lock is counted and its attempts start. -/
def State.synLost (s : State) (x : Nat) : State :=
  ((s.synRelock x).incWrap (Fr.CLK_SYN_LOSS_COUNT x)).modClk (fun c => { c with synTry := modNth c.synTry x (fun _ => 0) })

/-- CK_DP is gated; fabric and control run on CK_PROVE (R77). -/
def State.gateDp (s : State) : State := (s.setFld Fr.CLK_RUNNING 0).modClk (fun c => { c with prove := true })

/-- LOSS_OF_LOCK (R76, R78, R79): the active synthesiser loses lock. With a locked standby the domains are handed over;
without one the datapath halts, CLK_OUT stops and links restart. -/
def execLossOfLock (onset : Nat) (s : State) : Host.Outcome State Fault Refusal :=
  let a := s.clk.active
  let b := otherSyn a
  .next (
    match s.clk.run with
    | some r =>
      if s.fld (Fr.CLK_SYN_ROLE a) = roleActive then
        ((s.synLost a).gateDp).modClk (fun c => { c with run := some { r with relock := true } , relocked := false })
      else s
    | none =>
      if s.fld (Fr.CLK_SYN_ROLE a) ≠ roleActive then s
      else
        let s0 := s.endCover
        let s1 := (s0.synLost a).gateDp
        if s.fld (Fr.CLK_SYN_ROLE b) = roleStandby && s.flag (Fr.CLK_SYN_AL_LOCK b) then
          let s2 := (s1.setFld (Fr.CLK_SYN_ROLE b) roleActive).modClk (fun c => { c with active := b, relocked := true })
          let s3 := s2.fault 3 a (some b) false onset s.activeSlots 0 (fun j => j.standing)
          s3.modClk (fun c => { c with
            gapFlt := s3.lastFlt
            synFlt := modNth c.synFlt a (fun _ => s3.lastFlt) })
        else
          let s2 := (List.range 8).foldl (fun st n => if st.linkUsed n then st.linkRestart n else st) s1
          let s3 := (s2.fault 3 a none true onset s.activeSlots 0 (fun j => j.standing)).clockEv 6 a
          s3.modClk (fun c => { c with
            halted := true
            relocked := false
            gapFlt := s3.lastFlt
            synFlt := modNth c.synFlt a (fun _ => s3.lastFlt) }))

/-- LOCK_LOSS_STANDBY (R80): the standby loses lock; a FAULT event, LOCK_LOSS_STANDBY, no effect on data. -/
def execLockLossStandby (onset : Nat) (s : State) : Host.Outcome State Fault Refusal :=
  let b := otherSyn s.clk.active
  .next (
    if s.fld (Fr.CLK_SYN_ROLE b) = roleStandby then
      let s1 := ((s.synLost b).fault 3 b none false onset 0 s.samp (fun _ => false))
      (s1.modClk (fun c => { c with synFlt := modNth c.synFlt b (fun _ => s1.lastFlt) })).clockEv 4 b
    else s)

/-- The FAULT_ACK RETURN that waits on synthesiser `x` ends (R80, R290). -/
def State.synAckEnd (s : State) (x : Nat) (ok : Bool) : State :=
  match nth s.clk.synAck x none with
  | none => s
  | some job =>
    let s1 := s.modClk (fun c => { c with synAck := modNth c.synAck x (fun _ => none) })
    let s2 := if ok then s1.modFlt (nth s.clk.synFlt x 0) (fun f => { f with returned := true }) else s1
    s2.complete job (if ok then stDone else stFlagged) 0 0

/-- LOCK_CONFIRMATION (R71, R76, R78 to R80): synthesiser `x` confirms lock at a phase error (ps). At an epoch or a
start-up both must confirm; in a halt the first becomes active; otherwise it becomes the standby. -/
def execLockConfirmation (x : Nat) (phase : Int) (s : State) : Host.Outcome State Fault Refusal :=
  .next (
    if 2 ≤ x || s.fld (Fr.CLK_SYN_ROLE x) ≠ roleRelocking then s
    else
      let y := otherSyn x
      let s1 := ((s.setFld (Fr.CLK_SYN_AL_LOCK x) 1).setFld (Fr.CLK_SYN_DL_LOCK x) 1).setFld (Fr.CLK_SYN_PHASE_ERR x)
        (unsigned 16 phase)
      let s2 := s1.modClk (fun c => { c with synTry := modNth c.synTry x (fun _ => 0) })
      if s.clk.halted then
        if s.clk.relocked then (s2.setFld (Fr.CLK_SYN_ROLE x) roleStandby).clockEv 5 x |>.synAckEnd x true
        else ((s2.setFld (Fr.CLK_SYN_ROLE x) roleActive).modClk (fun c => { c with active := x, relocked := true })).synAckEnd x true
      else if s.fld (Fr.CLK_SYN_ROLE y) ≠ roleActive then
        if s1.flag (Fr.CLK_SYN_AL_LOCK y) || s.fld (Fr.CLK_SYN_ROLE y) = roleFailed then
          let act := if s.fld (Fr.CLK_SYN_ROLE y) = roleFailed then x else s.clk.active
          let s3 := s2.setFld (Fr.CLK_SYN_ROLE act) roleActive
          let s4 := if s.fld (Fr.CLK_SYN_ROLE y) = roleFailed then s3
            else s3.setFld (Fr.CLK_SYN_ROLE (otherSyn act)) roleStandby
          s4.modClk (fun c => { c with active := act, relocked := true, internalDue := c.internalDue || !c.started })
        else s2
      else ((s2.setFld (Fr.CLK_SYN_ROLE x) roleStandby).clockEv 5 x).synAckEnd x true)

/-- SYNTH_RELOCK_RETRY (R69, R80): an attempt to relock has failed; after 16 the synthesiser is FAILED. -/
def execSynthRelockRetry (x : Nat) (s : State) : Host.Outcome State Fault Refusal :=
  .next (
    if 2 ≤ x || s.fld (Fr.CLK_SYN_ROLE x) ≠ roleRelocking || s.clk.run.isSome then s
    else
      let n := nth s.clk.synTry x 0 + 1
      let s1 := (s.loadSeed x).modClk (fun c => { c with synTry := modNth c.synTry x (fun _ => n) })
      if n < 16 then s1
      else (s1.setFld (Fr.CLK_SYN_ROLE x) roleFailed).synAckEnd x false)

/-- The samples that `periods` NTO periods span: periods × FS / f_NTO, exact (R82). -/
def State.ntoSamples (s : State) (periods : Nat) : Nat :=
  periods * 64 * (s.inf Fr.CLK_FS_N * 2 ^ 24 + s.inf Fr.CLK_FS_FRAC)
    / (2 ^ 24 * (s.inf Fr.CLK_FS_ODIV + 1) * pdivOf (s.inf Fr.CLK_FS_PDIV))

/-- The first beat of divider `d` at or after a sample time. -/
def beatAt (t d : Nat) : Nat := ceilDiv t (16 * d) * (16 * d)

/-- CK_DP_RELEASE (R17, R76 to R79, R82, R231): CK_DP is released after lock confirmation. Sample time has advanced by
the NTO periods counted while it was gated; CONT_OK clears when the NTO itself was lost. -/
def execCkDpRelease (periods : Nat) (ntoLost : Bool) (s : State) : Host.Outcome State Fault Refusal :=
  .next (
    if s.flag Fr.CLK_RUNNING || !s.clk.relocked || !s.clk.started then s
    else
      let s1 := (s.setFld Fr.CLK_RUNNING 1).modClk (fun c => { c with prove := false, relocked := false })
      match s.clk.run with
      | some _ => s1
      | none =>
        let adv := s.ntoSamples periods
        let s2 := { s1 with slots := (List.range 8).map (fun n =>
          { s.slot n with
            next := beatAt ((s.slot n).next + adv) (s.slotDiv n)
            restore := if s.clk.gapFlt = 0 then (s.slot n).restore else s.clk.gapFlt }) }
        let s3 := if ntoLost then (s2.setFld Fr.CLK_CONT_OK 0).setFld Fr.CLK_ALIGNED 0 else s2
        let s4 := if s.clk.halted then (s3.modClk (fun c => { c with halted := false })).clockEv 7 s.clk.active else s3
        s4.modClk (fun c => { c with gapFlt := 0, skipped := c.skipped + adv }))

/-! ## The memory PLL and the control PLL (R81) -/

/-- A retraining in progress is abandoned; it stays due (R240). -/
def State.abandonTraining (s : State) : State :=
  match s.hbm.training with
  | none => s
  | some p =>
    let s1 := s.setFld (Fr.MEM_PC_STATE p) pcActive
    { s1 with hbm := { s1.hbm with training := none } }

/-- MEM_PLL (R81, R240): the memory PLL loses lock; HBM traffic waits in the ballast and a retraining is abandoned. -/
def execMemPll (onset : Nat) (s : State) : Host.Outcome State Fault Refusal :=
  .next (
    if s.clk.memPll.isSome then s
    else
      let s0 := s.abandonTraining
      let s1 := ((s0.fault 0x0F 0 none false onset 0 0 (fun _ => false)).clockEv 0x0F 2).stall (List.range (s.fld Fr.MEM_N_ACT))
      s1.modClk (fun c => { c with memPll := some s1.lastFlt }))

/-- MEM_PLL_RELOCK (R81): relock is confirmed and held traffic released, but for a slot in training or in
self-refresh. -/
def execMemPllRelock (s : State) : Host.Outcome State Fault Refusal :=
  .next (match s.clk.memPll with
    | none => s
    | some id => ((s.restoredAt id s.samp).modClk (fun c => { c with memPll := none })).unstall
      (s.hbm.stalled.filter (fun x => !s.heldElse.contains x)))

/-- PROVE_FALLBACK (R81): the control PLL loses lock and CK_PROVE moves to the internal oscillator. -/
def execProveFallback (onset : Nat) (s : State) : Host.Outcome State Fault Refusal :=
  .next (
    if s.clk.ctlPll.isSome then s
    else
      let s1 := ((s.setFld Fr.CLK_PROVE_INT 1).fault 0x0F 1 none false onset 0 0 (fun _ => false)).clockEv 0x10 3
      s1.modClk (fun c => { c with ctlPll := some s1.lastFlt }))

/-- CONTROL_PLL_RELOCK (R67, R81): CK_PROVE returns to the control PLL. -/
def execControlPllRelock (s : State) : Host.Outcome State Fault Refusal :=
  let s1 := s.setFld Fr.CLK_PROVE_INT 0
  .next (match s.clk.ctlPll with
    | none => s1
    | some id => (s1.restoredAt id s.samp).modClk (fun c => { c with ctlPll := none }))

/-! ## Trim (R73) -/

/-- A trim target within ±200 ppm, in 0.001 ppm. -/
def trimClamp (x : Int) : Int := if 200000 < x then 200000 else if x < -200000 then -200000 else x

/-- A committed trim target takes effect: clamped with CLAMP and TRIM_CLAMP, the walk starts. -/
def State.setTrim (s : State) (x : Int) : State :=
  let c := trimClamp x
  let s1 := (s.setInf Fr.CLK_TRIM_TARGET (unsigned 19 x)).modClk (fun k => { k with target := c })
  let s2 := s1.setFld Fr.CLK_WALKING (b2n (c ≠ signed 19 (s.fld Fr.CLK_TRIM_NOW)))
  if c ≠ x then (s2.setFld Fr.CLK_CLAMP 1).clockEv 8 s.clk.active else s2.setFld Fr.CLK_CLAMP 0

/-- TRIM_STEP (R73): both synthesisers move together by at most 1 ppm toward the target. -/
def execTrimStep (s : State) : Host.Outcome State Fault Refusal :=
  let cur := signed 19 (s.fld Fr.CLK_TRIM_NOW)
  let d := s.clk.target - cur
  let stp : Int := if 1000 < d then 1000 else if d < -1000 then -1000 else d
  .next (
    if s.flag Fr.CLK_WALKING then
      (s.setFld Fr.CLK_TRIM_NOW (unsigned 19 (cur + stp))).setFld Fr.CLK_WALKING (b2n (cur + stp ≠ s.clk.target))
    else s)

/-! ## SYNC (R74, R86) -/

/-- OUT_MODE in force. -/
def State.syncOutMode (s : State) : Nat := s.inf Fr.CLK_SYNC_OUT_MODE

/-- SYNC_IN_PULSE (R74, R86): a qualifying pulse requests the pending epoch, or is counted IGNORED; REPEAT mode repeats
it on SYNC_OUT. -/
def execSyncInPulse (s : State) : Host.Outcome State Fault Refusal :=
  let s1 := if s.syncOutMode = 1 then (s.emit (.edge 4 1)).emit (.edge 4 0) else s
  .next (match s.clk.epoch with
    | none => s1.incSat Fr.CLK_SYNC_IGNORED
    | some e =>
      if e.timed || e.requested then s1
      else s1.modClk (fun c => { c with epoch := some { e with requested := true } }))

/-- SYNC_TIMEOUT (R74): no pulse came within TIMEOUT; the COMMIT completes CANCELLED, the values in force stay. -/
def execSyncTimeout (s : State) : Host.Outcome State Fault Refusal :=
  .next (match s.clk.epoch with
    | none => s
    | some e =>
      if e.timed || e.requested then s
      else ((s.modClk (fun c => { c with epoch := none })).setFld Fr.CLK_SYNC_PENDING 0).complete e.job stCancelled 0 0)

/-- SYNC_OUT_GENERATE (R86): one pulse, 8 reference periods high, at the target of the device's own pending epoch
COMMIT, under the OUT_MODE that COMMIT carries. -/
def execSyncOutGenerate (s : State) : Host.Outcome State Fault Refusal :=
  .next (match s.clk.epoch with
    | none => s
    | some e =>
      if s.capFld e.cap Fr.CLK_SYNC_OUT_MODE = 2 && !e.generated && (e.immediate || e.target ≤ s.samp) then
        ((s.emit (.edge 4 1)).emit (.edge 4 0)).modClk (fun c => { c with epoch := some { e with generated := true } })
      else s)

/-! ## Time of day (R83 to R85) -/

/-- Latch a pair (sample time, time of day). -/
def State.latchPair (s : State) (st tod : Nat) : State :=
  (s.modClk (fun c => { c with pairSt := st, pairTod := tod })).setFld Fr.CLK_TOD_NOW tod

/-- TOD_PAIR_LATCH (R83): every 2²⁴ samples the device latches a pair; `tod` is the counter it latches. -/
def execTodPairLatch (tod : Nat) (s : State) : Host.Outcome State Fault Refusal :=
  .next (if s.clk.pairSt / 2 ^ 24 < s.samp / 2 ^ 24 then s.latchPair (s.samp / 2 ^ 24 * 2 ^ 24) tod else s)

/-- The second nearest a time of day in ns. -/
def nearestSecond (tod : Nat) : Nat := (tod + 500000000) / 1000000000

/-- PPS_EDGE (R83, R84): the edge latches PPS_ST and PPS_TOD and a pair; an edge within 0.5 s of the last is ignored.
With SRC 1 or 3 an error of STEP_THR or more steps the counter, a smaller one slews its rate. -/
def execPpsEdge (st tod : Nat) (s : State) : Host.Outcome State Fault Refusal :=
  .next (
    if s.clk.ppsEdge && st < s.fld Fr.CLK_PPS_ST + s.fs.floorMul 1 2 && s.fld Fr.CLK_PPS_ST ≤ st then s
    else
      let src := s.fld Fr.CLK_TOD_SRC
      let set := src = 1 && s.clk.todSet
      let sec : Nat := if set then s.fld Fr.CLK_TOD_SET else nearestSecond tod
      let want : Int := (sec * 1000000000 : Nat) + signed 32 (s.fld Fr.CLK_PPS_OFS)
      let e : Int := (tod : Int) - want
      let stp := (src = 1 || src = 3) && 10 * Nat.max 1 (s.fld Fr.CLK_STEP_THR) ≤ e.natAbs
      let now := if stp then want.toNat else tod
      let s1 := ((s.setFld Fr.CLK_PPS_ST st).setFld Fr.CLK_PPS_TOD now).latchPair st now
      let s2 := if set then (s1.setFld Fr.CLK_TOD_VALID 1).modClk (fun c => { c with todSet := false }) else s1
      let s3 := if s.clk.ppsEdge && !s.flag Fr.CLK_PPS_PRESENT then s2.clockEv 0xB 5 else s2
      let s4 := (s3.setFld Fr.CLK_PPS_PRESENT 1).modClk (fun c => { c with ppsEdge := true })
      if stp then s4.clockEv 0xC 5 else s4)

/-- PPS_LOSS (R84): no edge for 1.5 s. -/
def execPpsLoss (s : State) : Host.Outcome State Fault Refusal :=
  .next (if s.flag Fr.CLK_PPS_PRESENT then (s.setFld Fr.CLK_PPS_PRESENT 0).clockEv 0xA 5 else s)

/-- Does PTP set the time of day, or steer FS (R85)? -/
def State.ptpUsed (s : State) : Bool :=
  s.fld Fr.CLK_TOD_SRC = 2 || s.fld Fr.CLK_TOD_SRC = 3 || s.inf Fr.CLK_REF_SRC = 2

/-- The port PTP runs on: PTP_PORT, or the other one once a port failure has moved it (R327). -/
def State.ptpPort (s : State) : Nat := if s.clk.ptpMoved then 1 - s.fld Fr.CLK_PTP_PORT else s.fld Fr.CLK_PTP_PORT

/-- PTP_MESSAGE (R85, R325, R327): kind 0 a Sync exchange measured (offset in ns, frequency error `rate` in 0.001 ppm,
the time of day it sets), kind 1 an Announce with the UTC offset. -/
def execPtpMessage (port kind : Nat) (offset rate : Int) (tod utc : Nat) (s : State) : Host.Outcome State Fault Refusal :=
  .next (
    if !s.ptpUsed || port ≠ s.ptpPort then s
    else if kind = 1 then s.setFld Fr.CLK_UTC_OFS utc
    else if kind ≠ 0 then s
    else
      let s1 := s.modClk (fun c => { c with ptpSync := true, ptpLost := false, ptpOffset := offset })
      let s2 := s1.setFld Fr.CLK_PTP_LOCKED (b2n (offset.natAbs < 10 * Nat.max 1 (s.fld Fr.CLK_STEP_THR)))
      let s3 := if s.fld Fr.CLK_TOD_SRC = 2 then (s2.latchPair s.samp tod).setFld Fr.CLK_TOD_VALID 1
        else if s.fld Fr.CLK_TOD_SRC = 3 then s2.setFld Fr.CLK_TOD_VALID 1 else s2
      if s.inf Fr.CLK_REF_SRC = 2 then
        let s4 := s3.setTrim (s.clk.target - rate)
        if !s.clk.ptpAcquired && rate.natAbs ≤ 100 then
          (s4.modClk (fun c => { c with ptpAcquired := true, internalDue := true })).clockEv 0xE 6
        else s4
      else s3)

/-- PTP_LOSS (R85): no Sync message for 4 s; counter and trim hold their last rate. -/
def execPtpLoss (s : State) : Host.Outcome State Fault Refusal :=
  .next (
    if s.ptpUsed && s.clk.ptpSync && !s.clk.ptpLost then
      ((s.modClk (fun c => { c with ptpLost := true })).setFld Fr.CLK_PTP_LOCKED 0).clockEv 0xD 6
    else s)

/-! ## Checks of CLK commits (R68, R73, R74, R86, R88, R89) -/

/-- The six registers of an epoch COMMIT (R74). -/
def epochRegs : List Nat := [0x10000, 0x10008, 0x1000C, 0x10080, 0x1008C, 0x10090]

/-- FS of captured words. -/
def State.capFs (s : State) (c : RegFile) : Rate :=
  fsRate (vcoRate (ntoRate (s.capFld c Fr.CLK_REF_SRC) (s.capFld c Fr.CLK_NTO_MUL) (Nat.max 1 (s.capFld c Fr.CLK_NTO_DIV)))
    (s.capFld c Fr.CLK_FS_N) (s.capFld c Fr.CLK_FS_FRAC)) (s.capFld c Fr.CLK_FS_ODIV) (s.capFld c Fr.CLK_FS_PDIV)

/-- Do captured epoch values keep every limit of R68, R86, R88 and R89? -/
def State.epochValuesOk (s : State) (c : RegFile) : Bool :=
  let v f := s.capFld c f
  let nto := ntoRate (v Fr.CLK_REF_SRC) (v Fr.CLK_NTO_MUL) (v Fr.CLK_NTO_DIV)
  let vco := vcoRate nto (v Fr.CLK_FS_N) (v Fr.CLK_FS_FRAC)
  v Fr.CLK_NTO_DIV ≠ 0
  && nto.within 780000000 820000000 && vco.within 12000000000 16400000000
  && (s.capFs c).within 6000000000 16400000000
  && (v Fr.CLK_FS_ODIV = 0 && v Fr.CLK_FS_PDIV ≠ 3 || v Fr.CLK_FS_ODIV = 1 && v Fr.CLK_FS_PDIV = 0)
  && v Fr.CLK_SYNC_OUT_MODE ≠ 3
  && 4 ≤ v Fr.CLK_CLKOUT_DIV && v Fr.CLK_CLKOUT_DIV ≤ 64
  && v Fr.CLK_SYSREF_MODE ≠ 3 && v Fr.CLK_SYSREF_MULT ≠ 0
  && v Fr.CLK_SYSREF_OFS % v Fr.CLK_CLKOUT_DIV = 0

/-- Does R43 forbid captured epoch values? -/
def State.epochBreaksLinks (s : State) (c : RegFile) : Bool :=
  s.linkBreaks (s.capFs c)
  || s.capFld c Fr.CLK_SYSREF_MODE = 0 && (List.range 8).any (fun n => s.linkUsed n)

/-- State checks of an epoch COMMIT (R43, R74). -/
def State.epochRefused (s : State) (c : RegFile) : Bool :=
  s.jobs.any (fun j => j.standing && j.done.isNone) || !s.hbm.freezes.isEmpty || s.epochBreaksLinks c
  || s.clk.epoch.isSome || s.clk.run.isSome

/-- Is an epoch COMMIT pending (R74)? -/
def State.epochPending (s : State) : Bool := s.clk.epoch.isSome || (s.clk.run.any (fun r => r.job.isSome))

/-- PTP has not acquired while it is the reference: standing jobs are refused (R85). -/
def State.ptpUnacquired (s : State) : Bool := s.inf Fr.CLK_REF_SRC = 2 && !s.clk.ptpAcquired

/-- No standing job may open: an epoch COMMIT is pending, or PTP has not acquired (R74, R85). -/
def State.noStanding (s : State) : Bool := s.epochPending || s.ptpUnacquired

end Sys2Proof.Machine
end

