-- ==== Sys2Proof/Machine/Num.lean ====
section
/-! DEFINITION. Arithmetic the spec computes with: rounding (R5), saturation, powers in decibels (R101), IEEE 754
binary32, CRC-32C, and the windows and prototypes of R95 from fixed-point series. -/

namespace Sys2Proof.Machine

/-- floor(x + 1/2) of the fraction a/b (R5: half of the new LSB is added, then the floor is taken). -/
def roundDiv (a : Int) (b : Nat) : Int := (2 * a + b) / (2 * b : Nat)

/-- Drop the `k` lowest bits, rounding half up (R5). -/
def narrow (x : Int) (k : Nat) : Int := if k = 0 then x else (x + 2 ^ (k - 1)) / 2 ^ k

/-- Clip to the range of a two's-complement value of `w` bits. -/
def sat (w : Nat) (x : Int) : Int :=
  if 2 ^ (w - 1) - 1 < x then 2 ^ (w - 1) - 1 else if x < -(2 ^ (w - 1)) then -(2 ^ (w - 1)) else x

/-- Does a value leave the range of `w` bits? -/
def leaves (w : Nat) (x : Int) : Bool := 2 ^ (w - 1) - 1 < x || x < -(2 ^ (w - 1))

/-- Cut an integer to `w` bits, as the register that holds it wraps. -/
def wrap (w : Nat) (x : Int) : Int := signed w (unsigned w x)

/-! ## Logarithms (R101) -/

/-- The least exponent e ≥ `e` with x < 10^(e+1), tried `n` times. -/
def log10Up (x : Nat) : Nat → Nat → Nat
  | 0, e => e
  | n + 1, e => if x < 10 ^ (e + 1) then e else log10Up x n (e + 1)

/-- floor(log10 x) for x ≥ 1. -/
def log10Floor (x : Nat) : Nat := log10Up x 8 (Nat.log2 x * 30102 / 100000 - 1)

/-- floor(log10 (a / b)) for positive a and b. -/
def log10Frac (a b : Nat) : Int :=
  if b ≤ a then (log10Floor (a / b) : Nat)
  else -((log10Floor ((b - 1) / a) : Nat) + 1 : Int)

/-- round_half_up(640 × log10(a / b)), exactly: the greatest n with 10^(2n − 1) ≤ (a / b)^1280. -/
def log640 (a b : Nat) : Int := (log10Frac (a ^ 1280) (b ^ 1280) + 1) / 2

/-- Saturate to a signed 16-bit log-power value. -/
def satLog (x : Int) : Int := sat 16 x

/-! ## IEEE 754 binary32 -/

/-- floor(log2 (a / b)) for positive a and b. -/
def log2Frac (a b : Nat) : Int :=
  let e : Int := (Nat.log2 a : Int) - Nat.log2 b
  let ge (x : Int) : Bool := if 0 ≤ x then b * 2 ^ x.toNat ≤ a else b ≤ a * 2 ^ (-x).toNat
  if ge (e + 1) then e + 1 else if ge e then e else e - 1

/-- round_half_up of (a / b) / 2^x. -/
def scaleRound (a b : Nat) (x : Int) : Nat :=
  if 0 ≤ x then (roundDiv a (b * 2 ^ x.toNat)).toNat else (roundDiv (a * 2 ^ (-x).toNat : Nat) b).toNat

/-- The binary32 word of a non-negative fraction, rounded half up (R101). -/
def binary32 (a b : Nat) : Nat :=
  if a = 0 || b = 0 then 0
  else
    let e := log2Frac a b
    if e < -126 then scaleRound a b (-149)
    else
      let m := scaleRound a b (e - 23)
      if m = 2 ^ 24 then (e + 1 + 127).toNat * 2 ^ 23
      else (e + 127).toNat * 2 ^ 23 + (m - 2 ^ 23)

/-! ## CRC-32C -/

/-- One bit of the reflected CRC-32C. -/
def crcBit (c : Nat) : Nat := if c % 2 = 1 then Nat.xor (c / 2) 0x82F63B78 else c / 2

/-- One byte of the reflected CRC-32C. -/
def crcByte (c b : Nat) : Nat :=
  crcBit (crcBit (crcBit (crcBit (crcBit (crcBit (crcBit (crcBit (Nat.xor c (b % 256)))))))))

/-- CRC-32C of bytes, going on from a running value (0 at the start). -/
def crc32cFrom (c : Nat) (bs : List Nat) : Nat := Nat.xor (bs.foldl crcByte (Nat.xor c 0xFFFFFFFF)) 0xFFFFFFFF

/-- CRC-32C of bytes. -/
def crc32c (bs : List Nat) : Nat := crc32cFrom 0 bs

/-! ## Fixed-point series (windows and prototypes, R95) -/

/-- The unit of the fixed-point series: 2^128. -/
def fixOne : Int := 2 ^ 128

/-- π in units of 2^−128. -/
def fixPi : Int := 1069028584064966747859680373161870783300

/-- Product of two fixed-point numbers. -/
def fixMul (a b : Int) : Int := a * b / fixOne

/-- Terms of a series t_(k+1) = t_k × x2 / ((2k + d)(2k + d + 1)), alternating, summed `n` deep. -/
def fixSeries (x2 : Int) (d : Nat) : Nat → Nat → Int → Int
  | 0, _, t => t
  | n + 1, k, t => t + fixSeries x2 d n (k + 1) (-(fixMul t x2) / (((2 * k + d) * (2 * k + d + 1) : Nat) : Int))

/-- cos x for |x| ≤ π/2 in fixed point. -/
def fixCosSmall (x : Int) : Int := fixSeries (fixMul x x) 1 40 0 fixOne

/-- sin x for |x| ≤ π/2 in fixed point. -/
def fixSinSmall (x : Int) : Int := fixSeries (fixMul x x) 2 40 0 x

/-- cos(2π n / d). -/
def fixCos (n d : Nat) : Int :=
  let m := n % d
  let m1 := if d < 2 * m then d - m else m
  -- the angle lies in 0 to π
  if 4 * m1 ≤ d then fixCosSmall (2 * fixPi * m1 / d) else -(fixCosSmall (2 * fixPi * (d - 2 * m1 : Int) / (2 * d : Nat)))

/-- sin(2π n / d). -/
def fixSin (n d : Nat) : Int := fixCos (4 * n + 3 * d) (4 * d)

/-- The modified Bessel function I0 of √q / 2^(scale): Σ (q/4)^k / (k!)², for q = x² in fixed point. -/
def fixI0 (q : Int) : Nat → Nat → Int → Int
  | 0, _, t => t
  | n + 1, k, t => t + fixI0 q n (k + 1) (fixMul t q / ((4 * (k + 1) * (k + 1) : Nat) : Int))

/-- I0(x) from x² in fixed point. -/
def fixBesselI0 (x2 : Int) : Int := fixI0 x2 120 0 fixOne

/-- A fixed-point value to Q2.16, rounded half up (R5, R95). -/
def fixToQ16 (x : Int) : Int := narrow x 112

/-- The cosine-sum coefficients of Table 5.3, in 10^−8. -/
def windowCoefs (win : Nat) : List Int :=
  match win with
  | 0 => [100000000]
  | 1 => [50000000, 50000000]
  | 2 => [35875000, 48829000, 14128000, 1168000]
  | 3 => [21557895, 41663158, 27726316, 8357895, 694737]
  | _ => []

/-- Window value i of length n at full precision (R95). `beta` is UQ5.3. -/
def windowAt (win beta n i : Nat) : Int :=
  if win = 4 then
    let b2 : Int := fixOne * (beta * beta : Nat) / 64
    let u : Int := 2 * (i : Int) - n
    let arg : Int := b2 - b2 * (u * u) / ((n * n : Nat) : Int)
    fixBesselI0 arg * fixOne / fixBesselI0 b2
  else
    let term (m : Nat) (a : Int) : Int := (if m % 2 = 1 then -1 else 1) * a * fixCos (m * i) n
    ((List.zipWith term (List.range (windowCoefs win).length) (windowCoefs win)).foldl (· + ·) 0) / 100000000

/-- A built-in window in Q2.16. -/
def builtinWindow (win beta n : Nat) : List Int := (List.range n).map (fun i => fixToQ16 (windowAt win beta n i))

/-- sin(π x) / (π x) at x = (i − 4K) / (2K), full precision. -/
def sincAt (k i : Nat) : Int :=
  let d : Int := (i : Int) - 4 * k
  if d = 0 then fixOne
  else
    let a := d.natAbs
    -- sin(π a / 2K) = sin(2π a / 4K), even function of d
    fixSin a (4 * k) * fixOne / (fixPi * a / (2 * k : Nat))

/-- The built-in PFB prototype in Q2.16: sinc times the window of length 8K, scaled so that its sum is 2K (R95). -/
def builtinPrototype (win beta k : Nat) : List Int :=
  let raw := (List.range (8 * k)).map (fun i => fixMul (sincAt k i) (windowAt win beta (8 * k) i))
  let sum := raw.foldl (· + ·) 0
  if sum = 0 then raw.map (fun _ => 0)
  else raw.map (fun x => fixToQ16 (x * (2 * k : Nat) * fixOne / sum))

end Sys2Proof.Machine
end

