-- ==== Sys2Proof/Machine/Spectral.lean ====
section
/-! DEFINITION. The spectral engine of a slice, its detectors, traces, kurtosis blocks and history (chapters 05, 06). -/

namespace Sys2Proof.Machine

/-- Slice `n`. -/
def State.slice (s : State) (n : Nat) : Slice := nth s.slices n {}

/-- Change slice `n`. -/
def State.modSlice (s : State) (n : Nat) (f : Slice → Slice) : State := { s with slices := modNth s.slices n f }

/-! ## The grid (R92, R93) -/

/-- Points of the FFT: N in FFT mode, 2K in PFB mode. -/
def spxPoints (mode l2 : Nat) : Nat := if mode = 0 then 2 ^ l2 else 2 * 2 ^ l2

/-- The span W. -/
def spxSpan (mode l2 : Nat) : Nat := if mode = 0 then 2 ^ l2 else 8 * 2 ^ l2

/-- The hop H. -/
def spxHop (mode l2 ovl : Nat) : Nat := if mode = 0 then 2 ^ l2 / 2 ^ ovl else 2 * 2 ^ l2 / 2 ^ ovl

/-- The bins a spectrum has: N/2, or K channels. -/
def spxBins (mode l2 : Nat) : Nat := if mode = 0 then 2 ^ l2 / 2 else 2 ^ l2

/-- Are length and overlap legal (R93)? -/
def spxLegal (mode l2 ovl : Nat) : Bool :=
  if mode = 0 then 8 ≤ l2 && l2 ≤ 16 && ovl ≤ 2 else 9 ≤ l2 && l2 ≤ 13 && ovl ≤ 1

/-- The engine's geometry in force. -/
def State.spxMode (s : State) (n : Nat) : Nat := s.inf (Fr.SPX_CTL_MODE n)
def State.spxL2 (s : State) (n : Nat) : Nat := s.inf (Fr.SPX_CTL_LOG2LEN n)
def State.spxW (s : State) (n : Nat) : Nat := spxSpan (s.spxMode n) (s.spxL2 n)
def State.spxH (s : State) (n : Nat) : Nat := spxHop (s.spxMode n) (s.spxL2 n) (s.inf (Fr.SPX_CTL_OVL n))
def State.spxNbins (s : State) (n : Nat) : Nat := spxBins (s.spxMode n) (s.spxL2 n)

/-- The input slot that feeds a slice; 0xF none (R13). -/
def State.sliceInput (s : State) (n : Nat) : Nat := s.fld (Fr.SPX_INPUT n)

/-- The divider of the slot that feeds a slice. -/
def State.sliceD (s : State) (n : Nat) : Nat := if s.sliceInput n < 8 then s.slotDiv (s.sliceInput n) else 1

/-- Is the engine running: enabled, fed, and its physical slice in service? -/
def State.spxRuns (s : State) (n : Nat) : Bool :=
  s.inf (Fr.SPX_CTL_EN n) = 1 && s.sliceInput n < 8 && !(s.slice n).failed

/-- The attenuation in force for the slot that feeds a slice. -/
def State.sliceAtten (s : State) (n : Nat) : Nat :=
  if s.sliceInput n < 8 then s.fld (Fr.INTK_ATTEN_NOW_ATTEN (s.sliceInput n)) else 0

/-! ## Windows and reference power (R95, R101) -/

/-- The window or prototype of the configuration in force. -/
def State.spxWindow (s : State) (n : Nat) : List Int :=
  let win := s.inf (Fr.SPX_CTL_WIN n)
  let l2 := s.spxL2 n
  if win = 5 then (nth (s.slice n).banks (s.inf (Fr.SPX_CTL_TBANK n)) []).take (s.spxW n)
  else if s.spxMode n = 0 then builtinWindow win (s.inf (Fr.SPX_CTL_BETA n)) (2 ^ l2)
  else builtinPrototype win (s.inf (Fr.SPX_CTL_BETA n)) (2 ^ l2)

/-- The shift schedule in force, one entry per stage (R98). -/
def State.spxShifts (s : State) (n : Nat) : List Nat :=
  let stages := s.spxL2 n + s.spxMode n
  (List.range stages).map (fun i => bits (s.inf (Fr.SPX_SHIFT_S n)) (2 * i) 2)

/-- P_FS as a fraction: (2^15 × G / 2^S)², G = |Σ w| or half of |Σ h| (R101). -/
def State.spxPfs (s : State) (n : Nat) : Nat × Nat :=
  let g := (((s.slice n).win.foldl (· + ·) 0)).natAbs
  let sh := (s.spxShifts n).foldl (· + ·) 0
  (g * g * 2 ^ 30, 2 ^ (2 * (16 + s.spxMode n + sh)))

/-- log_corr of R101: saturated; +32,767 when G = 0. -/
def logCorr (pfs : Nat × Nat) : Int := if pfs.1 = 0 then 32767 else satLog (-(log640 pfs.1 pfs.2))

/-- log(P) of R101; zero power reads −32,768. -/
def logPower (corr : Int) (p : Nat) : Int := if p = 0 then -32768 else satLog (log640 p 1 + corr)

/-- Recompute window and LOG_CORR, as at each change instant (R111). -/
def State.spxPrepare (s : State) (n : Nat) : State :=
  let s1 := s.modSlice n (fun x => { x with win := s.spxWindow n })
  s1.setFld (Fr.SPX_LOGCORR n) (unsigned 16 (logCorr (s1.spxPfs n)))

/-! ## A frame's spectrum (R97 to R102, R434) -/

/-- The beats of a frame: those of the buffer at the frame's positions, GAP beats where none was received. -/
def framePick : Nat → List SBeat → Nat → Nat → List SBeat
  | 0, _, _, _ => []
  | n + 1, l, t, d =>
    let l1 := l.dropWhile (fun b => b.t < t)
    match l1 with
    | b :: rest =>
      if b.t = t then b :: framePick n rest (t + 16 * d) d
      else ⟨t, d, 8, List.replicate 16 0⟩ :: framePick n l1 (t + 16 * d) d
    | [] => ⟨t, d, 8, List.replicate 16 0⟩ :: framePick n [] (t + 16 * d) d

/-- The flag summary of R15 over flag nibbles: INVALID, OVR, CAL, GAP from bit 0. -/
def flagSummary (l : List Nat) : Nat :=
  b2n (l.any (fun f => !bit f 0 && !bit f 3)) + 2 * b2n (l.any (fun f => bit f 1)) + 4 * b2n (l.any (fun f => bit f 2))
  + 8 * b2n (l.any (fun f => bit f 3))

/-- One FFT input of a window product or prototype sum: narrowed to Q13.5 and saturated to 18 bits. -/
def fftInput (x : Int) : Int := sat 18 (narrow x 11)

/-- The sums that enter the FFT before narrowing (R97, R434). -/
def fftSums (mode pts : Nat) (x w : List Int) : List Int :=
  let prod := List.zipWith (· * ·) x w
  if mode = 0 then prod
  else
    let part (t : Nat) : List Int := (prod.drop (pts * t)).take pts
    List.zipWith (· + ·) (List.zipWith (· + ·) (part 0) (part 1)) (List.zipWith (· + ·) (part 2) (part 3))

/-- A frame as the engine computes it. -/
structure Frame where
  start : Nat
  stop : Nat               -- one slot sample after its last
  flags : Nat              -- flag summary; bit 4 FFT_OVF
  chan : List (Int × Int)  -- complex bins
  pow : List Nat
  logs : List Int
  deriving DecidableEq, Repr

/-- Compute the frame of slice `n` that starts at `start`. -/
def State.mkFrame (s : State) (n : Nat) : Frame :=
  let x := s.slice n
  let d := s.sliceD n
  let w := s.spxW n
  let beats := framePick (w / 16) x.buf x.next d
  let samples := beats.flatMap (fun b => b.samples)
  let sums := fftSums (s.spxMode n) (spxPoints (s.spxMode n) (s.spxL2 n)) samples x.win
  let inOvf := sums.any (fun v => leaves 18 (narrow v 11))
  let r := Config.fft (spxPoints (s.spxMode n) (s.spxL2 n)) (sums.map fftInput) (s.spxShifts n)
  let chan := (List.range (s.spxNbins n)).map (fun i => (sat 24 (nth r.1 i (0, 0)).1, sat 24 (nth r.1 i (0, 0)).2))
  let pow := chan.map (fun c => (c.1 * c.1 + c.2 * c.2).toNat)
  let corr := signed 16 (s.fld (Fr.SPX_LOGCORR n))
  let fl := flagSummary (beats.map (fun b => b.flags))
  let fl1 := if x.next < x.gapUntil then setBits fl 3 1 1 else fl
  ⟨x.next, x.next + w * d, fl1 + 16 * b2n (inOvf || r.2), chan, pow, pow.map (logPower corr)⟩

/-- The physical slice that writes a result of logical slice `n` which begins at `first`: during a switch of R401, the
incoming slice writes those whose inputs all lie at or after A + 1 µs. -/
def State.servePhys (s : State) (n first : Nat) : Nat :=
  match s.rot with
  | some r => if r.m = n && r.phase ≠ 1 && r.a + s.samplesOfNs 1000 ≤ first then r.to_ else (s.slice n).phys
  | none => (s.slice n).phys

/-! ## The history (R140) -/

/-- Is a history placed (R141)? -/
def State.histPlaced (s : State) (n : Nat) : Bool := s.inf (Fr.HIST_SIZE_MIB n) ≠ 0

/-- Append one record to the history of slice `n`: filler and wrap where it does not fit, the oldest records it
overwrites are gone, a notice goes to the cores. -/
def State.appendRecord (s : State) (n kind seq first : Nat) (bytes : List Nat) : State :=
  if !s.histPlaced n then s
  else
    let total := s.inf (Fr.HIST_SIZE_MIB n) * 16384
    let len := ceilDiv bytes.length 64
    let base := s.inf (Fr.HIST_BASE_MIB n) * 2 ^ 20
    let w0 := s.fld (Fr.HIST_WR_OFS n)
    let wraps := total < w0 + len
    let s1 := if wraps then (s.rtWrite (base + w0 * 64) (zeros 64)).incWrap (Fr.HIST_WRAPS n) else s
    let w := if wraps then 0 else w0
    let gone (r : HistRec) : Bool :=
      (r.ofs < w + len && w < r.ofs + r.len) || (wraps && w0 ≤ r.ofs)
    let keep := (s.slice n).hist.filter (fun r => !gone r)
    let recs := keep ++ [⟨w, len⟩]
    let s2 := (s1.rtWrite (base + w * 64) (padTo (len * 64) bytes)).modSlice n (fun x => { x with hist := recs })
    let s3 := (s2.setFld (Fr.HIST_WR_OFS n) ((w + len) % Nat.max 1 total)).setFld (Fr.HIST_OLDEST_OFS n)
      ((recs.head?).map (·.ofs) |>.getD 0)
    let s4 := if w + len = total then s3.incWrap (Fr.HIST_WRAPS n) else s3
    let src := match kind with
      | 3 => 4
      | 4 => 5
      | 5 => 6
      | _ => 3
    let lost := ((s.slice n).hist.filter gone).map (fun r => base + r.ofs * 64)
    let s5 := (s4.streamGone src n 0 lost).streamItem src n 0 ⟨base + w * 64, bytes, first, 0, 0, bytes.length, s.servePhys n first, 0⟩
    (s5.count (17 + s.servePhys n first) .records 1).notify n kind seq (base + w * 64) bytes.length first

/-- Take the next SEQ of a KIND on a logical slice (R107). -/
def State.takeSeq (s : State) (n kind : Nat) : Nat × State :=
  (nth (s.slice n).seqs kind 0,
    s.modSlice n (fun x => { x with seqs := modNth x.seqs kind (fun q => (q + 1) % 2 ^ 32) }))

/-- What a record header says (Table 5.5). -/
structure RecHdr where
  kind : Nat
  gen : Nat
  seq : Nat
  first : Nat
  stop : Nat
  t : Nat
  used : Nat
  det : Nat
  startBin : Nat
  bpp : Nat
  points : Nat
  atten : Nat
  flags : Nat
  ovf : Nat
  tail : List Nat          -- bytes 54 to 63

/-- The 64-byte record header of Table 5.5 for slice `n`. -/
def State.recHdr (s : State) (n : Nat) (h : RecHdr) : List Nat :=
  let inp := s.sliceInput n
  let src := if inp < 8 then s.fld (Fr.INTK_SLOT_SOURCE inp) else 0
  [h.kind, n + 16 * (src % 4) + 64 * s.spxMode n, inp, h.gen] ++ le 4 h.seq ++ le 8 h.first ++ le 8 h.stop ++ le 4 h.t
  ++ le 4 h.used ++ [s.spxL2 n, s.inf (Fr.SPX_CTL_OVL n), s.inf (Fr.SPX_CTL_WIN n), h.det] ++ le 2 h.startBin ++ le 2 h.bpp
  ++ le 2 h.points ++ [h.atten, s.servePhys n h.first] ++ le 4 h.flags ++ le 4 h.ovf ++ le 2 (s.fld (Fr.SPX_LOGCORR n))
  ++ padTo 10 h.tail

/-! ## Detectors and traces (R104 to R107) -/

/-- One point of a frame: B consecutive powers reduced by FREQ_DET. -/
def freqPoint (det : Nat) (g : List Nat) : Nat :=
  match det with
  | 0 => g.foldl Nat.max 0
  | 1 => (roundDiv (g.foldl (· + ·) 0 : Nat) (Nat.max 1 g.length)).toNat
  | 2 => match g with
    | [] => 0
    | a :: t => t.foldl Nat.min a
  | _ => g.headD 0

/-- The points of a frame. -/
def State.framePoints (s : State) (n : Nat) (pow : List Nat) : List Nat :=
  let b := s.inf (Fr.SPX_SPAN_BPP n)
  let p := 2 ^ s.inf (Fr.SPX_SPAN_LOG2P n)
  let span := pow.drop (s.inf (Fr.SPX_SPAN_START_BIN n))
  (List.range p).map (fun i => freqPoint (s.inf (Fr.SPX_DET_FREQ_DET n)) ((span.drop (i * b)).take b))

/-- Combine the points so far with a frame's by TIME_DET; the first used frame starts them. -/
def timePoints (det : Nat) (first : Bool) (old new : List Nat) : List Nat :=
  if first then new
  else match det with
    | 0 => List.zipWith Nat.max old new
    | 1 => List.zipWith (· + ·) old new
    | 3 => List.zipWith Nat.min old new
    | _ => old

/-- Note attenuation and flags of a frame in a trace. -/
def TraceSt.add (t : TraceSt) (f : Frame) (atten : Nat) (used : Bool) : TraceSt :=
  { t with
    frames := t.frames + 1
    first := if t.frames = 0 then f.start else t.first
    stop := f.stop
    flags := t.flags ||| (f.flags % 32)
    atten0 := if t.frames = 0 then atten else t.atten0
    attChg := t.attChg || 0 < t.frames && t.atten0 ≠ atten
    used := t.used + b2n used
    atten := if used then atten else t.atten
    ovf := t.ovf + b2n (used && bit f.flags 4) }

/-- The bytes of a trace's points: binary32 of P / P_FS, or 16-bit log values. -/
def State.traceBytes (s : State) (n kind : Nat) (t : TraceSt) : List Nat :=
  let pfs := s.spxPfs n
  let corr := signed 16 (s.fld (Fr.SPX_LOGCORR n))
  let td := s.inf (Fr.SPX_DET_TIME_DET n)
  let np := 2 ^ s.inf (Fr.SPX_SPAN_LOG2P n)
  let pw := if td = 1 then t.pts.map (fun x => (roundDiv (x : Nat) (Nat.max 1 t.used)).toNat) else t.pts
  if kind = 1 then
    if t.used = 0 then zeros (4 * np)
    else pw.flatMap (fun p => le 4 (if pfs.1 = 0 then 0 else binary32 (p * pfs.2) pfs.1))
  else if t.used = 0 then (List.replicate np 0x8000).flatMap (le 2)
  else if td = 2 then t.logs.flatMap (fun x => le 2 (unsigned 16 (roundDiv x (Nat.max 1 t.used))))
  else pw.flatMap (fun p => le 2 (unsigned 16 (logPower corr p)))

/-- Write one trace record of a KIND. -/
def State.writeTraceKind (s : State) (n kind : Nat) (t : TraceSt) (cut : Bool) : State :=
  let q := s.takeSeq n kind
  let empty := t.used = 0
  let flags := setBits (t.flags) 3 1 (b2n (bit t.flags 3 || empty)) + 32 * b2n cut + 64 * b2n t.chg + 128 * b2n t.attChg
    + 512 * b2n empty
  let det := s.inf (Fr.SPX_DET_FREQ_DET n) + 4 * s.inf (Fr.SPX_DET_TIME_DET n)
  let h : RecHdr := ⟨kind, s.fld (Fr.SPX_GEN n), q.1, t.first, t.stop, if cut then t.frames else s.inf (Fr.SPX_INTEG_T n), t.used, det,
    s.inf (Fr.SPX_SPAN_START_BIN n), s.inf (Fr.SPX_SPAN_BPP n), 2 ^ s.inf (Fr.SPX_SPAN_LOG2P n), t.atten, flags, t.ovf, []⟩
  q.2.appendRecord n kind q.1 t.first (s.recHdr n h ++ s.traceBytes n kind t)

/-- Write the trace in progress, as OUT_FMT selects, and start the next. -/
def State.writeTrace (s : State) (n : Nat) (cut : Bool) : State :=
  let t := (s.slice n).trace
  let fmt := s.inf (Fr.SPX_DET_OUT_FMT n)
  let s1 := if fmt ≠ 1 then s.writeTraceKind n 1 t cut else s
  let s2 := if fmt ≠ 0 then s1.writeTraceKind n 2 t cut else s1
  let s3 := if cut then s2.setFld (Fr.SPX_CUT n) 1 else s2
  s3.modSlice n (fun x => { x with trace := { chg := false } })

/-- A frame passes the detectors (R104, R105). -/
def State.traceFrame (s : State) (n : Nat) (f : Frame) : State :=
  if s.inf (Fr.SPX_DET_TRACE_EN n) = 0 then s
  else
    let t := (s.slice n).trace
    let used := !bit f.flags 3
    let t1 := t.add f (s.sliceAtten n) used
    let pts := s.framePoints n f.pow
    let td := s.inf (Fr.SPX_DET_TIME_DET n)
    let corr := signed 16 (s.fld (Fr.SPX_LOGCORR n))
    let t2 := if !used then t1
      else if td = 2 then
        let lg := pts.map (logPower corr)
        { t1 with logs := if t.used = 0 then lg else List.zipWith (· + ·) t.logs lg }
      else { t1 with pts := timePoints td (t.used = 0) t.pts pts }
    let s1 := s.modSlice n (fun x => { x with trace := t2 })
    if s.inf (Fr.SPX_INTEG_T n) ≤ t2.frames then s1.writeTrace n false else s1

/-! ## Spectral kurtosis (R108) -/

/-- p′ of R108: P shifted right, rounded half up, clamped to 24 bits. -/
def skPower (shift p : Nat) : Nat := Nat.min (narrow p shift).toNat (2 ^ 24 - 1)

/-- Did the clamp of R108 act? -/
def skClamps (shift p : Nat) : Bool := 2 ^ 24 - 1 < (narrow p shift).toNat

/-- Write the kurtosis block in progress and start the next. -/
def State.writeSk (s : State) (n : Nat) (cut : Bool) : State :=
  let k := (s.slice n).sk
  let q := s.takeSeq n 3
  let flags := k.flags + 32 * b2n cut + 64 * b2n k.chg + 128 * b2n k.attChg + 256 * b2n k.satd
  let h : RecHdr := ⟨3, s.fld (Fr.SPX_GEN n), q.1, k.first, k.stop, if cut then k.added else s.inf (Fr.SPX_SK_M n), k.added,
    s.inf (Fr.SPX_DET_FREQ_DET n) + 4 * s.inf (Fr.SPX_DET_TIME_DET n), s.inf (Fr.SPX_SPAN_START_BIN n),
    s.inf (Fr.SPX_SPAN_BPP n), s.spxNbins n, k.atten, flags, k.ovf, []⟩
  let body := (List.zip k.s1 k.s2).flatMap (fun p => le 8 p.1 ++ le 8 p.2)
  let s1 := q.2.appendRecord n 3 q.1 k.first (s.recHdr n h ++ body)
  let s2 := if cut then s1.setFld (Fr.SPX_CUT n) 1 else s1
  s2.modSlice n (fun x => { x with sk := { chg := false } })

/-- A frame passes the kurtosis sums. -/
def State.skFrame (s : State) (n : Nat) (f : Frame) : State :=
  if s.inf (Fr.SPX_SK_EN n) = 0 then s
  else
    let k := (s.slice n).sk
    let sh := s.inf (Fr.SPX_SK_SK_SHIFT n)
    let at_ := s.sliceAtten n
    let use := !bit f.flags 3 && !bit f.flags 0
    let ps := f.pow.map (skPower sh)
    let clamp := use && f.pow.any (skClamps sh)
    let k1 : SkSt := { k with
      frames := k.frames + 1
      first := if k.frames = 0 then f.start else k.first
      stop := f.stop
      flags := k.flags ||| (f.flags % 32)
      atten0 := if k.frames = 0 then at_ else k.atten0
      attChg := k.attChg || 0 < k.frames && k.atten0 ≠ at_
      satd := k.satd || clamp
      added := k.added + b2n use
      atten := if use then at_ else k.atten
      ovf := k.ovf + b2n (use && bit f.flags 4)
      s1 := if !use then k.s1 else if k.added = 0 then ps else List.zipWith (· + ·) k.s1 ps
      s2 := if !use then k.s2 else if k.added = 0 then ps.map (fun p => p * p)
        else List.zipWith (· + ·) k.s2 (ps.map (fun p => p * p)) }
    let s1 := s.modSlice n (fun x => { x with sk := k1 })
    let s2 := if clamp then s1.setFld (Fr.SPX_SK_SAT n) 1 else s1
    if s.inf (Fr.SPX_SK_M n) ≤ k1.added then s2.writeSk n false else s2

/-- The trace and the block in progress end CUT; one that used no frame writes nothing (R111). -/
def State.cutRecords (s : State) (n : Nat) : State :=
  let x := s.slice n
  let s1 := if 0 < x.trace.used then s.writeTrace n true else s
  let s2 := if 0 < x.sk.added then s1.writeSk n true else s1
  s2.modSlice n (fun y => { y with trace := { chg := x.trace.chg && x.trace.used = 0 }, sk := { chg := x.sk.chg && x.sk.added = 0 } })

/-! ## Custom tables (R96) -/

/-- The 32-bit words that bytes spell. -/
def wordsOf : Nat → List Nat → List Nat
  | 0, _ => []
  | n + 1, bs => unle (bs.take 4) :: wordsOf n (bs.drop 4)

/-- The `l` words of a table load whose host reads failed after `x` bytes: those behind them are undefined (R288). -/
def State.partWords (s : State) (l x : Nat) (data : List Nat) : List Nat :=
  wordsOf (x / 4) (padTo x data) ++ (List.range (l - x / 4)).map (fun i => Config.freeValue (s.freeCtr + i) % 2 ^ 32)

/-- Format checks of a window-table CONFIGURE (R96, R258). -/
def windowTableFmt (d : Desc) : Option Refuse :=
  let w := nth d.p 0 0
  let l := nth d.p 3 0
  firstRefusal [
    check (9 ≤ bits w 8 8 || 1 < bits w 16 8 || bits w 24 8 ≠ 0) (refuseFormat 0),
    check (nth d.p 1 0 % 4 ≠ 0) (refuseFormat 1),
    check (l < 256 || 65536 < l) (refuseFormat 3)]

/-- State checks: a powered-down slice, or the bank in force with WIN = 5. -/
def windowTableState (s : State) (d : Desc) : Option Refuse :=
  let n := bits (nth d.p 0 0) 8 8
  check (!s.powered n || s.inf (Fr.SPX_CTL_WIN n) = 5 && s.inf (Fr.SPX_CTL_TBANK n) = bits (nth d.p 0 0) 16 8) refuseState

/-- A table load in place: entries of Q2.16 in bits [17:0], CRC-32C in SPX_TCRC. -/
def windowTableLoad (s : State) (d : Desc) : State :=
  let w := nth d.p 0 0
  let n := bits w 8 8
  let b := bits w 16 8
  let l := nth d.p 3 0
  let bytes := padTo (4 * l) d.data
  let vals := (wordsOf l bytes).map (fun v => signed 18 v)
  let s1 := s.modSlice n (fun x =>
    { x with
      banks := modNth x.banks b (fun old => vals ++ old.drop l)
      bankLen := modNth x.bankLen b (fun _ => l) })
  s1.setFld (if b = 0 then Fr.SPX_TCRC0 n else Fr.SPX_TCRC1 n) (crc32c bytes)

/-- A load that failed after `x` bytes: the bank is unusable, as one with no entries, until it is reloaded (R288). -/
def windowTableFail (s : State) (d : Desc) (x : Nat) : State :=
  let w := nth d.p 0 0
  let n := bits w 8 8
  let b := bits w 16 8
  let l := nth d.p 3 0
  let vals := (s.partWords l x d.data).map (fun v => signed 18 v)
  (s.useFrees (l - x / 4)).modSlice n (fun y =>
    { y with
      banks := modNth y.banks b (fun old => vals ++ old.drop l)
      bankLen := modNth y.bankLen b (fun _ => 0) })

end Sys2Proof.Machine
end

