-- ==== Sys2Proof/Machine/Trigger.lean ====
section
/-! DEFINITION. Mask triggers, their actions and arming, and the density builder (chapter 06). -/

namespace Sys2Proof.Machine

/-! ## Masks (R113 to R116) -/

/-- BIN and LEVEL of a breakpoint word. -/
def bpBin (w : Nat) : Nat := w % 65536
def bpLevel (w : Nat) : Int := signed 16 (w / 65536)

/-- The mask level at bin b: interpolated between breakpoints, rounded half up; none for an empty table (R115). -/
def maskLevel : List Nat → Nat → Option Int
  | [], _ => none
  | [w], _ => some (bpLevel w)
  | w :: x :: t, b =>
    if b ≤ bpBin w then some (bpLevel w)
    else if b < bpBin x then
      some (bpLevel w + roundDiv ((bpLevel x - bpLevel w) * ((b : Int) - bpBin w)) (bpBin x - bpBin w))
    else maskLevel (x :: t) b

/-- Is a table one R113 allows: 2 to 4,096 breakpoints, BIN strictly rising? -/
def maskOk (l : List Nat) : Bool :=
  2 ≤ l.length && l.length ≤ 4096 && (List.zip l (l.drop 1)).all (fun p => bpBin p.1 < bpBin p.2)

/-- Does bin b violate the mask (R116)? -/
def violates (pol : Nat) (tab : List Nat) (logs : List Int) (b : Nat) : Bool :=
  match maskLevel tab b, logs[b]? with
  | some l, some x => if pol = 0 then l < x else x < l
  | _, _ => false

/-- Trigger m of slice n, beside its registers. -/
def State.trg (s : State) (n m : Nat) : TrgSt := nth (s.slice n).trg m {}
def State.modTrg (s : State) (n m : Nat) (f : TrgSt → TrgSt) : State :=
  s.modSlice n (fun x => { x with trg := modNth x.trg m f })

/-- Table t (0 A, 1 B) of trigger m. -/
def State.maskTab (s : State) (n m t : Nat) : List Nat := nth (s.slice n).masks (2 * m + t) []

/-- The table in force. -/
def State.maskNow (s : State) (n m : Nat) : List Nat := s.maskTab n m (s.fld (Fr.TRG_TABLE_NOW n m))

/-! ## Fires and actions (R117 to R128) -/

/-- A window span of `us` µs in sample times, on beat boundaries: ceil(µs × FS_s / (16 × 10⁶)) × 16 × D (R126). -/
def State.spanOf (s : State) (us d : Nat) : Nat := s.fs.ceilMul us (16 * 10 ^ 6 * d) * 16 * d

/-- Bytes of [lo, hi) not yet covered by a list of windows, in sample times. -/
def uncovered : List (Nat × Nat) → Nat → Nat → Nat
  | [], lo, hi => hi - lo
  | (a, b) :: t, lo, hi =>
    if hi ≤ a || b ≤ lo then uncovered t lo hi
    else (if lo < a then uncovered t lo a else 0) + (if b < hi then uncovered t b hi else 0)

/-- The exact charge of a window over some slots: 1.5 B per slot sample not already covered by a held window (R126). -/
def State.freezeCharge (s : State) (slots lo hi : Nat) (others : List Freeze) : Nat :=
  ((maskList 8 slots).map (fun n =>
    let ws := (others.filter (fun f => bit f.slots n && f.epoch = s.epoch8)).map (fun f => (f.start, f.stop))
    uncovered ws lo hi / s.slotDiv n * 3 / 2)).foldl (· + ·) 0

/-- The oldest sample time the ring still holds of some slots. -/
def State.ringOldest (s : State) (slots : Nat) : Nat :=
  ((maskList 8 slots).map (fun n => s.fld (Fr.MEM_OLDEST_ST n))).foldl Nat.min (2 ^ 64 - 1)

/-- What a fire's FREEZE action did. -/
structure FrzRes where
  st : State
  id : Nat
  lo : Nat
  hi : Nat
  denied : Bool
  cut : Bool
  merged : Bool

/-- Does a window of some slots touch a granule that a loss record covers (R234)? -/
def State.windowLost (s : State) (slots lo hi : Nat) : Bool :=
  s.hbm.gran.any (fun p => bit slots p.2.slot && granHits p.2 lo hi &&
    s.hbm.losses.any (fun l => l.kind = 2 || p.2.gseq ≤ l.bound))

/-- The FREEZE action of a fire of trigger m of slice n whose frame is [first, stop) (R126). -/
def State.fireFreeze (s : State) (n m : Nat) (j : Job) (first stop : Nat) : FrzRes :=
  let d := s.sliceD n
  let slots := nth j.d.p 3 0 % 256
  let pre := s.spanOf (nth j.d.p 1 0) d
  let post := s.spanOf (nth j.d.p 2 0) d
  let oldest := s.ringOldest slots
  let want : Int := (first : Int) - pre
  let floor_ := if oldest = 2 ^ 64 - 1 then first else oldest
  let cut := want < 0 || want.toNat < floor_
  let lo := if cut then Nat.min first floor_ else want.toNat
  let hi := stop + post
  let x := s.trg n m
  let prev := s.hbm.freezes.find? (fun f => f.id = x.freeze && x.freeze ≠ 0)
  let freeQ := s.ceiling 12 - s.jobUnits 12
  match prev with
  | some f =>
    if f.epoch = s.epoch8 && lo < f.stop && f.start < hi then
      let nlo := Nat.min lo f.start
      let nhi := Nat.max hi f.stop
      let total := s.freezeCharge slots nlo nhi (s.hbm.freezes.filter (fun g => g.id ≠ f.id))
      if total - f.charge ≤ freeQ then
        let hit := (s.hbm.gran.filter (fun p => p.2.live && bit slots p.2.slot && p.2.epoch = s.epoch8
          && granHits p.2 nlo nhi && !f.grans.contains p.1)).map (·.1)
        let f1 : Freeze := { f with start := nlo, stop := nhi, charge := total, grans := f.grans ++ hit, complete := false }
        let s1 := s.hold hit
        let s2 := { s1 with hbm := { s1.hbm with freezes := s1.hbm.freezes.map (fun (g : Freeze) => if g.id = f.id then f1 else g) } }
        ⟨(s2.completeFreezes).updateFreezeRegs, f.id, nlo, nhi, false, cut, true⟩
      else ⟨s, 0, 0, 0, true, cut, false⟩
    else
      let c := s.freezeCharge slots lo hi s.hbm.freezes
      if c ≤ freeQ && s.hbm.freezes.length + unitsIn (s.jobs.flatMap (·.res)) 13 < 64 then
        ⟨s.newFreeze slots lo hi c j.id, s.hbm.nextFreeze, lo, hi, false, cut, false⟩
      else ⟨s, 0, 0, 0, true, cut, false⟩
  | none =>
    let c := s.freezeCharge slots lo hi s.hbm.freezes
    -- the first fire takes the reservation of the arming
    let held := 0 < unitsIn j.res 13
    let s0 := s.modJob j.id (fun y => { y with res := y.res.filter (fun p => p.1 ≠ 12 && p.1 ≠ 13) })
    if held then ⟨s0.newFreeze slots lo hi c j.id, s.hbm.nextFreeze, lo, hi, false, cut, false⟩
    else if c ≤ freeQ && s.hbm.freezes.length + unitsIn (s.jobs.flatMap (·.res)) 13 < 64 then
      ⟨s.newFreeze slots lo hi c j.id, s.hbm.nextFreeze, lo, hi, false, cut, false⟩
    else ⟨s, 0, 0, 0, true, cut, false⟩

/-- What decided a frame for a trigger. -/
structure Verdict where
  inside : Bool
  bin : Nat
  vbins : Nat

/-- Evaluate a spectrum against the mask of trigger m (R116). -/
def State.judge (s : State) (n m : Nat) (f : Frame) : Verdict :=
  let tab := s.maskNow n m
  let lo := s.inf (Fr.TRG_START_BIN n m)
  let hi := s.inf (Fr.TRG_END_BIN n m)
  let need := if s.inf (Fr.TRG_MIN_BINS n m) = 0 then 4096 else s.inf (Fr.TRG_MIN_BINS n m)
  let vs := ((List.range (hi + 1 - lo)).map (· + lo)).filter (violates (s.inf (Fr.TRG_POL n m)) tab f.logs)
  if need ≤ vs.length then ⟨true, nth vs (need - 1) hi, vs.length⟩ else ⟨false, hi, vs.length⟩

/-- The 48-byte payload of a fire (Table 6.3). -/
def State.firePay (s : State) (n m fire : Nat) (first bin level mask vbins flags freeze lo hi : Nat) : List Nat :=
  [n + 16 * m + 32 * s.inf (Fr.TRG_COND n m), s.servePhys n first, s.sliceInput n, s.fld (Fr.SPX_GEN n)] ++ le 4 fire
  ++ le 8 first ++ le 2 bin ++ le 2 level ++ le 2 mask ++ le 2 vbins ++ le 2 flags ++ [0, 0] ++ le 4 freeze ++ le 8 lo ++ le 8 hi

/-- A fire of trigger m of slice n: its actions in the order PIN, FREEZE, DDC, CORE, EVENT (R124 to R128). -/
def State.fire (s : State) (n m : Nat) (f : Frame) (bin level mask vbins : Nat) : State :=
  let x := s.trg n m
  match s.job x.job with
  | none => s
  | some j =>
    let w := nth j.d.p 0 0
    let fires := s.fld (Fr.TRG_FIRES n m) + 1
    let s0 := (s.setFld (Fr.TRG_FIRES n m) fires).setFld (Fr.TRG_LAST_ST n m) f.start
    let s1 := if bit w 11 then
        ({ s0 with pulses := (List.range 4).map (fun k => nth s0.pulses k 0 + b2n (bit w (16 + k))) }).updatePins
      else s0
    let r : FrzRes := if bit w 8 then s1.fireFreeze n m j f.start f.stop else ⟨s1, 0, 0, 0, false, false, false⟩
    let unit := 26 + 2 * s.servePhys n f.start + m
    let rs := r.st.count unit .fires 1
    let s2 := if r.denied then (rs.setFld (Fr.TRG_FREEZE_DENIED n m) 1).count unit .denied 1 else rs
    let s3 := if r.cut && bit w 8 then s2.setFld (Fr.TRG_PRE_CUT n m) 1 else s2
    let d := if bit w 9 then s3.ddcFire (nth j.d.p 4 0) f.start (nth j.d.p 5 0) else (s3, false)
    let s4 := if d.2 then d.1.setFld (Fr.TRG_DDC_FAIL n m) 1 else d.1
    let flags := f.flags % 8 + 16 * b2n (bit f.flags 4) + 32 * b2n r.denied + 64 * b2n (r.cut && bit w 8) + 128 * b2n d.2
      + 256 * b2n r.merged
    let pay := s4.firePay n m fires f.start bin level mask vbins flags r.id r.lo r.hi
    let s5 := if bit w 12 then s4.trigMsg n (bits w 20 4) (pay.take 32) else s4
    let s6 := if bit w 10 then s5.raise 1 0 j.func pay else s5
    let ddcOn := bit w 9 && !d.2
    (s6.modTrg n m (fun y =>
      { y with
        fired := y.fired || bits w 5 2 = 0
        hold := s.inf (Fr.TRG_HOLDOFF n m)
        freeze := if r.id = 0 then y.freeze else r.id
        postEnd := if r.id = 0 then y.postEnd else r.hi
        flagged := y.flagged || r.id ≠ 0 && s6.windowLost (nth j.d.p 3 0 % 256) r.lo r.hi
        ddcEnd := if ddcOn && nth j.d.p 5 0 ≠ 0 then f.start + s.samplesOfNs (1000 * nth j.d.p 5 0) else y.ddcEnd
        ddcOpen := y.ddcOpen || ddcOn })).setFld (Fr.TRG_HOLDING n m) (b2n (0 < s.inf (Fr.TRG_HOLDOFF n m)))
      |>.setExtent x.job fires

/-- May trigger m fire on a frame: armed (a SINGLE arming only once), out of hold-off, qualifier met (R119). -/
def State.mayFire (s : State) (n m : Nat) (trigIn : Nat) : Bool :=
  let x := s.trg n m
  let q := s.inf (Fr.TRG_QUAL n m)
  let lvl := bit trigIn (s.inf (Fr.TRG_QPIN n m))
  s.jobOpen x.job && x.job ≠ 0 && !x.fired && x.hold = 0 && (q = 0 || q = 1 && lvl || q = 2 && !lvl)

/-- A core's swap request takes effect on the first frame after it: checked, applied or rejected (R131). -/
def State.coreSwap (s : State) (n m : Nat) : State :=
  if (s.trg n m).swapReq then
    let s1 := (s.modTrg n m (fun x => { x with swapReq := false })).setFld (Fr.TRG_SWAP_PENDING n m) 0
    let t := 1 - s.fld (Fr.TRG_TABLE_NOW n m)
    if maskOk (s.maskTab n m t) then s1.setFld (Fr.TRG_TABLE_NOW n m) t
    else
      let core := s.inf (Fr.TRG_OWNER_CORE n m)
      (s1.setFld (Fr.TRG_TABLE_BAD n m) 1).raise 0xD 0x06 (s.coreFunc n core) [n + 16 * (s.slice n).phys, core]
  else s

/-- A frame passes trigger m (R117 to R119): the state and RUN follow, the condition may fire. -/
def State.trgFrame (s : State) (n m trigIn : Nat) (f : Frame) : State :=
  let s0 := s.coreSwap n m
  if bit f.flags 3 then s0.setFld (Fr.TRG_RUN n m) 0
  else
    let v := s0.judge n m f
    let known := s0.flag (Fr.TRG_KNOWN n m)
    let was := s0.flag (Fr.TRG_INSIDE n m)
    let run0 := s0.fld (Fr.TRG_RUN n m)
    let run := if v.inside then Nat.min 65535 (run0 + 1) else 0
    let cond := s0.inf (Fr.TRG_COND n m)
    let k := s0.inf (Fr.TRG_K n m)
    let hit := match cond with
      | 0 => known && !was && v.inside
      | 1 => known && was && !v.inside
      | 2 => v.inside && run0 < k && run = k
      | _ => false
    let may := s0.mayFire n m trigIn
    let x := s0.trg n m
    let s1 := (((s0.setFld (Fr.TRG_KNOWN n m) 1).setFld (Fr.TRG_INSIDE n m) (b2n v.inside)).setFld (Fr.TRG_RUN n m) run).count
      (26 + 2 * (s.slice n).phys + m) .evaluated 1
    let s2 := (s1.modTrg n m (fun y => { y with hold := y.hold - 1 })).setFld (Fr.TRG_HOLDING n m) (b2n (1 < x.hold))
    if hit && may then
      let lvl := unsigned 16 (nth f.logs v.bin (-32768))
      let msk := unsigned 16 ((maskLevel (s0.maskNow n m) v.bin).getD 0)
      s2.fire n m f v.bin lvl msk (Nat.min 65535 v.vbins)
    else s2

/-- The state of a trigger becomes unknown (R118). -/
def State.trgUnknown (s : State) (n m : Nat) : State := (s.setFld (Fr.TRG_KNOWN n m) 0).setFld (Fr.TRG_RUN n m) 0

/-- A SINGLE arming whose actions have all finished completes (R123, R234). -/
def State.trgSettle1 (s : State) (n m : Nat) : State :=
  let x := s.trg n m
  if !x.fired || x.job = 0 || !s.jobOpen x.job then s
  else
    let frz := x.postEnd = 0 || x.freeze = 0
      || (match s.hbm.freezes.find? (fun f => f.id = x.freeze) with
          | some f => f.complete
          | none => true)
    if frz && !x.ddcOpen then
      let fires := s.fld (Fr.TRG_FIRES n m)
      ((s.complete x.job (if x.flagged then stFlagged else stDone) fires fires).setFld (Fr.TRG_ARMED n m) 0).modTrg n m
        (fun y => { y with job := 0, fired := false, freeze := 0, postEnd := 0 })
    else s

/-- Every SINGLE arming whose actions have all finished completes. -/
def State.trgSettle (s : State) : State :=
  (List.range 9).foldl (fun st n => (st.trgSettle1 n 0).trgSettle1 n 1) s

/-- TRIG_OUT_PULSE_END (R33, R125): a pulse's width runs out; the pin falls if no other source holds it. -/
def execTrigOutPulseEnd (pin : Nat) (s : State) : Host.Outcome State Fault Refusal :=
  .next ({ s with pulses := modNth s.pulses pin (· - 1) }).updatePins

/-! ## ARM_TRIGGER (R121 to R123) -/

/-- The fields of ARM_TRIGGER word 0. -/
def armSlice (d : Desc) : Nat := bits (nth d.p 0 0) 0 4
def armTrg (d : Desc) : Nat := bits (nth d.p 0 0) 4 1
def armMode (d : Desc) : Nat := bits (nth d.p 0 0) 5 2

/-- Sum of FS_s × 1.5 B/s over the active input slots, times D's: the aggregate ring rate as a fraction of FS. -/
def State.ringRate (s : State) : Rate :=
  (maskList 8 s.activeSlots).foldl (fun r n => ⟨r.num * (2 * s.fs.den * s.slotDiv n) + 3 * s.fs.num * r.den,
    r.den * (2 * s.fs.den * s.slotDiv n)⟩) ⟨0, 1⟩

/-- Format checks of ARM_TRIGGER (R122). -/
def armFmt (s : State) (d : Desc) : Option Refuse :=
  let w := nth d.p 0 0
  let arm := armMode d < 2
  let r := s.ringRate
  firstRefusal [
    check (bit w 7 || bits w 13 3 ≠ 0 || armMode d = 3 || 9 ≤ armSlice d) (refuseFormat 0),
    check (2 ^ 22 ≤ nth d.p 1 0) (refuseFormat 1),
    check (2 ^ 22 ≤ nth d.p 2 0) (refuseFormat 2),
    check (2 ^ 8 ≤ nth d.p 3 0) (refuseFormat 3),
    check (arm && bit w 11 && bits w 24 8 = 0) (refuseFormat 0),
    check (arm && 4000000 < nth d.p 1 0) (refuseFormat 1),
    check (arm && 4000000 < nth d.p 2 0) (refuseFormat 2),
    check (arm && bit w 8 && nth d.p 3 0 = 0) (refuseFormat 3),
    check (arm && s.granCount * granBytes * r.den * 10 ^ 6 < nth d.p 1 0 * r.num) (refuseFormat 1),
    check (arm && bit w 9 && !s.trigStream (nth d.p 4 0) (armSlice d)) (refuseFormat 4)]

/-- State checks of ARM_TRIGGER (R120, R122, R257). -/
def armState (s : State) (d : Desc) : Option Refuse :=
  let n := armSlice d
  let m := armTrg d
  let x := s.trg n m
  let armed := s.flag (Fr.TRG_ARMED n m)
  let w := nth d.p 0 0
  if armMode d = 2 then
    check (!armed || x.fired || !s.powered n || (s.job x.job).any (fun j => j.ring ≠ d.ring)) refuseState
  else
    check (armed || s.inf (Fr.SPX_CTL_EN n) = 0 || !s.powered n
      || bit w 8 && (maskList 8 (nth d.p 3 0)).any (fun k => !s.powered k)
      || s.noStanding || s.inf (Fr.TRG_COND n m) = 3 && s.inf (Fr.DEN_EN n) = 0) refuseState

/-- What an arming reserves (R122, R126). -/
def armNeed (s : State) (d : Desc) : List (Nat × Nat) :=
  if armMode d = 2 then []
  else
    let n := armSlice d
    let m := armTrg d
    let dv := s.sliceD n
    let ev := ceilDiv (256 * 16384) (s.spxH n * dv * dv * (s.inf (Fr.TRG_HOLDOFF n m) + 1))
    let span := s.spanOf (nth d.p 1 0) dv + s.spxW n * dv + s.spanOf (nth d.p 2 0) dv
    let bytes := ((maskList 8 (nth d.p 3 0)).map (fun k => span / s.slotDiv k * 3 / 2)).foldl (· + ·) 0
    [(10, ev)] ++ (if bit (nth d.p 0 0) 8 then [(12, bytes), (13, 1)] else [])

/-- The arming or disarming takes effect. -/
def armApply (s : State) (d : Desc) (job : Nat) : State :=
  let n := armSlice d
  let m := armTrg d
  if armMode d = 2 then
    let x := s.trg n m
    let fires := s.fld (Fr.TRG_FIRES n m)
    let single := (s.job x.job).any (fun j => armMode j.d = 0)
    let s1 := s.complete x.job (if single then stCancelled else stDone) fires fires
    let s2 := ((s1.setFld (Fr.TRG_ARMED n m) 0).setFld (Fr.TRG_HOLDING n m) 0).modTrg n m (fun _ => {})
    (s2.complete job stDone 0 0).updateFreezeRegs
  else
    let s1 := ((s.setFld (Fr.TRG_ARMED n m) 1).setFld (Fr.TRG_FIRES n m) 0).setFld (Fr.TRG_HOLDING n m) 0
    ((s1.trgUnknown n m).modTrg n m (fun x => { job := job, swapReq := x.swapReq, hits := x.hits })).updateFreezeRegs

/-! ## The mask-table CONFIGURE (R113, R114) -/

/-- Format checks: the count, and the content read before the decision (DETAIL_WORD 0xFF). -/
def maskTableFmt (d : Desc) : Option Refuse :=
  let w := nth d.p 0 0
  let l := nth d.p 3 0
  firstRefusal [
    check (9 ≤ bits w 8 8 || 4 ≤ bits w 16 8 || bits w 24 8 ≠ 0) (refuseFormat 0),
    check (nth d.p 1 0 % 4 ≠ 0) (refuseFormat 1),
    check (l < 2 || 4096 < l) (refuseFormat 3),
    check (!maskOk (wordsOf l (padTo (4 * l) d.data))) (refuseFormat 0xFF)]

/-- State checks: the table in force, masks owned by a core, or a powered-down slice. -/
def maskTableState (s : State) (d : Desc) : Option Refuse :=
  let w := nth d.p 0 0
  let n := bits w 8 8
  let m := bits w 17 1
  check (!s.powered n || s.fld (Fr.TRG_TABLE_NOW n m) = bits w 16 1 || s.inf (Fr.TRG_OWNER n m) = 1) refuseState

/-- The table in place; the words of its memory beyond it keep what they hold. -/
def maskTableLoad (s : State) (d : Desc) : State :=
  let w := nth d.p 0 0
  let l := nth d.p 3 0
  let b := bits w 16 2
  s.modSlice (bits w 8 8) (fun x =>
    { x with
      masks := modNth x.masks b (fun _ => wordsOf l (padTo (4 * l) d.data))
      maskRest := modNth x.maskRest b (fun old => (nth x.masks b [] ++ old).drop l) })

/-! ## The density builder (R133 to R139) -/

/-- k_take: the smallest group of spectra that spans at least 32 CK_DP periods (R135). -/
def State.kTake (s : State) (n : Nat) : Nat :=
  let hd := s.spxH n * s.sliceD n
  if hd < 512 then ceilDiv 512 (Nat.max 1 hd) else 1

/-- The level of each column of a spectrum: the largest log-power of its bins; none beyond the last bin (R133). The list
ends at the last column that has a bin. -/
def State.denCols (s : State) (n : Nat) (logs : List Int) : List Int :=
  let bpc := 2 ^ s.inf (Fr.DEN_LOG2BPC n)
  let l := logs.drop (s.inf (Fr.DEN_START_BIN n))
  ((List.range 1024).filter (fun c => c * bpc < l.length)).map (fun c =>
    ((l.drop (c * bpc)).take bpc).foldl (fun a b => if a < b then b else a) (-32768))

/-- The row of a level; none where it is clipped away (R134). -/
def State.denRow (s : State) (n : Nat) (lvl : Int) : Option Nat :=
  let r := (lvl - signed 16 (s.inf (Fr.DEN_BOTTOM n))) / (Nat.max 1 (s.inf (Fr.DEN_STEP n)) : Nat)
  if r < 0 then (if s.inf (Fr.DEN_CLIP_LO n) = 0 then some 0 else none)
  else if 255 < r then (if s.inf (Fr.DEN_CLIP_HI n) = 0 then some 255 else none)
  else some r.toNat

/-- Add hits to one cell, saturating at 65,535 (R137). -/
def cellAdd : List (Nat × Nat) → Nat → Nat → List (Nat × Nat)
  | [], i, v => [(i, Nat.min 65535 v)]
  | (j, x) :: t, i, v =>
    if i = j then (j, Nat.min 65535 (x + v)) :: t
    else if i < j then (i, Nat.min 65535 v) :: (j, x) :: t else (j, x) :: cellAdd t i v

/-- The record of a closed density period (R138). -/
def State.writeDensity (s : State) (n : Nat) (o : DenOut) (cut chg attChg : Bool) : State :=
  let q := s.takeSeq n 4
  let satCells := o.cells.countP (fun c => c.2 = 65535)
  let flags := o.flags % 32 + 32 * b2n cut + 64 * b2n chg + 128 * b2n attChg + 256 * b2n (0 < satCells)
    + 512 * b2n (o.used = 0) + 1024 * b2n o.late + 2048 * b2n (o.decay ≠ 0)
  let h : RecHdr := ⟨4, s.fld (Fr.SPX_GEN n), q.1, o.first, o.stop,
    if s.inf (Fr.DEN_MODE n) = 0 then 2 ^ s.inf (Fr.DEN_LOG2CNT n) else 0, o.used,
    s.inf (Fr.DEN_FAST n) + 2 * o.decay, s.inf (Fr.DEN_START_BIN n), 2 ^ s.inf (Fr.DEN_LOG2BPC n), 1024, o.atten, flags, o.ovf,
    le 2 (s.inf (Fr.DEN_BOTTOM n)) ++ le 2 (s.inf (Fr.DEN_STEP n)) ++ le 4 satCells⟩
  let body := (List.range 262144).flatMap (fun i => le 2 (((o.cells.find? (fun c => c.1 = i)).map (·.2)).getD 0))
  let s1 := q.2.appendRecord n 4 q.1 o.first (s.recHdr n h ++ body)
  let s2 := s1.setFld (Fr.DEN_LAST_ST n) o.first
  let s3 := if 0 < satCells then s2.setFld (Fr.DEN_SAT n) 1 else s2
  if o.late then s3.setFld (Fr.DEN_LATE n) 1 else s3

/-- Change the density builder of slice n. -/
def State.modDen (s : State) (n : Nat) (f : DenSt → DenSt) : State := s.modSlice n (fun x => { x with den := f x.den })

/-- The period closes: the buffers change roles, the readout pass of the closed one begins and the decayed carry enters
the new one (R136, R137); the hit counts of DENSITY triggers restart (R120). -/
def State.closePeriod (s : State) (n : Nat) : State :=
  let x := (s.slice n).den
  let dec := s.inf (Fr.DEN_DECAY n)
  let carry := if dec = 0 then [] else
    (x.cells.map (fun c => (c.1, c.2 * (2 ^ dec - 1) / 2 ^ dec))).filter (fun c => c.2 ≠ 0)
  let o : DenOut := ⟨x.cells, x.first, x.stop, x.used, x.flags, x.ovf, x.late, dec, s.sliceAtten n, 0⟩
  let s1 := s.modDen n (fun d => { d with
    cells := carry, used := 0, flags := 0, ovf := 0, late := false, due := false, out := some o, first := x.stop, start := x.stop })
  let s2 := (s1.setFld (Fr.DEN_BUF n) (1 - s.fld (Fr.DEN_BUF n))).setFld (Fr.DEN_READOUT n) 1
  [0, 1].foldl (fun st m => st.modTrg n m (fun t => { t with hits := 0, hitFired := false })) s2

/-- DENSITY_PERIOD_CLOSE (R136, R137): a period whose end has come closes once no readout runs. -/
def execDensityPeriodClose (n : Nat) (s : State) : Host.Outcome State Fault Refusal :=
  let x := (s.slice n).den
  .next (if n < 9 && x.due && x.out.isNone then s.closePeriod n else s)

/-- DENSITY_READOUT_DONE (R137, R138): the pass ends and its frame is written; a period extended meanwhile closes. -/
def execDensityReadoutDone (n : Nat) (s : State) : Host.Outcome State Fault Refusal :=
  let x := (s.slice n).den
  .next (match x.out with
    | none => s
    | some o =>
      if 9 ≤ n then s
      else
        let s1 := (s.writeDensity n o false x.chg x.attChg).modDen n (fun d => { d with out := none, chg := false, attChg := false })
        let s2 := s1.setFld (Fr.DEN_READOUT n) 0
        if x.due then s2.closePeriod n else s2)

/-- One density input: its hits, and the DENSITY condition of the slice's triggers (R120, R135). -/
def State.densityInput (s : State) (n trigIn : Nat) (cols : List Int) (f : Frame) : State :=
  let rows := (List.zip (List.range cols.length) (cols.map (s.denRow n))).filterMap (fun p => p.2.map (fun r => (p.1, r)))
  let s1 := (s.count (44 + (s.slice n).phys) .inputs 1).modDen n (fun d => { d with
    cells := rows.foldl (fun c p => cellAdd c (p.2 * 1024 + p.1) 1) d.cells
    used := d.used + 1 })
  [0, 1].foldl (fun st m =>
    if st.inf (Fr.TRG_COND n m) ≠ 3 then st
    else
      let hit := rows.countP (fun p => st.inf (Fr.TRG_COL_LO n m) ≤ p.1 && p.1 ≤ st.inf (Fr.TRG_COL_HI n m)
        && st.inf (Fr.TRG_ROW_LO n m) ≤ p.2 && p.2 ≤ st.inf (Fr.TRG_ROW_HI n m))
      let x := st.trg n m
      let hits := x.hits + hit
      let st1 := st.modTrg n m (fun y => { y with hits := hits })
      if st.inf (Fr.TRG_THRESH n m) ≤ hits && !x.hitFired then
        let st2 := st1.modTrg n m (fun y => { y with hitFired := true })
        if st.mayFire n m trigIn then st2.fire n m f 0xFFFF (Nat.min 0x7FFF hits) 0 0 else st2
      else st1) s1

/-- A frame passes the density builder (R133 to R136). -/
def State.denFrame (s : State) (n trigIn : Nat) (f : Frame) : State :=
  if s.inf (Fr.DEN_EN n) = 0 then s
  else
    let x := (s.slice n).den
    let gap := bit f.flags 3
    let kt := s.kTake n
    let cols := s.denCols n f.logs
    let gFirst := if x.group = 0 then f.start else x.gFirst
    let gCols := if gap then x.gCols
      else if x.group = 0 || !x.gHas then cols
      else if s.inf (Fr.DEN_FAST n) = 1 then List.zipWith (fun a b => if a < b then b else a) x.gCols cols
      else x.gCols
    let has := (x.group ≠ 0 && x.gHas) || !gap
    let last := kt ≤ x.group + 1
    -- TIME mode: the input belongs to the period that holds its first frame's start
    let per := s.inf (Fr.DEN_PERIOD n) * 65536 * s.sliceD n
    let passed := s.inf (Fr.DEN_MODE n) = 1 && last && has && x.start / Nat.max 1 per < gFirst / Nat.max 1 per
    let s0 := if x.due || passed then
        (if x.out.isNone then s.closePeriod n else s.modDen n (fun d => { d with due := true, late := true }))
      else s
    let at_ := s.sliceAtten n
    let s1 := s0.modDen n (fun d => { d with
      group := if last then 0 else x.group + 1
      gFirst := gFirst
      gCols := gCols
      gHas := if last then false else has
      first := if d.used = 0 && d.flags = 0 then gFirst else d.first
      start := if passed || d.used = 0 && d.start = 0 then gFirst else d.start
      stop := f.stop
      flags := d.flags ||| (f.flags % 32)
      ovf := d.ovf + b2n (!gap && bit f.flags 4)
      atten0 := if d.used = 0 then at_ else d.atten0
      attChg := d.attChg || 0 < d.used && d.atten0 ≠ at_ })
    if last && has then
      let s2 := s1.densityInput n trigIn gCols f
      let used := (s2.slice n).den.used
      if s.inf (Fr.DEN_MODE n) = 0 && 2 ^ s.inf (Fr.DEN_LOG2CNT n) ≤ used then s2.modDen n (fun d => { d with due := true })
      else s2
    else s1

/-- The density period in progress ends CUT, the carry is discarded (R139). -/
def State.cutDensity (s : State) (n : Nat) : State :=
  let x := (s.slice n).den
  let o : DenOut := ⟨x.cells, x.first, x.stop, x.used, x.flags, x.ovf, x.late, s.inf (Fr.DEN_DECAY n), s.sliceAtten n, 0⟩
  let s0 := match x.out with
    | some p => (s.writeDensity n p false x.chg x.attChg).setFld (Fr.DEN_READOUT n) 0
    | none => s
  let s1 := if x.used = 0 then s0 else s0.writeDensity n o true x.chg x.attChg
  s1.modDen n (fun _ => {})

end Sys2Proof.Machine
end

