-- ==== Sys2Proof/Machine/Tuner.lean ====
section
/-! DEFINITION. The tuner chain: configuration, NCO, decimation, FIR (chapter 07, R143 to R151). -/

namespace Sys2Proof.Machine

/-- Tuner `t` of logical slice `n`. -/
def State.tuner (s : State) (n t : Nat) : Tuner := nth s.tuners (4 * n + t) {}

/-- Change tuner `t` of slice `n`. -/
def State.modTuner (s : State) (n t : Nat) (f : Tuner → Tuner) : State :=
  { s with tuners := modNth s.tuners (4 * n + t) f }

/-- The words of a tuner's SH fields. -/
def ddcRegs (n t : Nat) : List Nat := (List.range 14).map (fun i => 0x80400 + 0x80000 * n + 0x80 * t + 4 * i)

/-- PMC unit of a tuner of a logical slice: that of the physical slice which serves it. -/
def State.ddcUnit (s : State) (n t : Nat) : Nat := 53 + 4 * (s.slice n).phys + t

/-! ## Configuration (R144, R145, R151) -/

/-- A tuner's configuration, as fields of the words in force or captured. -/
structure DdcCfg where
  en : Nat
  fmt : Nat
  nhb : Nat
  l2blk : Nat
  thrEn : Nat
  ftw : Nat
  pow : Nat
  r : Nat
  df : Nat
  shifts : List Nat        -- DEC4, CIC, HB0, HB1, HB2, FIR
  sat : Nat
  bank : Nat
  xfLen : Nat
  on_ : Nat
  off_ : Nat
  minOn : Nat
  minOff : Nat
  base : Nat
  size : Nat
  deriving DecidableEq, Repr

/-- The configuration that words `c` over the words in force spell. -/
def State.ddcCfgOf (s : State) (c : RegFile) (n t : Nat) : DdcCfg :=
  let g (f : FRef) : Nat := s.capFld c f
  ⟨g (Fr.DDC_EN n t), g (Fr.DDC_FMT n t), g (Fr.DDC_NHB n t), g (Fr.DDC_LOG2BLK n t), g (Fr.DDC_THR_EN n t),
    g (Fr.DDC_FTW_LO n t) + 2 ^ 32 * g (Fr.DDC_FTW_HI n t), g (Fr.DDC_POW n t), g (Fr.DDC_CIC_R n t), g (Fr.DDC_DF n t),
    [g (Fr.DDC_DEC4 n t), g (Fr.DDC_CIC n t), g (Fr.DDC_HB0 n t), g (Fr.DDC_HB1 n t), g (Fr.DDC_HB2 n t), g (Fr.DDC_FIR n t)],
    g (Fr.DDC_SAT n t), g (Fr.DDC_BANK n t), g (Fr.DDC_XF_LEN n t), g (Fr.DDC_THR_ON n t), g (Fr.DDC_THR_OFF n t),
    g (Fr.DDC_MIN_ON n t), g (Fr.DDC_MIN_OFF n t), g (Fr.DDC_RING_BASE_MIB n t), g (Fr.DDC_RING_SIZE_MIB n t)⟩

/-- The configuration in force. -/
def State.ddcCfg (s : State) (n t : Nat) : DdcCfg := s.ddcCfgOf [] n t

/-- D_tot of R144. -/
def DdcCfg.dtot (c : DdcCfg) : Nat := 4 * Nat.max 1 c.r * 2 ^ c.nhb * Nat.max 1 c.df

/-- Half-band lengths in chain order (R145). -/
def hbLens (nhb : Nat) : List Nat :=
  match nhb with
  | 0 => []
  | 1 => [43]
  | 2 => [19, 43]
  | _ => [11, 19, 43]

/-- L_tot of R151, in slot samples, for a FIR of `nt` taps. -/
def DdcCfg.span (c : DdcCfg) (nt : Nat) : Nat :=
  let p := 4 * c.r
  let hb := ((List.zip (List.range 3) (hbLens c.nhb)).map (fun q => (q.2 - 1) * p * 2 ^ q.1)).foldl (· + ·) 0
  1 + 63 + 20 * (c.r - 1) + hb + (nt - 1) * p * 2 ^ c.nhb

/-- S of R151. -/
def DdcCfg.supp (c : DdcCfg) (nt : Nat) : Nat := ceilDiv (c.span nt) c.dtot - 1

/-- Taps of a bank. -/
def State.ddcTaps (s : State) (n t b : Nat) : Nat := s.fld (if b = 0 then Fr.DDC_NT_A n t else Fr.DDC_NT_B n t)

/-- Do taps `nt` break the limit of R149: ceil(NT / D_F) > 16 × R × 2^NHB × FS / FS_s? -/
def DdcCfg.tapsBreak (c : DdcCfg) (nt d : Nat) : Bool := 16 * c.r * 2 ^ c.nhb * d < ceilDiv nt (Nat.max 1 c.df)

/-! ## The chain (R146 to R148) -/

/-- One stage output narrowed by 2^k to 24 bits, saturated or wrapped, and whether it overflowed (R147). -/
def stage1 (satOn : Bool) (k : Nat) (x : Int) : Int × Nat :=
  let y := narrow x k
  if leaves 24 y then (if satOn then sat 24 y else wrap 24 y, 1) else (y, 0)

/-- Both components of a stage output. -/
def stage2 (satOn : Bool) (k : Nat) (x : Int × Int) : (Int × Int) × Nat :=
  let i := stage1 satOn k x.1
  let q := stage1 satOn k x.2
  ((i.1, q.1), i.2 + q.2)

/-- Complex sum. -/
def cadd (a b : Int × Int) : Int × Int := (a.1 + b.1, a.2 + b.2)

/-- A FIR sum: coefficient i times the i-th newest input. -/
def firSum (h : List Int) (line : List (Int × Int)) : Int × Int :=
  (List.zipWith (fun c (x : Int × Int) => (c * x.1, c * x.2)) h line).foldl cadd (0, 0)

/-- The mixer (R146): slot sample x at slot index i. -/
def ddcMix (c : DdcCfg) (i : Nat) (x : Int) : Int × Int :=
  let phi48 := (c.ftw * i + c.pow * 2 ^ 16) % 2 ^ 48
  let phi32 := (phi48 + 2 ^ 15) / 2 ^ 16 % 2 ^ 32
  (narrow (x * Config.ncoCos phi32) 5, narrow (-(x * Config.ncoSin phi32)) 5)

/-- CIC integrators, 84 bits wide, wrapping (R147). -/
def cicInteg : List (Int × Int) → Int × Int → List (Int × Int)
  | [], _ => []
  | a :: t, x => let y := (wrap 84 (a.1 + x.1), wrap 84 (a.2 + x.2)); y :: cicInteg t y

/-- CIC combs with differential delay 1: new delays and the output. -/
def cicComb : List (Int × Int) → Int × Int → List (Int × Int) × (Int × Int)
  | [], x => ([], x)
  | a :: t, x =>
    let r := cicComb t (wrap 84 (x.1 - a.1), wrap 84 (x.2 - a.2))
    (x :: r.1, r.2)

/-- What a sample leaves in the chain: the chain, an output of the half-band stages if one falls due, overflows. -/
structure ChainOut where
  chain : DdcChain
  y : Option (Int × Int)
  ovf : Nat

/-- The half-band stages from stage `i` on; `m` numbers the stage's input since the restart, from 1. -/
def hbStages (c : DdcCfg) : List Nat → Nat → Nat → List (List (Int × Int)) → Int × Int → List (List (Int × Int)) × Option (Int × Int) × Nat
  | [], _, _, lines, x => (lines, some x, 0)
  | len :: rest, i, m, lines, x =>
    let line := (x :: lines.headD []).take len
    if m % 2 = 0 then
      let y := stage2 (bit c.sat (2 + i)) (nth c.shifts (2 + i) 17) (firSum (Config.halfBand len) line)
      let r := hbStages c rest (i + 1) (m / 2) (lines.drop 1) y.1
      (line :: r.1, r.2.1, y.2 + r.2.2)
    else (line :: lines.drop 1, none, 0)

/-- One slot sample through mixer, DEC4, CIC and half-bands. -/
def ddcSample (c : DdcCfg) (i : Nat) (x : Int) (h : DdcChain) : ChainOut :=
  let n := h.n + 1
  let line := (ddcMix c i x :: h.dec4).take 64
  let h1 := { h with n := n, dec4 := line }
  if n % 4 ≠ 0 then ⟨h1, none, 0⟩
  else
    let a := stage2 (bit c.sat 0) (nth c.shifts 0 17) (firSum Config.dec4 line)
    let integ := cicInteg h.integ a.1
    let h2 := { h1 with integ := integ }
    if n / 4 % c.r ≠ 0 then ⟨h2, none, a.2⟩
    else
      let cb := cicComb h.comb (integ.getLastD (0, 0))
      let b := stage2 (bit c.sat 1) (5 * Nat.log2 c.r + nth c.shifts 1 0) (if c.r = 1 then a.1 else cb.2)
      let r := hbStages c (hbLens c.nhb) 0 (n / 4 / c.r) h.hb b.1
      ⟨{ h2 with comb := cb.1, hb := r.1 }, r.2.1, a.2 + b.2 + r.2.2⟩

/-- Slot samples `k` on from sample time `t` of the beats received; a beat that is missing reads as zeros. -/
def ddcTake (d : Nat) : Nat → Nat → List SBeat → List Int
  | 0, _, _ => []
  | k + 1, t, l =>
    let l1 := l.dropWhile (fun b => b.t + 16 * d ≤ t)
    (match l1 with
      | b :: _ => if b.t ≤ t then nth b.samples ((t - b.t) / d) 0 else 0
      | [] => 0) :: ddcTake d k (t + d) l1

/-- Run samples through the chain; the FIR line takes every half-band output. -/
def ddcRun (c : DdcCfg) : List Int → Nat → DdcChain → Nat → DdcChain × Nat
  | [], _, h, ovf => (h, ovf)
  | x :: t, i, h, ovf =>
    let r := ddcSample c i x h
    let h1 := match r.y with
      | some y => { r.chain with fir := (y :: r.chain.fir).take 256 }
      | none => r.chain
    ddcRun c t (i + 1) h1 (ovf + r.ovf)

/-- A chain with every stage cleared (R150). -/
def clearedChain : DdcChain :=
  { integ := List.replicate 5 (0, 0), comb := List.replicate 5 (0, 0), hb := [[], [], []] }

/-! ## Progress -/

/-- Is a tuner running: enabled, fed, its physical slice in service? -/
def State.ddcRuns (s : State) (n t : Nat) : Bool :=
  s.inf (Fr.DDC_EN n t) = 1 && s.sliceInput n < 8 && !(s.slice n).failed

/-- Is the beat at sample time `at_` the next of the slot that feeds slice `n`, or past: every earlier beat has come. -/
def State.reached (s : State) (n at_ : Nat) : Bool :=
  if s.sliceInput n < 8 then at_ ≤ (s.slot (s.sliceInput n)).next else at_ ≤ s.samp + 16

/-- The last slot sample of output j of a tuner starts at this sample time (R150). -/
def Tuner.lastOf (x : Tuner) (c : DdcCfg) : Nat := x.start + ((x.j + 1) * c.dtot - 1) * x.d

/-- A COMMIT completes once every group of it has taken effect (R259). -/
def State.settleCommit (s : State) (job : Nat) : State :=
  let waits := s.slices.any (fun x => x.pend.any (fun c => c.job = job))
    || s.tuners.any (fun x => x.pend.any (fun c => c.job = job) || x.queued.any (fun q => q.1 = job))
    || s.zooms.any (fun x => x.pend.any (fun c => c.job = job))
    || s.attens.any (fun r => r.job = job)
  if job = 0 || waits then s
  else
    match s.job job with
    | none => s
    | some j => s.complete job (if j.flagged then stFlagged else stDone) j.result j.extent

end Sys2Proof.Machine
end

