-- ==== Sys2Proof/Machine/Zoom.lean ====
section
/-! DEFINITION. The zoom FFT of a slice (R165 to R167). -/

namespace Sys2Proof.Machine

/-- Zoom state of tuner `t` of slice `n`. -/
def State.zoomTun (s : State) (n t : Nat) : ZoomSt := nth (nth s.zooms n {}).tun t {}

/-- Change the zoom unit of slice `n`. -/
def State.modZoom (s : State) (n : Nat) (f : Zoom → Zoom) : State := { s with zooms := modNth s.zooms n f }

/-- Change the zoom state of one tuner. -/
def State.modZoomTun (s : State) (n t : Nat) (f : ZoomSt → ZoomSt) : State :=
  s.modZoom n (fun z => { z with tun := modNth z.tun t f })

/-- The words of the zoom SH fields of slice `n`. -/
def zoomRegs (n : Nat) : List Nat := [0x80600 + 0x80000 * n, 0x80604 + 0x80000 * n]

/-- N_Z and H_Z in force. -/
def State.zoomN (s : State) (n : Nat) : Nat := 2 ^ s.inf (Fr.ZOOM_LOG2N n)
def State.zoomH (s : State) (n : Nat) : Nat := s.zoomN n / 2 ^ s.inf (Fr.ZOOM_OVL n)

/-- Does the zoom FFT serve tuner `t`? -/
def State.zoomServes (s : State) (n t : Nat) : Bool :=
  s.inf (Fr.ZOOM_EN n) = 1 && bit (s.inf (Fr.ZOOM_TUNERS n)) t && s.ddcRuns n t

/-- The window in force: periodic, of length N_Z. -/
def State.zoomWindow (s : State) (n : Nat) : List Int :=
  builtinWindow (s.inf (Fr.ZOOM_WIN n)) (s.inf (Fr.ZOOM_BETA n)) (s.zoomN n)

/-- p_fs of R167 as a fraction: (a × cg)². -/
def State.zoomPfs (s : State) (n t : Nat) : Nat × Nat :=
  let c := s.ddcCfg n t
  let h := (nth (s.tuner n t).banks (s.fld (Fr.DDC_BANK_NOW n t)) []).foldl (· + ·) 0
  let w := ((s.zoomWindow n).foldl (· + ·) 0).natAbs
  let hbs := ((c.shifts.drop 2).take c.nhb).foldl (· + ·) 0
  let num := 2048 * 131071 * 2 ^ 17 * c.r ^ 5 * 2 ^ (17 * c.nhb) * h.natAbs * w
  let den := 2 ^ (6 + nth c.shifts 0 17 + 5 * Nat.log2 c.r + nth c.shifts 1 0 + hbs + nth c.shifts 5 17) * s.zoomN n * 2 ^ 16
  (num * num, den * den)

/-- One zoom record of tuner `t`, linear or logarithmic (R167). -/
def State.zoomRecord1 (s : State) (n t : Nat) (lin cut : Bool) : State :=
  let z := s.zoomTun n t
  let c := s.ddcCfg n t
  let pfs := s.zoomPfs n t
  let corr := logCorr pfs
  let td := s.inf (Fr.ZOOM_TIME_DET n)
  let np := s.zoomN n
  let pw := if td = 1 then z.pts.map (fun x => (roundDiv (x : Nat) (Nat.max 1 z.used)).toNat) else z.pts
  let body :=
    if lin then
      if z.used = 0 then zeros (4 * np) else pw.flatMap (fun p => le 4 (if pfs.1 = 0 then 0 else binary32 (p * pfs.2) pfs.1))
    else if z.used = 0 then (List.replicate np 0x8000).flatMap (le 2)
    else pw.flatMap (fun p => le 2 (unsigned 16 (logPower corr p)))
  let q := s.takeSeq n 5
  let empty := z.used = 0
  let flags := setBits (z.flags % 16) 3 1 (b2n (bit z.flags 3 || empty)) + 32 * b2n cut + 64 * b2n z.chg
    + 128 * bits z.flags 4 1 + 512 * b2n empty
  let inp := s.sliceInput n
  let src := if inp < 8 then s.fld (Fr.INTK_SLOT_SOURCE inp) else 0
  let hdr := [5, n + 16 * (src % 4), inp, s.fld (Fr.ZOOM_GEN n)] ++ le 4 q.1 ++ le 8 z.first ++ le 8 z.stop
    ++ le 4 (if cut then z.frames else s.inf (Fr.ZOOM_T_Z n)) ++ le 4 z.used
    ++ [s.inf (Fr.ZOOM_LOG2N n), s.inf (Fr.ZOOM_OVL n), s.inf (Fr.ZOOM_WIN n), 4 * td] ++ le 2 t ++ le 2 1 ++ le 2 0
    ++ [z.atten, s.servePhys n z.first] ++ le 4 flags ++ le 4 0 ++ le 2 (unsigned 16 corr) ++ le 6 c.ftw ++ le 4 c.dtot
  (q.2.appendRecord n 5 q.1 z.first (hdr ++ body))

/-- Write the zoom record in progress, as OUT_FMT selects, and start the next. -/
def State.writeZoom (s : State) (n t : Nat) (cut : Bool) : State :=
  let fmt := s.inf (Fr.ZOOM_OUT_FMT n)
  let s1 := if fmt ≠ 1 then s.zoomRecord1 n t true cut else s
  let s2 := if fmt ≠ 0 then s1.zoomRecord1 n t false cut else s1
  let s3 := if cut then s2.setFld (Fr.ZOOM_CUT n) 1 else s2
  s3.modZoomTun n t (fun z => { from_ := z.from_, buf := z.buf, chg := false })

/-- Frames not yet complete are discarded and the record in progress ends CUT; frames start again at the first output
at or after `at_` (R166). -/
def State.zoomCut (s : State) (n t at_ : Nat) : State :=
  let z := s.zoomTun n t
  let s1 := if 0 < z.used && s.inf (Fr.ZOOM_EN n) = 1 then s.writeZoom n t true else s
  s1.modZoomTun n t (fun _ => { from_ := at_ })

/-- A complete zoom frame joins the record in progress; one that carries GAP is not used (R105, R166). -/
def State.zoomFrame (s : State) (n t stop : Nat) (fr : List (Nat × Int × Int × Nat)) : State :=
  let z := s.zoomTun n t
  let mk := fr.foldl (fun m p => m ||| p.2.2.2) 0
  let use := !bit mk 3
  let bins := if use then Config.zoomFft (s.zoomWindow n) (fr.map (fun p => (p.2.1, p.2.2.1))) else []
  let pow := (List.range (s.zoomN n)).map (fun i => let b := nth bins i (0, 0); (b.1 * b.1 + b.2 * b.2).toNat)
  let pts := if !use then z.pts else if z.used = 0 then pow
    else if s.inf (Fr.ZOOM_TIME_DET n) = 1 then List.zipWith (· + ·) z.pts pow else List.zipWith Nat.max z.pts pow
  s.modZoomTun n t (fun y =>
    { y with
      frames := z.frames + 1
      used := z.used + b2n use
      first := if z.frames = 0 then (fr.head?.map (·.1)).getD 0 else z.first
      stop := stop
      pts := pts
      flags := z.flags ||| mk
      atten := if use then s.sliceAtten n else z.atten })

/-- The zoom FFT takes one written output of a tuner at 24 bits. -/
def State.zoomFeed (s : State) (n t ts step : Nat) (v : Int × Int) (marks : Nat) : State :=
  let z := s.zoomTun n t
  if !s.zoomServes n t || ts < z.from_ then s
  else
    let buf := (ts, v.1, v.2, marks) :: z.buf
    let nz := s.zoomN n
    if buf.length < nz then s.modZoomTun n t (fun y => { y with buf := buf })
    else (s.modZoomTun n t (fun y => { y with buf := buf.take (nz - s.zoomH n) })).zoomFrame n t (ts + step) (buf.take nz).reverse

/-- Has the record in progress room for a frame more? -/
def State.zoomRoom (s : State) (n t : Nat) : Bool := !s.zoomServes n t || (s.zoomTun n t).frames < s.inf (Fr.ZOOM_T_Z n)

/-- ZOOM_RECORD (R167): a record of T_Z frames is written to the slice history. -/
def execZoomRecord (n t : Nat) (s : State) : Host.Outcome State Fault Refusal :=
  .next (
    if t < 4 && s.zoomServes n t && s.inf (Fr.ZOOM_T_Z n) ≤ (s.zoomTun n t).frames && 0 < (s.zoomTun n t).frames then
      s.writeZoom n t false
    else s)

/-- The zoom status registers, as the configuration in force stands. -/
def State.zoomStat (s : State) (n : Nat) : State :=
  let on := s.inf (Fr.ZOOM_EN n) = 1
  let act := listMask ((List.range 4).filter (s.zoomServes n))
  (s.setFld (Fr.ZOOM_ACTIVE n) act).setFld (Fr.ZOOM_RUNNING n) (b2n (on && act ≠ 0))

/-- The next output of a tuner lies at or after a sample time, or the tuner is not served. -/
def State.tunerPast (s : State) (n t at_ : Nat) : Bool :=
  let x := s.tuner n t
  !s.ddcRuns n t || at_ ≤ x.start + x.j * (s.ddcCfg n t).dtot * x.d

/-- A ZOOM COMMIT takes effect once every tuner has produced its outputs before the target (R166). -/
def State.zoomSettle (s : State) (n : Nat) : State :=
  match (nth s.zooms n {}).pend with
  | [] => s
  | c :: rest =>
    if s.reached n c.at_ && (List.range 4).all (fun t => s.tunerPast n t c.at_) then
      let s1 := (List.range 4).foldl (fun st t => st.zoomCut n t c.at_) s
      let s2 := (s1.modZoom n (fun z => { z with pend := rest })).apply c.cap
      ((s2.setFld (Fr.ZOOM_GEN n) (s2.fld (Fr.ZOOM_GEN n) + 1)).zoomStat n).settleCommit c.job
    else s

end Sys2Proof.Machine
end

