-- ==== Sys2Proof/Machine/Ddc.lean ====
section
/-! DEFINITION. The tuners: restarts, cross-fades, stream rings, threshold detector, trigger-started delivery (chapter 07,
R150 to R164). -/

namespace Sys2Proof.Machine

/-! ## Restart (R150 to R157) -/

/-- The restart set of R150: do the captured words change a field of it? -/
def DdcCfg.restarts (a b : DdcCfg) : Bool :=
  a.en ≠ b.en || a.fmt ≠ b.fmt || a.nhb ≠ b.nhb || a.ftw ≠ b.ftw || a.pow ≠ b.pow || a.r ≠ b.r || a.df ≠ b.df
  || a.shifts ≠ b.shifts || a.sat ≠ b.sat || a.l2blk ≠ b.l2blk || a.bank ≠ b.bank && b.xfLen = 0

/-- The flag summary of R15 over a list of marks: bits 0 to 3, and bit 4 where an attenuation change marked a beat. -/
def ddcMarks (l : List (Nat × Nat)) : Nat := l.foldl (fun m p => m ||| p.2) 0

/-- A tuner's beat arrives: the samples wait, a beat whose flags matter is noted. -/
def Tuner.beat (x : Tuner) (b : SBeat) : Tuner :=
  let m := flagSummary [b.flags] + 16 * b2n (bit b.flags 4)
  { x with inq := x.inq ++ [b], marks := if m = 0 then x.marks else x.marks ++ [(b.t, m)] }

/-- The threshold event of Table 7.5. -/
def State.thrEvent (s : State) (n t edge : Nat) (cut : Bool) (st first : Nat) (x : ThrSt) : State :=
  (s.count (s.ddcUnit n t) .thrEvents 1).raise 2 0 0
    ([n + 16 * t + 64 * edge + 128 * b2n cut, s.servePhys n st, s.sliceInput n, s.fld (Fr.DDC_GEN n t)] ++ le 4 x.count
      ++ le 8 st ++ le 8 first ++ le 6 x.peak ++ [x.flags % 16])

/-- Write the block in progress to the stream ring: filler and wrap where it does not fit (R140, R161). -/
def State.writeDdcBlock (s : State) (n t : Nat) (cut : Bool) : State :=
  let x := s.tuner n t
  let b := x.blk
  let cnt := b.data.length
  let total := s.inf (Fr.DDC_RING_SIZE_MIB n t) * 16384
  if cnt = 0 || total = 0 then s
  else
    let c := s.ddcCfg n t
    let smp (v : Int × Int) : List Nat :=
      if c.fmt = 0 then le 2 (unsigned 16 v.1) ++ le 2 (unsigned 16 v.2) else le 3 (unsigned 24 v.1) ++ le 3 (unsigned 24 v.2)
    let nt := s.ddcTaps n t (s.fld (Fr.DDC_BANK_NOW n t))
    let flags := b.flags % 32 + 32 * b2n cut + 64 * b2n x.firstBlk + 128 * (bits b.flags 7 1) + 256 * (bits b.flags 8 1) + 512 * b.bank
    let hdr := [0x10, n + 16 * t + 64 * c.fmt, s.sliceInput n, s.fld (Fr.DDC_GEN n t)] ++ le 4 x.seq ++ le 8 b.first ++ le 4 cnt
      ++ le 4 (if x.firstBlk then x.s else 0) ++ le 6 c.ftw ++ [b.atten, s.servePhys n b.first] ++ le 4 c.dtot ++ le 4 (c.span nt)
      ++ le 2 flags ++ [0, 0] ++ le 4 (b.flagFirst.getD 0xFFFFFFFF) ++ le 4 (b.flagLast.getD 0xFFFFFFFF) ++ le 4 b.ovf
      ++ le 4 c.pow ++ zeros 4
    let body := b.data.reverse.flatMap smp
    let len := ceilDiv (64 + body.length) 64
    let bytes := padTo (len * 64) (hdr ++ body)
    let base := c.base * 2 ^ 20
    let w0 := s.fld (Fr.DDC_WR_OFS n t)
    let wraps := total < w0 + len
    let s1 := if wraps then s.rtWrite (base + w0 * 64) (zeros 64) else s
    let w := if wraps then 0 else w0
    let gone (r : DdcRec) : Bool := (r.ofs < w + len && w < r.ofs + r.len) || (wraps && w0 ≤ r.ofs)
    let rec_ : DdcRec := ⟨w, len, b.first, c.dtot * x.d, cnt, s.servePhys n b.first⟩
    let keep := x.blocks.filter (fun r => !gone r)
    let lost := (x.blocks.filter gone).map (fun r => base + r.ofs * 64)
    let s2 := (s1.rtWrite (base + w * 64) bytes).modTuner n t (fun y =>
      { y with blocks := keep ++ [rec_], seq := (y.seq + 1) % 2 ^ 32, firstBlk := false, blk := {} })
    let s3 := (s2.setFld (Fr.DDC_WR_OFS n t) ((w + len) % total)).setFld (Fr.DDC_OLDEST_OFS n t)
      (((keep ++ [rec_]).head?).map (·.ofs) |>.getD 0)
    (s3.streamGone 1 n t lost).streamItem 1 n t ⟨base + w * 64, bytes, b.first, c.dtot * x.d, 0, cnt, s.servePhys n b.first, 0⟩

/-- The status bits of a tuner, as its state stands. -/
def State.ddcStat (s : State) (n t : Nat) : State :=
  let x := s.tuner n t
  let run := s.ddcRuns n t
  ((s.setFld (Fr.DDC_RUNNING n t) (b2n run)).setFld (Fr.DDC_SETTLING n t) (b2n (run && x.j < x.s))).setFld (Fr.DDC_XFADE n t)
    (b2n x.fade.isSome) |>.setFld (Fr.DDC_QUEUED n t) (b2n x.queued.isSome)

/-- A restart at C_D = `at_` with the words already in force: the block ends CUT, a detector above posts its END, a fade
ends on its target and a queued swap is cancelled, every stage is cleared and a new grid starts (R150, R151, R157,
R160, R164). -/
def State.ddcRestart (s : State) (n t at_ : Nat) (old : DdcCfg) (new : RegFile) : State :=
  let x := s.tuner n t
  let s1 := (s.writeDdcBlock n t true).zoomCut n t at_
  let above := s.flag (Fr.DDC_ABOVE n t)
  let s2 := if above then
      ((s1.thrEvent n t 1 true at_ x.thr.st x.thr).setFld (Fr.DDC_THR_CUT n t) 1).setFld (Fr.DDC_ABOVE n t) 0
    else s1
  let fading := x.fade.isSome || x.fadeAt.isSome || x.queued.isSome
  let s3 := if fading then s2.setFld (Fr.DDC_XF_CANCEL n t) 1 else s2
  let s4 := match x.queued with
    | some q => s3.complete q.1 stCancelled 0 0
    | none => s3
  let s5 := s4.apply new
  let c := s5.ddcCfg n t
  let bank := if c.bank ≠ old.bank then c.bank
    else match x.fade, x.fadeAt with
      | some f, _ => f.bank
      | none, some f => f.2.1
      | none, none => s5.fld (Fr.DDC_BANK_NOW n t)
  let s6 := (s5.setFld (Fr.DDC_BANK_NOW n t) bank).setInf (Fr.DDC_BANK n t) bank
  let nt := s6.ddcTaps n t bank
  let sup := c.supp nt
  let run := s6.ddcRuns n t
  let s7 := s6.modTuner n t (fun y =>
    { y with
      inq := y.inq.filter (fun b => at_ < b.t + 16 * s6.sliceD n)
      start := at_
      d := s6.sliceD n
      j := 0
      s := sup
      chain := clearedChain
      clear := 0
      fade := none
      fadeAt := none
      queued := none
      blk := {}
      firstBlk := true
      thr := {} })
  let s8 := ((s7.setFld (Fr.DDC_GEN n t) (s7.fld (Fr.DDC_GEN n t) + 1)).setFld (Fr.DDC_SUPP_LAST n t) sup).setFld (Fr.DDC_RESTART_ST n t) at_
    |>.setFld (Fr.DDC_SPAN n t) (c.span nt)
  let s9 := if run then s8.modStreams (fun z => z.carries 1 n t) (fun z => { z with ctxDue := true }) else s8
  (s9.ddcStat n t).zoomStat n

/-- A swap that falls due starts its fade at the first output at or after C_D; during a fade it waits in the queue
place, from which it pushes a swap accepted before it (R155, R156; the spec does not place two accepted swaps whose
instants fall in one fade: the later one stays, DESIGN CHOICE). -/
def State.ddcSwap (s : State) (n t : Nat) (c : TunChange) (len bank : Nat) : State :=
  let x := s.tuner n t
  if x.fade.isSome || x.fadeAt.isSome then
    let s1 := match x.queued with
      | some q => s.complete q.1 stCancelled 0 0
      | none => s
    (s1.modTuner n t (fun y => { y with queued := some (c.job, bank, len, c.at_) })).ddcStat n t
  else if bank = s.fld (Fr.DDC_BANK_NOW n t) then s
  else s.modTuner n t (fun y => { y with fadeAt := some (c.at_, bank, len) })

/-- Changes of a tuner take effect at their instant: a restart where a field of the restart set or the input slot
changes, the other fields without one (R150, R159, R160). -/
def State.ddcChange (s : State) (n t at_ : Nat) (l : List TunChange) : State :=
  let s1 := s.modTuner n t (fun y => { y with pend := y.pend.filter (fun c => c.at_ ≠ at_) })
  let cap := l.flatMap (fun c => c.cap)
  let old := s.ddcCfg n t
  let new := s.ddcCfgOf cap n t
  if l.any (fun c => c.cap.isEmpty) && (old.en = 1 || new.en = 1) || old.restarts new then s1.ddcRestart n t at_ old cap
  else
    let s2 := s1.apply cap
    match l with
    | c :: _ => if new.xfLen ≠ 0 && new.bank ≠ old.bank
        then s2.ddcSwap n t c new.xfLen new.bank else s2
    | [] => s2

/-- DDC_RESTART_INSTANT (R150): C_D of the earliest change of tuner `t` of slice `n`; every output whose last slot
sample lies before it has been produced. -/
def execDdcRestartInstant (n t : Nat) (s : State) : Host.Outcome State Fault Refusal :=
  let x := s.tuner n t
  match x.pend with
  | [] => .next s
  | c0 :: rest =>
    let at_ := rest.foldl (fun m c => Nat.min m c.at_) c0.at_
    let l := x.pend.filter (fun c => c.at_ = at_)
    let c := s.ddcCfg n t
    let done := !s.ddcRuns n t || at_ ≤ x.lastOf c
    if t < 4 && s.reached n at_ && done then
      .next (((l.map (·.job)).foldl State.settleCommit (s.ddcChange n t at_ l)).zoomSettle n)
    else .next s

/-! ## Output samples (R151, R152, R155, R163) -/

/-- What an output sample is: both components at 24 bits and as delivered, flags of its span, overflows. -/
structure DdcOut where
  v24 : Int × Int
  v : Int × Int
  marks : Nat
  ovf : Nat

/-- The FIR output of a bank after shift and saturation. -/
def DdcCfg.firOut (c : DdcCfg) (h : List Int) (line : List (Int × Int)) : (Int × Int) × Nat :=
  stage2 (bit c.sat 5) (nth c.shifts 5 17) (firSum h line)

/-- The cross-fade of R155 for output k of X. -/
def fadeMix (k len : Nat) (a b : Int × Int) : Int × Int :=
  let w := roundDiv (2 ^ 17 * (k + 1) : Nat) (Nat.max 1 len)
  (narrow ((2 ^ 17 - w) * a.1 + w * b.1) 17, narrow ((2 ^ 17 - w) * a.2 + w * b.2) 17)

/-- Is sample time `ts` that of the fade's start or later: the fade that runs for the next output. -/
def Tuner.fadeNow (x : Tuner) (ts : Nat) : Option Fade :=
  match x.fade, x.fadeAt with
  | some f, _ => some f
  | none, some f => if f.1 ≤ ts then some ⟨0, f.2.2, f.2.1⟩ else none
  | none, none => none

/-- The threshold detector takes one written output (R163). -/
def State.thrSample (s : State) (n t ts p marks : Nat) : State :=
  let c := s.ddcCfg n t
  if c.thrEn = 0 then s
  else
    let x := (s.tuner n t).thr
    let set (y : ThrSt) : State := s.modTuner n t (fun z => { z with thr := y })
    if bit marks 3 then set { x with run := 0 }
    else if !s.flag (Fr.DDC_ABOVE n t) then
      if c.on_ ≤ p then
        let first := if x.run = 0 then ts else x.first
        let peak := Nat.max (if x.run = 0 then 0 else x.peak) p
        let fl := (if x.run = 0 then 0 else x.flags) ||| (marks % 16)
        let y : ThrSt := { x with run := x.run + 1, first := first, peak := peak, flags := fl }
        if y.run = c.minOn then
          let z : ThrSt := { y with run := 0, st := first, count := x.count + 1 }
          ((s.modTuner n t (fun w => { w with thr := z })).setFld (Fr.DDC_ABOVE n t) 1).thrEvent n t 0 false first first z
        else set y
      else set { x with run := 0 }
    else
      let peak := Nat.max x.peak p
      let fl := x.flags ||| (marks % 16)
      if p < c.off_ then
        let first := if x.run = 0 then ts else x.first
        let y : ThrSt := { x with run := x.run + 1, first := first, peak := peak, flags := fl }
        if y.run = c.minOff then
          let s1 := (s.setFld (Fr.DDC_ABOVE n t) 0).thrEvent n t 1 false first x.st y
          s1.modTuner n t (fun w => { w with thr := { y with run := 0, peak := 0, flags := 0 } })
        else set y
      else set { x with run := 0, peak := peak, flags := fl }

/-- A written output joins the block in progress (R161). -/
def DdcBlk.add (b : DdcBlk) (ts : Nat) (o : DdcOut) (atten bank : Nat) (fading : Bool) : DdcBlk :=
  let k := b.data.length
  let hit := bit o.marks 0 || bit o.marks 1 || bit o.marks 3
  { first := if k = 0 then ts else b.first
    data := o.v :: b.data
    flags := b.flags ||| (o.marks % 16) ||| (16 * b2n (0 < o.ovf)) ||| (128 * bits o.marks 4 1) ||| (256 * b2n fading)
    flagFirst := if hit && b.flagFirst.isNone then some k else b.flagFirst
    flagLast := if hit then some k else b.flagLast
    ovf := b.ovf + o.ovf
    atten := atten
    bank := bank }

/-- Compute the next output of a tuner: its chain run over D_tot slot samples, the FIR or a cross-fade, the narrowing of
R148, the flag summary over its span. -/
def State.ddcCompute (s : State) (n t : Nat) : DdcOut × Tuner :=
  let c := s.ddcCfg n t
  let x := s.tuner n t
  let from_ := x.start + x.j * c.dtot * x.d
  let r := ddcRun c (ddcTake x.d c.dtot from_ x.inq) (from_ / Nat.max 1 x.d) x.chain 0
  let now := s.fld (Fr.DDC_BANK_NOW n t)
  let a := c.firOut (nth x.banks now []) r.1.fir
  let f := x.fadeNow from_
  let b := match f with
    | some f => let y := c.firOut (nth x.banks f.bank []) r.1.fir; (fadeMix f.k f.len a.1 y.1, a.2 + y.2)
    | none => a
  let v : (Int × Int) × Nat := if c.fmt = 1 then (b.1, 0)
    else ((sat 16 (narrow b.1.1 8), sat 16 (narrow b.1.2 8)),
      b2n (leaves 16 (narrow b.1.1 8)) + b2n (leaves 16 (narrow b.1.2 8)))
  let last := x.lastOf c
  let span := s.fld (Fr.DDC_SPAN n t)
  let lo : Int := (last : Int) - (span - 1 : Nat) * x.d
  let met := x.marks.filter (fun p => lo < (p.1 : Int) + 16 * x.d && p.1 ≤ last)
  let mk := ddcMarks met ||| (8 * b2n (lo < (x.clear : Int)))
  (⟨b.1, v.1, mk, r.2 + b.2 + v.2⟩,
    { x with
      inq := x.inq.dropWhile (fun q => q.t + 16 * x.d ≤ last + x.d)
      marks := x.marks.filter (fun p => lo < (p.1 : Int) + 16 * x.d)
      chain := r.1
      j := x.j + 1
      fade := f.map (fun g => { g with k := g.k + 1 })
      fadeAt := if f.isSome then none else x.fadeAt })

/-- May tuner `t` of slice `n` produce its next output: it runs, the block in progress has room, the fade has not run
out, every beat of it has come and it lies before the next restart? -/
def State.ddcReady (s : State) (n t : Nat) : Bool :=
  let c := s.ddcCfg n t
  let x := s.tuner n t
  let last := x.lastOf c
  t < 4 && s.ddcRuns n t && x.blk.data.length < 2 ^ c.l2blk && x.fade.all (fun f => f.k < f.len)
  && x.inq.any (fun b => last < b.t + 16 * x.d)
  && x.pend.all (fun p => last < p.at_)
  && s.zoomRoom n t
  && (nth s.zooms n {}).pend.all (fun p => x.start + x.j * c.dtot * x.d < p.at_)

/-- DDC_OUTPUT_SAMPLE (R151, R163): the tuner's next output, suppressed or written. -/
def execDdcOutputSample (n t : Nat) (s : State) : Host.Outcome State Fault Refusal :=
  .next (
    if s.ddcReady n t then
      let c := s.ddcCfg n t
      let x := s.tuner n t
      let ts := x.start + x.j * c.dtot * x.d
      let r := s.ddcCompute n t
      let u := s.ddcUnit n t
      let s0 := (s.modTuner n t (fun _ => r.2)).count u .stageOvf r.1.ovf
      let s1 := if 0 < r.1.ovf then s0.setFld (Fr.DDC_STAGE_OVF n t) 1 else s0
      let s2 :=
        if x.j < x.s then s1.count u .suppressed 1
        else
          let bank := s1.fld (Fr.DDC_BANK_NOW n t)
          let s' := (s1.modTuner n t (fun y => { y with blk := y.blk.add ts r.1 (s1.sliceAtten n) bank r.2.fade.isSome })).count u .written 1
          let p := (r.1.v.1 * r.1.v.1 + r.1.v.2 * r.1.v.2).toNat
          (s'.thrSample n t ts p r.1.marks).zoomFeed n t ts (c.dtot * x.d) r.1.v24 r.1.marks
      (s2.ddcStat n t).zoomSettle n
    else s)

/-- DDC_BLOCK_WRITE (R161): a block of 2^LOG2BLK samples closes and is written to the stream ring. -/
def execDdcBlockWrite (n t : Nat) (s : State) : Host.Outcome State Fault Refusal :=
  .next (
    if t < 4 && 2 ^ (s.ddcCfg n t).l2blk ≤ (s.tuner n t).blk.data.length then s.writeDdcBlock n t false else s)

/-- XFADE_END (R155, R156): a cross-fade has reached its length; the new bank alone is in force, and a queued swap
starts at the next output: its COMMIT completes DONE_FLAGGED with the delay in output samples. -/
def execXfadeEnd (n t : Nat) (s : State) : Host.Outcome State Fault Refusal :=
  let x := s.tuner n t
  .next (
    match x.fade with
    | none => s
    | some f =>
      if t < 4 && f.len ≤ f.k then
        let c := s.ddcCfg n t
        let s1 := (s.setFld (Fr.DDC_BANK_NOW n t) f.bank).setFld (Fr.DDC_SPAN n t) (c.span (s.ddcTaps n t f.bank))
        let ts := x.start + x.j * c.dtot * x.d
        match x.queued with
        | none => (s1.modTuner n t (fun y => { y with fade := none })).ddcStat n t
        | some q =>
          let delay := (ts - q.2.2.2) / (c.dtot * x.d)
          let s2 := s1.modTuner n t (fun y => { y with fade := none, queued := none, fadeAt := some (q.2.2.2, q.2.1, q.2.2.1) })
          ((s2.modJob q.1 (fun j => { j with flagged := true, result := delay })).settleCommit q.1).ddcStat n t
      else s)

/-- DDC_DELIVERY_END (R127): the delivery a trigger started reaches its end and stops; an arming whose actions have all
finished completes (R123). -/
def execDdcDeliveryEnd (id : Nat) (s : State) : Host.Outcome State Fault Refusal :=
  .next (
    match s.stream id with
    | none => s
    | some x =>
      match x.window with
      | none => s
      | some w =>
        let tn := s.tuner x.slice x.inst
        let c := s.ddcCfg x.slice x.inst
        let next := if tn.blk.data.isEmpty then tn.start + tn.j * c.dtot * tn.d else tn.blk.first
        if w.2 ≠ 0 && (w.2 ≤ next || !s.ddcRuns x.slice x.inst && w.2 ≤ s.samp) then
          let s1 := s.modStream id (fun y => { y with window := none })
          ([0, 1].foldl (fun st m =>
            let a := st.trg x.slice m
            if (st.job a.job).any (fun j => nth j.d.p 4 0 = id) then st.modTrg x.slice m (fun y => { y with ddcOpen := false, ddcEnd := 0 })
            else st) s1).trgSettle
        else s)

/-! ## The FIR-bank CONFIGURE (R154) -/

/-- Format checks: slice, tuner and bank, the address, NT within its limits. -/
def firBankFmt (s : State) (d : Desc) : Option Refuse :=
  let w := nth d.p 0 0
  let nt := nth d.p 3 0
  let n := bits w 8 8
  let t := bits w 17 2
  firstRefusal [
    check (9 ≤ n || 8 ≤ bits w 16 8 || bits w 24 8 ≠ 0) (refuseFormat 0),
    check (nth d.p 1 0 % 4 ≠ 0) (refuseFormat 1),
    check (nt = 0 || 256 < nt || (s.ddcCfg n t).tapsBreak nt (s.sliceD n)) (refuseFormat 3)]

/-- State checks: the bank in force, either bank of a cross-fade, the target of a queued swap, a powered-down slice. -/
def firBankState (s : State) (d : Desc) : Option Refuse :=
  let w := nth d.p 0 0
  let n := bits w 8 8
  let t := bits w 17 2
  let b := bits w 16 1
  let x := s.tuner n t
  check (!s.powered n || s.fld (Fr.DDC_BANK_NOW n t) = b || x.fade.isSome || x.fadeAt.isSome || x.queued.any (fun q => q.2.1 = b))
    refuseState

/-- The coefficients in place: Q3.17 in bits [19:0] of each word, NT and CRC-32C. -/
def firBankLoad (s : State) (d : Desc) : State :=
  let w := nth d.p 0 0
  let n := bits w 8 8
  let t := bits w 17 2
  let b := bits w 16 1
  let nt := nth d.p 3 0
  let bytes := padTo (4 * nt) d.data
  let h := (wordsOf nt bytes).map (fun v => signed 20 v)
  let s1 := s.modTuner n t (fun x => { x with banks := modNth x.banks b (fun _ => h) })
  (s1.setFld (if b = 0 then Fr.DDC_NT_A n t else Fr.DDC_NT_B n t) nt).setFld (if b = 0 then Fr.DDC_BCRC0 n t else Fr.DDC_BCRC1 n t)
    (crc32c bytes)

/-- A load that failed after `x` bytes: NT stays, the taps behind those bytes are undefined (R288). -/
def firBankFail (s : State) (d : Desc) (x : Nat) : State :=
  let w := nth d.p 0 0
  let nt := nth d.p 3 0
  let h := (s.partWords nt x d.data).map (fun v => signed 20 v)
  (s.useFrees (nt - x / 4)).modTuner (bits w 8 8) (bits w 17 2) (fun y =>
    { y with banks := modNth y.banks (bits w 16 1) (fun old => (h ++ old.drop nt).take old.length) })

end Sys2Proof.Machine
end

