-- ==== Sys2Proof/Machine/Xcor.lean ====
section
/-! DEFINITION. The correlator: requantiser, products, integrations, degraded mode, F-engine (chapter 08). -/

namespace Sys2Proof.Machine

/-- Change the correlator. -/
def State.modXcor (s : State) (f : Xcor → Xcor) : State := { s with xcor := f s.xcor }

/-! ## Configuration (R169, R170, R174) -/

/-- Slice bound to correlator input i by a SRC word; 0xF none. -/
def srcOf (src i : Nat) : Nat := bits src (4 * i) 4

/-- The correlator inputs a SRC word binds. -/
def boundIns (src : Nat) : List Nat := (List.range 8).filter (fun i => srcOf src i ≠ 0xF)

/-- Slices that a SRC word binds. -/
def boundSlices (src : Nat) : List Nat := ((boundIns src).map (srcOf src)).eraseDups

/-- Is correlation or F-engine staging in force? -/
def State.xcorOn (s : State) : Bool := s.inf Fr.XCOR_CORR_EN = 1 || s.inf Fr.XCOR_FENG_EN = 1

/-- Is a logical slice bound by the configuration in force? -/
def State.xcorBound (s : State) (n : Nat) : Bool := s.xcorOn && (boundSlices (s.inf Fr.XCOR_SRC)).contains n

/-- The hop of a slice's grid in sample times. -/
def State.gridStep (s : State) (n : Nat) : Nat := Nat.max 1 (s.spxH n * s.sliceD n)

/-- The common grid's hop for a SRC word, 1 where it binds none. -/
def State.xcorStep (s : State) (src : Nat) : Nat :=
  match boundSlices src with
  | n :: _ => s.gridStep n
  | [] => 1

/-- Sample time of the integration boundary after one that begins at `t` (R175). -/
def State.xcorEnd (s : State) (t : Nat) : Nat :=
  let h := s.xcorStep (s.inf Fr.XCOR_SRC)
  let n := 2 ^ s.inf Fr.XCOR_LOG2NINT
  (t / h / n + 1) * n * h

/-- Does correlation run: enabled, an input bound, a half in service? -/
def State.xcorRuns (s : State) : Bool :=
  s.inf Fr.XCOR_CORR_EN = 1 && !(boundIns (s.inf Fr.XCOR_SRC)).isEmpty && s.xcor.failed.length < 2

/-- The change instant of a pending change: the first frame start at or after its target (R175). -/
def State.xcorInstant (s : State) (c : XChange) : Nat :=
  let old := s.inf Fr.XCOR_SRC
  let src := if s.xcorOn && !(boundIns old).isEmpty then old else s.capFld c.cap Fr.XCOR_SRC
  let h := s.xcorStep src
  ceilDiv c.target h * h

/-- May slice `n` compute a frame that starts at `start`: no change instant or boundary of the correlator lies at or
before it, and no payload of it waits for staging? -/
def State.xcorMay (s : State) (n start : Nat) : Bool :=
  let bound := s.xcorBound n
  let chg := s.xcor.pend.any (fun c => c.instant
    && (bound || (boundSlices (s.capFld c.cap Fr.XCOR_SRC)).contains n) && s.xcorInstant c ≤ start)
  let full := s.xcor.fbufs.any (fun b => srcOf (s.inf Fr.XCOR_SRC) b.i = n && 2 ^ s.inf Fr.XCOR_LOG2NSPEC ≤ b.frames)
  !chg && !(bound && s.xcorRuns && s.xcorEnd s.xcor.cur.begin_ ≤ start) && !(bound && full)

/-! ## Requantisation (R171, R172) -/

/-- The gain of entry e of a bank: Q1.15 real and imaginary part. -/
def State.xcorGain (s : State) (i bank e : Nat) : Int × Int :=
  let w := nth (nth s.xcor.banks (2 * i + bank) []) e 0x7FFF
  (signed 16 (w % 65536), signed 16 (w / 65536))

/-- g of R172: the gain turned by the delay at the channel's centre, rounded half up, saturated to Q1.15. -/
def State.xcorG (s : State) (i bank c e n : Nat) : Int × Int :=
  let g := s.xcorGain i bank e
  let dl := signed 24 (s.inf (Fr.XCOR_IN_DELAY i))
  if dl = 0 then g
  else
    let num := c * s.fs.num * dl.natAbs
    let den := 2 * 2 ^ s.spxL2 n * s.sliceD n * s.fs.den * 10 ^ 12
    let co := fixCos num den
    let si := if dl < 0 then -(fixSin num den) else fixSin num den
    (sat 16 (narrow (g.1 * co - g.2 * si) 128), sat 16 (narrow (g.1 * si + g.2 * co) 128))

/-- A component limited to ±q. -/
def clampQ (q x : Int) : Int := if q < x then q else if x < -q then -q else x

/-- The requantised channels of a frame for input i, and the components that saturated. -/
def State.requant (s : State) (i n : Nat) (f : Frame) : List (Int × Int) × Nat :=
  let bank := s.fld Fr.XCOR_GBANK_NOW
  let sh := 15 + s.inf (Fr.XCOR_IN_SHIFT i)
  let q : Int := if s.inf Fr.XCOR_FMT = 0 then 127 else 7
  let c0 := s.inf Fr.XCOR_CH_START
  let r := (List.range (s.inf Fr.XCOR_NCH)).map (fun e =>
    let x := nth f.chan (c0 + e) (0, 0)
    let g := s.xcorG i bank (c0 + e) e n
    (narrow (x.1 * g.1 - x.2 * g.2) sh, narrow (x.1 * g.2 + x.2 * g.1) sh))
  (r.map (fun v => (clampQ q v.1, clampQ q v.2)),
    r.foldl (fun m v => m + b2n (clampQ q v.1 ≠ v.1) + b2n (clampQ q v.2 ≠ v.2)) 0)

/-! ## Products (R173, R179) -/

/-- The pairs a ≤ b in index order (R173). -/
def xcorPairs : List (Nat × Nat) :=
  (List.range 8).flatMap (fun a => ((List.range 8).filter (fun b => a ≤ b)).map (fun b => (a, b)))

/-- y_a × conj(y_b). -/
def cmulConj (a b : Int × Int) : Int × Int := (a.1 * b.1 + a.2 * b.2, a.2 * b.1 - a.1 * b.2)

/-- An accumulator component saturates at ±(2^31 − 1). -/
def accLim : Int := 2 ^ 31 - 1

/-- The channels a frame of grid index k is used on: 0 none, 1 even, 2 odd, 3 all; `bad` the halves whose check failed. -/
def Xcor.useMask (x : Xcor) (k bad : Nat) : Nat :=
  let h0 := !x.failed.contains 0 && !bit bad 0
  let h1 := !x.failed.contains 1 && !bit bad 1
  if x.failed.length = 1 && x.degFrom ≤ k then (if k % 2 = 0 && (h0 || h1) then 3 else 0)
  else b2n h0 + 2 * b2n h1

/-- Add a frame's products to the accumulators: the accumulators and the components that saturated. -/
def xcorAcc (c0 nch mask : Nat) (y : List (Nat × List (Int × Int))) (acc : List (Int × Int)) : List (Int × Int) × List Nat :=
  let get (i e : Nat) : Int × Int := match y.find? (fun p => p.1 = i) with
    | some p => nth p.2 e (0, 0)
    | none => (0, 0)
  let cells := (List.zip (List.range 36) xcorPairs).flatMap (fun p => (List.range nch).map (fun e =>
    let old := nth acc (p.1 * nch + e) (0, 0)
    if bit mask ((c0 + e) % 2) then cadd old (cmulConj (get p.2.1 e) (get p.2.2 e)) else old))
  (cells.map (fun v => (clampQ accLim v.1, clampQ accLim v.2)),
    (List.zip (List.range cells.length) cells).flatMap (fun p =>
      (if clampQ accLim p.2.1 ≠ p.2.1 then [2 * p.1] else []) ++ (if clampQ accLim p.2.2 ≠ p.2.2 then [2 * p.1 + 1] else [])))

/-! ## Records (R178) -/

/-- The bytes of a record: the header of Table 8.1 and the products. -/
def State.xcorBytes (s : State) (x : XInt) (cut : Bool) : List Nat :=
  let src := s.inf Fr.XCOR_SRC
  let nch := s.inf Fr.XCOR_NCH
  let ins := listMask (boundIns src)
  let l2k := match boundSlices src with
    | n :: _ => s.spxL2 n
    | [] => 0
  let flags := x.flags % 32 + 32 * b2n (cut || x.cut) + 64 * b2n x.chg + 128 * b2n x.attChg + 256 * b2n x.degraded
    + 512 * b2n (!x.sats.isEmpty) + 1024 * b2n (0 < x.reqSats)
  let hdr := [6, s.inf Fr.XCOR_FMT + 2 * s.inf Fr.XCOR_DUALPOL + 4 * s.fld Fr.XCOR_HALVES, ins, s.fld Fr.XCOR_GEN]
    ++ le 4 s.xcor.seq ++ le 8 x.first ++ le 8 x.stop ++ le 4 x.frames ++ le 4 x.usedEven ++ le 4 x.usedOdd
    ++ le 2 (s.inf Fr.XCOR_CH_START) ++ le 2 nch ++ [l2k, s.fld Fr.XCOR_GBANK_NOW] ++ le 2 flags ++ le 4 x.sats.length
    ++ le 4 src ++ le 4 (Nat.min x.reqSats (2 ^ 32 - 1)) ++ zeros 8
  hdr ++ (List.range (36 * nch)).flatMap (fun i => let v := nth x.acc i (0, 0); le 4 (unsigned 32 v.1) ++ le 4 (unsigned 32 v.2))

/-- Close the integration in progress; it is read out where a frame of it was covered (CUT: used). -/
def State.xcorClose (s : State) (cut : Bool) : State :=
  let x := s.xcor.cur
  let used := 0 < x.usedEven || 0 < x.usedOdd
  if !s.xcor.running || (if cut then !used else x.frames = 0) then s
  else
    let s1 := s.modXcor (fun y => { y with out := some (x.first, s.xcorBytes x cut), seq := (y.seq + 1) % 2 ^ 32 })
    if cut || x.cut then s1.setFld Fr.XCOR_CUT 1 else s1

/-- A new integration begins. -/
def State.xcorBegin (s : State) (t : Nat) (chg : Bool) : State :=
  let run := s.xcorRuns
  let s1 := s.modXcor (fun y => { y with cur := { begin_ := t, chg := chg, cut := chg, degraded := !y.failed.isEmpty }, running := run })
  (s1.setFld Fr.XCOR_RUNNING (b2n run)).setFld Fr.XCOR_INT_ST t

/-- Append bytes to a ring of `total` 64-byte units at `base`: the new write offset and records, where they went. -/
def State.ringAppend (s : State) (base total w0 : Nat) (recs : List HistRec) (bytes : List Nat) :
    State × Nat × List HistRec × List HistRec :=
  let len := ceilDiv bytes.length 64
  let wraps := total < w0 + len
  let s1 := if wraps then s.rtWrite (base + w0 * 64) (zeros 64) else s
  let w := if wraps then 0 else w0
  let gone (r : HistRec) : Bool := (r.ofs < w + len && w < r.ofs + r.len) || (wraps && w0 ≤ r.ofs)
  (s1.rtWrite (base + w * 64) (padTo (len * 64) bytes), w, recs.filter (fun r => !gone r) ++ [⟨w, len⟩], recs.filter gone)

/-- CORRELATOR_READOUT_DONE (R177, R178): the readout pass ends and the record goes to the output ring. -/
def execCorrelatorReadoutDone (s : State) : Host.Outcome State Fault Refusal :=
  .next (
    match s.xcor.out with
    | none => s
    | some r =>
      let total := s.inf Fr.XCOR_OUT_SIZE_MIB * 16384
      let s0 := s.modXcor (fun y => { y with out := none })
      if total = 0 then s0
      else
        let base := s.inf Fr.XCOR_OUT_BASE_MIB * 2 ^ 20
        let a := s0.ringAppend base total (s.fld Fr.XCOR_WR_OFS) s.xcor.recs r.2
        let len := ceilDiv r.2.length 64
        let s1 := a.1.modXcor (fun y => { y with recs := a.2.2.1 })
        let s2 := (s1.setFld Fr.XCOR_WR_OFS ((a.2.1 + len) % total)).setFld Fr.XCOR_OLDEST_OFS ((a.2.2.1.head?.map (·.ofs)).getD 0)
        let s3 := s2.streamGone 7 0xF 0 (a.2.2.2.map (fun x => base + x.ofs * 64))
        s3.streamItem 7 0xF 0 ⟨base + a.2.1 * 64, r.2, r.1, 0, 0, r.2.length, 0xF, 0⟩)

/-! ## F-engine (R181) -/

/-- The bytes of one frame of one channel group. -/
def fengBytes (fmt : Nat) (y : List (Int × Int)) : List Nat :=
  y.flatMap (fun v => if fmt = 1 then [16 * unsigned 4 v.1 + unsigned 4 v.2] else [unsigned 8 v.1, unsigned 8 v.2])

/-- A frame joins the payloads of its inputs. -/
def State.fengFrame (s : State) (f : XFrame) : State :=
  if s.inf Fr.XCOR_FENG_EN = 0 then s
  else
    let g := 2 ^ s.inf Fr.XCOR_LOG2G
    let fmt := s.inf Fr.XCOR_FMT
    (f.ins.filter (fun x => bit (s.inf Fr.XCOR_FMASK) x.i)).foldl (fun st x =>
      let y := if bit x.flags 3 then x.y.map (fun _ => ((0 : Int), (0 : Int))) else x.y
      (List.range (s.inf Fr.XCOR_NCH / g)).foldl (fun (st : State) k =>
        let bs := fengBytes fmt ((y.drop (k * g)).take g)
        if st.xcor.fbufs.any (fun b => b.i = x.i && b.g = k) then
          st.modXcor (fun z => { z with fbufs := z.fbufs.map (fun (b : FBuf) =>
            if b.i = x.i && b.g = k then
              { b with stop := f.stop, frames := b.frames + 1, flags := b.flags ||| x.flags, bytes := b.bytes ++ bs } else b) })
        else st.modXcor (fun z => { z with fbufs := z.fbufs ++ [⟨x.i, k, f.start, f.stop, 1, x.flags, bs⟩] })) st) s

/-- F_PAYLOAD_STAGED (R181): a payload of S_P frames of input i and group g is written to the F staging ring. -/
def execFPayloadStaged (i g : Nat) (s : State) : Host.Outcome State Fault Refusal :=
  .next (
    match s.xcor.fbufs.find? (fun b => b.i = i && b.g = g && 2 ^ s.inf Fr.XCOR_LOG2NSPEC ≤ b.frames) with
    | none => s
    | some b =>
      let total := s.inf Fr.XCOR_FRING_SIZE_MIB * 16384
      let base := s.inf Fr.XCOR_FRING_BASE_MIB * 2 ^ 20
      let len := ceilDiv b.bytes.length 64
      let w0 := s.fld Fr.XCOR_F_WR_OFS
      let w := if total < w0 + len then 0 else w0
      let s0 := (s.modXcor (fun z => { z with fbufs := z.fbufs.filter (fun x => !(x.i = i && x.g = g)) })).count 244 .payloads 1
      if total = 0 then s0
      else
        let n := srcOf (s.inf Fr.XCOR_SRC) i
        let s1 := (s0.rtWrite (base + w * 64) (padTo (len * 64) b.bytes)).setFld Fr.XCOR_F_WR_OFS ((w + len) % total)
        s1.streamItem 2 n (s.inf Fr.XCOR_CH_START / 2 ^ s.inf Fr.XCOR_LOG2G + g)
          ⟨base + w * 64, b.bytes, b.first, 0, 0, b.bytes.length, (s.slice n).phys, b.flags⟩)

/-! ## Frames (R177, R179) -/

/-- A frame of which every bound input has come enters the integration and the F-engine. -/
def State.xcorFrame (s : State) (f : XFrame) (bad : Nat) : State :=
  let s0 := s.fengFrame f
  if !s.xcor.running then s0
  else
    let src := s.inf Fr.XCOR_SRC
    let k := f.start / s.xcorStep src
    let x := s.xcor.cur
    let fl := f.ins.foldl (fun m i => m ||| i.flags) 0
    let sats := f.ins.foldl (fun m i => m + i.sats) 0
    let mask := if bit fl 3 then 0 else s.xcor.useMask k bad
    let r := if mask = 0 then (x.acc, []) else xcorAcc (s.inf Fr.XCOR_CH_START) (s.inf Fr.XCOR_NCH) mask
      (f.ins.map (fun i => (i.i, i.y))) x.acc
    let now := f.ins.map (fun i => (i.i, i.atten))
    let cur : XInt := { x with
      first := if x.frames = 0 then f.start else x.first
      stop := f.stop
      frames := x.frames + 1
      usedEven := x.usedEven + bits mask 0 1
      usedOdd := x.usedOdd + bits mask 1 1
      acc := r.1
      flags := x.flags ||| (fl % 32)
      sats := (x.sats ++ r.2).eraseDups
      reqSats := x.reqSats + sats
      attens := if x.frames = 0 then now else x.attens
      attChg := x.attChg || 0 < x.frames && x.attens ≠ now
      degraded := x.degraded || !s.xcor.failed.isEmpty }
    let s1 := s0.modXcor (fun y => { y with
      cur := cur
      fails := ((y.fails ++ (maskList 2 bad).map (fun h => (h, k))).filter (fun p => k < p.2 + 256)) })
    let s2 := if r.2.isEmpty then s1 else s1.setFld Fr.XCOR_ACC_SAT 1
    let s3 := if mask = 0 then s2 else s2.count 244 .usedFrames 1
    (maskList 2 bad).foldl (fun st h => st.count (242 + h) .checkFail 1) s3

/-- A frame of slice `n` reaches the correlator: it is requantised for the input bound to the slice (R172). -/
def State.xcorFeed (s : State) (n : Nat) (f : Frame) (bad : Nat) : State :=
  if !s.xcorBound n || s.spxMode n ≠ 1 then s
  else
    let src := s.inf Fr.XCOR_SRC
    let ins := (boundIns src).filter (fun i => srcOf src i = n)
    ins.foldl (fun st i =>
      let q := st.requant i n f
      let st1 := if 0 < q.2 then (st.setFld Fr.XCOR_REQ_SAT 1).count 244 (.reqSat i) q.2 else st
      let e : XIn := ⟨i, f.flags % 32, st.sliceAtten n, q.1, q.2⟩
      let old := st1.xcor.wait.find? (fun w => w.start = f.start)
      let w : XFrame := match old with
        | some w => { w with ins := w.ins ++ [e] }
        | none => ⟨f.start, f.stop, [e]⟩
      let rest := st1.xcor.wait.filter (fun w => w.start ≠ f.start)
      if (boundIns src).all (fun j => w.ins.any (fun x => x.i = j)) then
        (st1.modXcor (fun y => { y with wait := rest })).xcorFrame w bad
      else st1.modXcor (fun y => { y with wait := rest ++ [w] })) s

/-! ## Boundaries and change instants (R175, R176, R180) -/

/-- The words of the XCOR SH fields. -/
def xcorRegs : List Nat :=
  [0x580000, 0x580004, 0x580008, 0x58000C, 0x580010, 0x580014]
  ++ (List.range 8).flatMap (fun i => [0x580040 + 16 * i, 0x580044 + 16 * i])

/-- PENDING follows the changes that wait. -/
def State.xcorPending (s : State) : State := s.setFld Fr.XCOR_PENDING (b2n (s.xcor.pend.any (fun c => c.instant)))

/-- GBANK, SHIFT and DELAY of a capture come into force. -/
def State.xcorTakeGains (s : State) (cap : RegFile) : State :=
  let b := s.capFld cap Fr.XCOR_GBANK
  let s1 := (s.setInf Fr.XCOR_GBANK b).setFld Fr.XCOR_GBANK_NOW b
  s1.apply (cap.filter (fun p => 0x580040 ≤ p.1))

/-- A COMMIT of XCOR completes once nothing of it waits. -/
def State.xcorSettle (s : State) : State :=
  let gone := s.xcor.pend.filter (fun c => !c.instant && !c.boundary)
  let s1 := s.modXcor (fun y => { y with pend := y.pend.filter (fun c => c.instant || c.boundary) })
  (gone.foldl (fun st c => st.complete c.job stDone 0 (((st.job c.job).map (·.extent)).getD 0)) s1).xcorPending

/-- Every bound slice has delivered its frames before a sample time. -/
def State.xcorPassed (s : State) (t : Nat) : Bool :=
  (boundSlices (s.inf Fr.XCOR_SRC)).all (fun n => !s.spxRuns n || t ≤ (s.slice n).next)

/-- Halves that passed their test return (R180). -/
def State.xcorReturn (s : State) : State :=
  let left := s.xcor.failed.filter (fun h => !s.xcor.ret.contains h)
  let s1 := s.modXcor (fun y => { y with failed := left, ret := [] })
  let s2 := if left.length < 2 then { s1 with capOut := s1.capOut.filter (· ≠ 9) } else s1
  s2.setFld Fr.XCOR_HALVES (if left.isEmpty then 0 else if left.length = 2 then 3 else if left.contains 1 then 1 else 2)

/-- INTEGRATION_BOUNDARY (R175, R176, R177): an integration ends, the accumulators swap, boundary-timed fields take
effect. -/
def execIntegrationBoundary (s : State) : Host.Outcome State Fault Refusal :=
  .next (
    let t := s.xcorEnd s.xcor.cur.begin_
    let chg := s.xcor.pend.any (fun c => c.instant && s.xcorInstant c ≤ t)
    if s.xcor.running && s.xcor.out.isNone && s.xcorPassed t && !chg
        && (boundSlices (s.inf Fr.XCOR_SRC)).any (fun n => s.reached n t) then
      let s1 := s.xcorClose false
      let due := s.xcor.pend.filter (fun c => c.boundary && c.target ≤ t)
      let s2 := due.foldl (fun st c => st.xcorTakeGains c.cap) s1
      let s3 := s2.modXcor (fun y => { y with pend := y.pend.map (fun (c : XChange) =>
        if c.boundary && c.target ≤ t then { c with boundary := false } else c) })
      (s3.xcorReturn.xcorBegin t false).xcorSettle
    else s)

/-- Do captured words change a field of the change-instant set of R175? -/
def State.xcorChanges (s : State) (cap : RegFile) : Bool :=
  [Fr.XCOR_CORR_EN, Fr.XCOR_FMT, Fr.XCOR_DUALPOL, Fr.XCOR_SRC, Fr.XCOR_CH_START, Fr.XCOR_NCH, Fr.XCOR_LOG2NINT].any
    (fun f => s.capFld cap f ≠ s.inf f)

/-- XCOR_CHANGE_INSTANT (R175): the first frame start at or after the target of a change: the integration in progress is
cut and the new configuration takes effect. -/
def execXcorChangeInstant (s : State) : Host.Outcome State Fault Refusal :=
  .next (
    match s.xcor.pend.find? (fun c => c.instant) with
    | none => s
    | some c =>
      let t := s.xcorInstant c
      let any := boundSlices (s.inf Fr.XCOR_SRC) ++ boundSlices (s.capFld c.cap Fr.XCOR_SRC)
      let here := any.any (fun n => s.reached n t) || any.isEmpty && t ≤ s.samp
      if (!s.xcorOn || s.xcorPassed t) && here && s.xcor.out.isNone then
        let corr := s.inf Fr.XCOR_CORR_EN
        let feng := s.inf Fr.XCOR_FENG_EN
        let chg := s.xcorChanges c.cap
        let s1 := if chg then s.xcorClose true else s
        let words := c.cap.filter (fun p => p.1 ≤ 0x58000C || p.1 = 0x580010 && corr = 0 || p.1 = 0x580014 && feng = 0)
        let bank := s.inf Fr.XCOR_GBANK
        let s2 := (s1.apply words).setInf Fr.XCOR_GBANK bank
        let s3 := if corr = 0 then s2.xcorTakeGains c.cap else s2
        let s4 := s3.modXcor (fun y => { y with
          wait := []
          fbufs := []
          changeSt := if chg then t else y.changeSt
          pend := y.pend.map (fun (p : XChange) => if p.job = c.job then { p with instant := false, boundary := p.boundary && corr ≠ 0 } else p) })
        let s5 := if chg then (s4.setFld Fr.XCOR_GEN (s4.fld Fr.XCOR_GEN + 1)).xcorBegin t true else s4
        let s6 := s5.modStreams (fun x => x.kind = 2) (fun x => { x with ctxDue := true })
        let s7 := if s6.xcorRuns then s6 else s6.xcorReturn
        (if chg then s7.setExtent c.job t else s7).xcorSettle
      else s)

/-- CORRELATOR_HALF_FAIL (R179, R180): the fault manager declares half `h` failed, after three check failures within 256
frames or by a supply or clock monitor (`trip`). -/
def execCorrelatorHalfFail (h onset : Nat) (trip : Bool) (s : State) : Host.Outcome State Fault Refusal :=
  .next (
    let seen := (s.xcor.fails.filter (fun p => p.1 = h)).length
    if h < 2 && !s.xcor.failed.contains h && (trip || 3 ≤ seen) then
      let second := !s.xcor.failed.isEmpty
      let src := s.inf Fr.XCOR_SRC
      let k := (boundSlices src).foldl (fun m n => Nat.max m ((s.slice n).next / s.xcorStep src)) 0
      let hit (j : Job) : Bool := j.d.opcode = 0x03 && bits (nth j.d.p 0 0) 16 8 = 7
      let s0 := if second then s.xcorClose true else s
      let s1 := s0.modXcor (fun y => { y with
        failed := y.failed ++ [h]
        degFrom := k + k % 2
        cur := { y.cur with degraded := true } })
      let s2 := s1.setFld Fr.XCOR_HALVES (if second then 3 else if h = 1 then 1 else 2)
      let slots := listMask ((boundSlices src).map s.sliceInput)
      let spare := if second then none else some (1 - h)
      let s3 := s2.fault 8 h spare second onset slots s.samp hit
      if second then
        let s4 := (s3.modXcor (fun y => { y with running := false })).setFld Fr.XCOR_RUNNING 0
        ({ s4 with capOut := (9 :: s4.capOut).eraseDups }).shedStreams s3.lastFlt (fun x => x.kind = 7)
      else s3
    else s)

/-- At an epoch the integration in progress ends CUT and integrations restart from sample time 0 (R183). -/
def State.xcorEpoch (s : State) : State :=
  let s1 := s.xcorClose true
  (s1.modXcor (fun y => { y with wait := [], fbufs := [], changeSt := 0 })).xcorBegin 0 false

/-! ## COMMIT of XCOR (R169, R174, R176, R181, R185) -/

/-- The load in complex MACs over 40 × K × D, as R174 compares it: n_p × NCH × 2^OVL against 40 × K × D. -/
def State.xcorLoad (s : State) (cap : RegFile) : Nat × Nat :=
  let src := s.capFld cap Fr.XCOR_SRC
  let n := (boundIns src).length
  match boundSlices src with
  | m :: _ => (n * (n + 1) / 2 * s.capFld cap Fr.XCOR_NCH * 2 ^ s.inf (Fr.SPX_CTL_OVL m), 2 ^ s.spxL2 m * s.sliceD m)
  | [] => (0, 1)

/-- Correlator units of a configuration per tick (R174, R268): load × tick, 0 while correlation is off. -/
def State.xcorUnits (s : State) (cap : RegFile) : Nat :=
  let l := s.xcorLoad cap
  if s.capFld cap Fr.XCOR_CORR_EN = 0 then 0 else ceilDiv (l.1 * 8192) l.2

/-- Format checks of an XCOR COMMIT. -/
def xcorFmt (s : State) (cap : RegFile) : Option Refuse :=
  let g (f : FRef) : Nat := s.capFld cap f
  let on := g Fr.XCOR_CORR_EN = 1 || g Fr.XCOR_FENG_EN = 1
  let src := g Fr.XCOR_SRC
  let nch := g Fr.XCOR_NCH
  let gg := 2 ^ g Fr.XCOR_LOG2G
  let by_ := gg * 2 ^ g Fr.XCOR_LOG2NSPEC * (if g Fr.XCOR_FMT = 1 then 1 else 2)
  let badRing (b z : Nat) : Bool := z ≠ 0 && (z < 16 || 4096 < z || s.badRegion (b * 2 ^ 20) (z * 2 ^ 20))
  let l := s.xcorLoad cap
  check (nch % 8 ≠ 0 || nch < 8 || 4096 < nch
    || on && (boundSlices src).any (fun n => n < 8 && 2 ^ s.spxL2 n < g Fr.XCOR_CH_START + nch)
    || g Fr.XCOR_LOG2NINT < 11 || 28 < g Fr.XCOR_LOG2NINT
    || g Fr.XCOR_LOG2G < 6 || 12 < g Fr.XCOR_LOG2G || 8 < g Fr.XCOR_LOG2NSPEC
    || (boundIns src).any (fun i => 8 < srcOf src i)
    || g Fr.XCOR_FENG_EN = 1 && (nch % gg ≠ 0 || 8192 < by_)
    || badRing (g Fr.XCOR_OUT_BASE_MIB) (g Fr.XCOR_OUT_SIZE_MIB) || badRing (g Fr.XCOR_FRING_BASE_MIB) (g Fr.XCOR_FRING_SIZE_MIB)
    || g Fr.XCOR_CORR_EN = 1 && 40 * l.2 < l.1) (refuseFormat 0xFF)

/-- State checks of an XCOR COMMIT. -/
def xcorState (s : State) (cap : RegFile) : Option Refuse :=
  let g (f : FRef) : Nat := s.capFld cap f
  let on := g Fr.XCOR_CORR_EN = 1 || g Fr.XCOR_FENG_EN = 1
  let src := g Fr.XCOR_SRC
  let bs := (boundIns src).map (srcOf src)
  let m := bs.headD 0
  let changed := cap.filter (fun p => s.forceReg p.1 ≠ p.2)
  let onlyEn := changed.all (fun p => p.1 = 0x580000
    && (p.2.toNat / 4 = (s.forceReg 0x580000).toNat / 4) && (p.2.toNat % 2 ≤ (s.forceReg 0x580000).toNat % 2))
  check (on && (bs.any (fun n => 8 ≤ n || !s.powered n || s.inf (Fr.SPX_CTL_EN n) = 0 || s.spxMode n ≠ 1
      || s.spxL2 n ≠ s.spxL2 m || s.inf (Fr.SPX_CTL_OVL n) ≠ s.inf (Fr.SPX_CTL_OVL m) || s.sliceD n ≠ s.sliceD m)
      || bs.eraseDups.length ≠ bs.length)
    || s.xcor.failed.length = 2 && !onlyEn) refuseState

/-- An XCOR COMMIT is accepted: what waits for the change instant, what for a boundary. -/
def xcorApply (s : State) (cap : RegFile) (target job : Nat) : State :=
  let gains := s.capFld cap Fr.XCOR_GBANK ≠ s.inf Fr.XCOR_GBANK
    || (cap.filter (fun p => 0x580040 ≤ p.1)).any (fun p => s.forceReg p.1 ≠ p.2)
  let run := s.inf Fr.XCOR_CORR_EN = 1
  let other := (cap.filter (fun p => p.1 < 0x580040)).any (fun p => if p.1 = 0x580000
    then (s.forceReg p.1 ^^^ p.2) &&& 0xFFFFFFEF#32 ≠ 0#32 else s.forceReg p.1 ≠ p.2)
  let c : XChange := ⟨job, cap, target, other || gains && !run, gains && run⟩
  (s.modXcor (fun y => { y with pend := y.pend ++ [c] })).xcorSettle

/-! ## The gain-bank CONFIGURE (R171, R185) -/

/-- Format checks of a gain load. -/
def gainBankFmt (d : Desc) : Option Refuse :=
  let w := nth d.p 0 0
  let l := nth d.p 3 0
  firstRefusal [
    check (8 ≤ bits w 8 8 || 2 ≤ bits w 16 8 || bits w 24 8 ≠ 0) (refuseFormat 0),
    check (nth d.p 1 0 % 4 ≠ 0) (refuseFormat 1),
    check (l < 8 || 4096 < l) (refuseFormat 3)]

/-- State checks: the bank in force while an enable is, or both halves failed. -/
def gainBankState (s : State) (d : Desc) : Option Refuse :=
  check (s.xcorOn && s.fld Fr.XCOR_GBANK_NOW = bits (nth d.p 0 0) 16 1 || s.xcor.failed.length = 2) refuseState

/-- The gains in place. -/
def gainBankLoad (s : State) (d : Desc) : State :=
  let w := nth d.p 0 0
  let i := bits w 8 8
  let b := bits w 16 1
  let l := nth d.p 3 0
  let bytes := padTo (4 * l) d.data
  let s1 := s.modXcor (fun y => { y with banks := modNth y.banks (2 * i + b) (fun old => wordsOf l bytes ++ old.drop l) })
  s1.setFld (if b = 0 then Fr.XCOR_IN_GCRC0 i else Fr.XCOR_IN_GCRC1 i) (crc32c bytes)

/-- A load that failed after `x` bytes: the gains behind those bytes are undefined (R288). -/
def gainBankFail (s : State) (d : Desc) (x : Nat) : State :=
  let w := nth d.p 0 0
  let l := nth d.p 3 0
  (s.useFrees (l - x / 4)).modXcor (fun y =>
    { y with banks := modNth y.banks (2 * bits w 8 8 + bits w 16 1) (fun old => s.partWords l x d.data ++ old.drop l) })

end Sys2Proof.Machine
end

