-- ==== Sys2Proof/Machine/Regions.lean ====
section
/-! DEFINITION. The HBM regions the host places, and the checks that keep them apart (R141, R162, R204, R211, R296). -/

namespace Sys2Proof.Machine

/-- A region placed in HBM: what it is for, base and length in bytes. -/
structure Region where
  kind : Nat      -- 1 history, 2 stream ring, 3 correlator output, 4 F staging, 5 core scratch, 6 samples
  idx : Nat
  base : Nat
  len : Nat
  deriving DecidableEq, Repr

/-- Do two ranges of bytes overlap? -/
def overlaps (a la b lb : Nat) : Bool := 0 < la && 0 < lb && a < b + lb && b < a + la

/-- Every region in force. -/
def State.regions (s : State) : List Region :=
  let m := 2 ^ 20
  ((List.range 9).map (fun n => (⟨1, n, s.inf (Fr.HIST_BASE_MIB n) * m, s.inf (Fr.HIST_SIZE_MIB n) * m⟩ : Region)))
  ++ ((List.range 36).map (fun k =>
      (⟨2, k, s.inf (Fr.DDC_RING_BASE_MIB (k / 4) (k % 4)) * m, s.inf (Fr.DDC_RING_SIZE_MIB (k / 4) (k % 4)) * m⟩ : Region)))
  ++ [⟨3, 0, s.inf Fr.XCOR_OUT_BASE_MIB * m, s.inf Fr.XCOR_OUT_SIZE_MIB * m⟩,
      ⟨4, 0, s.inf Fr.XCOR_FRING_BASE_MIB * m, s.inf Fr.XCOR_FRING_SIZE_MIB * m⟩]
  ++ ((List.range 144).map (fun k =>
      let c := nth s.cores k {}
      (⟨5, k, c.scrBase * m, (if c.job = 0 then 0 else c.scrSize) * m⟩ : Region)))
  ++ ((List.range 8).map (fun n => (⟨6, n, s.fld (Fr.SMP_BASE_MIB n) * m, s.fld (Fr.SMP_SIZE_MIB n) * m⟩ : Region)))

/-- Does a range meet a region in force that satisfies a condition? -/
def State.meetsRegion (s : State) (base len : Nat) (p : Region → Bool) : Bool :=
  s.regions.any (fun r => p r && overlaps base len r.base r.len)

/-- HBM ranges that accepted MOVEs not yet complete write (R296). -/
def State.moveWrites (s : State) : List (Nat × Nat) :=
  s.chans.flatMap (fun c => (c.cur.toList ++ c.queue).filterMap (fun x =>
    match x.owner with
    | .move _ => if x.dstSpace = 1 then some (x.dst, x.length) else none
    | _ => none))

/-- Does a region lie over the HBM write range of a MOVE (R296)? -/
def State.overMove (s : State) (base len : Nat) : Bool := s.moveWrites.any (fun w => overlaps base len w.1 w.2)

end Sys2Proof.Machine
end

