-- ==== Sys2Proof/Machine/CoreOps.lean ====
section
/-! DEFINITION. The programmable cores: their registers, how an instruction retires, stalls or traps, and how a run ends
(chapter 09). -/

namespace Sys2Proof.Machine

/-! ## States of a core (R209) -/

def coreEmpty : Nat := 0
def coreLoaded : Nat := 1
def coreRunning : Nat := 2
def coreWaiting : Nat := 3
def coreHalted : Nat := 4
def coreTrapped : Nat := 5

/-- Trap and event causes (Table 9.9). -/
def trapAov : Nat := 1
def trapIllegal : Nat := 2
def trapStack : Nat := 3
def trapLoop : Nat := 4
def trapWindow : Nat := 5
def causeRestarted : Nat := 7

/-- Does a core run: RUNNING or WAITING? -/
def State.coreRuns (s : State) (n c : Nat) : Bool :=
  s.fld (Fr.CORE_STATE n c) = coreRunning || s.fld (Fr.CORE_STATE n c) = coreWaiting

/-- CORE_SUM of a slice (R209). -/
def State.updateCoreSum (s : State) (n : Nat) : State :=
  let run := (List.range 16).filter (s.coreRuns n)
  (s.setFld (Fr.CORE_BUDGET_SUM n) (run.foldl (fun a c => a + s.fld (Fr.CORE_BUDGET n c)) 0)).setFld (Fr.CORE_RUN_MASK n)
    (listMask run)

/-! ## Ends (R206) -/

/-- A core's run ends: END, cause, halt code or PC. Its registers in BAR0 keep the last values, its reservations return
with its START job. -/
def State.coreEnd (s : State) (n c how cause code pc : Nat) : State :=
  let k := s.core n c
  let status := if how = 2 then stFlagged else stDone
  let s1 := s.complete k.job status (how + 256 * cause + 65536 * code) 0
  let s2 := (s1.setFld (Fr.CORE_STATE n c) (if how = 2 then coreTrapped else coreHalted)).setFld (Fr.CORE_PC n c) pc
  let s3 := (s2.setFld (Fr.CORE_SR n c) k.sr).setFld (Fr.CORE_BUDGET n c) 0
  let s4 := if how = 2 then s3.setFld (Fr.CORE_CAUSE n c) cause else s3
  let s5 := (s4.setFld (Fr.CORE_EV_RATE n c) 0).modCore n c (fun x =>
    { x with job := 0, ending := none, capped := false, used := 0, waitCause := 0 })
  let s6 := s5.updateCoreSum n
  if how = 2 then s6.raise 0xD cause (s.coreFunc n c) [n + 16 * (s.slice n).phys, c] else s6

/-- A stop or trap takes its end once no DMA request of the core is pending (R206, R208). -/
def State.coreSettle (s : State) (n c : Nat) : State :=
  let k := s.core n c
  if k.dmaOut ≠ 0 then s
  else
    match k.ending with
    | none => s
    | some (.stop job) => (s.coreEnd n c 1 0 k.pc k.pc).complete job stDone 0 0
    | some (.trap cause) => s.coreEnd n c 2 cause k.pc k.pc

/-- A core traps; `pc` is the address after the trapping instruction. -/
def State.coreTrap (s : State) (n c cause pc : Nat) : State :=
  (s.modCore n c (fun k => { k with pc := pc % 8192, ending := some (.trap cause) })).coreSettle n c

/-! ## Registers (R186, R195) -/

/-- Register `i` of a file: 0 D, 1 P, 2 M, 3 B, 4 L. -/
def Core.file (k : Core) (f i : Nat) : Nat :=
  match f with
  | 0 => nth k.d i 0
  | 1 => nth k.p i 0
  | 2 => nth k.m i 0
  | 3 => nth k.b i 0
  | 4 => nth k.l i 0
  | _ => 0

/-- Write register `i` of a file, cut to 16 bits. -/
def Core.setFile (k : Core) (f i v : Nat) : Core :=
  let w (_ : Nat) := v % 65536
  match f with
  | 0 => { k with d := modNth k.d i w }
  | 1 => { k with p := modNth k.p i w }
  | 2 => { k with m := modNth k.m i w }
  | 3 => { k with b := modNth k.b i w }
  | 4 => { k with l := modNth k.l i w }
  | _ => k

/-- D register `i`, and as a signed number. -/
def Core.dReg (k : Core) (i : Nat) : Nat := k.file 0 i % 65536
def Core.dInt (k : Core) (i : Nat) : Int := signed 16 (k.dReg i)
def Core.setD (k : Core) (i v : Nat) : Core := k.setFile 0 i v

/-- Accumulator `i`. -/
def Core.acc (k : Core) (i : Nat) : Int := nth k.a i 0
def Core.setAcc (k : Core) (i : Nat) (v : Int) : Core := { k with a := modNth k.a i (fun _ => v) }

/-- Set Z and N from a 16-bit result, C and V as given (R187). -/
def Core.flags (k : Core) (res : Nat) (c v : Bool) : Core :=
  { k with sr := setBits k.sr 0 4 (b2n (res % 65536 = 0) + 2 * b2n (bit res 15) + 4 * b2n c + 8 * b2n v) }

/-- Set Z and N; C and V keep what the last add, subtract or compare left (R187). -/
def Core.flagsZN (k : Core) (res : Nat) : Core := k.flags res (bit k.sr 2) (bit k.sr 3)

/-- Does a sum or difference leave the signed 16-bit range? -/
def ovf16 (x : Int) : Bool := leaves 16 x

/-- An accumulator result (R191): its stored value, and whether it overflowed. -/
def accResult (ovm : Bool) (x : Int) : Int × Bool :=
  if leaves 40 x then (if ovm then sat 40 x else wrap 40 x, true) else (x, false)

/-- Store an accumulator result: an overflowing one sets its sticky bit. -/
def Core.putAcc (k : Core) (i : Nat) (x : Int) : Core × Bool :=
  let r := accResult (bit k.sr 7) x
  let k1 := k.setAcc i r.1
  (if r.2 then { k1 with sr := setBits k1.sr (4 + i) 1 1 } else k1, r.2)

/-- Divide by 2^sh: half up under R5, or toward minus infinity with T (R192). -/
def shiftRound (x : Int) (sh t : Nat) : Int := if t = 1 then x / 2 ^ sh else narrow x sh

/-- The post-modify of pointer `i` by `m` with the L and B in force (R193). -/
def Core.postMod (k : Core) (i : Nat) (m : Int) : Core :=
  let p : Int := (k.file 1 i : Nat)
  let l := k.file 4 i
  let b : Int := (k.file 3 i : Nat)
  if l = 0 then k.setFile 1 i (unsigned 16 (p + m))
  else k.setFile 1 i (unsigned 16 (b + (p + m - b) % (l : Int)))

/-! ## Data memory (R188) -/

/-- A word of data memory: 16-bit words that are not 0, ascending. -/
def dmGet : List (Nat × Nat) → Nat → Nat
  | [], _ => 0
  | (b, w) :: t, a => if b = a then w else dmGet t a

/-- Enter a word at its place. -/
def dmIns : List (Nat × Nat) → Nat → Nat → List (Nat × Nat)
  | [], a, v => [(a, v)]
  | (b, w) :: t, a, v => if a < b then (a, v) :: (b, w) :: t else (b, w) :: dmIns t a v

/-- Write a word of data memory. -/
def dmPut (l : List (Nat × Nat)) (a v : Nat) : List (Nat × Nat) :=
  let r := l.filter (fun p => p.1 ≠ a)
  if v = 0 then r else dmIns r a v

/-- `n` bytes of data memory from word address `a`. -/
def Core.dmBytes (k : Core) (a n : Nat) : List Nat :=
  (List.range n).map (fun i => bits (dmGet k.dm (a + i / 2)) (8 * (i % 2)) 8)

/-- Write bytes to data memory from word address `a`. -/
def Core.dmWrite (k : Core) : Nat → List Nat → Core
  | a, lo :: hi :: t => Core.dmWrite { k with dm := dmPut k.dm a (lo % 256 + 256 * (hi % 256)) } (a + 1) t
  | _, _ => k

/-- Data memory holding an image's data section, every other word zero (R203). -/
def imageDm (im : Image) : List (Nat × Nat) :=
  ((List.range im.dm.length).filterMap (fun i => if nth im.dm i 0 = 0 then none else some (im.base + i, nth im.dm i 0)))

/-! ## Retirement (R186, R196, R197, R205, R394) -/

/-- What an instruction does beside fetching the next one: the registers, the control transfer, the stalls it costs
(cause, cycles), whether an accumulator overflowed, and what the next instruction may stall on. -/
structure Fx where
  k : Core
  jump : Option Nat := none
  cost : List (Nat × Nat) := []
  aov : Nat := 0
  accHot : Nat := 0
  pHot : Nat := 0

/-- The loop-end test at an instruction (R196): the loops left, the next instruction. -/
def loopNext : List Loop → Nat → List Loop × Nat
  | [], pc => ([], (pc + 1) % 8192)
  | l :: t, pc =>
    if l.stop = pc then
      if 1 < l.count then ({ l with count := l.count - 1 } :: t, l.start) else loopNext t pc
    else (l :: t, (pc + 1) % 8192)

/-- The loops a taken branch to `target` leaves active: one whose body the target lies outside ends, with every loop
nested in it (R196). -/
def branchLoops (target : Nat) : List Loop → List Loop
  | [] => []
  | l :: t =>
    if (l :: t).all (fun x => x.start ≤ target && target ≤ x.stop) then l :: t else branchLoops target t

/-- A taken branch. -/
def Core.branch (k : Core) (target : Nat) : Core := { k with loops := branchLoops target k.loops }

/-- The stall cause that cost the most cycles (R395). -/
def worstStall (l : List (Nat × Nat)) : Nat := (l.foldl (fun (m : Nat × Nat) x => if m.2 < x.2 then x else m) (0, 0)).1

/-- Use cycles of a core's tick; a core that reaches its cap stalls until the next tick (R205). -/
def State.coreUse (s : State) (n c cycles : Nat) : State :=
  let cap := 2 * s.fld (Fr.CORE_BUDGET n c)
  s.modCore n c (fun k => { k with used := k.used + cycles, capped := k.capped || cap ≤ k.used + cycles })

/-- The next reload of a sampling countdown (R394). -/
def smpInterval (log2n lfsr : Nat) : Nat := 3 * 2 ^ log2n / 4 + lfsr % (2 ^ log2n / 2)

/-- One step of the 31-bit LFSR x^31 + x^28 + 1 (R69). -/
def lfsr31 (x : Nat) : Nat := (2 * x + b2n (bit x 30 != bit x 27)) % 2 ^ 31

/-- Instruction sampling counts a retired instruction (R394): a countdown that reaches zero takes a sample, whose record
is written by the INSTRUCTION_SAMPLE step, and reloads. -/
def State.sample (s : State) (n c pc insn stall cycles : Nat) : State :=
  if n < 8 && s.flag (Fr.SMP_EN n) && bit (s.fld (Fr.SMP_CORES n)) c then
    let m := nth s.smp n {}
    let left := nth m.left c 0
    if 1 < left then { s with smp := modNth s.smp n (fun x => { x with left := modNth x.left c (fun _ => left - 1) }) }
    else
      let l := lfsr31 m.lfsr
      let rec_ := [c + 16 * (s.slice n).phys, stall] ++ le 2 pc ++ le 4 insn ++ le 2 (Nat.min cycles 65535)
        ++ le 2 (bits s.samp 14 16)
      { s with smp := modNth s.smp n (fun x =>
        { x with left := modNth x.left c (fun _ => smpInterval (s.fld (Fr.SMP_LOG2N n)) l), lfsr := l, due := x.due ++ [rec_] }) }
  else s

/-- An instruction retires: registers, next instruction, cycles, counts, sample; an accumulator overflow with OVT traps
after it (R191). -/
def State.coreRetire (s : State) (n c : Nat) (fx : Fx) : State :=
  let k := s.core n c
  let nx := match fx.jump with
    | some t => (fx.k.loops, t % 8192)
    | none => loopNext fx.k.loops k.pc
  let waited := k.waitCause ≠ 0
  let cost := if waited then (k.waitCause, s.free) :: fx.cost else fx.cost
  let cycles := cost.foldl (fun a x => a + x.2) 1
  let s0 := if waited then s.useFree else s
  let s1 := s0.modCore n c (fun _ =>
    { fx.k with pc := nx.2, loops := nx.1, accHot := fx.accHot, pHot := fx.pHot, waitCause := 0 })
  let s2 := (s1.setFld (Fr.CORE_STATE n c) coreRunning).coreUse n c (fx.cost.foldl (fun a x => a + x.2) 1)
  let s3 := ((s2.count (s.coreUnit n c) .retired 1).count (s.coreUnit n c) .stallCycles (cycles - 1)).count (s.coreUnit n c)
    .accOvf fx.aov
  let s4 := s3.sample n c k.pc (nth k.im k.pc 0) (worstStall cost) cycles
  if 0 < fx.aov && bit fx.k.sr 8 then s4.coreTrap n c trapAov nx.2 else s4

/-- An instruction stalls for a cause (R395): nothing but the cycle counts. -/
def State.coreStall (s : State) (n c cause : Nat) : State :=
  ((s.modCore n c (fun k => { k with waitCause := cause })).coreUse n c 1).count (s.coreUnit n c) .stallCycles 1

/-- May a core execute instruction `i`: it runs, it is not capped or ending, and the word at PC is `i`? -/
def State.coreReady (s : State) (n c : Nat) (i : Instr) : Bool :=
  n < 9 && c < 16 && s.coreRuns n c && !(s.core n c).capped && (s.core n c).ending.isNone
    && decodeCore n c (nth (s.core n c).im (s.core n c).pc 0) = some i

/-- An instruction that only changes registers: executed when it is the core's next, nothing otherwise. -/
def State.coreDo (s : State) (n c : Nat) (i : Instr) (f : Core → Fx) : State :=
  if s.coreReady n c i then s.coreRetire n c (f (s.core n c)) else s

/-- The stall of an instruction that reads an accumulator the previous MAC, MSU or MPY wrote (R197). -/
def Core.accStall (k : Core) (i : Nat) : List (Nat × Nat) := if bit k.accHot i then [(3, 1)] else []

/-- The stall of an instruction that addresses through a pointer the previous F1 or F2 wrote. -/
def Core.ptrStall (k : Core) (i : Nat) : List (Nat × Nat) := if bit k.pHot i then [(4, 1)] else []

end Sys2Proof.Machine
end

