-- ==== Sys2Proof/Machine/Hbm.lean ====
section
/-! DEFINITION. HBM events: refresh, self-refresh, training, retirement, stack recovery, errors, RESTRIPE (R210 to R223,
R239 to R241). -/

namespace Sys2Proof.Machine

/-- Change the HBM. -/
def State.modHbm (s : State) (f : Hbm → Hbm) : State := { s with hbm := f s.hbm }

/-- Set STATE and SLOT of a pseudo-channel. -/
def State.setPc (s : State) (p st slot : Nat) : State := (s.setFld (Fr.MEM_PC_STATE p) st).setFld (Fr.MEM_PC_SLOT p) slot

/-- The spare that would replace pseudo-channel `p`: the lowest of its stack, else the lowest of any (R220). -/
def State.spareFor (s : State) (p : Nat) : Option Nat :=
  let l := (List.range 128).filter (fun q => s.fld (Fr.MEM_PC_STATE q) = pcSpare)
  match l.find? (fun q => q / 32 = p / 32) with
  | some q => some q
  | none => l.head?

/-- A loss record takes effect (R232): the table holds 128. -/
def Hbm.addLoss (h : Hbm) (l : Loss) : Hbm := if h.losses.length < 128 then { h with losses := h.losses ++ [l] } else h

/-- Pseudo-channel `p` leaves service: a spare takes its slot (retirement, R220), or the slot becomes a hole (R221). -/
def State.retire (s : State) (p : Nat) : State :=
  let slot := s.fld (Fr.MEM_PC_SLOT p)
  match s.spareFor p with
  | some q =>
    let s1 := (s.setPc p pcRetired 0xFF).setPc q pcActive slot
    let s2 := s1.modHbm (fun h =>
      { (h.addLoss ⟨slot, p, 1, h.gseq, s.samp⟩) with
        slotPoison := (slot, []) :: h.slotPoison.filter (fun x => x.1 ≠ slot)
        poison := h.poison.filter (fun a => s.slotOf a ≠ slot) })
    let s3 := ((s2.setFld Fr.MEM_SPARES (s.fld Fr.MEM_SPARES - 1)).setFld Fr.MEM_RETIRED 1).memEv 1 p slot
    ((s3.fault 4 p (some q) false s.samp 0 s.samp (fun _ => false)).unstall [slot]).updateFreezeRegs
  | none =>
    let s1 := s.setPc p pcFailed 0xFF
    let s2 := s1.modHbm (fun h => { (h.addLoss ⟨slot, p, 2, h.gseq, s.samp⟩) with holes := (slot :: h.holes).eraseDups })
    let s3 := (s2.setFld Fr.MEM_HOLED 1).memEv 2 p slot
    ((s3.fault 4 p none true s.samp 0 0 (fun _ => false)).unstall [slot]).updateFreezeRegs

/-- A temperature of a stack in whole °C from Q8.8. -/
def wholeDeg (t : Int) : Int := t / 256

/-- Is pseudo-channel `p` due for retraining at stack temperature `temp` (R219)? -/
def State.trainDue (s : State) (p : Nat) (temp : Int) : Bool :=
  let moved := (temp - signed 8 (s.fld (Fr.MEM_PC_TEMP_TRAIN p))).natAbs
  let since := s.samp - (((s.hbm.trained.find? (fun x => x.1 = p)).map (·.2)).getD 0)
  s.fld Fr.MEM_DELTA < moved
  || s.fld Fr.MEM_MAX_INT ≠ 0 && s.samplesOfNs (s.fld Fr.MEM_MAX_INT * 10 ^ 9) ≤ since
  || 16 ≤ s.hbm.ueTimes.countP (fun x => x.1 = p && s.samp ≤ x.2 + s.samplesOfNs (10 ^ 9))

/-- RETRAINING_START (R219): one pseudo-channel at a time, and only while the ballast holds less than 1 MiB; `temp` is
the stack's temperature in whole °C. -/
def execRetrainingStart (p : Nat) (temp : Int) (s : State) : Host.Outcome State Fault Refusal :=
  .next (
    if p < 128 && s.hbm.training.isNone && s.hbm.recovering.isEmpty && s.hbm.fill < ballastCalm
        && s.fld (Fr.MEM_PC_STATE p) = pcActive && s.fld (Fr.MEM_PC_SLOT p) ≠ 0xFF && s.trainDue p temp
        && s.clk.memPll.isNone then
      (((s.setFld (Fr.MEM_PC_STATE p) pcTraining).modHbm (fun h => { h with training := some p })).stall
        [s.fld (Fr.MEM_PC_SLOT p)]).count (245 + p) .retrainings 1
    else s)

/-- Pseudo-channel `p` has been trained at a temperature. -/
def State.trainedAt (s : State) (p : Nat) (temp : Int) : State :=
  (s.setFld (Fr.MEM_PC_TEMP_TRAIN p) (unsigned 8 temp)).modHbm (fun h =>
    { h with
      trained := (p, s.samp) :: h.trained.filter (fun x => x.1 ≠ p)
      ueTimes := h.ueTimes.filter (fun x => x.1 ≠ p) })

/-- RETRAINING_DONE (R219, R220, R221): a working setting is found (`ok`) and traffic released, or the pseudo-channel is
retired. -/
def execRetrainingDone (ok : Bool) (temp : Int) (s : State) : Host.Outcome State Fault Refusal :=
  .next (
    match s.hbm.training with
    | none => s
    | some p =>
      let s1 := s.modHbm (fun h => { h with training := none })
      if ok then ((s1.setFld (Fr.MEM_PC_STATE p) pcActive).trainedAt p temp).unstall [s.fld (Fr.MEM_PC_SLOT p)]
      else s1.retire p)

/-- FORCED_REFRESH (R216): the ninth postponed refresh falls due and nine are issued at once. -/
def execForcedRefresh (p : Nat) (s : State) : Host.Outcome State Fault Refusal :=
  .next (if p < 128 && s.fld (Fr.MEM_PC_STATE p) = pcActive then s.count (245 + p) .forcedRefresh 1 else s)

/-- Does any real-time reservation map to HBM: an input slot with a source, a writer or reader open (R217)? -/
def State.hbmBusy (s : State) : Bool :=
  s.activeSlots ≠ 0 || !s.streams.isEmpty || !s.extracts.isEmpty || s.xcorOn
  || (List.range 36).any (fun k => s.inf (Fr.DDC_EN (k / 4) (k % 4)) = 1)
  || (List.range 9).any (fun n => s.inf (Fr.SPX_DET_TRACE_EN n) = 1 || s.inf (Fr.SPX_SK_EN n) = 1 || s.inf (Fr.DEN_EN n) = 1
      || s.inf (Fr.ZOOM_EN n) = 1)
  || s.cores.any (fun c => c.job ≠ 0 && c.dmaRate ≠ 0) || s.inf Fr.VID_EN = 1 || s.fld Fr.REC_OPEN ≠ 0

/-- The pseudo-channels of a stack in a STATE. -/
def State.stackPcs (s : State) (k st : Nat) : List Nat :=
  (List.range 128).filter (fun p => p / 32 = k && s.fld (Fr.MEM_PC_STATE p) = st && s.fld (Fr.MEM_PC_SLOT p) ≠ 0xFF)

/-- Set STATE of several pseudo-channels. -/
def State.setPcs (s : State) (l : List Nat) (st : Nat) : State :=
  l.foldl (fun (x : State) p => x.setFld (Fr.MEM_PC_STATE p) st) s

/-- SELF_REFRESH_ENTRY (R217): a stack has been idle for SR_IDLE and nothing real-time maps to it. -/
def execSelfRefreshEntry (k : Nat) (s : State) : Host.Outcome State Fault Refusal :=
  .next (
    let l := s.stackPcs k pcActive
    if k < 4 && !s.hbmBusy && s.hbm.training.isNone && s.hbm.recovering.isEmpty then
      (s.setPcs l pcSelfRefresh).stall (l.map (fun p => s.fld (Fr.MEM_PC_SLOT p)))
    else s)

/-- SELF_REFRESH_EXIT (R217): an access to the stack completes its exit; writes held in the ballast go on. -/
def execSelfRefreshExit (k : Nat) (s : State) : Host.Outcome State Fault Refusal :=
  .next (
    let l := s.stackPcs k pcSelfRefresh
    (s.setPcs l pcActive).unstall (l.map (fun p => s.fld (Fr.MEM_PC_SLOT p))))

/-- STACK_RECOVERY (R221): a failure of the whole stack resets its interface; its channels retrain in parallel. -/
def execStackRecovery (k : Nat) (s : State) : Host.Outcome State Fault Refusal :=
  .next (
    let l := s.stackPcs k pcActive ++ s.stackPcs k pcTraining ++ s.stackPcs k pcSelfRefresh
    if k < 4 && !s.hbm.recovering.contains k then
      let s1 := (s.setPcs l pcTraining).modHbm (fun h =>
        { h with
          recovering := k :: h.recovering
          training := if h.training.any (fun p => p / 32 = k) then none else h.training })
      s1.stall (l.map (fun p => s.fld (Fr.MEM_PC_SLOT p)))
    else s)

/-- STACK_RECOVERED (R221, R241): the channels that trained go on, those that failed are retired one after another; a
stack none of whose channels trained is lost. -/
def execStackRecovered (k : Nat) (failed : List Nat) (s : State) : Host.Outcome State Fault Refusal :=
  .next (
    if k < 4 && s.hbm.recovering.contains k then
      let l := s.stackPcs k pcTraining
      let ok := l.filter (fun p => !failed.contains p)
      let s1 := ((s.setPcs ok pcActive).modHbm (fun h => { h with recovering := h.recovering.filter (· ≠ k) })).unstall
        (ok.map (fun p => s.fld (Fr.MEM_PC_SLOT p)))
      let s2 := (l.filter failed.contains).foldl State.retire s1
      if ok.isEmpty then (s2.memEv 5 0xFF 0xFF).fault 5 k none true s.samp 0 0 (fun _ => false) else s2.memEv 4 0xFF 0xFF
    else s)

/-- SPARE_READY (R239): a spare's poison fill ends and it is available to R220. -/
def execSpareReady (p : Nat) (s : State) : Host.Outcome State Fault Refusal :=
  .next (
    if p < 128 && s.fld (Fr.MEM_PC_STATE p) = pcFilling then
      ((s.setFld (Fr.MEM_PC_STATE p) pcSpare).setFld Fr.MEM_SPARES (s.fld Fr.MEM_SPARES + 1)).memEv 8 p 0xFF
    else s)

/-- An uncorrectable word at an address: poison is written back, counted, and posted at most once per pseudo-channel and
second (R222). -/
def State.uncorrectable (s : State) (a : Nat) : State :=
  let w := a / 32 * 32
  let slot := s.slotOf w
  match s.pcOfSlot slot with
  | none => s
  | some p =>
    let s1 := s.modHbm (fun h =>
      { h with
        poison := ((List.range 32).map (fun i => w + i) ++ h.poison).eraseDups
        ueTimes := (p, s.samp) :: h.ueTimes.filter (fun x => s.samp ≤ x.2 + s.samplesOfNs (10 ^ 9)) })
    let s2 := (s1.setFld Fr.MEM_UE 1).count (245 + p) .uncorrectable 1
    let seen := s.hbm.ueSec.any (fun x => x.1 = p && s.samp < x.2 + s.samplesOfNs (10 ^ 9))
    if seen then s2
    else (s2.modHbm (fun h => { h with ueSec := (p, s.samp) :: h.ueSec.filter (fun x => x.1 ≠ p) })).memEv 3 p slot

/-- Corrected words of a pseudo-channel within one second; beyond CE_THR it is retired while a spare remains (R222). -/
def State.corrected (s : State) (p n : Nat) : State :=
  let s1 := s.count (245 + p) .corrected n
  let thr := s.fld Fr.MEM_CE_THR
  if thr ≠ 0 && thr < n && (s.spareFor p).isSome && s.fld (Fr.MEM_PC_STATE p) = pcActive && s.fld (Fr.MEM_PC_SLOT p) ≠ 0xFF then
    s1.retire p
  else s1

/-- PATROL_SCRUB (R223): the scrubber has read HBM outside the ring: corrected words per pseudo-channel (within one
second) and the addresses of uncorrectable words. -/
def execPatrolScrub (ces : List (Nat × Nat)) (ues : List Nat) (s : State) : Host.Outcome State Fault Refusal :=
  .next (
    if s.fld Fr.MEM_SCRUB_H = 0 then s
    else
      let s1 := (ues.filter (fun a => s.ringBytes ≤ a && a < s.hbmSize)).foldl State.uncorrectable s
      (ces.filter (fun x => x.1 < 128)).foldl (fun st x => st.corrected x.1 x.2) s1)

/-! ## RESTRIPE (R239) -/

/-- The pseudo-channels neither retired nor failed, by channel and then stack, the highest channel first: the order in
which spares are held back (a choice of the model that gives R210's spares for eight of 128). -/
def State.healthyPcs (s : State) : List Nat :=
  ((List.range 32).reverse.flatMap (fun c => (List.range 4).map (fun k => 32 * k + c))).filter (fun p =>
    s.fld (Fr.MEM_PC_STATE p) ≠ pcRetired && s.fld (Fr.MEM_PC_STATE p) ≠ pcFailed)

/-- The parameter word of RESTRIPE. -/
def restripeGrain (d : Desc) : Nat := bits (nth d.p 0 0) 0 3
def restripeHash (d : Desc) : Nat := bits (nth d.p 0 0) 3 1
def restripeSpares (d : Desc) : Nat := bits (nth d.p 0 0) 4 4
def restripeRing (d : Desc) : Nat := bits (nth d.p 0 0) 8 8

/-- Bytes of the address space after the RESTRIPE, and where its system area starts. -/
def State.restripeSize (s : State) (d : Desc) : Nat := (s.healthyPcs.length - restripeSpares d) * 2 ^ 29
def State.restripeSys (s : State) (d : Desc) : Nat := s.restripeSize d - 2 ^ 28

/-- Format checks of RESTRIPE. -/
def restripeFmt (s : State) (d : Desc) : Option Refuse :=
  check (bits (nth d.p 0 0) 16 16 ≠ 0 || 4 < restripeGrain d || 8 < restripeSpares d || s.healthyPcs.length < restripeSpares d
    || restripeRing d = 0 || s.restripeSys d < restripeRing d * 2 ^ 30) (refuseFormat 0)

/-- The frame buffers in force and pending: base and bytes. -/
def State.frameRanges (s : State) : List (Nat × Nat) :=
  ((s.fld Fr.VID_BASE_NOW, s.fld Fr.VID_STRIDE_NOW) :: (s.vid.frame.map (·.2)).toList).map (fun f =>
    (f.1, f.2 * s.inf Fr.VID_V_ACTIVE))

/-- State checks of RESTRIPE. -/
def restripeState (s : State) (d : Desc) : Option Refuse :=
  check (s.jobs.any (fun j => j.standing && j.done.isNone) || !s.hbm.freezes.isEmpty || s.epochPending
    || (s.frameRanges ++ s.regions.map (fun r => (r.base, r.len))).any (fun r =>
      0 < r.2 && (r.1 < restripeRing d * 2 ^ 30 || s.restripeSys d < r.1 + r.2))
    || s.hbm.restripe.isSome) refuseState

/-- An accepted RESTRIPE stops the ring writer. -/
def restripeApply (s : State) (d : Desc) (job : Nat) : State :=
  s.modHbm (fun h => { h with ringOn := false, restripe := some (job, d) })

/-- Every writer restarts at its region's start (R239). -/
def State.restartWriters (s : State) : State :=
  let s1 := (List.range 9).foldl (fun (st : State) n =>
    ((st.setFld (Fr.HIST_WR_OFS n) 0).setFld (Fr.HIST_OLDEST_OFS n) 0).modSlice n (fun x => { x with hist := [] })) s
  let s2 := (List.range 36).foldl (fun (st : State) k =>
    ((st.setFld (Fr.DDC_WR_OFS (k / 4) (k % 4)) 0).setFld (Fr.DDC_OLDEST_OFS (k / 4) (k % 4)) 0).modTuner (k / 4) (k % 4)
      (fun x => { x with blocks := [] })) s1
  let s3 := ((s2.setFld Fr.XCOR_WR_OFS 0).setFld Fr.XCOR_OLDEST_OFS 0).setFld Fr.XCOR_F_WR_OFS 0
  let s4 := s3.modXcor (fun x => { x with recs := [] })
  (List.range 8).foldl (fun (st : State) n => st.setFld (Fr.SMP_WR_OFS n) 0) s4

/-- RESTRIPE_DONE (R239): the map is rebuilt, contents are discarded, spares fill in the background, the ring restarts
with the next beat. -/
def execRestripeDone (s : State) : Host.Outcome State Fault Refusal :=
  .next (
    match s.hbm.restripe with
    | none => s
    | some (job, d) =>
      let spares := s.healthyPcs.take (restripeSpares d)
      let act := (List.range 128).filter (fun p => s.healthyPcs.contains p && !spares.contains p)
      let s1 := (List.zip (List.range act.length) act).foldl (fun (st : State) x => st.setPc x.2 pcActive x.1) s
      let s2 := spares.foldl (fun (st : State) p => st.setPc p pcFilling 0xFF) s1
      let s3 := ((((((s2.setFld Fr.MEM_GRAIN (restripeGrain d)).setFld Fr.MEM_HASH (restripeHash d)).setFld Fr.MEM_N_ACT
        act.length).setFld Fr.MEM_SPARES 0).setFld Fr.MEM_RING_GIB (restripeRing d)).setFld Fr.MEM_SYS_BASE_MIB
          (s.restripeSys d / 2 ^ 20)).setFld Fr.MEM_HOLED 0
      let s4 := s3.modHbm (fun h =>
        { h with
          cells := []
          poison := []
          slotPoison := []
          holes := []
          tags := []
          gran := []
          lastTaken := none
          gseq := 0
          curGran := List.replicate 8 none
          ringNext := List.replicate 8 0
          losses := []
          ringOn := true
          restripe := none
          training := none })
      let s5 := ((List.range 8).foldl State.updateOldest (s4.unstall s4.hbm.stalled)).restartWriters.updateFreezeRegs
      let s6 := (List.range 25).foldl (fun (st : State) c => if c = 12 then
        (st.setFld (Fr.ADM_RES_CAP c) (st.capacity c / 2 ^ 20)).setFld (Fr.ADM_RES_CEIL c) (st.ceiling c / 2 ^ 20) else st) s5
      (s6.complete job stDone 0 0).memEv 7 0xFF 0xFF)

end Sys2Proof.Machine
end

