-- ==== Sys2Proof/Machine/Dma.lean ====
section
/-! DEFINITION. The DMA engine: channels, bursts, pacing, errors, ends, the MOVE job, and the reading of extract blocks
that an EXTRACT moves (chapters 10 and 13). -/

namespace Sys2Proof.Machine

/-! ## Spaces (R295): those a transfer names, and three of the device's own requesters -/

def spHost : Nat := 0
def spHbm : Nat := 1
/-- A core's data memory, by word address. -/
def spCore : Nat := 16
/-- The output of an EXTRACT. -/
def spExtract : Nat := 17
/-- A stream: what an EXTRACT delivers with DEST 1. -/
def spStream : Nat := 18

/-! ## Channels (R293) -/

def State.chan (s : State) (ch : Nat) : Chan := nth s.chans ch {}
def State.modChan (s : State) (ch : Nat) (f : Chan → Chan) : State := { s with chans := modNth s.chans ch f }

/-- Change the transfer in progress on a channel. -/
def State.modXfer (s : State) (ch : Nat) (f : Xfer → Xfer) : State := s.modChan ch (fun c => { c with cur := c.cur.map f })

/-- Burst size in bytes: 256 B to 16 KiB. -/
def burstBytes (b : Nat) : Nat := 256 * 4 ^ b

/-- Bursts of a transfer, and the bytes of burst `k` (R298). -/
def Xfer.bursts (x : Xfer) : Nat := ceilDiv x.length (burstBytes x.burst)
def Xfer.burstLen (x : Xfer) (k : Nat) : Nat := Nat.min (burstBytes x.burst) (x.length - k * burstBytes x.burst)

/-- Does a transfer name host memory? -/
def Xfer.hostSide (x : Xfer) : Bool := x.srcSpace = spHost || x.dstSpace = spHost

/-- Channel states (R306). -/
def chIdle : Nat := 0
def chRunning : Nat := 1
def chHalted : Nat := 2
def chPaused : Nat := 3

/-- An idle channel takes its next queued transfer; the descriptors the device builds take RETRY from DMA.CFG (R294). -/
def State.chanTake (s : State) (ch : Nat) : State :=
  match (s.chan ch).cur, (s.chan ch).queue with
  | none, x :: t =>
    let own := match x.owner with | .move _ => true | _ => false
    let x1 := if own then x else { x with retry := s.fld Fr.DMA_RETRY }
    let job := match x.owner with | .move j => s.job j | _ => none
    let s1 := s.modChan ch (fun _ => ⟨some x1, t⟩)
    let s2 := s1.setFld (Fr.DMA_CH_STATE ch) (if x1.hostSide && !s.flag Fr.HIF_LINK_UP then chPaused else chRunning)
    let s3 := ((s2.setFld (Fr.DMA_CH_SHARE ch) x1.share).setFld (Fr.DMA_CH_BURST ch) x1.burst).setFld (Fr.DMA_CH_LENGTH ch) x1.length
    let s4 := ((s3.setFld (Fr.DMA_CH_DONE_BYTES ch) 0).setFld (Fr.DMA_CH_RETRIES ch) 0).setFld (Fr.DMA_CH_LAST_ERR ch) 0
    let s5 := match job with
      | some j => (s4.setFld (Fr.DMA_CH_SQ ch) j.ring).setFld (Fr.DMA_CH_SEQ ch) j.d.seq
      | none => s4
    s5.setFld Fr.DMA_BUSY (setBits (s5.fld Fr.DMA_BUSY) ch 1 1)
  | none, [] =>
    (s.setFld (Fr.DMA_CH_STATE ch) chIdle).setFld Fr.DMA_BUSY (setBits (s.fld Fr.DMA_BUSY) ch 1 0)
  | some _, _ => s

/-- Queue a transfer on a channel. -/
def State.enqueue (s : State) (ch : Nat) (x : Xfer) : State :=
  (s.modChan ch (fun c => { c with queue := c.queue ++ [x] })).chanTake ch

/-- Sample times between the starts of bursts k and k + 16 for a rate of `r` bytes per second (R298). -/
def State.gapOf (s : State) (burst r : Nat) : Nat := if r = 0 then 0 else s.fs.ceilMul (16 * burstBytes burst) r

/-- The same for a share of a path of capacity `c` units per tick. -/
def gapOfShare (burst share c : Nat) : Nat :=
  if share = 0 || c = 0 then 0 else ceilDiv (16 * burstBytes burst * 256 * 16384) (share * c * 64)

/-! ## Extract blocks (R237, R238) -/

/-- The granule of a slot and epoch that holds sample time `t`: the one last taken. -/
def State.granAt (s : State) (slot epoch t : Nat) : Option (Nat × Gran) :=
  let l := s.hbm.gran.filter (fun p =>
    (p.2.live || 0 < p.2.holds) && p.2.slot = slot && p.2.epoch = epoch && p.2.first ≤ t && t < p.2.first + 65536 * p.2.d)
  l.foldl (fun (m : Option (Nat × Gran)) p =>
    match m with
    | none => some p
    | some q => if q.2.gseq < p.2.gseq then some p else some q) none

/-- One beat of an extract: flag nibble, its 24 bytes, lost, lost to an uncorrectable word, granule. -/
structure XBeat where
  flags : Nat
  bytes : List Nat
  lost : Bool
  ue : Bool
  gran : Nat

/-- Read the beat of a slot and epoch at sample time `t`; what no granule holds reads as GAP (R230). -/
def State.xBeat (s : State) (slot epoch t : Nat) : XBeat :=
  match s.granAt slot epoch t with
  | none => ⟨8, zeros 24, false, false, 0⟩
  | some (j, g) =>
    let k := (t - g.first) / (16 * Nat.max 1 g.d)
    let r := s.readBeat j g k
    let quad := j * granBytes + k / 4 * 96
    ⟨r.1, r.2.1, r.2.2, r.2.2 && (List.range 96).any (fun i => s.hbm.poison.contains (quad + i)), j⟩

/-- The flag area: beat k's flags in nibble k, low nibble first. -/
def nibbles : List Nat → List Nat
  | a :: b :: t => (a + 16 * b) :: nibbles t
  | [a] => [a]
  | [] => []

/-- An extract block (R237): its bytes, its lost beats, the granules found with an uncorrectable word. -/
def State.extractBlock (s : State) (freeze token epoch slot idx first beats d : Nat) : List Nat × Nat × List Nat :=
  let bs := (List.range beats).map (fun i => s.xBeat slot epoch (first + 16 * d * i))
  let lost := bs.countP (fun b => b.lost)
  let ues := (bs.filter (fun b => b.ue)).map (fun b => b.gran)
  let any (p : XBeat → Bool) : Nat := b2n (bs.any p)
  let flags := any (fun b => !bit b.flags 0) + 2 * any (fun b => bit b.flags 1) + 4 * any (fun b => bit b.flags 2)
    + 8 * any (fun b => bit b.flags 3) + 16 * b2n (0 < lost) + 32 * b2n (!ues.isEmpty)
  let src := ((s.granAt slot epoch first).map (fun p => p.2.src)).getD (s.fld (Fr.INTK_SLOT_SOURCE slot))
  let hdr := [7, src % 4, slot, epoch % 256] ++ le 4 idx ++ le 8 first ++ le 4 beats ++ le 2 d ++ le 2 flags ++ le 4 lost
    ++ le 4 freeze ++ le 4 token
  let area := padTo (ceilDiv beats 128 * 64) (nibbles (bs.map (fun b => b.flags)))
  let samples := bs.flatMap (fun b => b.bytes)
  (padTo 64 hdr ++ area ++ padTo (ceilDiv (24 * beats) 64 * 64) samples, lost, ues.eraseDups)

/-- Bytes of an extract block of `b` beats. -/
def blockBytes (b : Nat) : Nat := 64 + ceilDiv b 128 * 64 + ceilDiv (24 * b) 64 * 64

/-- The extract a job runs. -/
def State.extractOf (s : State) (job : Nat) : Option ExtractSt := s.extracts.find? (fun e => e.job = job)

/-- Change the extract of a job. -/
def State.modExtract (s : State) (job : Nat) (f : ExtractSt → ExtractSt) : State :=
  { s with extracts := s.extracts.map (fun (e : ExtractSt) => if e.job = job then f e else e) }

/-- Read the next block of an extract: its bytes go to the transfer that carries it, and with DEST 1 to its stream. -/
def State.extractNext (s : State) (ch job : Nat) : State :=
  match s.extractOf job with
  | none => s
  | some e =>
    match e.plan with
    | [] => s
    | (slot, idx, first, beats, d) :: t =>
      let fr := s.hbm.freezes.find? (fun f => f.id = e.freeze)
      let epoch := (fr.map (fun f => f.epoch)).getD s.epoch8
      let token := ((s.job job).map (fun j => j.d.token)).getD 0
      let b := s.extractBlock e.freeze token epoch slot idx first beats d
      let s1 := s.modExtract job (fun x => { x with plan := t, lost := x.lost + b.2.1 })
      let s2 := s1.modHbm (fun h => b.2.2.foldl (fun h j => h.modGran j (fun g => { g with ue := true })) h)
      match e.stream with
      | none => s2.modXfer ch (fun x => { x with host := x.host ++ b.1 })
      | some id =>
        (s2.modXfer ch (fun x => { x with host := x.host ++ b.1 })).modStream id (fun y =>
          y.take ⟨0, b.1, first, 0, 0, b.1.length, 0xF, 0⟩)

/-- Read blocks until the transfer holds `need` bytes. -/
def State.extractFill (s : State) (ch job need : Nat) : Nat → State
  | 0 => s
  | n + 1 =>
    match (s.chan ch).cur with
    | some x => if x.host.length < need then (s.extractNext ch job).extractFill ch job need n else s
    | none => s

/-- An extract ends (R236, R238): the granules of a live range return; EXTRACT_RELEASE releases on DONE or PARTIAL. -/
def State.extractEnd (s : State) (job status extent : Nat) : State :=
  match s.extractOf job with
  | none => s
  | some e =>
    let st := if status = stDone && 0 < e.lost then stPartial else status
    let s1 := { s with extracts := s.extracts.filter (fun x => x.job ≠ job) }
    let s2 := if e.grans.isEmpty then s1 else s1.unhold e.grans
    let s3 := if e.release && (st = stDone || st = stPartial) then s2.releaseFreeze e.freeze else s2
    (s3.complete job st (Nat.min e.lost (2 ^ 32 - 1)) extent).updateFreezeRegs

/-! ## Ends of a transfer (R300 to R302) -/

/-- RESULT of a MOVE (R302). -/
def moveResult (x : Xfer) (ch : Nat) : Nat := Nat.min x.retries 255 + 256 * x.lastErr + 65536 * ch

/-- A transfer ends with a status and an extent; the channel takes its next one. -/
def State.xferEnd (s : State) (ch : Nat) (x : Xfer) (status extent : Nat) : State :=
  let s1 := (s.modChan ch (fun c => { c with cur := none })).setFld Fr.DMA_HALTED (setBits (s.fld Fr.DMA_HALTED) ch 1 0)
  let s2 := match x.owner with
    | .core n c tag =>
      let s' := s1.modCore n c (fun k =>
        { k with
          dmaOut := k.dmaOut - 1
          dmaDone := true
          tags := modNth k.tags tag (fun _ => if status = stDone then 2 else 4) })
      (s'.setFld (Fr.CORE_DMA_OUT n c) (s'.core n c).dmaOut).coreSettle n c
    | .move job =>
      let s' := s1.complete job status (moveResult x ch) extent
      if status = stDone && x.irqFull then
        match s.job job with
        | some j => s'.fireVector (s.fld (Fr.CQ_VECTOR j.cq))
        | none => s'
      else s'
    | .extract job => s1.extractEnd job status extent
  s2.chanTake ch

/-- A halted channel ends its transfer once nothing is outstanding (R300, R301). -/
def State.haltSettle (s : State) (ch : Nat) : State :=
  match (s.chan ch).cur with
  | none => s
  | some x =>
    match x.fail with
    | none => s
    | some b =>
      if x.flight.isEmpty then
        let early := x.srcSpace = spHost && 1 ≤ x.lastErr && x.lastErr ≤ 4
        let status := if b + 1 = x.bursts && !early then stErrFinal else stErrBus
        s.xferEnd ch x status (b * burstBytes x.burst)
      else s

/-- DMA_BURST_START (R298): the next burst of a running channel starts once its pacing allows. -/
def execDmaBurstStart (ch : Nat) (s : State) : Host.Outcome State Fault Refusal :=
  .next (
    match (s.chan ch).cur with
    | none => s
    | some x =>
      let paced := match x.starts[15]? with
        | some t => t + x.gap ≤ s.samp
        | none => true
      if s.fld (Fr.DMA_CH_STATE ch) = chRunning && x.fail.isNone && x.issued < x.bursts && paced then
        let s1 := s.modXfer ch (fun y =>
          { y with issued := y.issued + 1, flight := y.flight ++ [y.issued], starts := (s.samp :: y.starts).take 16 })
        match x.owner with
        | .extract job =>
          let need := Nat.min x.length ((x.issued + 1) * burstBytes x.burst)
          s1.extractFill ch job need (need + 1)
        | _ => s1
      else s)

/-- The bytes a burst reads; none where it meets a poison word (R302). -/
def State.burstRead (s : State) (x : Xfer) (k : Nat) : Option (List Nat) :=
  let ofs := k * burstBytes x.burst
  let n := x.burstLen k
  if x.srcSpace = spHbm then
    let l := s.hbmBytes (x.src + ofs) n
    if l.any (fun b => b.isNone) then none else some (l.map (fun b => b.getD 0))
  else if x.srcSpace = spCore then
    match x.owner with
    | .core m c _ => some ((s.core m c).dmBytes (x.src + ofs / 2) n)
    | _ => some (zeros n)
  else some (padTo n (x.host.drop ofs))

/-- Write the bytes of a burst. -/
def State.burstWrite (s : State) (x : Xfer) (k : Nat) (bs : List Nat) : State :=
  let ofs := k * burstBytes x.burst
  if x.dstSpace = spHost then s.emit (.hostWrite (x.dst + ofs) bs)
  else if x.dstSpace = spHbm then s.hbmWrite (x.dst + ofs) bs
  else if x.dstSpace = spCore then
    match x.owner with
    | .core m c _ => s.modCore m c (fun k => k.dmWrite (x.dst + ofs / 2) bs)
    | _ => s
  else s

/-- DMA_BURST_DONE (R298, R299, R302): the oldest burst in flight completes: its bytes move, progress and the half
interrupt follow. `ues` are addresses of words found uncorrectable by this read (R222). -/
def execDmaBurstDone (ch : Nat) (ues : List Nat) (s : State) : Host.Outcome State Fault Refusal :=
  .next (
    match (s.chan ch).cur with
    | none => s
    | some x =>
      match x.flight with
      | [] => s
      | k :: rest =>
        let lo := x.src + k * burstBytes x.burst
        let hit := if x.srcSpace = spHbm then ues.filter (fun a => lo ≤ a && a < lo + x.burstLen k) else []
        let s0 := hit.foldl State.uncorrectable s
        match s0.burstRead x k with
        | none =>
          let x1 := { x with lastErr := 6 }
          (s0.setFld (Fr.DMA_CH_LAST_ERR ch) 6).xferEnd ch x1 stErrMedia (k * burstBytes x.burst)
        | some bs =>
          let s1 := (s0.burstWrite x k bs).modXfer ch (fun y => { y with flight := rest })
          let done := s1.fld (Fr.DMA_CH_DONE_BYTES ch) + bs.length
          let s2 := ((s1.setFld (Fr.DMA_CH_DONE_BYTES ch) done).count (378 + ch) .bytes bs.length).count (378 + ch) .bursts 1
          let s3 := match x.owner with
            | .core n c _ => s2.count (s2.coreUnit n c) .dmaBytes bs.length
            | .move job => s2.setExtent job done
            | .extract job => s2.setExtent job done
          let s4 :=
            if x.irqHalf && !x.half && x.length / 32 * 16 ≤ done then
              let s' := s3.modXfer ch (fun y => { y with half := true })
              match x.owner with
              | .move job => match s.job job with
                | some j => s'.fireVector (s.fld (Fr.CQ_VECTOR j.cq))
                | none => s'
              | _ => s'
            else s3
          s4.haltSettle ch)

/-- DMA_BURST_RETRY (R300, R301): a burst in flight has failed with an error; it is retried in full, or the channel
halts. -/
def execDmaBurstRetry (ch burst err : Nat) (s : State) : Host.Outcome State Fault Refusal :=
  .next (
    match (s.chan ch).cur with
    | none => s
    | some x =>
      if x.flight.contains burst && 1 ≤ err && err ≤ 7 && err ≠ 6 then
        let n := ((x.tries.find? (fun p => p.1 = burst)).map (·.2)).getD 0
        let s1 := s.setFld (Fr.DMA_CH_LAST_ERR ch) err
        if n < x.retry && x.fail.isNone then
          ((s1.modXfer ch (fun y =>
            { y with
              tries := (burst, n + 1) :: y.tries.filter (fun p => p.1 ≠ burst)
              retries := y.retries + 1
              lastErr := err })).setFld (Fr.DMA_CH_RETRIES ch) (Nat.min 255 (x.retries + 1))).count (378 + ch) .retries 1
        else
          let s2 := s1.modXfer ch (fun y =>
            { y with
              flight := y.flight.filter (· ≠ burst)
              fail := some (Nat.min burst (y.fail.getD burst))
              lastErr := err })
          let s3 := ((s2.setFld (Fr.DMA_CH_STATE ch) chHalted).setFld Fr.DMA_HALTED (setBits (s.fld Fr.DMA_HALTED) ch 1 1)).count
            (378 + ch) .halts (if x.fail.isNone then 1 else 0)
          s3.haltSettle ch
      else s)

/-- DMA_TRANSFER_DONE (R299, R303): every burst has completed, and the read-back of a barrier; the transfer ends. -/
def execDmaTransferDone (ch : Nat) (s : State) : Host.Outcome State Fault Refusal :=
  .next (
    match (s.chan ch).cur with
    | none => s
    | some x =>
      if x.issued = x.bursts && x.flight.isEmpty && x.fail.isNone then s.xferEnd ch x stDone x.length else s)

/-! ## MOVE (R294 to R297) -/

/-- The fields of a DMA descriptor in P[0] to P[7] (Table 13.2). -/
def mvSrcSp (d : Desc) : Nat := bits (nth d.p 0 0) 0 4
def mvDstSp (d : Desc) : Nat := bits (nth d.p 0 0) 4 4
def mvShare (d : Desc) : Nat := bits (nth d.p 0 0) 8 8
def mvLen (d : Desc) : Nat := nth d.p 1 0
def mvSrc (d : Desc) : Nat := nth d.p 2 0 + 2 ^ 32 * nth d.p 3 0
def mvDst (d : Desc) : Nat := nth d.p 4 0 + 2 ^ 32 * nth d.p 5 0

/-- The HBM window of a function (R295). -/
def State.moveWindow (s : State) (func : Nat) : Nat × Nat :=
  if func = 0 then (0, s.sysBase)
  else
    let b := s.fld (Fr.DMA_VFWIN_BASE_MIB func) * 2 ^ 20
    (b, b + s.fld (Fr.DMA_VFWIN_SIZE_MIB func) * 2 ^ 20)

/-- A VF that names HBM while its window size is 0 (R296). -/
def moveSec (s : State) (func : Nat) (d : Desc) : Option Refuse :=
  check (func ≠ 0 && (mvSrcSp d = spHbm || mvDstSp d = spHbm) && s.fld (Fr.DMA_VFWIN_SIZE_MIB func) = 0) refuseSecurity

/-- Does a range of a space break R296: past its window, or over what it may not read or write? -/
def State.moveRangeBad (s : State) (func sp a len : Nat) (write : Bool) : Bool :=
  if sp = spHost then 2 ^ 64 < a + len
  else
    let w := s.moveWindow func
    a < w.1 || w.2 < a + len || a < s.ringBytes || s.sysBase < a + len
    || write && s.meetsRegion a len (fun r => 1 ≤ r.kind && r.kind ≤ 4)

/-- The checks of R296 in word order. -/
def moveFmt (s : State) (func : Nat) (d : Desc) : Option Refuse :=
  firstRefusal [
    check (1 < mvSrcSp d || 1 < mvDstSp d || bits (nth d.p 0 0) 24 8 ≠ 0) (refuseFormat 0),
    check (mvLen d = 0 || mvLen d % 16 ≠ 0) (refuseFormat 1),
    check (mvSrc d % 16 ≠ 0 || s.moveRangeBad func (mvSrcSp d) (mvSrc d) (mvLen d) false) (refuseFormat 2),
    check (mvDst d % 16 ≠ 0 || s.moveRangeBad func (mvDstSp d) (mvDst d) (mvLen d) true) (refuseFormat 4),
    check (nth d.p 6 0 ≠ 0) (refuseFormat 6), check (nth d.p 7 0 ≠ 0) (refuseFormat 7),
    check (nth d.p 8 0 ≠ 0) (refuseFormat 8), check (nth d.p 9 0 ≠ 0) (refuseFormat 9),
    check (nth d.p 10 0 ≠ 0) (refuseFormat 10), check (nth d.p 11 0 ≠ 0) (refuseFormat 11)]

/-- The paced path of a pair of spaces 0 and 1 (Table 13.4). -/
def movePath (src dst : Nat) : Nat := if src = spHbm && dst = spHbm then 3 else if src = spHost then 4 else 5

/-- What a MOVE reserves (R297). -/
def moveNeed (s : State) (d : Desc) : List (Nat × Nat) :=
  let sh := mvShare d
  let u (c : Nat) : Nat := ceilDiv (sh * s.capacity c) 256
  if sh = 0 then []
  else if mvSrcSp d = spHbm && mvDstSp d = spHbm then [(3, u 3), (1, 2 * u 3)]
  else if mvSrcSp d = spHost && mvDstSp d = spHost then [(4, u 4), (5, u 5)]
  else
    let p := movePath (mvSrcSp d) (mvDstSp d)
    [(p, u p), (1, u p), (3, u p)]

/-- The MOVE is queued on the channel of its ring (R293). -/
def moveApply (s : State) (d : Desc) (job : Nat) : State :=
  let w := nth d.p 0 0
  let ring := ((s.job job).map (fun j => j.ring)).getD d.ring
  let x : Xfer := ⟨.move job, mvSrcSp d, mvDstSp d, mvShare d, bits w 16 2, bits w 18 3, bit w 23 || bit d.flags 8, bit w 21,
    bit w 22, mvLen d, mvSrc d, mvDst d, gapOfShare (bits w 16 2) (mvShare d) (s.capacity (movePath (mvSrcSp d) (mvDstSp d))),
    d.data, 0, [], [], 0, 0, [], none, false⟩
  s.enqueue (24 + ring % 8) x

end Sys2Proof.Machine
end

