-- ==== Sys2Proof/Machine/Crypto.lean ====
section
/-! DEFINITION. SHA-256, which the hash chain of a recording, the measurement registers and the image checks name
(R334, R373). The spec names the function; its constants are those of FIPS 180-4. -/

namespace Sys2Proof.Machine

/-- The round constants of SHA-256. -/
def shaK : List Nat := [
  0x428a2f98, 0x71374491, 0xb5c0fbcf, 0xe9b5dba5, 0x3956c25b, 0x59f111f1, 0x923f82a4, 0xab1c5ed5,
  0xd807aa98, 0x12835b01, 0x243185be, 0x550c7dc3, 0x72be5d74, 0x80deb1fe, 0x9bdc06a7, 0xc19bf174,
  0xe49b69c1, 0xefbe4786, 0x0fc19dc6, 0x240ca1cc, 0x2de92c6f, 0x4a7484aa, 0x5cb0a9dc, 0x76f988da,
  0x983e5152, 0xa831c66d, 0xb00327c8, 0xbf597fc7, 0xc6e00bf3, 0xd5a79147, 0x06ca6351, 0x14292967,
  0x27b70a85, 0x2e1b2138, 0x4d2c6dfc, 0x53380d13, 0x650a7354, 0x766a0abb, 0x81c2c92e, 0x92722c85,
  0xa2bfe8a1, 0xa81a664b, 0xc24b8b70, 0xc76c51a3, 0xd192e819, 0xd6990624, 0xf40e3585, 0x106aa070,
  0x19a4c116, 0x1e376c08, 0x2748774c, 0x34b0bcb5, 0x391c0cb3, 0x4ed8aa4a, 0x5b9cca4f, 0x682e6ff3,
  0x748f82ee, 0x78a5636f, 0x84c87814, 0x8cc70208, 0x90befffa, 0xa4506ceb, 0xbef9a3f7, 0xc67178f2]

/-- The first chaining value. -/
def shaInit : List Nat :=
  [0x6a09e667, 0xbb67ae85, 0x3c6ef372, 0xa54ff53a, 0x510e527f, 0x9b05688c, 0x1f83d9ab, 0x5be0cd19]

/-- A 32-bit word rotated right by `k`. -/
def rotr (k x : Nat) : Nat := x / 2 ^ k + x % 2 ^ k * 2 ^ (32 - k)

/-- The exclusive or of three words. -/
def xor3 (a b c : Nat) : Nat := Nat.xor (Nat.xor a b) c

/-- The next word of the message schedule, from the last sixteen words, newest first. -/
def shaNextW (w : List Nat) : Nat :=
  let a := nth w 14 0
  let b := nth w 1 0
  (nth w 15 0 + xor3 (rotr 7 a) (rotr 18 a) (a / 2 ^ 3) + nth w 6 0 + xor3 (rotr 17 b) (rotr 19 b) (b / 2 ^ 10)) % 2 ^ 32

/-- The schedule, newest word first. -/
def shaSchedule (w : List Nat) : Nat → List Nat
  | 0 => w
  | n + 1 => shaSchedule (shaNextW w :: w) n

/-- One round on the eight working words. -/
def shaRound (v : List Nat) (kw : Nat × Nat) : List Nat :=
  match v with
  | [a, b, c, d, e, f, g, h] =>
    let ch := Nat.xor (Nat.land e f) (Nat.land (2 ^ 32 - 1 - e) g)
    let t1 := h + xor3 (rotr 6 e) (rotr 11 e) (rotr 25 e) + ch + kw.1 + kw.2
    let maj := xor3 (Nat.land a b) (Nat.land a c) (Nat.land b c)
    let t2 := xor3 (rotr 2 a) (rotr 13 a) (rotr 22 a) + maj
    [(t1 + t2) % 2 ^ 32, a, b, c, (d + t1) % 2 ^ 32, e, f, g]
  | l => l

/-- The number that big-endian bytes spell. -/
def unbe (l : List Nat) : Nat := unle l.reverse

/-- Big-endian 32-bit words of a list of bytes. -/
def beWords : List Nat → List Nat
  | a :: b :: c :: d :: t => unbe [a, b, c, d] :: beWords t
  | _ => []

/-- One 64-byte block of the message. -/
def shaBlock (v : List Nat) (b : List Nat) : List Nat :=
  let w := (shaSchedule (beWords b).reverse 48).reverse
  List.zipWith (fun x y => (x + y) % 2 ^ 32) v ((List.zip shaK w).foldl shaRound v)

/-- The blocks of a padded message. -/
def shaBlocks : Nat → List Nat → List Nat → List Nat
  | 0, _, v => v
  | n + 1, l, v => shaBlocks n (l.drop 64) (shaBlock v (l.take 64))

/-- The 32 bytes of SHA-256 of a list of bytes. -/
def sha256 (l : List Nat) : List Nat :=
  let n := l.length
  let padded := l ++ 0x80 :: zeros ((119 - n % 64) % 64) ++ be 8 (8 * n)
  (shaBlocks (padded.length / 64) padded shaInit).flatMap (be 4)

/-! ## RSA-3072 PSS (R335, R367, R368) -/

/-- MGF1 with SHA-256: `n` bytes from a seed. -/
def mgf1 (seed : List Nat) (n : Nat) : List Nat :=
  ((List.range (ceilDiv n 32)).flatMap (fun i => sha256 (seed ++ be 4 i))).take n

/-- x to the public exponent 65,537 modulo n. -/
def rsaPublic (n x : Nat) : Nat := (List.range 16).foldl (fun y _ => y * y % n) x * x % n

/-- Does an RSASSA-PSS signature (SHA-256, MGF1 with SHA-256, a 32-byte salt) over a message verify under a 3,072-bit
modulus, all big-endian? -/
def pssVerify (key msg sig : List Nat) : Bool :=
  let n := unbe key
  let x := unbe sig
  let em := be 384 (rsaPublic n x)
  let h := (em.drop 351).take 32
  let db := List.zipWith Nat.xor (em.take 351) (mgf1 h 351)
  let salt := db.drop 319
  key.length = 384 && sig.length = 384 && 2 ^ 3071 ≤ n && x < n
  && nth em 0 0 < 128 && nth em 383 0 = 0xBC
  && nth db 0 0 % 128 = 0 && ((db.take 318).drop 1).all (· = 0) && nth db 318 0 = 1
  && h = sha256 (zeros 8 ++ sha256 msg ++ salt)

end Sys2Proof.Machine
end

