-- ==== Sys2Proof/Machine/Rates.lean ====
section
/-! DEFINITION. The peak rates of every source, as exact fractions, and what the configuration in force reserves (R106,
R136, R164, R174, R182, R270, R311). -/

namespace Sys2Proof.Machine

/-! ## Arithmetic of rates -/

def Rate.zero : Rate := ⟨0, 1⟩
def Rate.add (a b : Rate) : Rate := if a.den = b.den then ⟨a.num + b.num, a.den⟩ else ⟨a.num * b.den + b.num * a.den, a.den * b.den⟩
def Rate.mulN (a : Rate) (k : Nat) : Rate := ⟨a.num * k, a.den⟩
def Rate.divN (a : Rate) (k : Nat) : Rate := ⟨a.num, a.den * Nat.max 1 k⟩
def Rate.le (a b : Rate) : Bool := a.num * b.den ≤ b.num * a.den
def rateSum (l : List Rate) : Rate := l.foldl Rate.add Rate.zero

/-- Units per tick of a rate in bytes (or items) per second, `unit` of them to the unit (R269). -/
def State.unitsAt (s : State) (r : Rate) (unit : Nat) : Nat :=
  ceilDiv (r.num * 16384 * s.fs.den) (r.den * s.fs.num * unit)

/-! ## Sources -/

/-- Frames per second of a slice: FS_s / H. -/
def State.frameRate (s : State) (n : Nat) : Rate := s.fs.divN (s.gridStep n)

/-- Bytes padded to whole 64-byte units. -/
def pad64 (n : Nat) : Nat := ceilDiv n 64 * 64

/-- Trace bytes per second of a slice (R104, R106, R107). -/
def State.traceRate (s : State) (n : Nat) : Rate :=
  if s.inf (Fr.SPX_CTL_EN n) = 0 || s.inf (Fr.SPX_DET_TRACE_EN n) = 0 then Rate.zero
  else
    let p := 2 ^ s.inf (Fr.SPX_SPAN_LOG2P n)
    let fmt := s.inf (Fr.SPX_DET_OUT_FMT n)
    let by_ := (if fmt ≠ 1 then pad64 (64 + 4 * p) else 0) + (if fmt ≠ 0 then pad64 (64 + 2 * p) else 0)
    ((s.frameRate n).divN (s.inf (Fr.SPX_INTEG_T n))).mulN by_

/-- Kurtosis bytes per second of a slice (R108). -/
def State.skRate (s : State) (n : Nat) : Rate :=
  if s.inf (Fr.SPX_CTL_EN n) = 0 || s.inf (Fr.SPX_SK_EN n) = 0 then Rate.zero
  else ((s.frameRate n).divN (s.inf (Fr.SPX_SK_M n))).mulN (64 + 16 * s.spxNbins n)

/-- Density frames per second of a slice (R136). -/
def State.denPeriods (s : State) (n : Nat) : Rate :=
  if s.inf (Fr.SPX_CTL_EN n) = 0 || s.inf (Fr.DEN_EN n) = 0 then Rate.zero
  else if s.inf (Fr.DEN_MODE n) = 0 then
    (s.frameRate n).divN (2 ^ s.inf (Fr.DEN_LOG2CNT n) * Nat.max 1 (s.kTake n))
  else s.fs.divN (s.inf (Fr.DEN_PERIOD n) * 65536 * s.sliceD n)

/-- Density bytes per second of a slice (R138). -/
def State.denRate (s : State) (n : Nat) : Rate := (s.denPeriods n).mulN 524352

/-- Output samples per second of a tuner (R143). -/
def State.ddcOutRate (s : State) (n t : Nat) : Rate := s.fs.divN ((s.ddcCfg n t).dtot * s.sliceD n)

/-- Zoom bytes per second of a slice (R166, R167). -/
def State.zoomRate (s : State) (n : Nat) : Rate :=
  if s.inf (Fr.ZOOM_EN n) = 0 then Rate.zero
  else
    let np := s.zoomN n
    let fmt := s.inf (Fr.ZOOM_OUT_FMT n)
    let by_ := (if fmt ≠ 1 then pad64 (64 + 4 * np) else 0) + (if fmt ≠ 0 then pad64 (64 + 2 * np) else 0)
    rateSum (((List.range 4).filter (s.zoomServes n)).map (fun t =>
      ((s.ddcOutRate n t).divN (Nat.max 1 (s.zoomH n) * s.inf (Fr.ZOOM_T_Z n))).mulN by_))

/-- Correlator record bytes per second (R175, R178). -/
def State.xcorRate (s : State) : Rate :=
  if s.inf Fr.XCOR_CORR_EN = 0 then Rate.zero
  else (s.fs.divN (s.xcorStep (s.inf Fr.XCOR_SRC) * 2 ^ s.inf Fr.XCOR_LOG2NINT)).mulN (64 + 288 * s.inf Fr.XCOR_NCH)

/-- F-engine payloads per second of one group, and the bytes of one (R181, R182). -/
def State.fengPayload (s : State) : Rate × Nat :=
  let ns := 2 ^ s.inf Fr.XCOR_LOG2NSPEC
  (s.fs.divN (s.xcorStep (s.inf Fr.XCOR_SRC) * ns),
    2 ^ s.inf Fr.XCOR_LOG2G * ns * (if s.inf Fr.XCOR_FMT = 1 then 1 else 2))

/-- F-engine bytes per second over every input and group. -/
def State.fengRate (s : State) : Rate :=
  if s.inf Fr.XCOR_FENG_EN = 0 then Rate.zero
  else
    let ins := (boundIns (s.inf Fr.XCOR_SRC)).countP (fun i => bit (s.inf Fr.XCOR_FMASK) i)
    let p := s.fengPayload
    p.1.mulN (p.2 * ins * (s.inf Fr.XCOR_NCH / 2 ^ s.inf Fr.XCOR_LOG2G))

/-- Bytes per second a tuner writes to its stream ring (R161). -/
def State.ddcRingRate (s : State) (n t : Nat) : Rate :=
  let c := s.ddcCfg n t
  if s.inf (Fr.DDC_EN n t) = 0 || c.size = 0 then Rate.zero
  else
    let cnt := 2 ^ c.l2blk
    ((s.ddcOutRate n t).divN cnt).mulN (pad64 (64 + cnt * (if c.fmt = 0 then 4 else 6)))

/-- THRESHOLD events per second a tuner may raise (R164). -/
def State.thrRate (s : State) (n t : Nat) : Rate :=
  let c := s.ddcCfg n t
  if s.inf (Fr.DDC_EN n t) = 0 || c.thrEn = 0 then Rate.zero
  else ((s.ddcOutRate n t).mulN 2).divN (s.inf (Fr.DDC_MIN_ON n t) + s.inf (Fr.DDC_MIN_OFF n t))

/-! ## The system reservation (R270) -/

/-- Bytes per second of real-time writes the configuration in force needs. The readout passes are the writing of the
density frames and of the correlator records (DEDUCED). -/
def State.sysWrites (s : State) : Rate :=
  let slots := (List.range 8).filter (fun k => s.fld (Fr.INTK_SLOT_SOURCE k) < 2)
  rateSum (slots.map (fun k => (s.fs.mulN 3).divN (2 * s.slotDiv k))
    ++ (List.range 9).flatMap (fun n => [s.traceRate n, s.skRate n, s.denRate n, s.zoomRate n]
      ++ (List.range 4).map (s.ddcRingRate n))
    ++ [s.xcorRate, s.fengRate])

/-- Units per tick of the system reservation, by resource: HBM, real-time writes, fabric, correlator, events. -/
def State.sysRes (s : State) : List (Nat × Nat) :=
  let w := s.unitsAt s.sysWrites 64
  let ev := rateSum ((List.range 36).map (fun k => s.thrRate (k / 4) (k % 4)))
  [(1, w), (2, w), (3, w), (9, s.xcorUnits []), (10, s.unitsAt (ev.mulN 256) 1)]

/-! ## Streams (R311) -/

/-- Payload bytes and data packets per second of a stream's source at its peak, and whether it has context pairs. -/
structure SrcRate where
  pay : Rate
  pkt : Rate
  ctx : Bool
  host : Rate      -- the record bytes a host-memory stream carries

/-- The source of a stream with given kind, slice, instance and SPP. -/
def State.srcRate (s : State) (kind n inst spp : Nat) : SrcRate :=
  let recs (r : Rate) : SrcRate := ⟨r, r.divN spp, false, r⟩
  match kind with
  | 1 =>
    let r := s.ddcOutRate n inst
    ⟨r.mulN (if (s.ddcCfg n inst).fmt = 0 then 4 else 8), r.divN spp, true, s.ddcRingRate n inst⟩
  | 2 => let p := s.fengPayload; ⟨p.1.mulN p.2, p.1, true, p.1.mulN p.2⟩
  | 3 => recs (s.traceRate n)
  | 4 => recs (s.skRate n)
  | 5 => recs (s.denRate n)
  | 6 => recs (s.zoomRate n)
  | 7 => recs s.xcorRate
  | _ => recs Rate.zero

/-- Bytes per second with `ovh` bytes to a data packet and `pair` bytes to a context pair: R311, R330. -/
def SrcRate.bytes (x : SrcRate) (alive period ovh pair : Nat) : Rate :=
  let ctx := if x.ctx then x.pkt.add ⟨1000, Nat.max 1 period⟩ else Rate.zero
  (x.pay.add ((x.pkt.add ⟨1000, Nat.max 1 alive⟩).mulN ovh)).add (ctx.mulN pair)

end Sys2Proof.Machine
end

