-- ==== Sys2Proof/Machine/Record.lean ====
section
/-! DEFINITION. The record port: namespaces, recordings, their segments, chunks, hash chain and checkpoints (R328 to
R338), and the keys and random numbers they use (R375 to R378). -/

namespace Sys2Proof.Machine

/-! ## Keys and random numbers (R375 to R378) -/

/-- The key in a handle. -/
def State.key (s : State) (h : Nat) : Option Key := s.sec.keys.find? (fun k => k.handle = h)

/-- Change the security state. -/
def State.modSec (s : State) (f : SecSt → SecSt) : State := { s with sec := f s.sec }

/-- A SECURITY event (R384): cause and the handle or slot concerned. -/
def State.secEv (s : State) (cause h : Nat) : State := s.raise 9 cause 0 [h]

/-- Does the DRBG stand: no zeroisation since its last seed (R379)? -/
def State.seeded (s : State) : Bool := s.sec.zeroise.isNone && s.fld Fr.SEC_STATE ≠ 3

/-- Can the DRBG serve a request (R378)? -/
def State.drbgServes (s : State) : Bool := s.seeded && s.fld Fr.SEC_RESEED_CTR < 2 ^ 24

/-- One DRBG generate request (R378): it fails once the reseed counter has reached 2^24, with DRBG_EXHAUSTED. -/
def State.drbg (s : State) : State × Bool :=
  if s.drbgServes then (s.setFld Fr.SEC_RESEED_CTR (s.fld Fr.SEC_RESEED_CTR + 1), true)
  else (if s.sec.exhausted || !s.seeded then s
    else (s.modSec (fun x => { x with exhausted := true })).secEv 5 0, false)

/-- A signature by the key material `mat`, empty where the DRBG cannot serve (R378). -/
def State.signBy (s : State) (mat : Nat) (msg : List Nat) : State × List Nat :=
  let g := s.drbg
  if g.2 then (g.1.useFree, padTo 384 (Config.pssSign mat g.1.freeCtr msg)) else (g.1, [])

/-- A signature with the key in a handle. -/
def State.sign (s : State) (h : Nat) (msg : List Nat) : State × List Nat :=
  match s.key h with
  | some k => s.signBy k.mat msg
  | none => (s, [])

/-! ## The words of a recording (Table 14.6) -/

def Rec.id (r : Rec) : Nat := nth r.p 0 0
def Rec.mask (r : Rec) : Nat := bits (nth r.p 1 0) 0 8
def Rec.log2seg (r : Rec) : Nat := bits (nth r.p 1 0) 8 6
def Rec.enc (r : Rec) : Bool := bit (nth r.p 1 0) 14
def Rec.signed (r : Rec) : Bool := bit (nth r.p 1 0) 15
def Rec.firstSlot (r : Rec) : Nat := nth r.p 2 0
def Rec.rate (r : Rec) : Nat := nth r.p 3 0 * 1000000
def Rec.ckptMs (r : Rec) : Nat := nth r.p 5 0
def Rec.keySign (r : Rec) : Nat := bits (nth r.p 6 0) 0 16
def Rec.keyEnc (r : Rec) : Nat := bits (nth r.p 6 0) 16 16
def Rec.segLimit (r : Rec) : Nat := nth r.p 7 0
def Rec.spaces (r : Rec) : List Nat := maskList 8 r.mask

/-- Namespace and first byte of segment `k` (R331). -/
def Rec.segAt (r : Rec) (k : Nat) : Nat × Nat :=
  let l := r.spaces
  let n := Nat.max 1 l.length
  (nth l (k % n) 0, 2 ^ 20 + (r.firstSlot + k / n) * 2 ^ r.log2seg)

/-- Bytes of the data area of a segment of 2^l bytes (R331). -/
def segArea (l : Nat) : Nat := 2 ^ l - 8192 - 2 ^ l / 4096

/-- The open recording with an ID. -/
def State.recOf (s : State) (id : Nat) : Option Rec := s.recs.find? (fun r => r.id = id)

/-- Change an open recording. -/
def State.modRec (s : State) (id : Nat) (f : Rec → Rec) : State :=
  { s with recs := s.recs.map (fun (r : Rec) => if r.id = id then f r else r) }

/-- Segment slots of namespace `k` for segments of 2^l bytes (R331). -/
def State.nsSlots (s : State) (k l : Nat) : Nat :=
  (s.fld (Fr.REC_NS_CAP_LBAS k) * (if s.flag (Fr.REC_NS_LBA4K k) then 4096 else 512) - 2 ^ 20) / 2 ^ l

/-- Chunks [0, n) are durable (R329): the least CSEQ not yet durable. -/
def Rec.durable (r : Rec) : Nat :=
  ((r.writes.filterMap (·.2)) ++ r.held.map (·.2)).foldl Nat.min r.cseq

/-- EXTENT of the recording's job follows its durable chunks. -/
def State.recExtent (s : State) (id : Nat) : State :=
  match s.recOf id with
  | some r => s.setExtent r.job r.durable
  | none => s

/-! ## Writing (R331 to R337) -/

/-- Issue an NVMe Write of bytes at a byte address of a namespace; its bytes are counted (R341). -/
def State.recWrite (s : State) (id ns addr : Nat) (bytes : List Nat) (cseq : Option Nat) : State :=
  ((s.emit (.nvme ns 1 addr bytes)).count (415 + ns) .bytes bytes.length).modRec id (fun r =>
    { r with writes := r.writes ++ [(ns, cseq)] })

/-- Flush every namespace of a recording (R329). -/
def State.recFlush (s : State) (id : Nat) : State :=
  match s.recOf id with
  | none => s
  | some r => r.spaces.foldl (fun (st : State) ns =>
      (st.emit (.nvme ns 0 0 [])).modRec id (fun x => { x with flushes := x.flushes ++ [ns] })) s

/-- The 16 bytes of a map entry. -/
def MapEnt.bytes (e : MapEnt) : List Nat := le 4 e.id ++ le 2 e.tag ++ [e.kind, 0] ++ le 8 e.join

/-- The ASCII bytes of the marks. -/
def segMagic : List Nat := [0x4C, 0x4B, 0x38, 0x2D, 0x53, 0x45, 0x47, 0x31]
def endMagic : List Nat := [0x4C, 0x4B, 0x38, 0x2D, 0x45, 0x4E, 0x44, 0x31]

/-- The 4 KiB header of the segment a recording is in (Table 14.7), its first chunk at sample time `st`. -/
def State.segHeader (s : State) (r : Rec) (st : Nat) : List Nat :=
  padTo 4096 (padTo 128 (segMagic ++ le 4 1 ++ le 4 r.id ++ le 8 r.seg ++ [r.log2seg, b2n r.enc + 2 * b2n r.signed,
    s.epoch8, s.fld Fr.NET_DEV_INDEX] ++ le 4 (if r.enc then r.iv else 0) ++ r.prevH ++ le 8 r.cseq ++ le 8 st
    ++ le 8 (s.todAt st) ++ le 8 (s.fld Fr.SEC_SERIAL) ++ le 2 r.map.length) ++ r.map.flatMap MapEnt.bytes)

/-- Write the header of the segment where its first chunk goes; the first one starts the hash chain (R334). -/
def State.recBegin (s : State) (id st : Nat) : State :=
  match s.recOf id with
  | none => s
  | some r =>
    if r.begun then s
    else
      let h := s.segHeader r st
      let a := r.segAt r.seg
      (s.recWrite id a.1 a.2 h none).modRec id (fun x =>
        { x with begun := true, chain := if x.seg = 0 then sha256 (h.take 128) else x.chain })

/-- Bytes a chunk with a body of `n` bytes takes. -/
def chunkLen (n : Nat) : Nat := ceilDiv (32 + n) 16 * 16

/-- Bytes of a checkpoint chunk of a recording. -/
def Rec.ckptLen (r : Rec) : Nat := chunkLen (64 + if r.signed then 384 else 0)

/-- Body bytes of a packet chunk as stored. -/
def Rec.stored (r : Rec) (n : Nat) : Nat := if r.enc then n + 16 else n

/-- Does a chunk with a body of `n` bytes still fit, with the segment's last checkpoint behind it? -/
def Rec.fits (r : Rec) (n : Nat) : Bool := r.ofs + chunkLen n + r.ckptLen ≤ segArea r.log2seg

/-- Store one chunk (R333, R334): kind, stream map index, body, sample time. The chain runs over all but checkpoints. -/
def State.putChunk (s : State) (id kind strm : Nat) (body : List Nat) (st : Nat) : State :=
  let s0 := s.recBegin id st
  match s0.recOf id with
  | none => s
  | some r =>
    let enc := kind = 1 && r.enc
    let n := if enc then body.length + 16 else body.length
    let hdr := padTo 32 ([kind, b2n enc] ++ le 2 strm ++ le 4 n ++ le 8 r.cseq ++ le 8 st)
    let mat := ((s.key r.keyEnc).map (·.mat)).getD 0
    let b := if enc then padTo n (Config.gcm mat (le 4 r.iv ++ le 8 r.cseq) hdr body) else body
    let c := padTo (chunkLen n) (hdr ++ b)
    let a := r.segAt r.seg
    let span := r.ofs / 65536
    (s0.recWrite id a.1 (a.2 + 4096 + r.ofs) c (some r.cseq)).modRec id (fun x =>
      { x with
        cseq := x.cseq + 1
        chain := if kind = 2 then x.chain else sha256 (x.chain ++ sha256 c)
        ofs := x.ofs + c.length
        index := if x.index.any (fun e => e.1 = span) then x.index else x.index ++ [(span, r.ofs % 65536, st)] })

/-- The checkpoint chunk (R335); `sign` false leaves it unsigned. -/
def State.putCkpt (s : State) (id : Nat) (sign : Bool) : State :=
  let s0 := s.recBegin id s.samp
  match s0.recOf id with
  | none => s
  | some r =>
    let want := sign && r.signed
    let dr := if want && s0.drbgServes && (s0.key r.keySign).isSome then 384 else 0
    let body := le 8 r.cseq ++ padTo 32 r.chain ++ le 8 s.samp ++ le 8 s.todNow ++ le 4 r.id ++ le 2 r.keySign ++ le 2 dr
    let g := if want then s0.sign r.keySign body else (s0, [])
    (g.1.putChunk id 2 0 (body ++ g.2) s.samp).modRec id (fun x => { x with ckpt := s.samp })

/-- The index of a segment (R337). -/
def Rec.indexBytes (r : Rec) : List Nat :=
  (List.range (2 ^ r.log2seg / 65536)).flatMap (fun g =>
    match r.index.find? (fun e => e.1 = g) with
    | some e => le 4 e.2.1 ++ zeros 4 ++ le 8 e.2.2
    | none => le 4 0xFFFFFFFF ++ zeros 4 ++ zeros 8)

/-- The footer of a segment (R337). -/
def Rec.footer (r : Rec) (last : Bool) : List Nat :=
  padTo 4096 (endMagic ++ le 8 r.ofs ++ le 8 r.cseq ++ padTo 32 r.chain ++ [b2n last])

/-- Close the segment in progress: its checkpoint, index and footer, then Flush (R335, R337). -/
def State.closeSeg (s : State) (id : Nat) (ckpt last : Bool) : State :=
  let s0 := if ckpt then s.putCkpt id true else s.recBegin id s.samp
  match s0.recOf id with
  | none => s
  | some r =>
    let a := r.segAt r.seg
    let size := 2 ^ r.log2seg
    let s1 := s0.recWrite id a.1 (a.2 + 4096 + segArea r.log2seg) r.indexBytes none
    let s2 := s1.recWrite id a.1 (a.2 + size - 4096) (r.footer last) none
    (s2.recFlush id).modRec id (fun x =>
      { x with prevH := x.chain, seg := x.seg + 1, begun := false, ofs := 0, index := [], need := 0 })

/-! ## Ends of a recording (R338) -/

/-- NS_READY shows the namespaces in state READY. -/
def State.updateReady (s : State) : State :=
  s.setFld Fr.REC_NS_READY (listMask ((List.range 8).filter (fun k => s.fld (Fr.REC_NS_STATE k) = 1)))

/-- Streams into a recording. -/
def Stream.intoRec (x : Stream) (id : Nat) : Bool := x.dest = 2 && nth x.p 3 0 = id

/-- A recording is over: the streams still open into it end, its job completes, then the RECORD_STOP that asked. -/
def State.recOver (s : State) (id code status extent stop strm : Nat) : State :=
  match s.recOf id with
  | none => s
  | some r =>
    let s1 := (s.streams.filter (fun x => x.intoRec id)).foldl (fun st x => st.endStream x.id strm) s
    let left := s1.recs.filter (fun x => x.id ≠ id)
    let s2 := { (s1.complete r.job status code extent) with recs := left }
    let s3 := r.spaces.foldl (fun (st : State) k => if st.fld (Fr.REC_NS_STATE k) = 2 then st.setFld (Fr.REC_NS_STATE k) 1 else st) s2
    let s4 := (s3.setFld Fr.REC_OPEN left.length).updateReady
    if stop = 0 then s4 else s4.complete stop stDone 0 0

/-- A recording whose last commands have been issued is over once they have all completed. -/
def State.recSettle (s : State) (id : Nat) : State :=
  match s.recOf id with
  | none => s
  | some r =>
    match r.ended with
    | some e => if r.writes.isEmpty && r.flushes.isEmpty then s.recOver id e.1 e.2.1 r.cseq e.2.2 stCancelled else s
    | none => s

/-- End a recording: the final checkpoint and footer are issued. -/
def State.recFinish (s : State) (id code status stop : Nat) : State :=
  ((s.closeSeg id true true).modRec id (fun r => { r with ended := some (code, status, stop) })).recSettle id

/-- Is segment `k` beyond the recording's limit or its namespace's slots: none, 1 FULL, 2 SEG_LIMIT. -/
def State.segEnd (s : State) (r : Rec) (k : Nat) : Option Nat :=
  let a := r.segAt k
  if r.segLimit ≠ 0 && r.segLimit ≤ k then some 2
  else if s.nsSlots a.1 r.log2seg ≤ (a.2 - 2 ^ 20) / 2 ^ r.log2seg then some 1 else none

/-- SEGMENT_END (R331, R337, R338): the data area of the segment in progress is full; its checkpoint, index and footer
are written and flushed, and the recording goes on in the next segment or ends. -/
def execSegmentEnd (id : Nat) (s : State) : Host.Outcome State Fault Refusal :=
  .next (
    match s.recOf id with
    | none => s
    | some r =>
      if r.need = 0 || r.ended.isSome then s
      else
        match s.segEnd r (r.seg + 1) with
        | some c => s.recFinish id c stFlagged 0
        | none => s.closeSeg id true false)

/-- CHECKPOINT (R329, R335): a checkpoint falls due every CKPT_MS; one due at a segment's end is that of the end. -/
def execCheckpoint (id : Nat) (s : State) : Host.Outcome State Fault Refusal :=
  .next (
    match s.recOf id with
    | none => s
    | some r =>
      if r.ended.isSome || r.need ≠ 0 || s.samp < r.ckpt + s.samplesOfNs (1000000 * r.ckptMs) then s
      else if r.fits (r.ckptLen - 32) then (s.putCkpt id true).recFlush id
      else s.modRec id (fun x => { x with need := r.ckptLen }))

/-! ## NVMe completions (R329) -/

/-- Remove the first entry that meets a condition. -/
def dropFirst {α : Type} (p : α → Bool) : List α → List α
  | [] => []
  | a :: t => if p a then t else a :: dropFirst p t

/-- A namespace fails: fault record KIND 0x09 INDEX 1 + k, NS_FAILED; the recording that uses it ends MEDIA (R338). -/
def State.nsFail (s : State) (k : Nat) : State :=
  let hit (j : Job) : Bool := s.recs.any (fun r => bit r.mask k
    && (r.job = j.id || s.streams.any (fun x => x.job = j.id && x.intoRec r.id)))
  let s1 := (((s.setFld (Fr.REC_NS_STATE k) 3).setFld Fr.REC_NS_FAIL 1).updateReady).linkEv 0x15 2 k 0
  let s2 := s1.fault 9 (1 + k) none false s.samp 0 0 hit
  (s.recs.filter (fun r => bit r.mask k)).foldl (fun st r =>
    let st1 := (s.streams.filter (fun x => x.intoRec r.id)).foldl (fun (a : State) x => a.blame x.job s2.lastFlt) st
    st1.recOver r.id 3 stErrMedia r.durable (match r.ended with | some e => e.2.2 | none => 0) stShed) s2

/-- NVME_COMPLETION (R329): the oldest Write or Flush of a namespace completes with a status: 0 success, 1 retryable,
any other a failure that is not; a retry issues the command again. -/
def execNvmeCompletion (ns : Nat) (flush : Bool) (status : Nat) (s : State) : Host.Outcome State Fault Refusal :=
  .next (
    match s.recs.find? (fun r => bit r.mask ns
        && (if flush then r.flushes.contains ns else r.writes.any (fun w => w.1 = ns))) with
    | none => s
    | some r =>
      let id := r.id
      if status = 0 then
        let s1 := s.modRec id (fun x => { x with tries := x.tries.filter (fun t => t.1 ≠ ns) })
        let s2 :=
          if flush then s1.modRec id (fun x =>
            { x with flushes := dropFirst (· = ns) x.flushes, held := x.held.filter (fun h => h.1 ≠ ns) })
          else
            let w := r.writes.find? (fun w => w.1 = ns)
            let c := (w.bind (·.2)).toList.filter (fun _ => s.flag (Fr.REC_NS_VWC ns))
            s1.modRec id (fun x =>
              { x with writes := dropFirst (fun w => w.1 = ns) x.writes, held := x.held ++ c.map (fun q => (ns, q)) })
        (s2.recExtent id).recSettle id
      else
        let n := ((r.tries.find? (fun t => t.1 = ns)).map (·.2)).getD 0
        let s1 := s.count (415 + ns) .nvmeErrors 1
        if status = 1 && n < 3 then
          (s1.modRec id (fun x => { x with tries := (ns, n + 1) :: x.tries.filter (fun t => t.1 ≠ ns) })).emit (.nvmeRetry ns flush)
        else s1.nsFail ns)

/-! ## The record port's link (R329, R339) -/

/-- A namespace as enumeration finds it. -/
structure NsInfo where
  lba : Nat       -- LBA data size in bytes
  meta_ : Bool    -- it has metadata
  mdts : Nat      -- KiB
  vwc : Bool
  ctrl : Nat
  lbas : Nat
  nsid : Nat

/-- A namespace from the operand's list of numbers: LBA size, metadata, MDTS, volatile cache, controller, LBAs, NSID. -/
def nsInfo (l : List Nat) : NsInfo :=
  ⟨nth l 0 0, nth l 1 0 ≠ 0, nth l 2 0, nth l 3 0 ≠ 0, nth l 4 0, nth l 5 0, nth l 6 0⟩

/-- RECORD_PORT_LINK_UP (R328, R329): the link comes up with a width and speed and its namespaces are numbered. -/
def execRecordPortLinkUp (width speed : Nat) (found : List (List Nat)) (s : State) : Host.Outcome State Fault Refusal :=
  .next (
    if s.flag Fr.REC_LINK_UP || width = 0 then s
    else
      let s1 := (((s.setFld Fr.REC_LINK_UP 1).setFld Fr.REC_WIDTH width).setFld Fr.REC_SPEED speed).linkEv 0x13 2 0 0
      let s2 := { s1 with capOut := s1.capOut.filter (· ≠ 8) }
      let s3 := (List.range 8).foldl (fun (st : State) k =>
        match found[k]? with
        | none => st.setFld (Fr.REC_NS_STATE k) 0
        | some l =>
          let i := nsInfo l
          let ok := (i.lba = 512 || i.lba = 4096) && !i.meta_ && 16 ≤ i.mdts
          let a := (((st.setFld (Fr.REC_NS_STATE k) (if ok then 1 else 4)).setFld (Fr.REC_NS_VWC k) (b2n i.vwc)).setFld
            (Fr.REC_NS_LBA4K k) (b2n (i.lba = 4096))).setFld (Fr.REC_NS_CTRL k) i.ctrl
          let b := ((a.setFld (Fr.REC_NS_MDTS_KIB k) (Nat.min i.mdts 65535)).setFld (Fr.REC_NS_CAP_LBAS k) i.lbas).setFld
            (Fr.REC_NS_NSID k) i.nsid
          b.linkEv 0x14 2 k 0) s2
      s3.updateReady)

/-- REC_DOWN (R280, R338, R339): the record port is lost, a unit lost entirely; every recording is shed. -/
def execRecDown (onset : Nat) (s : State) : Host.Outcome State Fault Refusal :=
  .next (
    if !s.flag Fr.REC_LINK_UP then s
    else
      let hit (j : Job) : Bool := s.recs.any (fun r => r.job = j.id || s.streams.any (fun x => x.job = j.id && x.intoRec r.id))
      let s1 := (((s.setFld Fr.REC_LINK_UP 0).setFld Fr.REC_WIDTH 0).setFld Fr.REC_SPEED 0).linkEv 0x12 2 0 0
      let s2 := (s1.fault 9 0 none false onset 0 0 hit)
      let s3 := { s2 with capOut := (8 :: s2.capOut).eraseDups }
      let s4 := (List.range 8).foldl (fun (st : State) k => st.setFld (Fr.REC_NS_STATE k) 0) s3
      let s5 := s.recs.foldl (fun st r => (st.blame r.job s2.lastFlt).recOver r.id 0 stShed r.durable
        (match r.ended with | some e => e.2.2 | none => 0) stCancelled) s4
      ((s5.noteShed s2.lastFlt s.recs.length).count 411 .shed s.recs.length).updateReady)

/-! ## RECORD_START and RECORD_STOP (R330, R338, R376) -/

/-- The recording that a RECORD_START describes. -/
def recDesc (d : Desc) (job : Nat) : Rec := { job := job, p := d.p }

/-- May the keys serve (R376)? -/
def recSec (s : State) (d : Desc) : Option Refuse :=
  let r := recDesc d 0
  let typ h := ((s.key h).map (·.type)).getD 0
  check ((r.signed && typ r.keySign ≠ 1) || (r.enc && typ r.keyEnc ≠ 3)
    || (r.enc && (s.key r.keyEnc).any (fun k => k.ctr = 0xFFFFFFFF))) refuseSecurity

/-- What such a refusal posts (R384). -/
def recSecEv (s : State) (d : Desc) : State :=
  let r := recDesc d 0
  if r.enc && (s.key r.keyEnc).any (fun k => k.type = 3 && k.ctr = 0xFFFFFFFF) then s.secEv 0xA (r.keyEnc % 256) else s

/-- Ranges of RECORD_START. -/
def recFmt (_s : State) (d : Desc) : Option Refuse :=
  let r := recDesc d 0
  let w k := nth d.p k 0
  firstRefusal [
    check (w 0 = 0) (refuseFormat 0),
    check (r.mask = 0 || r.log2seg < 26 || 34 < r.log2seg || bits (w 1) 16 16 ≠ 0) (refuseFormat 1),
    check (w 3 = 0 || 28000 < w 3) (refuseFormat 3),
    check (w 4 = 0 || 4000 < w 4) (refuseFormat 4),
    check (w 5 < 100 || 60000 < w 5) (refuseFormat 5)]

/-- State checks of RECORD_START. -/
def recState (s : State) (d : Desc) : Option Refuse :=
  let r := recDesc d 0
  check ((s.recOf r.id).isSome || 4 ≤ s.recs.length || s.noStanding
    || r.spaces.any (fun k => s.fld (Fr.REC_NS_STATE k) ≠ 1 || s.nsSlots k r.log2seg ≤ r.firstSlot)) refuseState

/-- RATE on record port, HBM and fabric. -/
def recNeed (s : State) (d : Desc) : List (Nat × Nat) :=
  let u := s.unitsAt ⟨(recDesc d 0).rate, 1⟩ 64
  [(8, u), (1, u), (3, u)]

/-- A recording opens (R330, R336): its namespaces are in use; with ENC the key's counter gives IV_PREFIX and steps. -/
def recApply (s : State) (d : Desc) (job : Nat) : State :=
  let r := recDesc d job
  let ctr := ((s.key r.keyEnc).map (·.ctr)).getD 0
  let s1 := if r.enc then s.modSec (fun x => { x with keys := x.keys.map (fun (k : Key) =>
      if k.handle = r.keyEnc then { k with ctr := k.ctr + 1 } else k) }) else s
  let s2 := { s1 with recs := s1.recs ++ [{ r with iv := if r.enc then ctr else 0, ckpt := s.samp }] }
  ((r.spaces.foldl (fun (st : State) k => st.setFld (Fr.REC_NS_STATE k) 2) s2).setFld Fr.REC_OPEN s2.recs.length).updateReady

/-- State checks of RECORD_STOP: an open recording of the same submission ring with no stream open into it. -/
def recStopState (s : State) (ring : Nat) (d : Desc) : Option Refuse :=
  let id := nth d.p 0 0
  check (match s.recOf id with
    | none => true
    | some r => r.ended.isSome || ((s.job r.job).map (·.ring)).getD 64 ≠ ring || s.streams.any (fun x => x.intoRec id)) refuseState

/-- RECORD_STOP ends the recording STOPPED. -/
def recStopApply (s : State) (d : Desc) (job : Nat) : State := s.recFinish (nth d.p 0 0) 0 stDone job

end Sys2Proof.Machine
end

