-- ==== Sys2Proof/Machine/Packets.lean ====
section
/-! DEFINITION. Packets: what a stream takes from its queue for one packet, VITA 49.2 headers, trailer, context pairs and
the integrity block (R312 to R321). Places in the VITA header, trailer and context fields that the spec names only by the
standard are taken from VITA 49.2 (PRESUMED). -/

namespace Sys2Proof.Machine

/-! ## The words of a STREAM_OPEN (Table 14.2) -/

def Stream.ipv6 (x : Stream) : Bool := bit (nth x.p 1 0) 3
def Stream.tag (x : Stream) : Nat := bits (nth x.p 2 0) 0 16
def Stream.spp (x : Stream) : Nat := bits (nth x.p 9 0) 0 16
def Stream.period (x : Stream) : Nat := bits (nth x.p 9 0) 16 16
def Stream.alive (x : Stream) : Nat := bits (nth x.p 10 0) 0 16
def Stream.pairs (x : Stream) : Bool := x.kind = 1 || x.kind = 2

/-! ## What the next packet carries -/

/-- A run of samples or record bytes for one packet, and the stream's queue behind it. -/
structure Payload where
  bytes : List Nat
  st : Nat
  flags : Nat            -- [0] INVALID, [1] OVR, [2] CAL, [3] GAP, [4] STAGE_OVF or FFT_OVF, [5] CUT, [6] CHG, [7] ATT_CHG
  head : Item            -- the item that holds its first sample or byte
  queue : List Item
  pos : Nat
  cut : Bool             -- it ends where a packet must end
  deriving DecidableEq, Repr

/-- The little-endian field of `n` bytes at byte `o` of an item. -/
def Item.at (i : Item) (o n : Nat) : Nat := unle ((i.bytes.drop o).take n)

/-- The flags of samples `a` to `b` − 1 of a DDC block (R314): INVALID, OVR and GAP only where they meet FLAG_FIRST to
FLAG_LAST. -/
def Item.ddcFlags (i : Item) (a b : Nat) : Nat :=
  let f := i.at 40 2
  if b ≤ i.at 44 4 || i.at 48 4 < a then bits f 2 1 * 4 + f / 16 * 16 % 256 else f % 256

/-- The flags of a record of a kind (Tables 5.5, 8.1 and 10.4). -/
def Item.recFlags (i : Item) (kind : Nat) : Nat :=
  if kind = 7 then i.at 42 2 % 256 else if kind = 8 then i.at 22 2 % 16 else i.at 44 4 % 256

/-- What a context pair says of a block besides the state of the machine: a packet never spans a change of it (R315). -/
def Item.ctxKey (i : Item) : List Nat := [i.at 2 1, i.at 3 1, i.at 30 1, i.at 31 1]

/-- The payload words of one sample of a DDC block (R316). -/
def Item.sample (i : Item) (k : Nat) : List Nat :=
  if bit (i.at 1 1) 6 then
    let ext (v : Nat) : List Nat := be 4 (unsigned 32 (signed 24 v))
    ext (i.at (64 + 6 * k) 3) ++ ext (i.at (67 + 6 * k) 3)
  else be 2 (i.at (64 + 4 * k) 2) ++ be 2 (i.at (66 + 4 * k) 2)

/-- Samples of DDC blocks for one packet: up to `need`, cut at a block that carries CHG, follows a CUT, does not continue
the samples before it or differs in its context, and at the end of a delivery window. `last` is the item before, with its next sample time. -/
def ddcGather (need : Nat) : List Item → Nat → Option (Item × Nat) → List Nat → Nat → List Nat × Nat × List Item × Nat × Bool
  | [], _, _, bs, fl => (bs, fl, [], 0, false)
  | i :: t, pos, last, bs, fl =>
    let a := i.lo + pos
    let brk := match last with
      | none => false
      | some (p, next) => bit (i.at 40 2) 6 || bit (p.at 40 2) 5 || i.st + a * i.step ≠ next || i.ctxKey ≠ p.ctxKey
    if brk then (bs, fl, i :: t, pos, true)
    else
      let n := Nat.min need (i.hi - a)
      let out := bs ++ (List.range n).flatMap (fun k => i.sample (a + k))
      let fl1 := fl ||| i.ddcFlags a (a + n)
      if need ≤ i.hi - a then
        (if a + n = i.hi then (out, fl1, t, 0, true) else (out, fl1, i :: t, pos + n, true))
      else if i.hi < i.at 16 4 then (out, fl1, t, 0, true)
      else ddcGather (need - n) t 0 (some (i, i.st + i.hi * i.step)) out fl1

/-- Record bytes for one packet: up to `need` (R318). -/
def recGather (kind : Nat) : Nat → List Item → Nat → List Nat → Nat → List Nat × Nat × List Item × Nat
  | _, [], _, bs, fl => (bs, fl, [], 0)
  | need, i :: t, pos, bs, fl =>
    let n := Nat.min need (i.hi - pos)
    let out := bs ++ (i.bytes.drop pos).take n
    let fl1 := fl ||| i.recFlags kind
    if need ≤ i.hi - pos then
      (if pos + n = i.hi then (out, fl1, t, 0) else (out, fl1, i :: t, pos + n))
    else recGather kind (need - n) t 0 out fl1

/-- The payload of a stream's next data packet; `flush` takes a short one. -/
def Stream.payload (x : Stream) (flush : Bool) : Option Payload :=
  match x.queue with
  | [] => none
  | i :: t =>
    if x.kind = 1 then
      let g := ddcGather x.spp x.queue x.pos none [] 0
      if g.1.isEmpty || !(g.2.2.2.2 || flush) then none
      else some ⟨g.1, i.st + (i.lo + x.pos) * i.step, g.2.1, i, g.2.2.1, g.2.2.2.1, g.2.2.2.2⟩
    else if x.kind = 2 then some ⟨i.bytes, i.st, i.flags % 256, i, t, 0, true⟩
    else
      let g := recGather x.kind x.spp x.queue x.pos [] 0
      if g.1.isEmpty || !(g.1.length = x.spp || flush) then none
      else some ⟨g.1, i.st, g.2.1, i, g.2.2.1, g.2.2.2, true⟩

/-! ## VITA 49.2 words (R313, R314) -/

/-- The 28 bytes before a payload: header, stream and class identifiers, time stamps. -/
def State.vitaHead (s : State) (x : Stream) (type indic total st : Nat) : List Nat :=
  let w := type * 2 ^ 28 + 2 ^ 27 + indic * 2 ^ 24 + 3 * 2 ^ 22 + 3 * 2 ^ 20 + x.sent % 16 * 2 ^ 16 + total / 4
  let pcc := x.kind + if 4 ≤ type then 0x80 else 0
  be 4 w ++ be 4 x.id ++ be 4 0x3D71C8 ++ be 2 8 ++ be 2 pcc
  ++ be 4 (if s.flag Fr.CLK_TOD_VALID then s.todAt st / 10 ^ 9 else 0) ++ be 8 st

/-- The indicators of a trailer and of the state and event word: calibrated time, valid data, reference lock, over-range,
sample loss and four of the user's, each with its enable bit. -/
def State.indicators (s : State) (flags : Nat) (empty : Bool) : Nat :=
  let b k := bit flags k
  let v := b2n (s.flag Fr.CLK_ALIGNED && s.flag Fr.CLK_TOD_VALID) * 2 ^ 19 + b2n (!empty && !b 0 && !b 3) * 2 ^ 18
    + b2n (!s.flag Fr.CLK_HOLDOVER) * 2 ^ 17 + b2n (b 1) * 2 ^ 13 + b2n (b 3) * 2 ^ 12 + b2n (b 2) * 2 ^ 11
    + b2n (b 4) * 2 ^ 10 + b2n (b 5 || b 6) * 2 ^ 9 + b2n (b 7) * 2 ^ 8
  0xE3F * 2 ^ 20 + v

/-- A data packet (R313, R319): crust, tether, samples or record bytes, heel, trailer. -/
def State.dataPacket (s : State) (x : Stream) (samples : List Nat) (st flags : Nat) : List Nat :=
  let tether := be 2 (x.sent % 65536) ++ be 2 x.tag
  let crc := be 4 (crc32c (tether ++ samples))
  let type := if x.pairs then 1 else 3
  s.vitaHead x type 4 (44 + samples.length) st ++ crc ++ tether ++ samples ++ crc ++ be 4 (s.indicators flags samples.isEmpty)

/-! ## Context pairs (R315, R317) -/

/-- A frequency in Hz as the 64-bit field with 20 fraction bits. -/
def freqWord (r : Rate) : List Nat := be 8 ((2 * r.num * 2 ^ 20 + r.den) / (2 * r.den))

/-- Temperature in 1/64 °C of the die that feeds a slot. -/
def State.feedTemp (s : State) (inp : Nat) : Nat :=
  match s.fld (Fr.INTK_SLOT_SOURCE inp) with
  | 0 =>
    let k := if s.fld Fr.CAL_SPARE_INPUT = inp then 8 else inp
    unsigned 16 (signed 16 (s.fld (Fr.CAL_REC_TEMP_NOW k)) / 4)
  | _ => Config.linkDieTemp % 65536

/-- What a pair says of the source as it stands before a packet that begins with item `i` (or none): the fields that a
change of makes a new pair due, then those that do not. -/
structure CtxData where
  bandwidth : Rate
  rf : Rate
  rate : Rate
  atten : Nat
  format : Nat
  gen : Nat
  supp : Nat
  dtot : Nat
  changeSt : Nat
  phys : Nat
  src : Nat
  input : Nat
  temp : Nat

/-- The context of a stream before a packet. -/
def State.ctxData (s : State) (x : Stream) (i : Option Item) : CtxData :=
  let n := x.slice
  let inp := s.sliceInput n
  let base (input : Nat) (c : CtxData) : CtxData :=
    { c with src := (if input < 8 then s.fld (Fr.INTK_SLOT_SOURCE input) else 0) % 4, input := input, temp := s.feedTemp input }
  if x.kind = 1 then
    let c := s.ddcCfg n x.inst
    let d := Nat.max 1 (s.sliceD n)
    let a (o k dflt : Nat) : Nat := (i.map (fun y => y.at o k)).getD dflt
    let dtot := Nat.max 1 (a 32 4 c.dtot)
    let r := s.fs.divN (dtot * d)
    base (a 2 1 inp) ⟨⟨r.num * 4, r.den * 5⟩, ⟨s.fs.num * a 24 6 c.ftw, s.fs.den * d * 2 ^ 48⟩, r, a 30 1 (s.sliceAtten n),
      (if c.fmt = 0 then 0x200003CF else 0x200007D7) * 2 ^ 32, a 3 1 (s.fld (Fr.DDC_GEN n x.inst)), a 20 4 0, dtot,
      (s.tuner n x.inst).start, a 31 1 (nth s.slices n {}).phys, 0, 0, 0⟩
  else
    let g := 2 ^ s.inf Fr.XCOR_LOG2G
    let k := 2 ^ s.spxL2 n
    let sp := s.fs.divN (2 * k * Nat.max 1 (s.sliceD n))
    let r := s.frameRate n
    let lapped := s.spxH n < 2 * k
    base inp ⟨sp.mulN g, sp.mulN (x.inst * g), r, s.sliceAtten n,
      (if s.inf Fr.XCOR_FMT = 0 then 0x200001C7 else 0x200000C3) * 2 ^ 32 + (g - 1), s.fld Fr.XCOR_GEN, 0,
      if lapped then k else 2 * k, s.xcor.changeSt, ((i.map (·.phys)).getD (nth s.slices n {}).phys), 0, 0, 0⟩

/-- What makes a pair due when it changes. -/
def State.ctxKey (s : State) (c : CtxData) (flags : Nat) : List Nat :=
  [c.bandwidth.num, c.bandwidth.den, c.rf.num, c.rf.den, c.rate.num, c.rate.den, c.atten, c.format, c.gen, c.dtot, c.changeSt,
    c.phys, c.src, c.input, c.temp, s.indicators flags false]

/-- The two packets of a context pair (R315, R317); `fl` are its END, RESEND and PSLICE_CHG, `changed` its change
indicator. -/
def State.ctxPair (s : State) (x : Stream) (c : CtxData) (st flags fl : Nat) (changed : Bool) : List (List Nat) :=
  let cif := 0x39E58000 + (if changed then 2 ^ 31 else 0)
  let body := be 4 cif ++ freqWord c.bandwidth ++ be 8 0 ++ freqWord c.rf ++ be 4 ((1 + c.atten) * 128) ++ be 4 0
    ++ be 4 (x.ovr % 2 ^ 32) ++ freqWord c.rate ++ be 4 c.temp ++ be 4 (s.indicators flags false) ++ be 8 c.format
  let ext := [c.gen % 256, c.atten % 256] ++ be 2 fl ++ be 4 (if x.pos = 0 then c.supp else 0) ++ be 4 c.dtot ++ be 8 c.changeSt
    ++ [c.phys % 256, c.src % 256] ++ be 2 c.input ++ be 8 x.sent
  [s.vitaHead x 4 0 92 st ++ body, s.vitaHead x 5 0 60 st ++ ext]

end Sys2Proof.Machine
end

