-- ==== Sys2Proof/Machine/Streams.lean ====
section
/-! DEFINITION. Streams: opening and closing, data packets, context pairs, keepalives, host-memory streams, the Ethernet
ports and their failures (R307 to R327, R340). -/

namespace Sys2Proof.Machine

/-! ## Sending -/

/-- A 128-bit IPv6 address of a port. -/
def State.portIpv6 (s : State) (p : Nat) : Nat :=
  (List.range 4).foldl (fun a j => a + s.fld (Fr.NET_PORT_IPV6 p j) * 2 ^ (32 * j)) 0

/-- The addressing of a stream's packets from a port (R308, R325). -/
def State.netOf (s : State) (x : Stream) (port : Nat) : List Nat :=
  let w k := nth x.p k 0
  let v := w 1
  let dst := if x.ipv6 then w 3 + w 4 * 2 ^ 32 + w 5 * 2 ^ 64 + w 6 * 2 ^ 96 else w 3
  [s.fld (Fr.NET_PORT_MAC port), w 7 + bits (w 8) 0 16 * 2 ^ 32, if bit v 5 then 4096 + bits v 12 12 else 0, b2n x.ipv6,
    if x.ipv6 then s.portIpv6 port else s.fld (Fr.NET_PORT_IPV4 port), dst, bits v 6 6, s.fld (Fr.NET_PORT_SRC_PORT port),
    bits (w 2) 16 16]

/-- Does the module send packets and write recordings: not in the error state of approved mode (R383)? -/
def State.maySend (s : State) : Bool := !(s.approved && s.fld Fr.SEC_STATE = 2)

/-- May a packet of `n` bytes go into the stream's recording now? An Ethernet stream always may. -/
def State.storable (s : State) (x : Stream) (n : Nat) : Bool :=
  if x.dest = 2 then
    match s.recOf (nth x.p 3 0) with
    | some r => r.need = 0 && r.ended.isNone && r.fits (r.stored n)
    | none => false
  else true

/-- The recording of a stream closes its data area: the next chunk, of `n` bytes, does not fit (R333). -/
def State.noteNeed (s : State) (x : Stream) (n : Nat) : State :=
  s.modRec (nth x.p 3 0) (fun r => if r.need = 0 && r.ended.isNone then { r with need := chunkLen (r.stored n) } else r)

/-- Hand one packet to the stream's port, or store it as a chunk; packets of the last 64 µs are kept for resending. -/
def State.sendPacket (s : State) (x : Stream) (st : Nat) (bytes : List Nat) : State :=
  if x.dest = 2 then s.putChunk (nth x.p 3 0) 1 x.join bytes st
  else
    let old := s.samp - s.samplesOfNs 64000
    let s1 := ((s.emit (.packet x.port (s.netOf x x.port) bytes)).count (412 + x.port) .packets 1).count (412 + x.port) .bytes
      bytes.length
    s1.modStream x.id (fun y => { y with log := y.log.filter (fun p => old ≤ p.st) ++ [⟨s.samp, bytes⟩] })

/-- Send a context pair before a packet that begins with item `i` (R315, R317). -/
def State.sendPair (s : State) (x : Stream) (i : Option Item) (st flags : Nat) (close resend : Bool) : State :=
  let c := s.ctxData x i
  let key := s.ctxKey c flags
  let moved := x.pschg || !x.ctx.isEmpty && c.phys ≠ x.lastPhys
  let fl := b2n close + 2 * b2n (resend || x.resend) + 4 * b2n moved
  let s1 := (s.ctxPair x c st flags fl (key ≠ x.ctx)).foldl (fun (a : State) b => a.sendPacket x st b) s
  s1.modStream x.id (fun y =>
    { y with
      ctx := key
      ctxDue := false
      ovr := 0
      lastPhys := c.phys
      ctxAt := s.samp
      pschg := false
      resend := false
      pkts := y.pkts + 2 })

/-- Is a context pair due before the packet that carries `p` (R315)? -/
def State.pairDue (s : State) (x : Stream) (p : Payload) : Bool :=
  x.pairs && (x.ctxDue || x.pschg || x.resend || s.ctxKey (s.ctxData x (some p.head)) p.flags ≠ x.ctx)

/-- Has CTX_PERIOD run out since the last pair? -/
def State.pairOld (s : State) (x : Stream) : Bool := x.pairs && x.ctxAt + s.samplesOfNs (1000000 * x.period) ≤ s.samp

/-- Send the data packet that carries `p`. -/
def State.sendData (s : State) (x : Stream) (p : Payload) : State :=
  (s.sendPacket x p.st (s.dataPacket x p.bytes p.st p.flags)).modStream x.id (fun y =>
    { y with queue := p.queue, pos := p.pos, sent := y.sent + 1, pkts := y.pkts + 1, dataAt := s.samp })

/-- DATA_PACKET (R312 to R319): a stream's payload is full, or ends at a block that carries CHG or follows a CUT; its data
packet is sent, unless a context pair must precede it. -/
def execDataPacket (id : Nat) (s : State) : Host.Outcome State Fault Refusal :=
  .next (
    match s.stream id with
    | none => s
    | some x =>
      if x.dest = 1 || !s.maySend then s
      else
        match x.payload false with
        | none => s
        | some p =>
          if s.pairDue x p || s.pairOld x then s
          else if s.storable x (p.bytes.length + 44) then s.sendData x p
          else s.noteNeed x (p.bytes.length + 44))

/-- CONTEXT_PAIR (R315): the pair of a stream falls due, by a change before its next data packet or by CTX_PERIOD. -/
def execContextPair (id : Nat) (s : State) : Host.Outcome State Fault Refusal :=
  .next (
    match s.stream id with
    | none => s
    | some x =>
      if x.dest = 1 || !s.maySend then s
      else
        let p := x.payload false
        let due := (match p with | some q => s.pairDue x q | none => false) || s.pairOld x
        if !due then s
        else if !s.storable x 160 then s.noteNeed x 160
        else
          let i := match p with | some q => some q.head | none => x.queue.head?
          let st := match p with
            | some q => q.st
            | none => match i with | some y => y.st + (y.lo + x.pos) * y.step | none => s.samp
          s.sendPair x i st ((p.map (·.flags)).getD 0) false false)

/-- Send what a stream holds of a packet in progress, a pair first where one is due. -/
def State.flushStream (s : State) (x : Stream) : State :=
  match x.payload true with
  | none => s
  | some p =>
    if !s.storable x (p.bytes.length + 256) then s
    else
      let s1 := if s.pairDue x p then s.sendPair x (some p.head) p.st p.flags false false else s
      match s1.stream x.id with
      | some y => s1.sendData y p
      | none => s1

/-- KEEPALIVE (R318, R320): a stream that has sent no data packet for ALIVE ms sends a data packet without samples; a
record stream's short payload goes before it. -/
def execKeepalive (id : Nat) (s : State) : Host.Outcome State Fault Refusal :=
  .next (
    match s.stream id with
    | none => s
    | some x =>
      if x.dest = 1 || !s.maySend || s.samp < x.dataAt + s.samplesOfNs (1000000 * x.alive) || (x.payload false).isSome then s
      else if !s.storable x 256 then s.noteNeed x 256
      else
        let s0 := if x.pairs then s else s.flushStream x
        match s0.stream id with
        | none => s0
        | some y =>
          let s1 := if y.pairs && y.ctxDue then s0.sendPair y y.queue.head? s.samp 0 false false else s0
          match s1.stream id with
          | none => s1
          | some z =>
            (s1.sendPacket z s.samp (s1.dataPacket z [] s.samp 0)).modStream id (fun u =>
              { u with sent := u.sent + 1, pkts := u.pkts + 1, dataAt := s.samp }))

/-! ## Host-memory streams (R324) -/

/-- Bytes behind the control block of a host stream's buffer. -/
def Stream.hostBytes (x : Stream) : Nat := nth x.p 5 0 * 1024 - 64
def Stream.hostAddr (x : Stream) : Nat := nth x.p 3 0 + 2 ^ 32 * nth x.p 4 0

/-- Bytes free for the device from `w` on when the host has read up to `r`; 64 bytes keep full and empty apart. -/
def hostRoom (total w r : Nat) : Nat := (r + total - w - 64) % Nat.max 1 total

/-- HOST_STREAM_RECORD_WRITE (R324): the record that waits longest is written whole where it fits before RD_OFS, then
WR_OFS and LOST; the filler rule of R140 applies at the buffer's end. -/
def execHostStreamRecordWrite (id rdOfs : Nat) (s : State) : Host.Outcome State Fault Refusal :=
  .next (
    match s.stream id with
    | none => s
    | some x =>
      match x.queue with
      | [] => s
      | i :: t =>
        if x.dest ≠ 1 || !s.flag Fr.HIF_LINK_UP then s
        else
          let total := x.hostBytes
          let len := ceilDiv i.bytes.length 64 * 64
          let room := if x.wrOfs = rdOfs then total - 64 else hostRoom total x.wrOfs rdOfs
          let wraps := total < x.wrOfs + len
          let need := if wraps then total - x.wrOfs + len else len
          if room < need || total < len + 64 then s.modStream id (fun y => { y with rdOfs := rdOfs })
          else
            let a := x.hostAddr
            let s1 := if wraps then s.emit (.hostWrite (a + 64 + x.wrOfs) (zeros 64)) else s
            let w := if wraps then 0 else x.wrOfs
            let w1 := (w + len) % total
            let s2 := (s1.emit (.hostWrite (a + 64 + w) (padTo len i.bytes))).emit (.hostWrite a (le 8 w1))
            let s3 := s2.emit (.hostWrite (a + 16) (le 8 x.lost))
            s3.modStream id (fun y => { y with queue := t, wrOfs := w1, rdOfs := rdOfs, sent := y.sent + 1 }))

/-! ## STREAM_OPEN (R307 to R311, R330) -/

/-- The stream a STREAM_OPEN describes. -/
def streamDesc (d : Desc) (job : Nat) : Stream := { job := job, p := d.p, port := bits (nth d.p 1 0) 2 1 }

/-- The peak rates of the stream's source. -/
def State.streamRate (s : State) (x : Stream) : SrcRate := s.srcRate x.kind x.slice x.inst x.spp

/-- Format checks of R309. -/
def streamFmt (s : State) (d : Desc) : Option Refuse :=
  let x := streamDesc d 0
  let w k := nth d.p k 0
  let kind := x.kind
  let badSlice := if 7 ≤ kind then x.slice ≠ 0xF else 8 < x.slice
  let badInst := if kind = 1 then 3 < x.inst else if 3 ≤ kind && kind ≤ 7 then x.inst ≠ 0 else false
  let spp := x.spp
  let badSpp := if kind = 2 then false
    else if kind = 1 then
      spp % 16 ≠ 0 || spp < 16 || (if s.inf (Fr.DDC_FMT x.slice x.inst) = 0 then 2272 else 1136) < spp
    else spp % 64 ≠ 0 || spp < 256 || 9088 < spp
  firstRefusal [
    check (bits (w 0) 28 4 ≠ s.fld Fr.NET_DEV_INDEX || kind = 0 || 8 < kind || badSlice || badInst) (refuseFormat 0),
    check (x.dest = 3 || x.trig && kind ≠ 1 || x.dest = 1 && kind = 8 || bits (w 1) 24 8 ≠ 0) (refuseFormat 1),
    check (x.dest = 0 && bits (w 2) 16 16 = 0) (refuseFormat 2),
    check (x.dest = 1 && w 3 % 64 ≠ 0) (refuseFormat 3),
    check (x.dest = 0 && !x.ipv6 && w 4 ≠ 0) (refuseFormat 4),
    check (x.dest = 0 && !x.ipv6 && w 5 ≠ 0 || x.dest = 1 && (w 5 < 64 || 4194304 < w 5)) (refuseFormat 5),
    check (x.dest = 0 && !x.ipv6 && w 6 ≠ 0) (refuseFormat 6),
    check (bits (w 8) 16 16 ≠ 0) (refuseFormat 8),
    check (badSpp || x.period < 10 || 10000 < x.period) (refuseFormat 9),
    check (x.alive = 0 || 1000 < x.alive || bits (w 10) 16 16 ≠ 0) (refuseFormat 10),
    check (w 11 ≠ 0) (refuseFormat 11)]

/-- Is the source of a stream not enabled (R309)? -/
def State.sourceOff (s : State) (x : Stream) : Bool :=
  let n := x.slice
  match x.kind with
  | 1 => s.inf (Fr.DDC_EN n x.inst) = 0
  | 2 =>
    let g := 2 ^ s.inf Fr.XCOR_LOG2G
    let first := s.inf Fr.XCOR_CH_START / g
    let ins := (boundIns (s.inf Fr.XCOR_SRC)).filter (fun i => srcOf (s.inf Fr.XCOR_SRC) i = n)
    s.inf Fr.XCOR_FENG_EN = 0 || !ins.any (fun i => bit (s.inf Fr.XCOR_FMASK) i) || x.inst < first
      || first + s.inf Fr.XCOR_NCH / g ≤ x.inst || s.inf Fr.XCOR_FRING_SIZE_MIB = 0
  | 7 => s.inf Fr.XCOR_OUT_SIZE_MIB = 0
  | 8 => false
  | _ => s.inf (Fr.HIST_SIZE_MIB n) = 0

/-- State checks of R309, and of an F-engine source while both correlator halves have failed (R185). -/
def streamState (s : State) (d : Desc) : Option Refuse :=
  let x := streamDesc d 0
  let id := nth x.p 3 0
  let port := if s.fld Fr.NET_MODE = 1 then s.fld Fr.NET_ACTIVE else x.port
  check ((s.stream x.id).isSome || 256 ≤ s.streams.length || s.sourceOff x
    || x.dest = 0 && (s.fld (Fr.NET_PORT_MAC port) = 0
        || (if x.ipv6 then s.portIpv6 port else s.fld (Fr.NET_PORT_IPV4 port)) = 0)
    || x.dest = 2 && (match s.recOf id with | none => true | some r => r.ended.isSome || 248 ≤ r.map.length)
    || x.kind = 2 && s.xcor.failed.length = 2 || s.noStanding) refuseState

/-- What a stream reserves (R311). -/
def streamNeed (s : State) (d : Desc) : List (Nat × Nat) :=
  let x := streamDesc d 0
  let r := s.streamRate x
  let pay := s.unitsAt r.pay 64
  let mem := [(1, pay), (3, pay)]
  if x.dest = 0 then
    let u := s.unitsAt (r.bytes x.alive x.period 44 152) 64
    (if s.fld Fr.NET_MODE = 1 then [(6, u), (7, u)] else [(6 + x.port, u)]) ++ mem
  else if x.dest = 1 then (5, s.unitsAt r.host 64) :: mem
  else []

/-- What a stream is charged against its recording (R330). -/
def State.streamCharge (s : State) (x : Stream) : Rate := (s.streamRate x).bytes x.alive x.period 108 224

/-- The rate of an EXTRACT with `ovh` bytes to each packet of its stream (R311). -/
def extractRate (rate spp ovh : Nat) : Rate := ⟨rate * 1000000 * (Nat.max 1 spp + ovh), Nat.max 1 spp⟩

/-- What the streams and extracts of a recording are charged. -/
def State.recCharge (s : State) (id : Nat) : Rate :=
  rateSum ((s.streams.filter (fun x => x.intoRec id)).map (fun x => (⟨x.charge.1, x.charge.2⟩ : Rate))
    ++ s.extracts.filterMap (fun e => (s.streams.find? (fun x => e.stream = some x.id && x.intoRec id)).map (fun x =>
      extractRate (((s.job e.job).map (fun j => nth j.d.p 9 0)).getD 0) x.spp 108)))

/-- Would a charge bring a recording above RATE × 63 / 64 (R330)? -/
def State.overRec (s : State) (id : Nat) (c : Rate) : Bool :=
  match s.recOf id with
  | some r => !((s.recCharge id).add c).le ⟨r.rate * 63, 64⟩
  | none => false

/-- The charge of a stream against its recording fails. -/
def streamBudget (s : State) (d : Desc) : Option Refuse :=
  let x := streamDesc d 0
  check (x.dest = 2 && s.overRec (nth x.p 3 0) (s.streamCharge x)) (some ⟨stRefBudget, 0xFF, 8⟩)

/-- A stream opens; one into a recording takes its map entry, by a MAP chunk where the segment has begun (R333). -/
def streamApply (s : State) (d : Desc) (job : Nat) : State :=
  let x0 := streamDesc d job
  let port := if s.fld Fr.NET_MODE = 1 then s.fld Fr.NET_ACTIVE else x0.port
  let rid := nth d.p 3 0
  let rec_ := if x0.dest = 2 then s.recOf rid else none
  let ch := if x0.dest = 2 then s.streamCharge x0 else Rate.zero
  let x : Stream := { x0 with
    port := port
    ctxAt := s.samp
    dataAt := s.samp
    join := (rec_.map (fun r => r.map.length)).getD 0
    charge := (ch.num, ch.den) }
  let s1 := { s with streams := s.streams ++ [x] }
  let s2 := s1.setFld Fr.NET_OPEN s1.streams.length
  match rec_ with
  | none => s2
  | some r =>
    let e : MapEnt := ⟨x.id, x.tag, x.kind, r.cseq⟩
    let s3 := s2.modRec rid (fun y => { y with map := y.map ++ [e] })
    if !r.begun || r.need ≠ 0 then s3
    else if r.fits 16 then s3.putChunk rid 3 x.join e.bytes s.samp
    else s3.modRec rid (fun y => { y with need := chunkLen 16 })

/-! ## STREAM_CLOSE (R310, R340) -/

/-- State checks: an open stream of the same submission ring. -/
def streamCloseState (s : State) (ring : Nat) (d : Desc) : Option Refuse :=
  check (match s.stream (nth d.p 0 0) with
    | none => true
    | some x => ((s.job x.job).map (·.ring)).getD 64 ≠ ring) refuseState

/-- The stream stops at the end of the packet in progress, its last pair with END (R317); the DDC action of a fire that
started its delivery ends (R340). -/
def streamCloseApply (s : State) (d : Desc) (job : Nat) : State :=
  let id := nth d.p 0 0
  match s.stream id with
  | none => s.complete job stDone 0 0
  | some x =>
    let s1 := if x.dest = 1 || !s.maySend then s else s.flushStream x
    let s2 := match s1.stream id with
      | some y => if y.pairs && y.dest ≠ 1 && s1.maySend && s1.storable y 160 then s1.sendPair y none s.samp 0 true false else s1
      | none => s1
    let s3 := if x.kind = 1 then
        ([0, 1].foldl (fun (st : State) m =>
          if (st.job (st.trg x.slice m).job).any (fun j => nth j.d.p 4 0 = id) then
            st.modTrg x.slice m (fun y => { y with ddcOpen := false, ddcEnd := 0 })
          else st) s2)
      else s2
    ((s3.endStream id stDone).complete job stDone 0 0).trgSettle

/-! ## Ethernet ports (R325, R326, R339) -/

/-- End an EXTRACT early: its transfer leaves its channel (R280, R286). -/
def State.endExtract (s : State) (job status : Nat) : State :=
  match (List.range 32).find? (fun c => ((s.chan c).cur.map (·.owner)) = some (XOwner.extract job)) with
  | some c =>
    match (s.chan c).cur with
    | some x => s.xferEnd c x status (s.fld (Fr.DMA_CH_DONE_BYTES c))
    | none => s
  | none =>
    ({ s with chans := s.chans.map (fun (c : Chan) => { c with queue := c.queue.filter (fun x => x.owner ≠ XOwner.extract job) }) }).extractEnd
      job status 0

/-- Shed a stream or an extract that holds units of a port. -/
def State.shedNet (s : State) (j : Job) (flt : Nat) : State :=
  let s1 := ((s.blame j.id flt).noteShed flt 1).count 411 .shed 1
  match s.streams.find? (fun x => x.job = j.id) with
  | some x => s1.endStream x.id stShed
  | none => s1.endExtract j.id stShed

/-- Shed jobs in order until the units on resource `c` fit its ceiling (R280): lowest rank first, then the latest. -/
def State.shedUntil (s : State) (c flt : Nat) (hold : Job → Bool) : Nat → State
  | 0 => s
  | n + 1 =>
    if s.jobUnits c ≤ s.ceiling c then s
    else
      let l := s.openJobs hold
      match l.foldl (fun (m : Option Job) j =>
          match m with
          | none => some j
          | some k => if j.rank < k.rank || j.rank = k.rank && k.id < j.id then some j else some k) none with
      | none => s
      | some j => (s.shedNet j flt).shedUntil c flt hold n

/-- ETH_PORT_FAILURE (R276, R326, R327, R339, R340): port `p` fails; its streams move to the other port, which resends what
the failed port had been handed in the last 64 µs, or every Ethernet stream is shed where there is none. -/
def execEthPortFailure (p onset : Nat) (s : State) : Host.Outcome State Fault Refusal :=
  .next (
    if 1 < p || s.fld (Fr.NET_PORT_STATE p) ≠ 1 then s
    else
      let q := 1 - p
      let up := s.fld (Fr.NET_PORT_STATE q) = 1
      let fo := s.fld Fr.NET_MODE = 1
      let on (x : Stream) : Bool := x.dest = 0 && x.port = p
      let active := fo && s.fld Fr.NET_ACTIVE = p
      let used := s.streams.any on || active
      let s1 := ((s.setFld (Fr.NET_PORT_STATE p) 2).setFld (Fr.NET_PORT_FEC_LOCK p) 0).linkEv 0x10 3 p 0
      let holds (j : Job) : Bool := 0 < unitsIn j.res (6 + p)
      let s2 := if used then s1.fault 6 p (if up then some q else none) (!up) onset 0 (if up then s.samp else 0) holds else s1
      let s3 := { s2 with capOut := ((6 + p) :: s2.capOut).eraseDups }
      let s4 := if s.ptpPort = p && s.ptpUsed && s.flag (Fr.NET_PORT_FAILOVER p) && up then
          s3.modClk (fun c => { c with ptpMoved := !c.ptpMoved }) else s3
      if !up then
        let l := s4.openJobs (fun j => 0 < unitsIn j.res 6 || 0 < unitsIn j.res 7)
        l.foldl (fun st j => st.shedNet j s4.lastFlt) s4
      else
        let moved := s4.streams.filter on
        let s5 := if fo then s4.setFld Fr.NET_ACTIVE q else s4
        let s6 := if fo then s5 else { s5 with jobs := s5.jobs.map (fun (j : Job) =>
          { j with res := j.res.map (fun r => if r.1 = 6 + p then (6 + q, r.2) else r) }) }
        let s7 := s6.modStreams on (fun x => { x with port := q })
        let hold (j : Job) : Bool := s.jobs.any (fun k => k.id = j.id && holds k)
        let s8 := if fo then s7 else s7.shedUntil (6 + q) s4.lastFlt hold (s.jobs.length + 1)
        let since := s.samp - s.samplesOfNs 64000
        moved.foldl (fun (st : State) x =>
          match st.stream x.id with
          | none => st
          | some y =>
            let l := y.log.filter (fun r => since ≤ r.st)
            if l.isEmpty then st
            else
              let a := if y.pairs then st.sendPair y y.queue.head? s.samp 0 false true else st
              l.foldl (fun (b : State) r =>
                (b.emit (.packet q (b.netOf y q) r.bytes)).count (412 + q) .resends 1) a) s8)

/-- ETH_UP (R326, R339): a port has been up for 1 s. -/
def execEthUp (p : Nat) (s : State) : Host.Outcome State Fault Refusal :=
  .next (
    if 1 < p || s.fld (Fr.NET_PORT_STATE p) = 1 then s
    else
      let s1 := ((s.setFld (Fr.NET_PORT_STATE p) 1).setFld (Fr.NET_PORT_FEC_LOCK p) 1).linkEv 0x11 3 p 0
      { s1 with capOut := s1.capOut.filter (· ≠ 6 + p) })

/-- The one's-complement sum of 16-bit big-endian words. -/
def inetSum : List Nat → Nat → Nat
  | a :: b :: t, c => let x := c + 256 * a + b; inetSum t (x % 65536 + x / 65536)
  | [a], c => let x := c + 256 * a; x % 65536 + x / 65536
  | [], c => c

/-- The 28 bytes of an ARP reply (RFC 826). -/
def arpReply (mac ip dmac dip : Nat) : List Nat :=
  be 2 1 ++ be 2 0x0800 ++ [6, 4] ++ be 2 2 ++ be 6 mac ++ be 4 ip ++ be 6 dmac ++ be 4 dip

/-- A Neighbor Advertisement (RFC 4861), solicited and overriding, with its target's link-layer address. -/
def neighbourReply (mac ip dip : Nat) : List Nat :=
  let body := be 4 0x60000000 ++ be 16 ip ++ [2, 1] ++ be 6 mac
  let pseudo := be 16 ip ++ be 16 dip ++ be 4 (4 + body.length) ++ be 4 58
  [136, 0] ++ be 2 (65535 - inetSum (pseudo ++ [136, 0, 0, 0] ++ body) 0) ++ body

/-- ARP_REQUEST (R325): an ARP request, or a Neighbor Solicitation (`v6`), for `target` from a station; one for an address
of the port is answered. -/
def execArpRequest (port : Nat) (v6 : Bool) (target mac ip : Nat) (s : State) : Host.Outcome State Fault Refusal :=
  .next (
    let own := if v6 then s.portIpv6 port else s.fld (Fr.NET_PORT_IPV4 port)
    if 1 < port || own = 0 || target ≠ own || s.fld (Fr.NET_PORT_STATE port) ≠ 1 then s
    else
      let m := s.fld (Fr.NET_PORT_MAC port)
      s.emit (.packet port [m, mac, 0, b2n v6, own, ip, 0, 0, 0] (if v6 then neighbourReply m own ip else arpReply m own mac ip)))

/-- NET_CFG_WRITE (R326, R341): a write to NET.CFG or a field of NET.PORT[p], discarded while the port (for NET.CFG, any
port) carries a stream or PTP. -/
def execNetCfgWrite (addr value : Nat) (s : State) : Host.Outcome State Fault Refusal :=
  .next (
    let carries (p : Nat) : Bool := s.streams.any (fun x => x.dest = 0 && (x.port = p || s.fld Fr.NET_MODE = 1))
      || s.ptpUsed && s.ptpPort = p
    let cfg := addr = 0x780000
    let p := (addr - 0x780100) / 0x80
    match regRow addr with
    | none => s
    | some r =>
      if !cfg && (addr < 0x780100 || 0x780200 ≤ addr) || r.rw = 0 && r.rws = 0 then s
      else if (if cfg then carries 0 || carries 1 else carries p) then s.setFld Fr.NET_CFG_BAD 1
      else
        let s1 := s.setReg addr (writeMasked r (s.reg addr) (BitVec.ofNat 32 value))
        if cfg then
          let pr := s1.fld Fr.NET_PRIMARY
          let act := if s1.fld (Fr.NET_PORT_STATE pr) = 2 && s1.fld (Fr.NET_PORT_STATE (1 - pr)) = 1 then 1 - pr else pr
          s1.setFld Fr.NET_ACTIVE (if s1.fld Fr.NET_MODE = 1 then act else 0)
        else s1)

end Sys2Proof.Machine
end

