-- ==== Sys2Proof/Machine/Check.lean ====
section
/-! DEFINITION. Host memory as jobs of the device's own read and write it, and the check unit (R300, R321 to R323). -/

namespace Sys2Proof.Machine

/-! ## Host memory that stops answering (R300 to R302) -/

/-- Bytes done when host memory fails at a byte of the job's buffer: whole bursts of 4 KiB. -/
def ioExtent (e : Nat) : Nat := e / 4096 * 4096

/-- A job that reads `n` bytes of host memory: the bytes, or the extent of its failure. -/
def hostRead (d : Desc) (n : Nat) : List Nat ⊕ Nat :=
  match d.hostErr with
  | some e => if e < n then .inr (ioExtent e) else .inl (padTo n d.data)
  | none => .inl (padTo n d.data)

/-- A job that writes bytes to host memory at an address: the state, status and extent. -/
def State.hostIo (s : State) (d : Desc) (addr : Nat) (bytes : List Nat) : State × Nat × Nat :=
  match d.hostErr with
  | some e =>
    if e < bytes.length then
      let x := ioExtent e
      (s.emit (.hostWrite addr (bytes.take x)), if bytes.length ≤ x + 4096 then stErrFinal else stErrBus, x)
    else (s.emit (.hostWrite addr bytes), stDone, bytes.length)
  | none => (s.emit (.hostWrite addr bytes), stDone, bytes.length)

/-- The 64-bit address in two parameter words. -/
def pAddr (d : Desc) (k : Nat) : Nat := nth d.p k 0 + 2 ^ 32 * nth d.p (k + 1) 0

/-! ## CHECK MODE 0 (R322, R323) -/

/-- Reserved bits of word 0 of a CHECK. -/
def checkW0 (d : Desc) : Bool := bits (nth d.p 0 0) 2 6 ≠ 0 || bits (nth d.p 0 0) 16 16 ≠ 0

def checkBufFmt (_s : State) (d : Desc) : Option Refuse :=
  firstRefusal [
    check (checkW0 d) (refuseFormat 0),
    check (nth d.p 1 0 % 16 ≠ 0) (refuseFormat 1),
    check (nth d.p 3 0 = 0 || 2 ^ 32 - 16 < nth d.p 3 0) (refuseFormat 3)]

/-- The context takes the bytes; the job completes with the final CRC (R322, R323). -/
def checkBufApply (s : State) (d : Desc) (job : Nat) : State :=
  let w := nth d.p 0 0
  let k := bits w 8 6
  let len := nth d.p 3 0
  let start := if bit w 14 then 0xFFFFFFFF else s.fld (Fr.REC_RUN k)
  match hostRead d len with
  | .inl bs =>
    let run := bs.foldl crcByte start
    let crc := Nat.xor run 0xFFFFFFFF
    (s.setFld (Fr.REC_RUN k) run).complete job (if bit w 15 && crc ≠ nth d.p 4 0 then stErrCheck else stDone) crc len
  | .inr e =>
    let run := (padTo e d.data).foldl crcByte start
    (s.setFld (Fr.REC_RUN k) run).complete job stErrBus 0 e

/-! ## CHECK MODE 1 (R321, R323, R334 to R338) -/

/-- What a verification has found. -/
structure Verify where
  damaged : Nat := 0
  suspect : Nat := 0
  bad : Bool := false
  bytes : Nat := 0
  h : List Nat := []

/-- Judge one packet (Table 14.4): 0 good, 1 damaged, 2 suspect. Context packets carry no check words. -/
def judgePacket (b : List Nat) : Nat :=
  let type := nth b 0 0 / 16
  if 4 ≤ type then 0
  else
    let n := b.length
    let crust := (b.drop 28).take 4
    let heel := (b.drop (n - 8)).take 4
    let c := be 4 (crc32c ((b.drop 32).take (n - 40)))
    if n < 44 then 2
    else if crust = c then (if heel = c then 0 else 1)
    else if heel = c then 1 else 2

/-- Is a checkpoint's body right: its chain value, and its signature where it carries one? -/
def State.ckptOk (s : State) (h body : List Nat) : Bool :=
  let sig := unle ((body.drop 62).take 2)
  (body.drop 8).take 32 = h
  && (sig = 0 || (match s.key (unle ((body.drop 60).take 2)) with
      | some k => pssVerify (padTo 384 (Config.rsaModulus k.mat)) (body.take 64) ((body.drop 64).take sig)
      | none => false))

/-- Walk the chunks of a data area of `size` bytes from `ofs` on. -/
def State.verifyChunks (s : State) (area : List Nat) (size : Nat) : Nat → Nat → Verify → Verify
  | 0, _, v => v
  | n + 1, ofs, v =>
    let c := area.drop ofs
    let kind := nth c 0 0
    let len := unle ((c.drop 4).take 4)
    let total := chunkLen len
    if size < ofs + 32 || kind = 0 || 3 < kind || size < ofs + total then v
    else
      let body := (c.drop 32).take len
      let v1 := { v with bytes := v.bytes + total }
      let v2 :=
        if kind = 2 then { v1 with bad := v1.bad || !s.ckptOk v1.h body }
        else
          let j := if kind = 1 && !bit (nth c 1 0) 0 then judgePacket body else 0
          { v1 with
            h := sha256 (v1.h ++ sha256 (c.take total))
            damaged := v1.damaged + b2n (j = 1)
            suspect := v1.suspect + b2n (j = 2) }
      s.verifyChunks area size n (ofs + total) v2

/-- Verify one segment that begins the bytes `l`: what is found, and the segment's size. -/
def State.verifySeg (s : State) (l : List Nat) (v : Verify) : Verify × Nat :=
  let l2 := nth l 24 0
  let hdr := l.take 4096
  if hdr.take 8 ≠ segMagic || l2 < 26 || 34 < l2 then ({ v with bad := true }, 2 ^ 26)
  else
    let h := if unle ((hdr.drop 16).take 8) = 0 then sha256 (hdr.take 128) else (hdr.drop 32).take 32
    let foot := (l.drop (2 ^ l2 - 4096)).take 4096
    let has := foot.take 8 = endMagic
    let size := if has then unle ((foot.drop 8).take 8) else segArea l2
    let v1 := s.verifyChunks (l.drop 4096) size (l.length / 32 + 1) 0 { v with h := h, bytes := v.bytes + 4096 }
    ({ v1 with bad := v1.bad || has && (foot.drop 24).take 32 ≠ v1.h }, 2 ^ l2)

/-- Verify `n` segments one behind the other. -/
def State.verifySegs (s : State) : Nat → List Nat → Verify → Verify
  | 0, _, v => v
  | n + 1, l, v => let r := s.verifySeg l v; s.verifySegs n (l.drop r.2) r.1

def checkVerFmt (_s : State) (d : Desc) : Option Refuse :=
  firstRefusal [
    check (checkW0 d) (refuseFormat 0),
    check (8 ≤ nth d.p 1 0) (refuseFormat 1),
    check (nth d.p 3 0 = 0) (refuseFormat 3)]

/-- An open recording uses the namespace, or it cannot be read. -/
def checkVerState (s : State) (d : Desc) : Option Refuse :=
  let k := nth d.p 1 0
  check (s.recs.any (fun r => bit r.mask k) || s.fld (Fr.REC_NS_STATE k) ≠ 1) refuseState

/-- The job's data are the bytes its Reads return, slot by slot. -/
def checkVerApply (s : State) (d : Desc) (job : Nat) : State :=
  match d.hostErr with
  | some e => s.complete job stErrMedia 0 (ioExtent e)
  | none =>
    let v := s.verifySegs (nth d.p 3 0) d.data {}
    let status := if v.bad || 0 < v.suspect then stErrCheck else if 0 < v.damaged then stFlagged else stDone
    s.complete job status (Nat.min v.damaged 65535 + 65536 * Nat.min v.suspect 65535) v.bytes

end Sys2Proof.Machine
end

