-- ==== Sys2Proof/Machine/Display.lean ====
section
/-! DEFINITION. The display controller: link, timing, frame buffer, palette, scan-out (R342 to R356). The timing generator
runs whether or not scan-out is enabled (DEDUCED from R344). -/

namespace Sys2Proof.Machine

/-- Is the controller present (STRAP_DISPLAY, R342)? -/
def State.hasDisplay (s : State) : Bool := bit s.straps 9

/-- Change the display state. -/
def State.modVid (s : State) (f : VidSt → VidSt) : State := { s with vid := f s.vid }

/-- LINK states of VID.STAT. -/
def dpDown : Nat := 0
def dpTraining : Nat := 1
def dpUp : Nat := 2
def dpBlank : Nat := 3

/-- A VIDEO event (R353). -/
def State.vidEv (s : State) (cause : Nat) : State :=
  s.raise 0xC cause 0 (le 8 (s.fld Fr.VID_FRAME) ++ le 2 (s.fld Fr.VID_LINE) ++ [0, 0] ++ le 4 s.vid.under
    ++ le 8 (s.fld Fr.VID_BASE_NOW))

/-- A VIDEO event of causes 1 to 4, while its bit is set in EV_EN. -/
def State.vidEvEn (s : State) (cause : Nat) : State := if bit (s.inf Fr.VID_EV_EN) (cause - 1) then s.vidEv cause else s

/-! ## The link (R344) -/

/-- Lane rate in kbit/s of RBR, HBR, HBR2 and HBR3. -/
def laneRate (r : Nat) : Nat := nth [1620000, 2700000, 5400000, 8100000] r 8100000

/-- Does a trained link carry the mode within 80 % (R346)? -/
def State.dpFits (s : State) (lanes rate : Nat) : Bool :=
  s.inf Fr.VID_PCLK * 3 * (if s.inf Fr.VID_BPC = 0 then 8 else 10) * 5 ≤ 4 * lanes * laneRate rate

/-- DP_HPD_HIGH (R344): DP_HPD has been high for 100 ms; `lanes` and `rate` are the most that both ends support. -/
def execDpHpdHigh (lanes rate : Nat) (edid : List Nat) (s : State) : Host.Outcome State Fault Refusal :=
  .next (
    if !s.hasDisplay || s.flag Fr.VID_HPD then s
    else
      let s1 := ((s.setFld Fr.VID_HPD 1).setFld Fr.VID_LINK dpTraining).modVid (fun v => { v with sink := some (lanes, rate) })
      let e := padTo 256 edid
      (List.range 64).foldl (fun (st : State) k => st.setFld (Fr.VID_EDID k) (unle ((e.drop (4 * k)).take 4))) s1)

/-- DP_UP (R344, R346): training succeeds. -/
def execDpUp (s : State) : Host.Outcome State Fault Refusal :=
  .next (
    if s.fld Fr.VID_LINK ≠ dpTraining then s
    else
      let t := s.vid.sink.getD (0, 0)
      let s1 := ((s.setFld Fr.VID_LANES t.1).setFld Fr.VID_RATE t.2).linkEv 0x19 4 0 0
      if s1.dpFits t.1 t.2 then (s1.setFld Fr.VID_LINK dpUp).setFld Fr.VID_NOFIT 0
      else
        (((s1.setFld Fr.VID_LINK dpBlank).setFld Fr.VID_NOFIT 1).modVid (fun v => { v with modeDone := false })).vidEv 6)

/-- DP_TRAIN_FAIL (R344): a training attempt fails. -/
def execDpTrainFail (s : State) : Host.Outcome State Fault Refusal :=
  .next (
    if s.fld Fr.VID_LINK ≠ dpTraining then s
    else ((s.setFld Fr.VID_LINK dpDown).setFld Fr.VID_TRAIN_FAIL 1).linkEv 0x1A 4 0 0)

/-- DP_TRAIN_RETRY (R344): 1 s after a failed training another attempt starts. -/
def execDpTrainRetry (s : State) : Host.Outcome State Fault Refusal :=
  .next (if s.flag Fr.VID_HPD && s.fld Fr.VID_LINK = dpDown then s.setFld Fr.VID_LINK dpTraining else s)

/-- HPD_IRQ (R344): a short pulse on DP_HPD; the link retrains where the sink reports lost lock. -/
def execHpdIrq (lost : Bool) (s : State) : Host.Outcome State Fault Refusal :=
  .next (if s.flag Fr.VID_HPD && lost && dpUp ≤ s.fld Fr.VID_LINK then s.setFld Fr.VID_LINK dpTraining else s)

/-- DP_DOWN (R344): DP_HPD has been low for 2 ms or longer. -/
def execDpDown (s : State) : Host.Outcome State Fault Refusal :=
  .next (
    if !s.flag Fr.VID_HPD then s
    else ((((s.setFld Fr.VID_HPD 0).setFld Fr.VID_LINK dpDown).setFld Fr.VID_LANES 0).setFld Fr.VID_RATE 0).linkEv 0x18 4 0 0)

/-! ## Timing (R345, R346) -/

/-- The timing words of BLOCK 0x0C. -/
def vidRegs : List Nat := [0x800000, 0x800004, 0x800008, 0x80000C, 0x800010, 0x800014]

/-- Format checks of R345 on captured words. -/
def vidFmt (s : State) (cap : RegFile) : Option Refuse :=
  let g (f : FRef) : Nat := s.capFld cap f
  let axis (a st e t : Nat) : Bool := a < st && st < e && e ≤ t
  check (g Fr.VID_PCLK < 25000 || 600000 < g Fr.VID_PCLK
    || g Fr.VID_H_ACTIVE % 4 ≠ 0 || g Fr.VID_H_ACTIVE < 320 || 3840 < g Fr.VID_H_ACTIVE
    || g Fr.VID_V_ACTIVE < 200 || 2160 < g Fr.VID_V_ACTIVE
    || !axis (g Fr.VID_H_ACTIVE) (g Fr.VID_H_SYNC_START) (g Fr.VID_H_SYNC_END) (g Fr.VID_H_TOTAL)
    || !axis (g Fr.VID_V_ACTIVE) (g Fr.VID_V_SYNC_START) (g Fr.VID_V_SYNC_END) (g Fr.VID_V_TOTAL)
    || g Fr.VID_V_TOTAL < g Fr.VID_V_ACTIVE + 3 || g Fr.VID_H_TOTAL < g Fr.VID_H_ACTIVE + 32) (refuseFormat 0xFF)

/-- The frame buffer in force or pending: BASE and STRIDE, none where none has been committed. -/
def State.frameBuffers (s : State) : List (Nat × Nat) :=
  (if s.fld Fr.VID_STRIDE_NOW = 0 then [] else [(s.fld Fr.VID_BASE_NOW, s.fld Fr.VID_STRIDE_NOW)])
  ++ (s.vid.frame.map (fun f => (f.2.1, f.2.2))).toList

/-- State checks of R342 and R345. -/
def vidState (s : State) (cap : RegFile) : Option Refuse :=
  let h := s.capFld cap Fr.VID_H_ACTIVE
  let v := s.capFld cap Fr.VID_V_ACTIVE
  check (!s.hasDisplay || s.capFld cap Fr.VID_EN = 1 && s.frameBuffers.any (fun b => b.2 < h || s.badRegion b.1 (b.2 * v)))
    refuseState

/-- What scan-out and its events need (R345): HBM and fabric, and events. -/
def State.vidRes (s : State) : List (Nat × Nat) :=
  if s.inf Fr.VID_EN = 0 then []
  else
    let u := s.unitsAt ⟨s.inf Fr.VID_PCLK * 1000, 1⟩ 64
    let n := (maskList 4 (s.inf Fr.VID_EV_EN)).length
    let ev : Rate := ⟨s.inf Fr.VID_PCLK * 1000 * n * 256, Nat.max 1 (s.inf Fr.VID_H_TOTAL * s.inf Fr.VID_V_TOTAL)⟩
    [(1, u), (3, u), (10, s.unitsAt ev 1)]

/-- A timing COMMIT takes effect. -/
def State.vidApply (s : State) (c : VidChange) : State :=
  let pclk := s.inf Fr.VID_PCLK
  let s1 := s.apply c.cap
  let s2 := if s1.inf Fr.VID_PCLK = pclk then s1
    else
      let s' := s1.modVid (fun v => { v with modeDone := true })
      if s1.inf Fr.VID_EN = 1 && dpUp ≤ s1.fld Fr.VID_LINK then s'.setFld Fr.VID_LINK dpTraining else s'
  s2.modVid (fun v => { v with pend := v.pend.filter (fun x => x.job ≠ c.job) })

/-- Does a timing COMMIT wait for vertical blanking: scan-out enabled and the link up (R346)? -/
def State.vidWaits (s : State) : Bool := s.inf Fr.VID_EN = 1 && dpUp ≤ s.fld Fr.VID_LINK

/-! ## VIDEO_COMMIT (R349, R350) -/

def videoFmt (s : State) (d : Desc) : Option Refuse :=
  let st := bits (nth d.p 2 0) 0 16
  firstRefusal [
    check (pAddr d 0 % 64 ≠ 0 || s.badRegion (pAddr d 0) (st * s.inf Fr.VID_V_ACTIVE)
      || s.hbmSize < pAddr d 0 + st * s.inf Fr.VID_V_ACTIVE) (refuseFormat 0),
    check (bits (nth d.p 2 0) 16 16 ≠ 0 || st % 64 ≠ 0 || st < s.inf Fr.VID_H_ACTIVE) (refuseFormat 2)]

def videoState (s : State) (_d : Desc) : Option Refuse := check (!s.hasDisplay) refuseState

/-- The pending register takes BASE and STRIDE; a commit it still held completes CANCELLED. -/
def videoApply (s : State) (d : Desc) (job : Nat) : State :=
  let s1 := match s.vid.frame with
    | some f => s.complete f.1 stCancelled 0 0
    | none => s
  (s1.modVid (fun v => { v with frame := some (job, pAddr d 0, bits (nth d.p 2 0) 0 16) })).setFld Fr.VID_PENDING 1

/-! ## The palette (R347, R348) -/

def paletteFmt (_s : State) (d : Desc) : Option Refuse :=
  let w := nth d.p 0 0
  firstRefusal [
    check (bits w 8 24 ≠ 0) (refuseFormat 0),
    check (nth d.p 1 0 % 4 ≠ 0) (refuseFormat 1),
    check (nth d.p 3 0 = 0 || 256 < nth d.p 3 0) (refuseFormat 3)]

/-- Entries 0 to L − 1 go into the shadow, which waits for a blanking. -/
def paletteLoad (s : State) (d : Desc) : State :=
  let l := nth d.p 3 0
  let words := wordsOf l (padTo (4 * l) d.data)
  s.modVid (fun v =>
    { v with
      shadow := (List.range l).map (fun i => (i, nth words i 0 % 2 ^ 30)) ++ v.shadow.filter (fun e => l ≤ e.1)
      loaded := true })

/-- A load that failed after `x` bytes: the entries behind those bytes are undefined, and the shadow does not come into
force until it is reloaded (R288, R348). -/
def paletteFail (s : State) (d : Desc) (x : Nat) : State :=
  let l := nth d.p 3 0
  let words := s.partWords l x d.data
  (s.useFrees (l - x / 4)).modVid (fun v =>
    { v with
      shadow := (List.range l).map (fun i => (i, nth words i 0 % 2 ^ 30)) ++ v.shadow.filter (fun e => l ≤ e.1)
      loaded := false })

/-! ## Scan-out (R350 to R353) -/

/-- VBLANK (R346, R348, R350, R353): the first pixel clock of line V_ACTIVE. Timing, frame address and palette latch, the
event follows. The frames after this blanking count one more. -/
def execVblank (s : State) : Host.Outcome State Fault Refusal :=
  .next (
    if !s.hasDisplay then s
    else
      let next := s.fld Fr.VID_FRAME + 1
      let s1 := (s.vid.pend.filter (fun c => c.target ≤ s.samp)).foldl (fun (st : State) c =>
        (st.vidApply c).complete c.job stDone 0 s.samp) s
      let s2 := match s1.vid.frame with
        | none => s1
        | some f =>
          let s' := ((s1.setFld Fr.VID_BASE_NOW f.2.1).setFld Fr.VID_STRIDE_NOW f.2.2).setFld Fr.VID_PENDING 0
          (s'.modVid (fun v => { v with frame := none })).complete f.1 stDone (next % 2 ^ 32) s.samp
      let s3 := if s2.vid.loaded then
          (s2.vid.shadow.foldl (fun (st : State) e => st.setFld (Fr.VID_PALETTE e.1) e.2) s2).modVid (fun v =>
            { v with shadow := [], loaded := false })
        else s2
      let s4 := (s3.setFld Fr.VID_LINE (s3.inf Fr.VID_V_ACTIVE)).vidEvEn 1
      let s5 := s4.setFld Fr.VID_FRAME next
      let s6 := if s5.vid.modeDone && s5.fld Fr.VID_LINK = dpUp then
          (s5.modVid (fun v => { v with modeDone := false })).vidEv 5 else s5
      s6.modVid (fun v => { v with match_ := s6.fld Fr.VID_LINE_MATCH, blanking := true }))

/-- LINE_MATCH (R353): scan-out reaches line LINE_MATCH. -/
def execLineMatch (s : State) : Host.Outcome State Fault Refusal :=
  .next (
    if !s.hasDisplay then s
    else ((s.setFld Fr.VID_LINE s.vid.match_).modVid (fun v => { v with blanking := false })).vidEvEn 2)

/-- Does the 32-byte word at an HBM address hold poison? -/
def State.poisonWord (s : State) (a : Nat) : Bool := (List.range 32).any (fun i => s.isPoison (a / 32 * 32 + i))

/-- Words of the frame buffer in force that read as poison (R352). -/
def State.framePoison (s : State) : Nat :=
  if s.hbm.poison.isEmpty && s.hbm.slotPoison.isEmpty && s.hbm.holes.isEmpty || s.fld Fr.VID_STRIDE_NOW = 0 then 0
  else
    let base := s.fld Fr.VID_BASE_NOW
    let stride := s.fld Fr.VID_STRIDE_NOW
    (List.range (s.inf Fr.VID_V_ACTIVE)).foldl (fun n y =>
      n + (List.range (ceilDiv (s.inf Fr.VID_H_ACTIVE) 32)).countP (fun w => s.poisonWord (base + y * stride + 32 * w))) 0

/-- FRAME_DONE (R352, R353): the last active pixel of a frame is sent; `under` of its lines met an underrun, and `urgent`
of its requests were marked urgent. -/
def execFrameDone (under urgent : Nat) (s : State) : Host.Outcome State Fault Refusal :=
  .next (
    if !s.hasDisplay || s.inf Fr.VID_EN = 0 then s
    else
      let pois := s.framePoison
      let s1 := s.emit (.frame (s.fld Fr.VID_BASE_NOW) (s.fld Fr.VID_LINK ≠ dpUp || s.fld Fr.VID_STRIDE_NOW = 0))
      let s2 := s1.setFld Fr.VID_UNDERRUN_LINES (Nat.min (2 ^ 32 - 1) (s.fld Fr.VID_UNDERRUN_LINES + under))
      let s3 := s2.setFld Fr.VID_POISON_WORDS (Nat.min (2 ^ 32 - 1) (s.fld Fr.VID_POISON_WORDS + pois))
      let s4 := if 0 < under then s3.setFld Fr.VID_UNDERRUN 1 else s3
      let s5 := if 0 < pois then s4.setFld Fr.VID_POISON 1 else s4
      let s6 := (((s5.count 423 .frames 1).count 423 .underruns under).count 423 .poison pois).count 423 .urgent urgent
      let s7 := (s6.setFld Fr.VID_LINE (s.inf Fr.VID_V_ACTIVE - 1)).modVid (fun v => { v with under := under, blanking := false })
      let s8 := s7.vidEvEn 3
      if 0 < under then s8.vidEvEn 4 else s8)

/-! ## AUX (R356) -/

/-- AUX_GO: a write of 1 starts a DPCD read; one while busy is discarded. -/
def execAuxGo (value : Nat) (s : State) : Host.Outcome State Fault Refusal :=
  .next (
    if !bit value 0 || s.flag Fr.VID_AUX_BUSY || !s.hasDisplay then s
    else { ((s.setFld Fr.VID_AUX_BUSY 1).emit (.aux (s.fld Fr.VID_AUX_ADDR))) with aux := s.aux + 1 })

/-- AUX_READ_DONE: the read completes with its bytes, or is NACKed or times out (none). -/
def execAuxReadDone (data : Option (List Nat)) (s : State) : Host.Outcome State Fault Refusal :=
  .next (
    if !s.flag Fr.VID_AUX_BUSY then s
    else
      let s1 := s.setFld Fr.VID_AUX_BUSY 0
      match data with
      | none => s1.setFld Fr.VID_AUX_ERR 1
      | some l =>
        let b := padTo 16 (l.take (s.fld Fr.VID_AUX_LEN + 1))
        (List.range 4).foldl (fun (st : State) j => st.setFld (Fr.VID_AUX_DATA j) (unle ((b.drop (4 * j)).take 4)))
          (s1.setFld Fr.VID_AUX_ERR 0))

end Sys2Proof.Machine
end

