-- ==== Sys2Proof/Machine/Housekeeping.lean ====
section
/-! DEFINITION. The housekeeping monitor: converter, sequence table, LK2 mode, test DAC, limits (R357 to R366). -/

namespace Sys2Proof.Machine

/-- Change the housekeeping state. -/
def State.modHk (s : State) (f : HkSt → HkSt) : State := { s with hk := f s.hk }

/-- The code of a voltage in nV (R357), and whether it is over range. -/
def hkCode (nv : Int) : Nat × Bool :=
  let x := (2 * nv * 2 ^ 24 + 2500000000) / 5000000000
  if nv < 0 then (0, false) else (Nat.min 0xFFFFFF x.toNat, decide (2500000000 < nv))

/-- The result slot of a point (R359). -/
def hkSlot (ch rail : Nat) : Nat := if ch = 31 then 31 + rail else ch

/-- The table word of entry `i`. -/
def State.hkEntry (s : State) (i : Nat) : Nat := s.fld (Fr.HK_TABLE i)

/-- A change of TDAC, TIME or MODE takes effect between conversions (R362, R363); entering native mode starts the table. -/
def State.hkBoundary (s : State) : State :=
  let s1 := s.modHk (fun h => { h with tdac := (s.reg 0x40010).toNat, time := s.fld Fr.HK_TIME })
  let m := s.fld Fr.HK_MODE
  if m = s.hk.mode then s1
  else
    let s2 := s1.modHk (fun h => { h with mode := m, rep := 0, delay := true })
    if m = 0 then s2.setFld Fr.HK_ENTRY 0 else s2

/-- VALUE of a result (R359): µV at the ball for HK_IN; else what the point's conversion gives, `value`. -/
def hkValue (ch code : Nat) (value : Int) : Nat :=
  if ch < 12 then (2 * code * 2500000 + 2 ^ 24) / 2 ^ 25 else unsigned 32 value

/-- An HK_LIMIT event (R364). -/
def State.hkEv (s : State) (cause ch rail code value limit : Nat) : State :=
  s.raise 0xB cause 0 ([hkSlot ch rail, ch, rail, 0] ++ le 4 code ++ le 4 value ++ le 4 limit)

/-- The limits of a slot at a result (R363, R364). -/
def State.hkLimits (s : State) (ch rail code value : Nat) (quiet : Bool) : State :=
  let k := hkSlot ch rail
  let lo := s.fld (Fr.HK_PT_LO k)
  let hi := s.fld (Fr.HK_PT_HI k)
  let hy := s.fld (Fr.HK_PT_HYST k)
  let wr := s.hk.written.contains k
  let ev (st : State) (cause limit : Nat) : State := if quiet then st else st.hkEv cause ch rail code value limit
  if !s.flag (Fr.HK_PT_LIM_EN k) then (s.setFld (Fr.HK_PT_STATE_LO k) 0).setFld (Fr.HK_PT_STATE_HI k) 0
  else
    let s1 :=
      if s.flag (Fr.HK_PT_STATE_LO k) then
        (if lo + hy ≤ code then
          let c := s.setFld (Fr.HK_PT_STATE_LO k) 0
          if wr then c else ev c 3 lo
        else s)
      else if code < lo then ev (s.setFld (Fr.HK_PT_STATE_LO k) 1) 1 lo else s
    if s1.flag (Fr.HK_PT_STATE_HI k) then
      (if code + hy ≤ hi then
        let c := s1.setFld (Fr.HK_PT_STATE_HI k) 0
        if wr then c else ev c 4 hi
      else s1)
    else if hi < code then ev (s1.setFld (Fr.HK_PT_STATE_HI k) 1) 2 hi else s1

/-- Store a result in the slot of a point. -/
def State.hkStore (s : State) (ch rail : Nat) (nv value : Int) : State :=
  let k := hkSlot ch rail
  let c := hkCode nv
  let v := hkValue ch c.1 value
  let test := bits s.hk.tdac 16 1 = 1 && k = Nat.min 11 (bits s.hk.tdac 12 4)
  let s1 := ((s.setFld (Fr.HK_PT_CODE k) c.1).setFld (Fr.HK_PT_OVR k) (b2n c.2)).setFld (Fr.HK_PT_TEST k) (b2n test)
  let s2 := ((s1.setFld (Fr.HK_PT_VALID k) 1).setFld (Fr.HK_PT_VALUE k) v).setFld (Fr.HK_PT_ST k) s.samp
  let s3 := (s2.incWrap (Fr.HK_PT_COUNT k)).hkLimits ch rail c.1 v test
  s3.modHk (fun h => { h with written := h.written.filter (· ≠ k) })

/-- Install a table: it starts at entry 0 with its first DELAY (R361). -/
def State.hkInstall (s : State) (t : List Nat) (job : Nat) : State :=
  let s1 := (List.range 64).foldl (fun (st : State) i => st.setFld (Fr.HK_TABLE i) (nth t i 0)) s
  let s2 := (((s1.setFld Fr.HK_NENT t.length).setFld Fr.HK_ENTRY 0).setFld Fr.HK_BUSY 0).modHk (fun h =>
    { h with rep := 0, delay := true, next := none, nextJob := 0, calDue := false })
  s2.complete job stDone 0 (4 * t.length)

/-- HK_ENTRY_DELAY_END (R360): an entry's DELAY runs out and its conversions start. -/
def execHkEntryDelayEnd (s : State) : Host.Outcome State Fault Refusal :=
  .next (
    let s1 := if s.flag Fr.HK_BUSY then s else s.hkBoundary
    if s.flag Fr.HK_RUNNING && s1.hk.mode = 0 && s.hk.delay && !s.flag Fr.HK_BUSY && !s.hk.calDue then
      (s1.setFld Fr.HK_BUSY 1).modHk (fun h => { h with delay := false })
    else s)

/-- HK_CONVERSION_DONE (R357 to R364): the conversion in progress ends at `nv` nanovolts; `value` is the point's VALUE
where it is no plain voltage at a ball. -/
def execHkConversionDone (nv value : Int) (s : State) : Host.Outcome State Fault Refusal :=
  .next (
    if !s.flag Fr.HK_RUNNING || !s.flag Fr.HK_BUSY then s
    else
      match s.hk.leg with
      | some p =>
        let s1 := s.hkStore p.1 p.2 nv value
        let c := hkCode nv
        let s2 := ((s1.setFld Fr.HK_LEG_CODE c.1).setFld Fr.HK_LEG_OVR (b2n c.2)).setFld Fr.HK_BUSY 0
        (((s2.setFld Fr.HK_LEG_BUSY 0).setFld Fr.HK_LEG_DONE 1).modHk (fun h => { h with leg := none })).hkBoundary
      | none =>
        let i := s.fld Fr.HK_ENTRY
        let e := s.hkEntry i
        let s1 := (s.hkStore (bits e 0 5) (bits e 5 3) nv value)
        match s.hk.next with
        | some t => (s1.hkInstall t s.hk.nextJob).hkBoundary
        | none =>
          let r := s.hk.rep + 1
          if s.fld Fr.HK_MODE ≠ s.hk.mode then (s1.setFld Fr.HK_BUSY 0).hkBoundary
          else if r < bits e 8 8 then (s1.modHk (fun h => { h with rep := r })).hkBoundary
          else
            let last := s.fld Fr.HK_NENT ≤ i + 1
            let s2 := (s1.setFld Fr.HK_BUSY 0).modHk (fun h => { h with rep := 0, delay := true, calDue := last })
            (if last then (s2.setFld Fr.HK_ENTRY 0).incWrap Fr.HK_PASSES else s2.setFld Fr.HK_ENTRY (i + 1)).hkBoundary)

/-- HK_SELF_CALIBRATION (R358): after a pass, or every 1 s in LK2 mode, the converter measures its zero and reference;
`ok` says the reference reads within 1 %. -/
def execHkSelfCalibration (ok : Bool) (s : State) : Host.Outcome State Fault Refusal :=
  .next (
    if !s.flag Fr.HK_RUNNING || s.flag Fr.HK_BUSY || !(s.hk.calDue || s.hk.mode = 1) then s
    else if ok then s.modHk (fun h => { h with calDue := false })
    else
      let s1 := ((s.setFld Fr.HK_REF_FAIL 1).setFld Fr.HK_FAULT 1).setFld Fr.HK_RUNNING 0
      let s2 := (List.range 39).foldl (fun (st : State) k => st.setFld (Fr.HK_PT_VALID k) 0) s1
      (s2.modHk (fun h => { h with calDue := false })).fault 0xD 0 none false s.samp 0 0 (fun _ => false))

/-- GO (R362): a write to HK.LEG_CTL; with GO it converts the named point, or is discarded. -/
def execHkGo (value : Nat) (s : State) : Host.Outcome State Fault Refusal :=
  .next (
    let s1 := (s.setFld Fr.HK_LEG_CHANNEL (bits value 0 5)).setFld Fr.HK_LEG_RAIL (bits value 5 3)
    if !bit value 8 then s1
    else
      let s2 := if s1.flag Fr.HK_BUSY then s1 else s1.hkBoundary
      let bad := s.flag Fr.HK_LEG_BUSY || s2.hk.mode = 0 || s2.fld Fr.HK_MODE = 0 || bits value 0 5 ≠ 31 && bits value 5 3 ≠ 0
      if bad then s1.setFld Fr.HK_LEG_DISCARD 1
      else if !s.flag Fr.HK_RUNNING then s1
      else ((s2.setFld Fr.HK_LEG_BUSY 1).setFld Fr.HK_BUSY 1).modHk (fun h => { h with leg := some (bits value 0 5, bits value 5 3) }))

/-! ## HK_TABLE (R361) -/

def hkTableFmt (_s : State) (d : Desc) : Option Refuse :=
  let n := nth d.p 0 0
  let t := wordsOf n (padTo (4 * n) d.data)
  let lost := d.hostErr.any (fun e => e < 4 * n)
  firstRefusal [
    check (n = 0 || 64 < n) (refuseFormat 0),
    check (nth d.p 1 0 % 4 ≠ 0) (refuseFormat 1),
    check (!lost && t.any (fun e => bits e 8 8 = 0 || bits e 5 3 ≠ 0 && bits e 0 5 ≠ 31)) (refuseFormat 0xFF)]

def hkTableState (s : State) (_d : Desc) : Option Refuse := check (s.flag Fr.HK_MODE) refuseState

/-- The table waits for the conversion in progress, or starts at once. -/
def hkTableApply (s : State) (d : Desc) (job : Nat) : State :=
  let n := nth d.p 0 0
  match hostRead d (4 * n) with
  | .inr e => s.complete job stErrBus 0 e
  | .inl bs =>
    let t := wordsOf n bs
    if s.flag Fr.HK_BUSY then
      let s1 := if s.hk.nextJob = 0 then s else s.complete s.hk.nextJob stDone 0 (4 * ((s.hk.next.map (·.length)).getD 0))
      s1.modHk (fun h => { h with next := some t, nextJob := job })
    else s.hkInstall t job

end Sys2Proof.Machine
end

