-- ==== Sys2Proof/Machine/Window.lean ====
section
/-! DEFINITION. The slice window of a core: mask shadows, messages, posts, DMA requests, time (R189, R198 to R201). -/

namespace Sys2Proof.Machine

/-- Does core `c` own the masks of trigger `m` (R130)? -/
def State.maskOwner (s : State) (n m c : Nat) : Bool :=
  s.inf (Fr.TRG_OWNER n m) = 1 && s.inf (Fr.TRG_OWNER_CORE n m) = c

/-- The table of trigger `m` that is not in force: the mask shadow. -/
def State.shadowTab (s : State) (n m : Nat) : Nat := 2 * m + (1 - s.fld (Fr.TRG_TABLE_NOW n m))

/-- The words of a table memory, breakpoints in use first. -/
def State.tabWords (s : State) (n t : Nat) : List Nat := nth (s.slice n).masks t [] ++ nth (s.slice n).maskRest t []

/-- Store the words of a table memory with `count` breakpoints in use. -/
def State.setTab (s : State) (n t count : Nat) (w : List Nat) : State :=
  let w1 := w ++ zeros (count - w.length)
  s.modSlice n (fun x =>
    { x with masks := modNth x.masks t (fun _ => w1.take count), maskRest := modNth x.maskRest t (fun _ => w1.drop count) })

/-- Sample time of the latest beat boundary of the slice's input slot. -/
def State.coreTime (s : State) (n : Nat) : Nat :=
  let i := s.sliceInput n
  if i < 8 then (s.slot i).next - 16 * s.slotDiv i else s.samp

/-- The word of a 16-byte-wide little-endian byte list: bytes 2k and 2k + 1. -/
def word16 (l : List Nat) (k : Nat) : Nat := nth l (2 * k) 0 % 256 + 256 * (nth l (2 * k + 1) 0 % 256)

/-- What a window read gives: the word, and the state after it; none where the word is unassigned (R188). -/
def State.winRead (s : State) (n c a : Nat) : Option (Nat × State) :=
  let k := s.core n c
  let plain (v : Nat) : Option (Nat × State) := some (v % 65536, s)
  let opened : Option (Nat × State) := some (s.free % 65536, s.useFree)
  if a < 0xC000 then
    let m := if a < 0xA000 then 0 else 1
    let i := (a - 0x8000) % 0x2000
    plain (bits (nth (s.tabWords n (s.shadowTab n m)) (i / 2) 0) (16 * (i % 2)) 16)
  else if a = 0xC000 || a = 0xC002 then
    plain (nth (s.slice n).masks (s.shadowTab n ((a - 0xC000) / 2)) []).length
  else if a = 0xC001 || a = 0xC003 then plain (s.fld (Fr.TRG_SWAP_PENDING n ((a - 0xC000) / 2)))
  else if 0xC010 ≤ a && a < 0xC020 then
    match k.msgs with
    | m :: _ => plain (word16 m.bytes (a - 0xC010))
    | [] => opened
  else if a = 0xC020 then
    let s1 := s.modCore n c (fun x => { x with lost := false })
    match k.msgs with
    | m :: _ => some (k.msgs.length + 32 * m.src + 256 * m.from_ + 32768 * b2n k.lost, s1)
    | [] => some (32 * (s.free % 4) + 256 * (s.free / 4 % 16) + 32768 * b2n k.lost, s1.useFree)
  else if a = 0xC021 || a = 0xC065 then opened
  else if a = 0xC022 then plain k.notify
  else if 0xC030 ≤ a && a < 0xC040 then plain (nth k.sendData (a - 0xC030) 0)
  else if a = 0xC040 then plain (b2n k.sendFull)
  else if 0xC050 ≤ a && a < 0xC05C then plain (nth k.evData (a - 0xC050) 0)
  else if a = 0xC05C then plain (b2n k.postDenied)
  else if 0xC060 ≤ a && a < 0xC063 then plain (nth k.dmaHbm (a - 0xC060) 0)
  else if a = 0xC063 then plain k.dmaLocal
  else if a = 0xC064 then plain k.dmaLen
  else if 0xC068 ≤ a && a < 0xC070 then plain (nth k.tags (a - 0xC068) 0)
  else if a = 0xC080 then
    let t := s.coreTime n
    some (t % 65536, s.modCore n c (fun x => { x with timeLatch := [bits t 16 16, bits t 32 16, bits t 48 16] }))
  else if 0xC081 ≤ a && a < 0xC084 then plain (nth k.timeLatch (a - 0xC081) 0)
  else if a = 0xC084 then plain (c + 16 * n + 256 * (s.slice n).phys)
  else if a = 0xC085 then plain (s.fld (Fr.CORE_BUDGET n c))
  else none

/-- What a window write does: it traps, stalls, or takes effect. -/
inductive WinRes where
  | trap
  | stall (cause : Nat)
  | done (s : State)
  deriving DecidableEq, Repr

/-- The refusals of a DMA request (R200, R296): alignment, length, local range, HBM range. -/
def State.coreDmaBad (s : State) (n c : Nat) (toHbm : Bool) (hbm local_ len : Nat) : Bool :=
  let m := 2 ^ 20
  let inside (b l : Nat) : Bool := b ≤ hbm && hbm + len ≤ b + l
  let k := s.core n c
  let scratch := inside (k.scrBase * m) (k.scrSize * m)
  hbm % 16 ≠ 0 || len = 0 || 32768 < len || 0x8000 < local_ + len / 2
  || (if toHbm then !scratch
      else !(scratch || inside 0 s.ringBytes || inside s.sysBase mapBytes || inside (s.inf (Fr.HIST_BASE_MIB n) * m) (s.inf (Fr.HIST_SIZE_MIB n) * m)
        || (List.range 4).any (fun t => inside (s.inf (Fr.DDC_RING_BASE_MIB n t) * m) (s.inf (Fr.DDC_RING_SIZE_MIB n t) * m))))

/-- A write to DMA_GO (R200): refused, issued on the slice's channel, or stalled while two requests are outstanding. -/
def State.coreDmaGo (s : State) (n c v : Nat) : WinRes :=
  let k := s.core n c
  let tag := bits v 1 3
  let toHbm := bit v 0
  let hbm := nth k.dmaHbm 0 0 + 65536 * nth k.dmaHbm 1 0 + 2 ^ 32 * (nth k.dmaHbm 2 0 % 16)
  let len := 16 * k.dmaLen
  let mark (t : Nat) (st : State) : State := st.modCore n c (fun x => { x with dmaGo := v, tags := modNth x.tags tag (fun _ => t) })
  if 2 ≤ k.dmaOut then .stall 10
  else if nth k.tags tag 0 = 1 || s.coreDmaBad n c toHbm hbm k.dmaLocal len then .done (mark 3 s)
  else
    let x : Xfer := ⟨.core n c tag, if toHbm then spCore else spHbm, if toHbm then spHbm else spCore, 0, 2, 0, false, false,
      false, len, if toHbm then k.dmaLocal else hbm, if toHbm then hbm else k.dmaLocal,
      s.gapOf 2 (k.dmaRate * 1000000), [], 0, [], [], 0, 0, [], none, false⟩
    let s1 := (mark 1 s).modCore n c (fun y => { y with dmaOut := y.dmaOut + 1 })
    .done ((s1.setFld (Fr.CORE_DMA_OUT n c) (k.dmaOut + 1)).enqueue (s.slice n).phys x)

/-- A write to POST (R201): within the reserved rate it posts a CORE event of the cause written; otherwise it reads
DENIED. A value that is no cause code of POST posts nothing. -/
def State.corePost (s : State) (n c v : Nat) : State :=
  let k := s.core n c
  let recent := k.posts.filter (fun t => s.samp < t + s.samplesOfNs (10 ^ 9))
  if 0x80 ≤ v && v ≤ 0xFF && recent.length < s.fld (Fr.CORE_EV_RATE n c) then
    let s1 := s.modCore n c (fun x => { x with posts := s.samp :: recent, postDenied := false })
    let pay := [n + 16 * (s.slice n).phys, c] ++ zeros 6 ++ k.evData.flatMap (le 2)
    s1.raiseAt 0xD v (s.coreFunc n c) (s.coreTime n) pay
  else
    let s1 := s.modCore n c (fun x => { x with postDenied := true })
    if 0x80 ≤ v && v ≤ 0xFF then s1.incSat (Fr.CORE_DENIED n c) else s1

/-- A write to SEND (R199): the 32 bytes of SEND_DATA are queued to another core of the slice, unless its queue is full. -/
def State.coreSend (s : State) (n c v : Nat) : State :=
  let k := s.core n c
  let full := 16 ≤ (s.core n (v % 16)).msgs.length
  let s1 := s.modCore n c (fun x => { x with sendFull := full })
  if full then s1 else s1.queueMsg n (v % 16) ⟨2, c, k.sendData.flatMap (le 2)⟩

/-- A window write (Table 9.3). -/
def State.winWrite (s : State) (n c a v : Nat) : WinRes :=
  let modk (f : Core → Core) : WinRes := .done (s.modCore n c f)
  if a < 0xC000 || a = 0xC000 || a = 0xC002 then
    let m := if a < 0xC000 then (if a < 0xA000 then 0 else 1) else (a - 0xC000) / 2
    let t := s.shadowTab n m
    if !s.maskOwner n m c then .trap
    else if (s.trg n m).swapReq then .stall 8
    else if a < 0xC000 then
      let i := (a - 0x8000) % 0x2000
      let w := s.tabWords n t
      let w1 := w ++ zeros (i / 2 + 1 - w.length)
      .done (s.setTab n t (nth (s.slice n).masks t []).length (modNth w1 (i / 2) (fun x => setBits x (16 * (i % 2)) 16 v)))
    else .done (s.setTab n t v (s.tabWords n t))
  else if a = 0xC001 || a = 0xC003 then
    let m := (a - 0xC000) / 2
    if !s.maskOwner n m c then .trap
    else if v = 1 then .done ((s.modTrg n m (fun x => { x with swapReq := true })).setFld (Fr.TRG_SWAP_PENDING n m) 1)
    else .done s
  else if a = 0xC021 then
    let rest := (s.core n c).msgs.drop 1
    .done ((s.modCore n c (fun x => { x with msgs := rest })).setFld (Fr.CORE_DEPTH n c) rest.length)
  else if a = 0xC022 then modk (fun x => { x with notify := v })
  else if 0xC030 ≤ a && a < 0xC040 then modk (fun x => { x with sendData := modNth x.sendData (a - 0xC030) (fun _ => v) })
  else if a = 0xC040 then .done (s.coreSend n c v)
  else if 0xC050 ≤ a && a < 0xC05C then modk (fun x => { x with evData := modNth x.evData (a - 0xC050) (fun _ => v) })
  else if a = 0xC05C then .done (s.corePost n c v)
  else if 0xC060 ≤ a && a < 0xC063 then modk (fun x => { x with dmaHbm := modNth x.dmaHbm (a - 0xC060) (fun _ => v) })
  else if a = 0xC063 then modk (fun x => { x with dmaLocal := v })
  else if a = 0xC064 then modk (fun x => { x with dmaLen := v })
  else if a = 0xC065 then s.coreDmaGo n c v
  else .trap

/-- A data read of a core: data memory, or the window with the cycles it stalls (R189). -/
structure DataRead where
  v : Nat
  s : State
  cost : List (Nat × Nat)
  deriving DecidableEq, Repr

/-- Read a data word; none where the access traps. -/
def State.dataRead (s : State) (n c a : Nat) : Option DataRead :=
  if a < 0x8000 then some ⟨dmGet (s.core n c).dm a, s, []⟩
  else
    match s.winRead n c a with
    | none => none
    | some (v, s1) => some ⟨v, s1.useFree, [(2, 8 + s1.free % 33)]⟩

end Sys2Proof.Machine
end

