-- ==== Sys2Proof/Machine/Cores.lean ====
section
/-! DEFINITION. The core instructions (R190 to R197), the window operations a STORE makes, the tick, the jobs CORE_LOAD and
CORE_RUN (R202 to R206). -/

namespace Sys2Proof.Machine

/-! ## F0: multiply-accumulate with two loads (R190, R195) -/

/-- The loads of an F0 instruction: the X load, then the Y load, each post-modifying its pointer by M; a register both
load takes a value the spec leaves open. -/
structure F0Loads where
  s : State
  dx : Option Nat
  dy : Option Nat
  cost : List (Nat × Nat)
  deriving DecidableEq, Repr

/-- Which bank of data memory an address lies in; none for the window. -/
def bankOf (a : Nat) : Option Nat := if a < 0x4000 then some 0 else if a < 0x8000 then some 1 else none

/-- The reads of an F0 instruction; none where one traps. -/
def State.f0Reads (s : State) (n c : Nat) (x : F0) : Option F0Loads :=
  let k := s.core n c
  let ax := k.file 1 x.px
  let ay := k.file 1 x.py
  let rx : Option F0Loads :=
    if x.lx = 1 then (s.dataRead n c ax).map (fun r => ⟨r.s, some r.v, none, r.cost ++ k.ptrStall x.px⟩)
    else some ⟨s, none, none, []⟩
  rx.bind (fun l =>
    if x.ly = 1 then
      (l.s.dataRead n c ay).map (fun r =>
        ⟨r.s, l.dx, some r.v, l.cost ++ r.cost ++ (if x.lx = 1 && x.px = x.py then [] else k.ptrStall x.py)
          ++ (if x.lx = 1 && (bankOf ax).isSome && bankOf ax = bankOf ay then [(1, 1)] else [])⟩)
    else some l)

/-- An F0 instruction: the accumulator operation on the old registers, then the loads, then the post-modifies. -/
def State.f0 (s : State) (n c : Nat) (i : Instr) (x : F0) (op : Option (Int → Int → Int)) (reads : Bool) : State :=
  if s.coreReady n c i then
    match s.f0Reads n c x with
    | none => s.coreTrap n c trapWindow ((s.core n c).pc + 1)
    | some l =>
      let k := l.s.core n c
      let prod := k.dInt x.sa * k.dInt x.sb
      let ka := match op with
        | none => (k, false)
        | some f => k.putAcc x.acc (f (k.acc x.acc) prod)
      let both := l.dx.isSome && l.dy.isSome && x.dx = x.dy
      let k1 := match l.dx with | some v => ka.1.setD x.dx v | none => ka.1
      let k2 := match l.dy with | some v => k1.setD x.dy (if both then l.s.free else v) | none => k1
      let k3 := if x.lx = 1 && x.modx = 1 then k2.postMod x.px (signed 16 (k.file 2 x.px)) else k2
      let k4 := if x.ly = 1 && x.mody = 1 then k3.postMod x.py (signed 16 (k.file 2 x.py)) else k3
      let s1 := if both then l.s.useFree else l.s
      s1.coreRetire n c ⟨k4, none, l.cost ++ (if reads then k.accStall x.acc else []), b2n ka.2,
        (if op.isSome then 2 ^ x.acc else 0), 0⟩
  else s

/-- F0 with MOP 0 (R195): the loads alone. -/
def execParallelLoad (n c : Nat) (x : F0) (s : State) : Host.Outcome State Fault Refusal :=
  .next (s.f0 n c (.parallelLoad n c x) x none false)

/-- MAC (R190): A := A + SA × SB. -/
def execMac (n c : Nat) (x : F0) (s : State) : Host.Outcome State Fault Refusal :=
  .next (s.f0 n c (.mac n c x) x (some (fun a p => a + p)) true)

/-- MSU (R190): A := A − SA × SB. -/
def execMsu (n c : Nat) (x : F0) (s : State) : Host.Outcome State Fault Refusal :=
  .next (s.f0 n c (.msu n c x) x (some (fun a p => a - p)) true)

/-- MPY (R190): A := SA × SB. -/
def execMpy (n c : Nat) (x : F0) (s : State) : Host.Outcome State Fault Refusal :=
  .next (s.f0 n c (.mpy n c x) x (some (fun _ p => p)) false)

/-! ## F1: registers (R196) -/

/-- D_DST := a result, with Z and N; C and V kept. -/
def Core.putZN (k : Core) (dst v : Nat) : Core := (k.setD dst v).flagsZN v

/-- A sum as F sets it: C the carry, V the signed overflow; saturating to 16 bits where `satOn`. -/
def Core.addF (k : Core) (dst : Option Nat) (a b : Nat) (satOn : Bool) : Core :=
  let x := signed 16 a + signed 16 b
  let r := unsigned 16 (if satOn then sat 16 x else x)
  let k1 := match dst with | some i => k.setD i r | none => k
  k1.flags r (65536 ≤ a + b) (ovf16 x)

/-- A difference as F sets it: C no borrow. -/
def Core.subF (k : Core) (dst : Option Nat) (a b : Nat) (satOn : Bool) : Core :=
  let x := signed 16 a - signed 16 b
  let r := unsigned 16 (if satOn then sat 16 x else x)
  let k1 := match dst with | some i => k.setD i r | none => k
  k1.flags r (b ≤ a) (ovf16 x)

/-- An effect on registers alone. -/
def fxOf (k : Core) : Fx := { k := k }

/-- A pointer written: the next instruction that addresses through it stalls (R197). -/
def fxFile (k : Core) (f i : Nat) : Fx := { k := k, pHot := if f = 1 then 2 ^ i else 0 }

/-- The result of an accumulator operation. -/
def fxAcc (r : Core × Bool) (cost : List (Nat × Nat)) : Fx := { k := r.1, cost := cost, aov := b2n r.2 }

/-- ADD (R196): D_DST := D_SA + D_SB; F. -/
def execAdd (n c : Nat) (x : F1) (s : State) : Host.Outcome State Fault Refusal :=
  .next (s.coreDo n c (.add n c x) (fun k => fxOf (k.addF (some x.dst) (k.dReg x.sa) (k.dReg x.sb) false)))

/-- SUB (R196): D_DST := D_SA − D_SB; F. -/
def execSub (n c : Nat) (x : F1) (s : State) : Host.Outcome State Fault Refusal :=
  .next (s.coreDo n c (.sub n c x) (fun k => fxOf (k.subF (some x.dst) (k.dReg x.sa) (k.dReg x.sb) false)))

/-- ADDS (R196): ADD saturating to 16 bits; F. -/
def execAdds (n c : Nat) (x : F1) (s : State) : Host.Outcome State Fault Refusal :=
  .next (s.coreDo n c (.adds n c x) (fun k => fxOf (k.addF (some x.dst) (k.dReg x.sa) (k.dReg x.sb) true)))

/-- SUBS (R196): SUB saturating to 16 bits; F. -/
def execSubs (n c : Nat) (x : F1) (s : State) : Host.Outcome State Fault Refusal :=
  .next (s.coreDo n c (.subs n c x) (fun k => fxOf (k.subF (some x.dst) (k.dReg x.sa) (k.dReg x.sb) true)))

/-- AND (R196): bitwise; F. -/
def execAnd (n c : Nat) (x : F1) (s : State) : Host.Outcome State Fault Refusal :=
  .next (s.coreDo n c (.and n c x) (fun k => fxOf (k.putZN x.dst (Nat.land (k.dReg x.sa) (k.dReg x.sb)))))

/-- OR (R196): bitwise; F. -/
def execOr (n c : Nat) (x : F1) (s : State) : Host.Outcome State Fault Refusal :=
  .next (s.coreDo n c (.or n c x) (fun k => fxOf (k.putZN x.dst (Nat.lor (k.dReg x.sa) (k.dReg x.sb)))))

/-- XOR (R196): bitwise; F. -/
def execXor (n c : Nat) (x : F1) (s : State) : Host.Outcome State Fault Refusal :=
  .next (s.coreDo n c (.xor n c x) (fun k => fxOf (k.putZN x.dst (Nat.xor (k.dReg x.sa) (k.dReg x.sb)))))

/-- NOT (R196): bitwise, SA only; F. -/
def execNot (n c : Nat) (x : F1) (s : State) : Host.Outcome State Fault Refusal :=
  .next (s.coreDo n c (.not n c x) (fun k => fxOf (k.putZN x.dst (65535 - k.dReg x.sa))))

/-- SHL (R196): logical shift left by SH; F. -/
def execShl (n c : Nat) (x : F1) (s : State) : Host.Outcome State Fault Refusal :=
  .next (s.coreDo n c (.shl n c x) (fun k => fxOf (k.putZN x.dst (k.dReg x.sa * 2 ^ x.sh % 65536))))

/-- SHR (R196): logical shift right by SH; F. -/
def execShr (n c : Nat) (x : F1) (s : State) : Host.Outcome State Fault Refusal :=
  .next (s.coreDo n c (.shr n c x) (fun k => fxOf (k.putZN x.dst (k.dReg x.sa / 2 ^ x.sh))))

/-- ASR (R192, R196): arithmetic right shift by SH, rounded or truncated; F. -/
def execAsr (n c : Nat) (x : F1) (s : State) : Host.Outcome State Fault Refusal :=
  .next (s.coreDo n c (.asr n c x) (fun k => fxOf (k.putZN x.dst (unsigned 16 (shiftRound (k.dInt x.sa) x.sh x.t)))))

/-- MIN (R196): the signed minimum; F. -/
def execMin (n c : Nat) (x : F1) (s : State) : Host.Outcome State Fault Refusal :=
  .next (s.coreDo n c (.min n c x) (fun k => fxOf (k.putZN x.dst (if k.dInt x.sa ≤ k.dInt x.sb then k.dReg x.sa else k.dReg x.sb))))

/-- MAX (R196): the signed maximum; F. -/
def execMax (n c : Nat) (x : F1) (s : State) : Host.Outcome State Fault Refusal :=
  .next (s.coreDo n c (.max n c x) (fun k => fxOf (k.putZN x.dst (if k.dInt x.sa ≤ k.dInt x.sb then k.dReg x.sb else k.dReg x.sa))))

/-- ABS (R196): the absolute value, saturating; F. -/
def execAbs (n c : Nat) (x : F1) (s : State) : Host.Outcome State Fault Refusal :=
  .next (s.coreDo n c (.abs n c x) (fun k => fxOf (k.putZN x.dst (unsigned 16 (sat 16 (k.dInt x.sa).natAbs)))))

/-- NEG (R196): 0 − D_SA, saturating; F. -/
def execNeg (n c : Nat) (x : F1) (s : State) : Host.Outcome State Fault Refusal :=
  .next (s.coreDo n c (.neg n c x) (fun k => fxOf (k.subF (some x.dst) 0 (k.dReg x.sa) true)))

/-- CMP (R196): F from D_SA − D_SB, no result. -/
def execCmp (n c : Nat) (x : F1) (s : State) : Host.Outcome State Fault Refusal :=
  .next (s.coreDo n c (.cmp n c x) (fun k => fxOf (k.subF none (k.dReg x.sa) (k.dReg x.sb) false)))

/-- MOV (R196): D_DST := D_SA. -/
def execMov (n c : Nat) (x : F1) (s : State) : Host.Outcome State Fault Refusal :=
  .next (s.coreDo n c (.mov n c x) (fun k => fxOf (k.setD x.dst (k.dReg x.sa))))

/-- EXT (R192): the accumulator narrowed by SH into D_DST, saturating with ESAT. -/
def execExt (n c : Nat) (x : F1) (s : State) : Host.Outcome State Fault Refusal :=
  .next (s.coreDo n c (.ext n c x) (fun k => 
    let v := shiftRound (k.acc (x.sa % 2)) x.sh x.t
    let k1 := k.setD x.dst (unsigned 16 (sat 16 v))
    { k := if leaves 16 v then { k1 with sr := setBits k1.sr 6 1 1 } else k1, cost := k.accStall (x.sa % 2) }))

/-- ACLR (R196): A_DST := 0. -/
def execAclr (n c : Nat) (x : F1) (s : State) : Host.Outcome State Fault Refusal :=
  .next (s.coreDo n c (.aclr n c x) (fun k => fxOf (k.setAcc (x.dst % 2) 0)))

/-- ALD (R196): A_DST := sign-extended D_SA:D_SB. -/
def execAld (n c : Nat) (x : F1) (s : State) : Host.Outcome State Fault Refusal :=
  .next (s.coreDo n c (.ald n c x) (fun k => fxOf (k.setAcc (x.dst % 2) (k.dInt x.sa * 65536 + (k.dReg x.sb : Nat)))))

/-- AADD (R191, R196): A_DST := A_DST + the other accumulator. -/
def execAadd (n c : Nat) (x : F1) (s : State) : Host.Outcome State Fault Refusal :=
  .next (s.coreDo n c (.aadd n c x) (fun k => fxAcc (k.putAcc (x.dst % 2) (k.acc (x.dst % 2) + k.acc (1 - x.dst % 2))) (k.accStall 0 ++ k.accStall 1)))

/-- ASUB (R191, R196): A_DST := A_DST − the other accumulator. -/
def execAsub (n c : Nat) (x : F1) (s : State) : Host.Outcome State Fault Refusal :=
  .next (s.coreDo n c (.asub n c x) (fun k => fxAcc (k.putAcc (x.dst % 2) (k.acc (x.dst % 2) - k.acc (1 - x.dst % 2))) (k.accStall 0 ++ k.accStall 1)))

/-- ASHL (R191, R196): A_DST := A_DST × 2^SH. -/
def execAshl (n c : Nat) (x : F1) (s : State) : Host.Outcome State Fault Refusal :=
  .next (s.coreDo n c (.ashl n c x) (fun k => fxAcc (k.putAcc (x.dst % 2) (k.acc (x.dst % 2) * 2 ^ x.sh)) (k.accStall (x.dst % 2))))

/-- AASR (R192, R196): A_DST shifted right by SH. -/
def execAasr (n c : Nat) (x : F1) (s : State) : Host.Outcome State Fault Refusal :=
  .next (s.coreDo n c (.aasr n c x) (fun k => { k := k.setAcc (x.dst % 2) (shiftRound (k.acc (x.dst % 2)) x.sh x.t), cost := k.accStall (x.dst % 2) }))

/-- AGET (R196): bits [15:0], [31:16] or [39:32] sign-extended of A_SA, for SH = 0, 1 or 2. -/
def execAget (n c : Nat) (x : F1) (s : State) : Host.Outcome State Fault Refusal :=
  .next (s.coreDo n c (.aget n c x) (fun k => 
    let a := unsigned 40 (k.acc (x.sa % 2))
    let v := if x.sh = 2 then unsigned 16 (signed 8 (bits a 32 8)) else bits a (16 * x.sh) 16
    { k := k.setD x.dst v, cost := k.accStall (x.sa % 2) }))

/-- MVX (R196): register DST of file SH[5:3] := register SA of file SH[2:0]. -/
def execMvx (n c : Nat) (x : F1) (s : State) : Host.Outcome State Fault Refusal :=
  .next (s.coreDo n c (.mvx n c x) (fun k => fxFile (k.setFile (x.sh / 8) x.dst (k.file (x.sh % 8) x.sa)) (x.sh / 8) x.dst))

/-! ## F2: immediates (R196) -/

/-- LDI (R196): the register IDX of FILE := IMM. -/
def execLdi (n c : Nat) (x : F2) (s : State) : Host.Outcome State Fault Refusal :=
  .next (s.coreDo n c (.ldi n c x) (fun k => fxFile (k.setFile x.file x.idx x.imm) x.file x.idx))

/-- ADDI (R196): the register + IMM, wrapping; flags for D registers. -/
def execAddi (n c : Nat) (x : F2) (s : State) : Host.Outcome State Fault Refusal :=
  .next (s.coreDo n c (.addi n c x) (fun k => 
    if x.file = 0 then fxOf (k.addF (some x.idx) (k.dReg x.idx) x.imm false)
    else fxFile (k.setFile x.file x.idx (k.file x.file x.idx + x.imm)) x.file x.idx))

/-- ANDI (R196): D AND IMM; F. -/
def execAndi (n c : Nat) (x : F2) (s : State) : Host.Outcome State Fault Refusal :=
  .next (s.coreDo n c (.andi n c x) (fun k => fxOf (k.putZN x.idx (Nat.land (k.dReg x.idx) x.imm))))

/-- ORI (R196): D OR IMM; F. -/
def execOri (n c : Nat) (x : F2) (s : State) : Host.Outcome State Fault Refusal :=
  .next (s.coreDo n c (.ori n c x) (fun k => fxOf (k.putZN x.idx (Nat.lor (k.dReg x.idx) x.imm))))

/-- CMPI (R196): F from D − IMM, no result. -/
def execCmpi (n c : Nat) (x : F2) (s : State) : Host.Outcome State Fault Refusal :=
  .next (s.coreDo n c (.cmpi n c x) (fun k => fxOf (k.subF none (k.dReg x.idx) x.imm false)))

/-! ## F3: load and store (R193, R195) -/

/-- The address of an F3 instruction: P + OFS, or P with the post-modify (PM = 1). -/
def Core.f3Addr (k : Core) (x : F3) : Nat :=
  if x.pm = 1 then k.file 1 x.p else unsigned 16 ((k.file 1 x.p : Nat) + signed 16 x.ofs)

/-- The pointer after an F3 instruction. -/
def Core.f3Post (k : Core) (x : F3) : Core := if x.pm = 1 then k.postMod x.p (signed 16 x.ofs) else k

/-- LOAD (R195): a data or window word into a D register. -/
def execLoad (n c : Nat) (x : F3) (s : State) : Host.Outcome State Fault Refusal :=
  .next (
    if s.coreReady n c (.load n c x) then
      let k0 := s.core n c
      match s.dataRead n c (k0.f3Addr x) with
      | none => s.coreTrap n c trapWindow (k0.pc + 1)
      | some r =>
        let k := r.s.core n c
        r.s.coreRetire n c { k := (k.setD x.d r.v).f3Post x, cost := r.cost ++ k.ptrStall x.p }
    else s)

/-- The effect of a STORE that the core is ready for. -/
def State.coreStore (s : State) (n c : Nat) (x : F3) : State :=
  let k := s.core n c
  let a := k.f3Addr x
  let v := k.dReg x.d
  if a < 0x8000 then
    s.coreRetire n c { k := { (k.f3Post x) with dm := dmPut k.dm a v }, cost := k.ptrStall x.p }
  else
    match s.winWrite n c a v with
    | .trap => s.coreTrap n c trapWindow (k.pc + 1)
    | .stall cause => s.coreStall n c cause
    | .done s1 => s1.coreRetire n c { k := (s1.core n c).f3Post x, cost := k.ptrStall x.p }

/-- STORE (R195): a D register to a data or window word. -/
def execStore (n c : Nat) (x : F3) (s : State) : Host.Outcome State Fault Refusal :=
  .next (if s.coreReady n c (.store n c x) then s.coreStore n c x else s)

/-- The STORE a core is ready for, when it writes a window word that `p` holds of. -/
def State.coreWindow (s : State) (n c : Nat) (p : Nat → Bool) : State :=
  match decodeCore n c (nth (s.core n c).im (s.core n c).pc 0) with
  | some (.store n' c' x) =>
    if n' = n && c' = c && s.coreReady n c (.store n c x) && p ((s.core n c).f3Addr x) then s.coreStore n c x else s
  | _ => s

/-- CORE_MASK_SWAP (R131, R198): the core's next instruction writes MSWAP. -/
def execCoreMaskSwap (n c : Nat) (s : State) : Host.Outcome State Fault Refusal :=
  .next (s.coreWindow n c (fun a => a = 0xC001 || a = 0xC003))

/-- CORE_SEND (R199): the core's next instruction writes SEND. -/
def execCoreSend (n c : Nat) (s : State) : Host.Outcome State Fault Refusal := .next (s.coreWindow n c (fun a => a = 0xC040))

/-- CORE_POST (R201): the core's next instruction writes POST. -/
def execCorePost (n c : Nat) (s : State) : Host.Outcome State Fault Refusal := .next (s.coreWindow n c (fun a => a = 0xC05C))

/-- CORE_DMA_GO (R200): the core's next instruction writes DMA_GO. -/
def execCoreDmaGo (n c : Nat) (s : State) : Host.Outcome State Fault Refusal := .next (s.coreWindow n c (fun a => a = 0xC065))

/-- CORE_MSG_POP (R189): the core's next instruction writes MSG_POP. -/
def execCoreMsgPop (n c : Nat) (s : State) : Host.Outcome State Fault Refusal := .next (s.coreWindow n c (fun a => a = 0xC021))

/-! ## F4: flow (R196) -/

/-- The cost of a branch taken, CALL or RET. -/
def flowCost : List (Nat × Nat) := [(5, 1)]

/-- A branch: taken to TARGET, or the next instruction. -/
def branchFx (taken : Bool) (x : F4) (k : Core) : Fx :=
  if taken then { k := k.branch x.target, jump := some x.target, cost := flowCost } else { k := k }

/-- BR (R196): branch to TARGET. -/
def execBr (n c : Nat) (x : F4) (s : State) : Host.Outcome State Fault Refusal :=
  .next (s.coreDo n c (.br n c x) (branchFx true x))

/-- BEQ (R196): branch where Z. -/
def execBeq (n c : Nat) (x : F4) (s : State) : Host.Outcome State Fault Refusal :=
  .next (s.coreDo n c (.beq n c x) (fun k => branchFx (bit k.sr 0) x k))

/-- BNE (R196): branch where not Z. -/
def execBne (n c : Nat) (x : F4) (s : State) : Host.Outcome State Fault Refusal :=
  .next (s.coreDo n c (.bne n c x) (fun k => branchFx (!bit k.sr 0) x k))

/-- BLT (R196): branch where N ≠ V. -/
def execBlt (n c : Nat) (x : F4) (s : State) : Host.Outcome State Fault Refusal :=
  .next (s.coreDo n c (.blt n c x) (fun k => branchFx (bit k.sr 1 != bit k.sr 3) x k))

/-- BGE (R196): branch where N = V. -/
def execBge (n c : Nat) (x : F4) (s : State) : Host.Outcome State Fault Refusal :=
  .next (s.coreDo n c (.bge n c x) (fun k => branchFx (bit k.sr 1 == bit k.sr 3) x k))

/-- CALL (R196): push PC + 1 and jump; a ninth traps STACK. -/
def execCall (n c : Nat) (x : F4) (s : State) : Host.Outcome State Fault Refusal :=
  .next (
    if s.coreReady n c (.call n c x) then
      let k := s.core n c
      if 8 ≤ k.ret.length then s.coreTrap n c trapStack (k.pc + 1)
      else s.coreRetire n c { k := { k with ret := (k.pc + 1) % 8192 :: k.ret }, jump := some x.target, cost := flowCost }
    else s)

/-- RET (R196): pop the return address and jump to it; an empty stack traps STACK. -/
def execRet (n c : Nat) (x : F4) (s : State) : Host.Outcome State Fault Refusal :=
  .next (
    if s.coreReady n c (.ret n c x) then
      let k := s.core n c
      match k.ret with
      | [] => s.coreTrap n c trapStack (k.pc + 1)
      | a :: t => s.coreRetire n c { k := { k with ret := t }, jump := some a, cost := flowCost }
    else s)

/-- LOOP (R196): repeat PC + 1 to END, COUNT times; 0 skips; END at or before PC traps ILLEGAL; a fifth level traps
LOOP. -/
def execLoop (n c : Nat) (x : F4) (s : State) : Host.Outcome State Fault Refusal :=
  .next (
    if s.coreReady n c (.loop n c x) then
      let k := s.core n c
      let count := if x.src = 1 then k.dReg (x.count % 16) else x.count
      if x.target ≤ k.pc then s.coreTrap n c trapIllegal (k.pc + 1)
      else if count = 0 then s.coreRetire n c { k := k, jump := some (x.target + 1) }
      else if 4 ≤ k.loops.length then s.coreTrap n c trapLoop (k.pc + 1)
      else
        s.coreRetire n c { k := { k with loops := ⟨k.pc + 1, x.target, count⟩ :: k.loops }, jump := some (k.pc + 1) }
    else s)

/-! ## F5: system (R196) -/

/-- NOP (R196). -/
def execNop (n c : Nat) (x : F5) (s : State) : Host.Outcome State Fault Refusal :=
  .next (s.coreDo n c (.nop n c x) (fun k => fxOf k))

/-- HALT (R196, R206): the core stops with halt code CODE; its START completes DONE. -/
def execHalt (n c : Nat) (x : F5) (s : State) : Host.Outcome State Fault Refusal :=
  .next (
    if s.coreReady n c (.halt n c x) then
      let k := s.core n c
      let s1 := s.coreRetire n c (fxOf k)
      s1.coreEnd n c 0 0 x.code (s1.core n c).pc
    else s)

/-- WAIT (R196): stalls until a message is queued (CODE[0]) or a DMA request has completed (CODE[1]). -/
def execWait (n c : Nat) (x : F5) (s : State) : Host.Outcome State Fault Refusal :=
  .next (
    if s.coreReady n c (.wait n c x) then
      let k := s.core n c
      let holds := x.code % 4 = 0 || bit x.code 0 && !k.msgs.isEmpty || bit x.code 1 && k.dmaDone
      if holds then s.coreRetire n c (fxOf { k with dmaDone := if bit x.code 1 then false else k.dmaDone })
      else (s.coreStall n c 6).setFld (Fr.CORE_STATE n c) coreWaiting
    else s)

/-- MFS (R196): the D register := SR, or the remaining count of the innermost loop; with no loop active that count is a
value the spec leaves open. -/
def execMfs (n c : Nat) (x : F5) (s : State) : Host.Outcome State Fault Refusal :=
  .next (
    if s.coreReady n c (.mfs n c x) then
      let k := s.core n c
      match x.sreg, k.loops with
      | 0, _ => s.coreRetire n c (fxOf (k.setD x.d k.sr))
      | _, l :: _ => s.coreRetire n c (fxOf (k.setD x.d l.count))
      | _, [] => s.useFree.coreRetire n c (fxOf (k.setD x.d s.free))
    else s)

/-- SR after a write (R187): sticky bits are cleared by 0 and kept by 1, RESTARTED is kept, reserved bits stay 0. -/
def srWrite (sr v : Nat) : Nat :=
  bits v 0 4 + 16 * Nat.land (bits sr 4 3) (bits v 4 3) + 128 * bits v 7 2 + 512 * bits sr 9 1

/-- MTS (R187, R196): SR, or the remaining count of the innermost loop, := the D register. -/
def execMts (n c : Nat) (x : F5) (s : State) : Host.Outcome State Fault Refusal :=
  .next (s.coreDo n c (.mts n c x) (fun k =>
    let v := k.dReg x.d
    if x.sreg = 0 then fxOf { k with sr := srWrite k.sr v }
    else
      match k.loops with
      | [] => fxOf k
      | l :: t => fxOf { k with loops := { l with count := v } :: t }))

/-- FENCE (R196): stalls until no DMA request of the core is pending. -/
def execFence (n c : Nat) (x : F5) (s : State) : Host.Outcome State Fault Refusal :=
  .next (
    if s.coreReady n c (.fence n c x) then
      if (s.core n c).dmaOut = 0 then s.coreRetire n c (fxOf (s.core n c)) else s.coreStall n c 7
    else s)

/-- ILLEGAL_INSTRUCTION (R195, R208): the word at PC is none of the instruction set; it does not execute, the core traps
ILLEGAL. -/
def execIllegalInstruction (n c : Nat) (s : State) : Host.Outcome State Fault Refusal :=
  .next (
    let k := s.core n c
    if n < 9 && c < 16 && s.coreRuns n c && !k.capped && k.ending.isNone && (decodeCore n c (nth k.im k.pc 0)).isNone then
      s.coreTrap n c trapIllegal (k.pc + 1)
    else s)

/-- CORE_BUDGET_TICK (R205): a new tick: every cap starts afresh, the cycles a capped core stalled are counted. -/
def execCoreBudgetTick (s : State) : Host.Outcome State Fault Refusal :=
  .next ((List.range 144).foldl (fun (st : State) i =>
    let k := nth st.cores i {}
    let per := if st.clk.prove then 409 else 512
    let st1 := if k.capped then st.count (st.coreUnit (i / 16) (i % 16)) .capStalls (per - k.used) else st
    st1.modCore (i / 16) (i % 16) (fun x =>
      { x with used := 0, capped := false, waitCause := if x.capped && x.waitCause = 0 then 9 else x.waitCause })) s)

/-! ## CORE_LOAD (R202, R203) -/

def clSlice (d : Desc) : Nat := bits (nth d.p 0 0) 0 4
def clMask (d : Desc) : Nat := bits (nth d.p 0 0) 4 16
def clLen (d : Desc) : Nat := nth d.p 3 0

/-- The 16-bit words of a byte list. -/
def words16 : List Nat → List Nat
  | a :: b :: t => (a % 256 + 256 * (b % 256)) :: words16 t
  | _ => []

/-- A core image as its bytes give it (Table 9.7); none where a header field or a CRC breaks it, or the sizes differ. -/
def parseImage (l : List Nat) : Option Image :=
  let f (o n : Nat) : Nat := unle ((l.drop o).take n)
  let im := f 8 4
  let dm := f 12 4
  let ims := (l.drop 64).take im
  let dms := (l.drop (64 + im)).take dm
  if f 0 4 = 0x49434B4C && f 4 2 = 1 && f 6 2 = 0 && im % 4 = 0 && 4 ≤ im && im ≤ 32768 && dm % 2 = 0 && dm ≤ 65536
      && f 16 2 + dm / 2 ≤ 0x8000 && f 18 2 < im / 4 && ((l.drop 28).take 36).all (· = 0) && l.length = 64 + im + dm
      && f 20 4 = crc32c ims && f 24 4 = crc32c dms then
    some ⟨(List.range (im / 4)).map (fun i => unle ((ims.drop (4 * i)).take 4)), words16 dms, f 16 2, f 18 2, crc32c l⟩
  else none

/-- Format of the words of CORE_LOAD. -/
def coreLoadWords (d : Desc) : Option Refuse :=
  firstRefusal [
    check (8 < clSlice d || clMask d = 0 || bits (nth d.p 0 0) 20 12 ≠ 0) (refuseFormat 0),
    check (nth d.p 1 0 % 4 ≠ 0) (refuseFormat 1),
    check (((List.range 8).any (fun i => nth d.p (4 + i) 0 ≠ 0))) (refuseFormat 4)]

/-- Unit state (R203): a named core has an open CORE_RUN or is being reloaded, or the slice is powered down. -/
def coreLoadState (s : State) (d : Desc) : Option Refuse :=
  let n := clSlice d
  check (!s.powered n || (maskList 16 (clMask d)).any (fun c => (s.core n c).job ≠ 0 || 6 ≤ s.fld (Fr.CORE_STATE n c)))
    refuseState

/-- Load an image into core `c` of slice `n`: instructions, data memory, state LOADED, the store copy (R203). -/
def State.coreLoad (s : State) (n c : Nat) (im : Image) : State :=
  ((s.modCore n c (fun k => { k with im := im.im, dm := imageDm im, image := some im })).setFld (Fr.CORE_STATE n c)
    coreLoaded).setFld (Fr.CORE_IMG_CRC n c) im.crc

/-- The image in place of every named core. -/
def coreLoadApply (s : State) (d : Desc) (im : Image) : State :=
  (maskList 16 (clMask d)).foldl (fun (st : State) c => st.coreLoad (clSlice d) c im) s

/-! ## CORE_RUN (R204 to R206) -/

def crSlice (d : Desc) : Nat := bits (nth d.p 0 0) 0 4
def crCore (d : Desc) : Nat := bits (nth d.p 0 0) 4 4
def crMode (d : Desc) : Nat := bits (nth d.p 0 0) 8 2

/-- Where a START begins: ENTRY below, or the image's ENTRY. -/
def State.crEntry (s : State) (d : Desc) : Nat :=
  if bit (nth d.p 0 0) 10 then bits (nth d.p 0 0) 11 13
  else (((s.core (crSlice d) (crCore d)).image).map (·.entry)).getD 0

/-- The scratch region of a START: base and size in bytes. -/
def crScratch (d : Desc) : Nat × Nat := (bits (nth d.p 3 0) 0 16 * 2 ^ 20, bits (nth d.p 3 0) 16 16 * 2 ^ 20)

/-- Format (R204): reserved bits, MODE, BUDGET, ENTRY, the scratch region. -/
def coreRunFmt (s : State) (d : Desc) : Option Refuse :=
  let sc := crScratch d
  let k := s.core (crSlice d) (crCore d)
  let start := crMode d = 0
  firstRefusal [
    check (8 < crSlice d || 1 < crMode d || bits (nth d.p 0 0) 24 8 ≠ 0
      || start && bit (nth d.p 0 0) 10 && k.im.length ≤ bits (nth d.p 0 0) 11 13 && s.fld (Fr.CORE_STATE (crSlice d) (crCore d)) ≠ coreEmpty)
      (refuseFormat 0),
    check (bits (nth d.p 1 0) 9 7 ≠ 0 || start && (bits (nth d.p 1 0) 0 9 = 0 || 256 < bits (nth d.p 1 0) 0 9)) (refuseFormat 1),
    check (bits (nth d.p 2 0) 16 16 ≠ 0) (refuseFormat 2),
    check (start && 0 < sc.2 && (sc.1 < s.ringBytes || s.sysBase < sc.1 + sc.2
      || s.meetsRegion sc.1 sc.2 (fun r => (r.kind = 1 || r.kind = 2 || r.kind = 5) && !(r.kind = 5 && r.idx = 16 * crSlice d + crCore d))))
      (refuseFormat 3),
    check ((List.range 8).any (fun i => nth d.p (4 + i) 0 ≠ 0)) (refuseFormat 4)]

/-- Unit state (R204): START of an EMPTY or running core, over a MOVE's writes (R296), or with an epoch pending; STOP of a
core that does not run, or from another ring (R257). -/
def coreRunState (s : State) (ring : Nat) (d : Desc) : Option Refuse :=
  let n := crSlice d
  let c := crCore d
  let sc := crScratch d
  if crMode d = 0 then
    check (s.fld (Fr.CORE_STATE n c) = coreEmpty || (s.core n c).job ≠ 0 || 6 ≤ s.fld (Fr.CORE_STATE n c) || s.noStanding
      || s.overMove sc.1 sc.2 || !s.powered n) refuseState
  else
    check (!s.coreRuns n c || (s.core n c).ending.isSome
      || ((s.job (s.core n c).job).map (fun j => j.ring)).getD ring ≠ ring) refuseState

/-- What a START reserves (R204). -/
def coreRunNeed (s : State) (d : Desc) : List (Nat × Nat) :=
  if crMode d ≠ 0 then []
  else
    (0x10 + crSlice d, bits (nth d.p 1 0) 0 9) :: (0x0A, s.unitsOf (bits (nth d.p 1 0) 16 16 * 256) 1)
      :: s.readUnits (bits (nth d.p 2 0) 0 16 * 1000000)

/-- Start a core at an entry with the registers of R186; data memory, queue and pending requests stay. -/
def State.coreStart (s : State) (n c entry job budget rate dmaRate scrBase scrSize : Nat) (restarted : Bool) : State :=
  let s1 := s.modCore n c (fun k =>
    { k with
      d := zeros 16, a := [0, 0], p := zeros 8, m := zeros 8, b := zeros 8, l := zeros 8
      pc := entry, sr := if restarted then 512 else 0, ret := [], loops := []
      job := job, scrBase := scrBase, scrSize := scrSize, dmaRate := dmaRate
      used := 0, capped := false, ending := none, accHot := 0, pHot := 0, waitCause := 0 })
  let s2 := ((s1.setFld (Fr.CORE_STATE n c) coreRunning).setFld (Fr.CORE_RESTARTED n c) (b2n restarted)).setFld
    (Fr.CORE_BUDGET n c) budget
  (((s2.setFld (Fr.CORE_EV_RATE n c) rate).setFld (Fr.CORE_LOST n c) 0).setFld (Fr.CORE_DENIED n c) 0).updateCoreSum n

/-- START begins the core; STOP ends it at the next instruction boundary, once its DMA requests complete (R206). -/
def coreRunApply (s : State) (d : Desc) (job : Nat) : State :=
  let n := crSlice d
  let c := crCore d
  if crMode d = 0 then
    s.coreStart n c (s.crEntry d) job (bits (nth d.p 1 0) 0 9) (bits (nth d.p 1 0) 16 16) (bits (nth d.p 2 0) 0 16)
      (bits (nth d.p 3 0) 0 16) (bits (nth d.p 3 0) 16 16) false
  else
    (s.modCore n c (fun k => { k with ending := some (.stop job) })).coreSettle n c

/-! ## Spare slices (R207) -/

/-- The DMA requests of a slice's cores are lost. -/
def State.dropCoreXfers (s : State) (n : Nat) : State :=
  let of_ (x : Xfer) : Bool := match x.owner with | .core m _ _ => m = n | _ => false
  (List.range 9).foldl (fun (st : State) ch =>
    let c := st.chan ch
    let hit := (c.cur.map of_).getD false
    let st1 := st.modChan ch (fun c => ⟨if hit then none else c.cur, c.queue.filter (fun x => !of_ x)⟩)
    if hit then st1.chanTake ch else st1) s

/-- The cores of a logical slice begin again on another physical slice: each is loaded from its store copy, those with an
open CORE_RUN start with RESTARTED and post the event; registers, data memory, messages and pending requests are lost. -/
def State.coresRestart (s : State) (n : Nat) : State :=
  (List.range 16).foldl (fun (st : State) c =>
    let k := st.core n c
    let runs := k.job ≠ 0 && k.ending.isNone
    let st0 := match k.ending with
      | some (.stop job) => (st.coreEnd n c 1 0 k.pc k.pc).complete job stDone 0 0
      | some (.trap cause) => st.coreEnd n c 2 cause k.pc k.pc
      | none => st
    let fresh : Core :=
      match k.image with
      | some im => { im := im.im, dm := imageDm im, image := k.image }
      | none => {}
    let st1 := st0.modCore n c (fun _ => fresh)
    let st2 := (st1.setFld (Fr.CORE_DEPTH n c) 0).setFld (Fr.CORE_DMA_OUT n c) 0
    if runs then
      let entry := ((s.job k.job).map (fun j => st2.crEntry j.d)).getD 0
      let st3 := st2.coreStart n c entry k.job (s.fld (Fr.CORE_BUDGET n c))
        (s.fld (Fr.CORE_EV_RATE n c)) k.dmaRate k.scrBase k.scrSize true
      st3.raise 0xD causeRestarted (s.coreFunc n c) [n + 16 * (st.slice n).phys, c]
    else st2) (s.dropCoreXfers n)

end Sys2Proof.Machine
end

