-- ==== Sys2Proof/Machine/Security.lean ====
section
/-! DEFINITION. The security functions: Kuver images, rollback counters, attestation, the key store, random numbers and
zeroisation (R367 to R385), and CORE_LOAD, which rests on them (R203). -/

namespace Sys2Proof.Machine

/-! ## Kuver images (R367, R368) -/

/-- The number that `n` little-endian bytes at `o` spell. -/
def leAt (l : List Nat) (o n : Nat) : Nat := unle (padTo n (l.drop o))

def sliceOf (l : List Nat) (o n : Nat) : List Nat := (l.drop o).take n

def kvOwner (l : List Nat) : Bool := bit (leAt l 7 1) 0
def kvHdrLen (l : List Nat) : Nat := leAt l 12 4
def kvPayloadLen (l : List Nat) : Nat := leAt l 16 4
def kvSvn (l : List Nat) : Nat := leAt l 8 1
def kvPayload (l : List Nat) : List Nat := sliceOf l (kvHdrLen l) (kvPayloadLen l)
def kvVendorKey (l : List Nat) : List Nat := sliceOf l 64 384
def kvVendorSig (l : List Nat) : List Nat := sliceOf l 448 384

/-- The header agrees with Table 17.1. -/
def kvHeaderOk (l : List Nat) : Bool :=
  leAt l 0 4 = 0x5256554B && leAt l 4 2 = 1 && leAt l 7 1 < 2 && kvSvn l ≤ 64 && leAt l 9 3 = 0
    && kvHdrLen l = (if kvOwner l then 1600 else 832) && (sliceOf l 20 12).all (· = 0) && 832 ≤ l.length

/-- The vendor slot of an image's key: not revoked, its hash in OTP (check 3). -/
def State.kvSlot (s : State) (l : List Nat) : Option Nat :=
  (List.range 4).find? (fun k => !bit (s.fld Fr.SEC_REVOKED) k && padTo 32 (nth s.sec.vendor k []) = sha256 (kvVendorKey l))

/-- Check 5: the owner's countersignature, where an owner key hash is set. -/
def State.kvOwnerOk (s : State) (l : List Nat) : Bool :=
  s.sec.owner.isEmpty
    || (kvOwner l && sha256 (sliceOf l 832 384) = s.sec.owner
      && pssVerify (sliceOf l 832 384) (l.take 64 ++ kvVendorSig l) (sliceOf l 1216 384))

/-- The number of the check of R368 that an image of a TYPE fails, 0 where it passes all. -/
def State.kuver (s : State) (type : Nat) (l : List Nat) : Nat :=
  if !kvHeaderOk l then 1
  else if leAt l 6 1 ≠ type || (if type = 1 then 2097152 else 98368) < kvPayloadLen l then 2
  else if (s.kvSlot l).isNone then 3
  else if !pssVerify (kvVendorKey l) (l.take 64) (kvVendorSig l) then 4
  else if !s.kvOwnerOk l then 5
  else if (kvPayload l).length ≠ kvPayloadLen l || sha256 (kvPayload l) ≠ sliceOf l 32 32 then 6
  else if kvSvn l < (if type = 1 then s.fld Fr.SEC_SVN_FW else s.fld Fr.SEC_SVN_CORE) then 7
  else 0

/-! ## Measurement registers (R373) -/

/-- The 32 bytes of M[k]. -/
def State.measure (s : State) (k : Nat) : List Nat :=
  (List.range 8).flatMap (fun j => le 4 (s.fld (Fr.SEC_M (8 * k + j))))

/-- Extend M[k]: M := SHA-256(M ‖ d). -/
def State.extend (s : State) (k : Nat) (d : List Nat) : State :=
  let h := sha256 (s.measure k ++ d)
  (List.range 8).foldl (fun (st : State) j => st.setFld (Fr.SEC_M (8 * k + j)) (leAt h (4 * j) 4)) s

/-! ## CORE_LOAD (R203) -/

def clSigned (d : Desc) : Bool := bit d.flags 0

/-- The bytes of the host buffer, where they can be read. -/
def clBytes (d : Desc) : Option (List Nat) :=
  match hostRead d (clLen d) with
  | .inl l => some l
  | .inr _ => none

/-- The core image: the buffer, or the payload of the Kuver image in it. -/
def clImage (d : Desc) (l : List Nat) : List Nat := if clSigned d then kvPayload l else l

/-- A signed image that fails verification is refused. -/
def coreLoadSec (s : State) (d : Desc) : Option Refuse :=
  match clBytes d with
  | some l => check (clSigned d && s.kuver 2 l ≠ 0) refuseSecurity
  | none => none

/-- What such a refusal posts. -/
def coreLoadSecEv (s : State) (d : Desc) : State :=
  match clBytes d with
  | some l => if clSigned d && s.kuver 2 l ≠ 0 then s.secEv 8 ((s.kvSlot l).getD 0) else s
  | none => s

/-- Words and image of CORE_LOAD. -/
def coreLoadFmt (_s : State) (d : Desc) : Option Refuse :=
  match coreLoadWords d with
  | some r => some r
  | none =>
    match clBytes d with
    | some l => check (parseImage (clImage d l)).isNone (refuseFormat 3)
    | none => none

/-- Load the image; M[1] is extended with its hash (R373). -/
def coreLoadDo (s : State) (d : Desc) (job : Nat) : State :=
  match hostRead d (clLen d) with
  | .inr x => s.complete job stErrBus 0 x
  | .inl l =>
    match parseImage (clImage d l) with
    | none => s.complete job stErrBus 0 0
    | some im => ((coreLoadApply s d im).extend 1 (sha256 (clImage d l))).complete job stDone 0 (clLen d)

/-! ## ATTEST (R374) -/

def atWhat (d : Desc) : Nat := bits (nth d.p 0 0) 0 2

/-- The certificates as bytes: the key store holds 32 KiB of them (R375). -/
def certificateBytes : List Nat := (Config.certificates.take 32768).map (· % 256)

def atLen (d : Desc) : Nat := if atWhat d = 0 then 640 else certificateBytes.length

/-- The quote and certificates need handle 0 (R379), the quote's signature the DRBG (R378). -/
def attestSec (s : State) (d : Desc) : Option Refuse :=
  check (!s.flag Fr.SEC_IDENTITY || (atWhat d = 0 && !s.drbgServes)) refuseSecurity

def attestFmt (_s : State) (d : Desc) : Option Refuse :=
  firstRefusal [
    check (2 ≤ nth d.p 0 0) (refuseFormat 0),
    check (pAddr d 1 % 64 ≠ 0) (refuseFormat 1),
    check (nth d.p 3 0 < atLen d) (refuseFormat 3)]

/-- Bytes 0 to 255 of the quote (Table 17.2). -/
def State.quoteBody (s : State) (nonce : List Nat) : List Nat :=
  padTo 256 (le 4 0x54514B4C ++ le 2 1
    ++ [b2n s.approved + 2 * b2n (!s.sec.owner.isEmpty) + 4 * b2n (s.fld Fr.SEC_STATE = 1), 0]
    ++ le 8 (s.fld Fr.SEC_SERIAL) ++ le 8 s.samp ++ le 8 s.todNow ++ nonce
    ++ s.measure 0 ++ s.measure 1 ++ s.measure 2 ++ le 4 (s.fld Fr.SEC_SVN_FW) ++ le 4 (s.fld Fr.SEC_SVN_CORE))

/-- Write the quote or the certificates. -/
def attestApply (s : State) (d : Desc) (job : Nat) : State :=
  let body := s.quoteBody ((List.range 8).flatMap (fun i => le 4 (nth d.p (4 + i) 0)))
  let g := if atWhat d = 0 then s.signBy 0 body else (s, [])
  let bytes := if atWhat d = 0 then body ++ g.2 else certificateBytes
  let r := g.1.hostIo d (pAddr d 1) bytes
  r.1.complete job r.2.1 0 r.2.2

/-! ## KEY_OP (R370, R371, R376) -/

def koOp (d : Desc) : Nat := bits (nth d.p 0 0) 0 4
def koType (d : Desc) : Nat := bits (nth d.p 0 0) 8 4
def koHandle (d : Desc) : Nat := bits (nth d.p 0 0) 16 16
def koLen (d : Desc) : Nat := nth d.p 3 0
def koVal (d : Desc) : Nat := nth d.p 4 0

/-- KEYS shows the handles in use. -/
def State.updateKeys (s : State) : State := s.setFld Fr.SEC_KEYS (b2n (s.flag Fr.SEC_IDENTITY) + s.sec.keys.length)

/-- A key in a handle, in place of any there. -/
def State.putKey (s : State) (k : Key) : State :=
  (s.modSec (fun x => { x with keys := x.keys.filter (fun y => y.handle ≠ k.handle) ++ [k] })).updateKeys

/-- Does an open recording name a handle? -/
def State.keyNamed (s : State) (h : Nat) : Bool :=
  s.recs.any (fun r => (r.signed && r.keySign = h) || (r.enc && r.keyEnc = h))

/-- HANDLE 0 and handles above 99 serve no job but EXPORT_PUBLIC and SVN_COMMIT. -/
def badHandle (d : Desc) : Bool := koHandle d = 0 || 99 < koHandle d

/-- Format every KEY_OP shares: reserved bits of P[0], the address a multiple of 64. -/
def keyOpFmt (d : Desc) : List (Option Refuse) :=
  [check (bits (nth d.p 0 0) 4 4 ≠ 0 || bits (nth d.p 0 0) 12 4 ≠ 0) (refuseFormat 0),
   check (pAddr d 1 % 64 ≠ 0) (refuseFormat 1)]

/-- GENERATE: refused where the DRBG cannot serve, and while DEGRADED (R378). -/
def generateSec (s : State) (d : Desc) : Option Refuse :=
  check (badHandle d || !s.drbgServes || s.sec.entropyBad) refuseSecurity
def generateFmt (_s : State) (d : Desc) : Option Refuse :=
  firstRefusal (check (koType d = 0 || 3 < koType d) (refuseFormat 0) :: keyOpFmt d)
def generateState (s : State) (d : Desc) : Option Refuse := check (s.key (koHandle d)).isSome refuseState
def generateApply (s : State) (d : Desc) (job : Nat) : State :=
  let s1 := s.drbg.1.putKey ⟨koHandle d, koType d, s.sec.nextMat, 0⟩
  (s1.modSec (fun x => { x with nextMat := x.nextMat + 1 })).complete job stDone 0 0

/-- The key that an IMPORT unwraps; none where the unwrapping key is not TYPE 2 or the block fails. -/
def importKeyOf (s : State) (d : Desc) : Option Nat :=
  match s.key (koVal d) with
  | some k => if k.type = 2 then Config.oaep k.mat (padTo 384 d.data) else none
  | none => none
def importUnread (d : Desc) : Bool := d.hostErr.any (· < 384)
def importSec (s : State) (d : Desc) : Option Refuse :=
  check (badHandle d || ((s.key (koVal d)).map (·.type)).getD 0 ≠ 2 || (!importUnread d && (importKeyOf s d).isNone)) refuseSecurity
def importFmt (_s : State) (d : Desc) : Option Refuse := firstRefusal (keyOpFmt d)
def importApply (s : State) (d : Desc) (job : Nat) : State :=
  if importUnread d then s.complete job stErrFinal 0 0
  else
    match importKeyOf s d with
    | some m => (s.putKey ⟨koHandle d, 3, m, 0⟩).complete job stDone 0 0
    | none => s.complete job stErrFinal 0 0

/-- EXPORT_PUBLIC needs handle 0 and its signature. -/
def exportSec (s : State) (_d : Desc) : Option Refuse := check (!s.flag Fr.SEC_IDENTITY || !s.drbgServes) refuseSecurity
def exportFmt (_s : State) (d : Desc) : Option Refuse :=
  firstRefusal (keyOpFmt d ++ [check (koLen d < 1024) (refuseFormat 3)])

/-- The key to export: handle 0 is the identity key, an RSA-3072 signing key (R372). -/
def exportKey (s : State) (d : Desc) : Option Key := if koHandle d = 0 then some ⟨0, 1, 0, 0⟩ else s.key (koHandle d)
def exportState (s : State) (d : Desc) : Option Refuse :=
  check (match exportKey s d with
    | some k => k.type = 3
    | none => true) refuseState
def exportApply (s : State) (d : Desc) (job : Nat) : State :=
  match exportKey s d with
  | none => s.complete job stDone 0 0
  | some k =>
    let msg := le 2 k.handle ++ [k.type, 0] ++ le 8 (s.fld Fr.SEC_SERIAL) ++ padTo 384 (Config.rsaModulus k.mat)
    let g := s.signBy 0 msg
    let bytes := padTo 1024 (Config.publicRecord k.handle k.type (s.fld Fr.SEC_SERIAL) (Config.rsaModulus k.mat) g.2)
    let r := g.1.hostIo d (pAddr d 1) bytes
    r.1.complete job r.2.1 0 r.2.2

/-- DELETE. -/
def deleteSec (_s : State) (d : Desc) : Option Refuse := check (badHandle d) refuseSecurity
def deleteFmt (_s : State) (d : Desc) : Option Refuse := firstRefusal (keyOpFmt d)
def deleteState (s : State) (d : Desc) : Option Refuse := check (s.keyNamed (koHandle d)) refuseState
def deleteApply (s : State) (d : Desc) (job : Nat) : State :=
  ((s.modSec (fun x => { x with keys := x.keys.filter (fun k => k.handle ≠ koHandle d) })).updateKeys).complete job stDone 0 0

/-- SET_OWNER: the owner key hash, once and for ever. -/
def ownerState (s : State) (_d : Desc) : Option Refuse := check (!s.sec.owner.isEmpty) refuseState
def ownerApply (s : State) (d : Desc) (job : Nat) : State :=
  match hostRead d 32 with
  | .inr x => s.complete job stErrFinal 0 x
  | .inl l => ((s.modSec (fun x => { x with owner := l })).setFld Fr.SEC_OWNER_SET 1).complete job stDone 0 0

/-- SVN_COMMIT: raise rollback counter HANDLE to P[4]. -/
def svnCounter (d : Desc) : FRef := if koHandle d = 0 then Fr.SEC_SVN_FW else Fr.SEC_SVN_CORE
def svnFmt (_s : State) (d : Desc) : Option Refuse :=
  firstRefusal (check (1 < koHandle d) (refuseFormat 0) :: keyOpFmt d ++ [check (64 < koVal d) (refuseFormat 4)])
def svnState (s : State) (d : Desc) : Option Refuse :=
  check (koVal d < s.fld (svnCounter d) || (koHandle d = 0 && s.sec.fwSvn < koVal d)) refuseState
def svnApply (s : State) (d : Desc) (job : Nat) : State :=
  ((s.setFld (svnCounter d) (koVal d)).secEv 9 (koHandle d)).complete job stDone 0 0

/-- A fresh seed (R377, R379): the count of requests restarts, ZEROISED ends. -/
def State.reseed (s : State) : State :=
  let s1 := (s.setFld Fr.SEC_RESEED_CTR 0).modSec (fun x => { x with exhausted := false })
  if s.fld Fr.SEC_STATE = 3 then s1.setFld Fr.SEC_STATE (b2n s.sec.entropyBad) else s1

/-- RESEED: refused in the error state, and while DEGRADED (R378). -/
def reseedSec (s : State) (d : Desc) : Option Refuse :=
  check (badHandle d || s.fld Fr.SEC_STATE = 2 || s.sec.entropyBad || s.sec.zeroise.isSome) refuseSecurity
def reseedApply (s : State) (_d : Desc) (job : Nat) : State := s.reseed.complete job stDone 0 0

/-- REVOKE_VENDOR. -/
def revokeFmt (_s : State) (d : Desc) : Option Refuse :=
  firstRefusal (keyOpFmt d ++ [check (3 < koVal d) (refuseFormat 4)])
def revokeMask (s : State) (d : Desc) : Nat :=
  if bit (s.fld Fr.SEC_REVOKED) (koVal d) then s.fld Fr.SEC_REVOKED else s.fld Fr.SEC_REVOKED + 2 ^ koVal d
def revokeState (s : State) (d : Desc) : Option Refuse := check (koVal d = s.sec.fwSlot || revokeMask s d = 15) refuseState
def revokeApply (s : State) (d : Desc) (job : Nat) : State :=
  (s.setFld Fr.SEC_REVOKED (revokeMask s d)).complete job stDone 0 0

/-! ## Zeroisation (R379, R380) -/

/-- A recording that names a zeroised key ends: its streams first, then its footer, with no final checkpoint (R380). -/
def State.zeroiseRec (s : State) (id : Nat) : State :=
  let s1 := (s.streams.filter (fun x => x.intoRec id)).foldl (fun st x => st.endStream x.id stCancelled) s
  ((s1.closeSeg id false true).modRec id (fun r => { r with ended := some (4, stInterrupted, 0) })).recSettle id

/-- Zeroisation starts: within 1 ms no wrapped slot can be opened again (R379). -/
def State.zeroise (s : State) (scope job : Nat) : State :=
  let hit := (s.recs.filter (fun r => r.ended.isNone && ((r.signed && (s.key r.keySign).isSome) || (r.enc && (s.key r.keyEnc).isSome))))
  let s1 := hit.foldl (fun (st : State) r => st.zeroiseRec r.id) s
  let sc := match s.sec.zeroise with
    | some (a, _) => Nat.max a scope
    | none => scope
  (s1.modSec (fun x => { x with keys := [], zeroise := some (sc, job) })).updateKeys

def zeroiseFmt (_s : State) (d : Desc) : Option Refuse :=
  firstRefusal (keyOpFmt d ++ [check (1 < koVal d) (refuseFormat 4)])
def zeroiseApply (s : State) (d : Desc) (job : Nat) : State := s.zeroise (koVal d) job

/-- ZEROIZE_N, held low for 10 µs, starts scope 0 (R379). -/
def execZeroizeN (s : State) : Host.Outcome State Fault Refusal := .next (s.zeroise 0 0)

/-- Zeroisation completes: ZEROISED is posted, the KEY_OPs that asked for it complete; scope 1 has taken the identity. -/
def State.zeroised (s : State) : State :=
  match s.sec.zeroise with
  | none => s
  | some (sc, _) =>
    let s1 := s.modSec (fun x => { x with zeroise := none })
    let s2 := if s.fld Fr.SEC_STATE = 2 then s1 else s1.setFld Fr.SEC_STATE 3
    let s3 := (if sc = 1 then s2.setFld Fr.SEC_IDENTITY 0 else s2).updateKeys.secEv 6 0
    let done := s.openJobs (fun j => j.d.opcode = 0x0F && koOp j.d = 6)
    done.foldl (fun (st : State) j => st.complete j.id stDone 0 0) s3

/-- ZEROISED (R379). -/
def execZeroised (s : State) : Host.Outcome State Fault Refusal := .next s.zeroised

/-! ## Random numbers (R377, R378) -/

/-- The DRBG reseeds; no reseed is served while the entropy source has failed. -/
def execDrbgReseed (s : State) : Host.Outcome State Fault Refusal :=
  .next (if s.sec.entropyBad || s.sec.zeroise.isSome then s else s.reseed)

/-- A health test fails: ENTROPY_FAIL, DEGRADED. -/
def execEntropyFail (s : State) : Host.Outcome State Fault Refusal :=
  if s.sec.entropyBad then .next s
  else
    let s1 := (s.modSec (fun x => { x with entropyBad := true })).secEv 3 0
    .next (if s.fld Fr.SEC_STATE = 0 then s1.setFld Fr.SEC_STATE 1 else s1)

/-- The start-up test is repeated: a pass reseeds the DRBG, posts ENTROPY_RETURN and restores OPERATIONAL. -/
def execEntropyRetest (pass : Bool) (s : State) : Host.Outcome State Fault Refusal :=
  if !s.sec.entropyBad || !pass then .next s
  else
    let s1 := (s.modSec (fun x => { x with entropyBad := false })).secEv 4 0
    let s2 := if s.sec.zeroise.isSome then s1 else s1.reseed
    .next (if s2.fld Fr.SEC_STATE = 1 then s2.setFld Fr.SEC_STATE 0 else s2)

/-! ## What the error state and approved mode refuse at step 3 (R246, R381 to R383) -/

/-- A job that is a security service. -/
def securityJob (d : Desc) : Bool :=
  d.opcode = 0x0E || d.opcode = 0x0F || (d.opcode = 0x07 && bits (nth d.p 1 0) 14 2 ≠ 0) || (d.opcode = 0x09 && clSigned d)

/-- Step 3 of Table 11.4: OPMASK, the roles of approved mode, the error state. -/
def stepSecurity (s : State) (func : Nat) (d : Desc) : Option Refuse :=
  let zer := d.opcode = 0x0F && koOp d = 6
  check (!bit (s.fld (Fr.FUNC_OPMASK func)) (d.opcode - 1)
    || (s.approved && 0 < func && (d.opcode = 0x0E || d.opcode = 0x0F || (d.opcode = 0x07 && securityJob d)))
    || (s.approved && d.opcode = 0x09 && !clSigned d)
    || (s.fld Fr.SEC_STATE = 2 && (if s.approved then !(d.opcode = 0x16 || d.opcode = 0x17 || zer) else securityJob d && !zer)))
    refuseSecurity

end Sys2Proof.Machine
end

