-- ==== Sys2Proof/Machine/Selftest.lean ====
section
/-! DEFINITION. Slice takeovers (R18, R19, R276), self-test and its rotation over the slices (R397 to R402), and FAULT_ACK
(R290). -/

namespace Sys2Proof.Machine

/-! ## Slices taken over (R111, R118, R139, R153, R207) -/

/-- What physical slice `p` serves: the logical slice whose work it computes. Slice 8 serves its own logical slice only
while that has an input slot or a core that runs. -/
def State.servedBy (s : State) (p : Nat) : Option Nat :=
  (List.range 9).find? (fun n => (s.slice n).phys = p && !(s.slice n).failed
    && (n ≠ 8 || s.sliceInput 8 < 8 || (List.range 16).any (fun c => (s.core 8 c).job ≠ 0)))

/-- Is slice 8 idle: in service, serving nothing, under no test and in no rotation step? -/
def State.spareSliceIdle (s : State) : Bool :=
  !s.sliceFailed.contains 8 && (s.servedBy 8).isNone && s.rot.isNone && !s.bists.any (fun b => b.kind = 1 && b.index = 8)

/-- A tuner continues on another physical slice from the end of the last block closed, with cleared state; outputs whose
spans start before `rel` carry GAP (R153). -/
def Tuner.moved (x : Tuner) (rel : Nat) : Tuner :=
  { x with
    inq := x.inq.filter (fun b => rel ≤ b.t)
    j := x.j - x.blk.data.length
    chain := clearedChain
    clear := Nat.max x.clear rel
    blk := {} }

/-- A beat the incoming slice did not receive. -/
def SBeat.missed (b : SBeat) : SBeat := { b with flags := 8, samples := List.replicate 16 0 }

/-- Logical slice `n` continues on physical slice `p` from sample time `rel` on: records in progress end CUT, trigger
states become unknown, the density period ends CUT, tuners move, cores start again. -/
def State.sliceMove (s : State) (n p rel : Nat) : State :=
  let s1 := (s.cutRecords n).cutDensity n
  let s2 := (s1.trgUnknown n 0).trgUnknown n 1
  let s3 := (List.range 4).foldl (fun (st : State) t => (st.zoomCut n t st.samp).modTuner n t (fun x => x.moved rel)) s2
  let s4 := s3.modSlice n (fun x =>
    { x with phys := p, failed := false, gapUntil := Nat.max x.gapUntil rel, buf := x.buf.map SBeat.missed })
  s4.coresRestart n

/-- Logical slice 8 gives up slice 8 to another, or takes it again. -/
def State.ownEight (s : State) (gone : Bool) : State := s.modSlice 8 (fun x => { x with failed := gone })

/-- The ends of R402 that leave logical slice `m` on a physical slice: the step is over. -/
def State.endRot (s : State) : State := ((({ s with rot := none }).setFld Fr.BIST_STATE 0).setFld Fr.BIST_SLICE 0xF)

/-- A repaired slice that waits starts its hand-back once no step runs (R290). -/
def State.nextHandBack (s : State) : State :=
  match s.sliceBack with
  | [] => s
  | m :: t =>
    if s.rot.isSome then s
    else ((({ s with
      sliceBack := t
      rot := some ⟨m, 2, 8, m, ceilDiv s.samp 16384 * 16384, true⟩ }).setFld Fr.BIST_STATE 3).setFld Fr.BIST_SLICE m)

/-- Slice 8, free again, takes over a logical slice that nothing serves (R19). -/
def State.coverSlice (s : State) : State :=
  if s.sliceFailed.contains 8 || s.rot.isSome || (s.slices.any (fun x => x.phys = 8 && !x.failed) && (s.slice 8).failed) then s
  else
    match (List.range 8).find? (fun n => (s.slice n).failed) with
    | none => s
    | some n => (((s.ownEight true).sliceMove n 8 s.samp).lateTakeover 2 n 8)

/-- A failed slice and its input slot in a fault record. -/
def State.sliceSlots (s : State) (n : Nat) : Nat := if s.sliceInput n < 8 then 2 ^ s.sliceInput n else 0

/-- Physical slice `k`, which serves logical slice `m`, has failed: slice 8 takes over where it can, released at `rel`
(R18, R19, R276, R402). -/
def State.takeSlice (s : State) (k m onset rel : Nat) : State :=
  let hit := s.jobOnSlice m
  if k = 8 || s.sliceFailed.contains 8 || (s.slices.any (fun x => x.phys = 8 && !x.failed) && (s.slice 8).failed) then
    let s1 := (s.cutRecords m).modSlice m (fun x => { x with failed := true })
    s1.fault 2 k none (m ≠ 8) onset (s.sliceSlots m) 0 hit
  else
    let s1 := (s.abortBist 1 8).ownEight true
    (s1.sliceMove m 8 rel).fault 2 k (some 8) false onset (s.sliceSlots m) rel hit

/-- SLICE_FAULT (R18, R19, R111, R118, R139, R153, R207, R276, R402): the fault manager declares physical slice `k`
failed; a spare that takes over is released at sample time `rel`, no later than 240 µs after the onset. -/
def execSliceFault (k onset rel : Nat) (s : State) : Host.Outcome State Fault Refusal :=
  .next (
    if 9 ≤ k || !s.powered k || s.sliceFailed.contains k then s
    else
      let to_ := Nat.max s.samp (Nat.min rel (onset + s.samplesOfNs 240000))
      let down (st : State) : State := ({ st with sliceFailed := k :: st.sliceFailed }).abortBist 1 k
      let plain (st : State) : State :=
        match st.servedBy k with
        | some m => (down st).takeSlice k m onset to_
        | none => (down st).fault 2 k none false onset 0 s.samp (fun _ => false)
      match s.rot with
      | none => plain s
      | some r =>
        let ended := s.endRot
        if r.phase = 0 then
          if k = r.m then
            -- the takeover proceeds on slice 8's running state; records before the switch records carry GAP
            let s1 := (down ended).ownEight true
            let s2 := s1.modSlice k (fun x => { x with phys := 8, gapUntil := Nat.max x.gapUntil (r.a + s.samplesOfNs 1000) })
            (((s2.coresRestart k).fault 2 k (some 8) false onset (s.sliceSlots k) (r.a + s.samplesOfNs 1000) (s.jobOnSlice k))).nextHandBack
          else (plain ended).nextHandBack
        else if r.phase = 1 then
          let quiet := { ended with bists := ended.bists.filter (fun b => b.kind ≠ 1 || b.index ≠ r.from_) }
          if r.m = 8 then (plain quiet).nextHandBack
          else if k = r.from_ then
            -- the slice under test fails: slice 8 goes on serving, as a takeover with no gap
            ((down quiet).fault 2 k (some 8) false onset (s.sliceSlots r.m) s.samp (s.jobOnSlice r.m)).nextHandBack
          else
            -- the test ends NOT_RUN, m is reloaded and serves again; slice 8 takes over k unless it failed itself
            let s1 := ((quiet.setFld Fr.BIST_LAST_RESULT 4).sliceMove r.m r.from_ to_).ownEight false
            (plain s1).nextHandBack
        else
          -- hand-back: the incoming slice is r.to_, slice 8 still serves
          if k = r.to_ then
            ((down ended).fault 2 k (some 8) false onset (s.sliceSlots r.m) s.samp (s.jobOnSlice r.m)).nextHandBack
          else
            let s1 := (ended.modSlice r.m (fun x => { x with phys := r.to_, gapUntil := Nat.max x.gapUntil (r.a + s.samplesOfNs 1000) }))
            (plain ((s1.coresRestart r.m).ownEight false)).nextHandBack)

/-! ## Regions (R397, Table 18.3) -/

/-- The number of indices of a region, its test types as bits (1 logic, 2 memory), its fault KIND; none for an unknown
KIND. -/
def bistRegion (kind : Nat) : Option (Nat × Nat × Nat) :=
  match kind with
  | 1 => some (9, 3, 2)
  | 2 => some (2, 3, 8)
  | 3 => some (9, 1, 1)
  | 4 => some (2, 3, 6)
  | 5 => some (1, 3, 9)
  | 6 => some (1, 1, 0xD)
  | 7 => some (2, 3, 7)
  | 8 => some (1, 3, 0xE)
  | 9 => some (128, 2, 4)
  | _ => none

/-- The region that tests a unit of a fault KIND. -/
def regionOf (kind : Nat) : Option Nat := (List.range 10).find? (fun k => ((bistRegion k).map (·.2.2)) = some kind)

/-- Is a unit failed (R290)? -/
def State.unitFailed (s : State) (f : Flt) : Bool :=
  match f.kind with
  | 1 => nth s.cal.failed f.index false
  | 2 => s.sliceFailed.contains f.index
  | 3 => s.fld (Fr.CLK_SYN_ROLE f.index) = roleFailed
  | 4 => s.fld (Fr.MEM_PC_STATE f.index) = pcRetired
  | 6 => s.fld (Fr.NET_PORT_STATE f.index) = 2
  | 7 => s.ctlFailed.contains f.index
  | 8 => s.xcor.failed.contains f.index
  | 9 => !s.flag Fr.REC_LINK_UP && !f.returned
  | 0xD => s.flag Fr.HK_FAULT
  | 0xE => !f.returned
  | _ => false

/-- May a region be tested now (Table 18.3)? -/
def State.bistMay (s : State) (kind i : Nat) : Bool :=
  !s.bists.any (fun b => b.kind = kind && b.index = i)
  && match kind with
    | 1 => (s.servedBy i).isNone && s.rot.all (fun r => i ≠ 8 && i ≠ r.m) && s.powered i
    | 2 => s.xcor.failed.contains i || !s.xcorOn
    | 3 => nth s.cal.failed i false || i = 8 && s.fld Fr.CAL_SPARE_USE = 0 && s.cal.run.isNone
    | 4 => !s.streams.any (fun x => x.dest = 0 && x.port = i) && !(s.ptpUsed && s.ptpPort = i)
    | 5 => s.recs.isEmpty
    | 6 => s.flag Fr.HK_FAULT
    | 7 => i ≠ s.ctlPair
    | 8 => s.inf Fr.VID_EN = 0
    | 9 => s.fld (Fr.MEM_PC_STATE i) = pcSpare || s.fld (Fr.MEM_PC_STATE i) = pcRetired
    | _ => false

/-! ## The BIST job (R397, R398) -/

def bistKind (d : Desc) : Nat := bits (nth d.p 0 0) 0 8
def bistIndex (d : Desc) : Nat := bits (nth d.p 0 0) 8 8
def bistType (d : Desc) : Nat := bits (nth d.p 0 0) 16 2

def bistFmt (_s : State) (d : Desc) : Option Refuse :=
  check (bits (nth d.p 0 0) 18 14 ≠ 0 || bistType d = 0
    || (match bistRegion (bistKind d) with
      | none => true
      | some r => r.1 ≤ bistIndex d || (List.range 2).any (fun b => bit (bistType d) b && !bit r.2.1 b))) (refuseFormat 0)

def bistState (s : State) (d : Desc) : Option Refuse := check (!s.bistMay (bistKind d) (bistIndex d)) refuseState

/-- A self-test starts on a region. -/
def State.startBist (s : State) (b : BistRun) : State :=
  let s1 := { s with bists := s.bists ++ [b] }
  if b.kind = 3 && b.index = 8 && !nth s.cal.failed 8 false then s1.setFld Fr.CAL_SPARE_USE 2 else s1

def bistApply (s : State) (d : Desc) (job : Nat) : State :=
  s.startBist ⟨job, bistKind d, bistIndex d, bistType d, false, 0⟩

/-- The signature expected for a region kind and a type (1 logic, 2 memory): ID.BIST_EXP. -/
def State.bistExp (s : State) (kind type : Nat) : Nat :=
  let a := 0x100 + (2 * kind + type - 1) * 8
  (s.reg a).toNat + 2 ^ 32 * (s.reg (a + 4)).toNat

/-! ## Units returned to service (R290) -/

/-- A unit whose test passed returns to service. -/
def State.unitReturn (s : State) (kind i : Nat) : State :=
  match kind with
  | 1 =>
    let s1 := ({ s with cal := { s.cal with failed := modNth s.cal.failed i (fun _ => false) } }).setFld (Fr.INTK_STATE i) 1
    if i = 8 then s1.freeSpare.coverFailed
    else if s1.cal.takeover = some i then s1.handBack i
    else s1
  | 2 =>
    let s1 := { s with sliceFailed := s.sliceFailed.filter (· ≠ i) }
    if i = 8 then (s1.ownEight false).coverSlice
    else if (s1.slice i).phys = 8 then ({ s1 with sliceBack := s1.sliceBack ++ [i] }).nextHandBack
    else if (s1.slice i).failed then s1.sliceMove i i s.samp
    else s1
  | 4 => s.setPc i pcFilling 0xFF
  | 6 => s.setFld (Fr.NET_PORT_STATE i) 0
  | 7 => { s with ctlFailed := s.ctlFailed.filter (· ≠ i) }
  | 8 =>
    let s1 := s.modXcor (fun y => { y with ret := (i :: y.ret).eraseDups })
    if s1.xcor.running then s1 else s1.xcorReturn
  | 0xD => ((s.setFld Fr.HK_FAULT 0).setFld Fr.HK_RUNNING 1).modHk (fun h => { h with rep := 0, delay := true })
  | _ => s

/-- A region that fails a test it was not failed before becomes failed: a fault record and its FAULT event; a failed
spare is unavailable. -/
def State.bistFailed (s : State) (b : BistRun) : State :=
  let fk := ((bistRegion b.kind).map (·.2.2)).getD 0
  let was := match b.kind with
    | 1 => s.sliceFailed.contains b.index
    | 2 => s.xcor.failed.contains b.index
    | 3 => nth s.cal.failed b.index false
    | 6 => true
    | 7 => s.ctlFailed.contains b.index
    | 9 => s.fld (Fr.MEM_PC_STATE b.index) = pcRetired
    | _ => false
  if was then s
  else
    let s1 := match b.kind with
      | 1 => { s with sliceFailed := b.index :: s.sliceFailed }
      | 2 => (s.modXcor (fun y => { y with failed := y.failed ++ [b.index] })).xcorReturn
      | 3 => (({ s with cal := { s.cal with failed := modNth s.cal.failed b.index (fun _ => true) } }).setFld
          (Fr.INTK_STATE b.index) 5).setFld Fr.CAL_SPARE_USE 5
      | 4 => { (s.setFld (Fr.NET_PORT_STATE b.index) 2) with capOut := ((6 + b.index) :: s.capOut).eraseDups }
      | 7 => { s with ctlFailed := b.index :: s.ctlFailed }
      | 9 => (s.setPc b.index pcFailed 0xFF).setFld Fr.MEM_SPARES (s.fld Fr.MEM_SPARES - 1)
      | _ => s
    s1.fault fk b.index none false s.samp 0 s.samp (fun _ => false)

/-- Memory BIST destroys the contents of its region (R398). -/
def State.bistWiped (s : State) (b : BistRun) : State :=
  if !bit b.type 1 then s
  else match b.kind with
    | 1 =>
      if b.index = 8 then
        (List.range 16).foldl (fun (st : State) c => st.modCore 8 c (fun k => { k with im := [], dm := [] })) s
      else s
    | 9 =>
      if s.fld (Fr.MEM_PC_STATE b.index) = pcSpare then
        (s.setPc b.index pcFilling 0xFF).setFld Fr.MEM_SPARES (s.fld Fr.MEM_SPARES - 1)
      else s
    | _ => s

/-- Outcome of a rotation's test (R400 to R402): a pass hands the work back, a failure leaves slice 8 on it. -/
def State.rotTested (s : State) (r : RotSt) (pass : Bool) : State :=
  let s1 := s.setFld Fr.BIST_PASS (setBits (s.fld Fr.BIST_PASS) r.m 1 (b2n pass))
  if r.m = 8 then
    (if pass then s1.endRot
      else ({ s1.endRot with sliceFailed := 8 :: s1.sliceFailed }).fault 2 8 none false s.samp 0 s.samp (fun _ => false)).nextHandBack
  else if pass then
    ({ s1 with rot := some ⟨r.m, 2, 8, r.from_, ceilDiv s.samp 16384 * 16384, false⟩ }).setFld Fr.BIST_STATE 3
  else
    let s2 := { s1.endRot with sliceFailed := r.from_ :: s1.sliceFailed }
    (s2.fault 2 r.from_ (some 8) false s.samp (s.sliceSlots r.m) s.samp (s.jobOnSlice r.m)).nextHandBack

/-- BIST_DONE (R290, R398, R402): a self-test ends with its signatures, compared with ID.BIST_EXP. -/
def execBistDone (kind index sigLogic sigMem : Nat) (s : State) : Host.Outcome State Fault Refusal :=
  .next (
    match s.bists.find? (fun b => b.kind = kind && b.index = index) with
    | none => s
    | some b =>
      let lg := bit b.type 0 && sigLogic % 2 ^ 64 = s.bistExp kind 1
      let mm := bit b.type 1 && sigMem % 2 ^ 64 = s.bistExp kind 2
      let pass := (lg || !bit b.type 0) && (mm || !bit b.type 1)
      let res := b2n lg + 2 * b2n mm
      let s1 := { s with bists := s.bists.filter (fun x => x.kind ≠ kind || x.index ≠ index) }
      let s2 := ((s1.setFld Fr.BIST_LAST_KIND kind).setFld Fr.BIST_LAST_INDEX index).setFld Fr.BIST_LAST_RESULT res
      let s3 := if bit b.type 0 then s2.setFld Fr.BIST_SIG_LOGIC sigLogic else s2
      let s4 := if bit b.type 1 then s3.setFld Fr.BIST_SIG_MEM sigMem else s3
      let idle := kind = 3 && index = 8 && s.fld Fr.CAL_SPARE_USE = 2 && s.cal.run.isNone
      let s5 := if idle then s4.setFld Fr.CAL_SPARE_USE 0 else s4
      match s.rot with
      | some r =>
        if r.phase = 1 && kind = 1 && index = r.from_ && b.job = 0 && !b.ack then s5.rotTested r pass
        else if b.ack then
          (if pass then (s5.unitReturn (((bistRegion kind).map (·.2.2)).getD 0) index).modFlt b.flt (fun f => { f with returned := true })
            else s5).complete b.job (if pass then stDone else stFlagged) res 0
        else
          (if pass then s5.bistWiped b else s5.bistFailed b).complete b.job (if pass then stDone else stFlagged) res 0
      | none =>
        if b.ack then
          (if pass then (s5.unitReturn (((bistRegion kind).map (·.2.2)).getD 0) index).modFlt b.flt (fun f => { f with returned := true })
            else s5).complete b.job (if pass then stDone else stFlagged) res 0
        else
          (if pass then s5.bistWiped b else s5.bistFailed b).complete b.job (if pass then stDone else stFlagged) res 0)

/-! ## The rotation over the slices (R400, R401) -/

/-- Slices that an input slot feeds. -/
def State.fedBy (s : State) (slot : Nat) : Nat :=
  if slot < 8 then (List.range 9).countP (fun n => s.sliceInput n = slot) else 0

/-- ROTATION_STEP (R400): the next step begins, or is skipped. -/
def execRotationStep (s : State) : Host.Outcome State Fault Refusal :=
  .next (
    if s.fld Fr.BIST_PERIOD = 0 || s.rot.isSome then s
    else
      let m := s.rotNext
      let s1 := { s with rotNext := (m + 1) % 9 }
      let busy := (List.range 16).any (fun c => (s.core m c).job ≠ 0)
      if m = 8 then
        if s.spareSliceIdle then
          (((({ s1 with
            rot := some ⟨8, 1, 8, 8, s.samp, false⟩
            bists := s.bists ++ [(⟨0, 1, 8, 3, false, 0⟩ : BistRun)] }).setFld Fr.BIST_STATE 2).setFld Fr.BIST_SLICE 8))
        else s1.incSat Fr.BIST_SKIPPED
      else if !s.powered m || !s.spareSliceIdle || 2 ≤ s.fedBy (s.sliceInput m) || (busy && !s.flag Fr.BIST_CORES)
          || (s.slice m).failed then
        s1.incSat Fr.BIST_SKIPPED
      else
        ((({ s1 with rot := some ⟨m, 0, m, 8, ceilDiv s.samp 16384 * 16384, false⟩ }).setFld Fr.BIST_STATE 1).setFld Fr.BIST_SLICE m))

/-- Has every producer of logical slice `n` come to its switch record: what is in progress began at or after `at_`? -/
def State.switchedAll (s : State) (n at_ : Nat) : Bool :=
  let x := s.slice n
  (!s.spxRuns n || (at_ ≤ x.next && (x.trace.frames = 0 || at_ ≤ x.trace.first) && (x.sk.frames = 0 || at_ ≤ x.sk.first)
      && (x.den.used = 0 || at_ ≤ x.den.first)))
  && (List.range 4).all (fun t =>
    let y := s.tuner n t
    !s.ddcRuns n t || (at_ ≤ y.start + y.j * (s.ddcCfg n t).dtot * y.d && (y.blk.data.isEmpty || at_ ≤ y.blk.first)
      && ((s.zoomTun n t).frames = 0 || at_ ≤ (s.zoomTun n t).first)))

/-- Once every producer has switched, the outgoing slice is released: its test begins, or the step ends (R400, R401). -/
def State.rotSettle (s : State) : State :=
  match s.rot with
  | none => s
  | some r =>
    if r.phase = 1 || s.samp < r.a + s.samplesOfNs 1000 || !s.switchedAll r.m (r.a + s.samplesOfNs 1000) then s
    else
      let s1 := (s.modSlice r.m (fun x => { x with phys := r.to_ })).coresRestart r.m
      if r.phase = 0 then
        ({ s1.ownEight true with
          rot := some { r with phase := 1 }
          bists := s1.bists ++ [(⟨0, 1, r.from_, 3, false, 0⟩ : BistRun)] }).setFld Fr.BIST_STATE 2
      else ((s1.ownEight false).endRot.coverSlice).nextHandBack

/-- ROTATION_TIMEOUT (R400): a step whose switches are not complete 60 s after A ends, with nothing switched. -/
def execRotationTimeout (s : State) : Host.Outcome State Fault Refusal :=
  .next (
    match s.rot with
    | none => s
    | some r =>
      if r.phase = 0 && r.a + s.samplesOfNs (60 * 10 ^ 9) ≤ s.samp then (s.endRot.incSat Fr.BIST_SKIPPED).nextHandBack else s)

/-! ## FAULT_ACK (R290) -/

/-- The fault record a FAULT_ACK names. -/
def State.ackFlt (s : State) (d : Desc) : Option Flt := s.faults.find? (fun f => f.id = nth d.p 0 0)

def faultAckFmt (_s : State) (d : Desc) : Option Refuse := check (1 < nth d.p 1 0) (refuseFormat 1)

/-- ACK: an unknown FLT_ID. -/
def ackState (s : State) (d : Desc) : Option Refuse := check (s.ackFlt d).isNone refuseState

/-- RETURN: also a unit that is not failed, or whose test or relock after an earlier RETURN still runs. -/
def returnState (s : State) (d : Desc) : Option Refuse :=
  check (match s.ackFlt d with
    | none => true
    | some f => !s.unitFailed f || s.bists.any (fun b => b.ack && (bistRegion b.kind).map (·.2.2) = some f.kind && b.index = f.index))
    refuseState

/-- ACK sets ACKED. -/
def ackApply (s : State) (d : Desc) (job : Nat) : State :=
  (s.modFlt (nth d.p 0 0) (fun f => { f with acked := true })).complete job stDone 0 0

/-- RETURN restarts a synthesiser's relock attempts (R80), or runs the BIST of the unit's region. -/
def returnApply (s : State) (d : Desc) (job : Nat) : State :=
  match s.ackFlt d with
  | none => s.complete job stDone 0 0
  | some f =>
    if f.kind = 3 then
      let s1 := s.modClk (fun c =>
        { c with
          synTry := modNth c.synTry f.index (fun _ => 0)
          synFlt := modNth c.synFlt f.index (fun _ => f.id)
          synAck := modNth c.synAck f.index (fun _ => some job) })
      s1.setFld (Fr.CLK_SYN_ROLE f.index) roleRelocking
    else
      match regionOf f.kind with
      | none => s.complete job stDone 0 0
      | some k =>
        let types := ((bistRegion k).map (·.2.1)).getD 0
        s.startBist ⟨job, k, f.index, types, true, f.id⟩

end Sys2Proof.Machine
end

