-- ==== Sys2Proof/Machine/Admission.lean ====
section
/-! DEFINITION. Admission: the system reservation and the 90 % rule (R268 to R270, R292). -/

namespace Sys2Proof.Machine

/-- The configuration once a capture and crossbar changes (slice, input slot) are in force. -/
def State.taking (s : State) (cap : RegFile) (xb : List (Nat × Nat)) : State :=
  xb.foldl (fun st p => st.setFld (Fr.SPX_INPUT p.1) p.2) (s.apply cap)

/-- The changes accepted and not yet in effect: the words each captured and its crossbar change. -/
def State.waiting (s : State) : List (RegFile × List (Nat × Nat)) :=
  (List.zip (List.range 9) s.slices).flatMap (fun p => p.2.pend.map (fun c => (c.cap, (c.xbar.map (fun i => (p.1, i))).toList)))
  ++ s.tuners.flatMap (fun x => x.pend.map (fun c => (c.cap, [])))
  ++ s.zooms.flatMap (fun x => x.pend.map (fun c => (c.cap, [])))
  ++ s.xcor.pend.map (fun c => (c.cap, []))
  ++ s.vid.pend.map (fun c => (c.cap, []))

/-- Units per tick of the system reservation of a configuration: the writers, scan-out and one unit of events for
housekeeping (R270, R345, R364). -/
def State.sysUnits (s : State) : List (Nat × Nat) := s.sysRes ++ s.vidRes ++ [(10, 1)]

/-- The configuration in force and those the changes that wait lead to, in order. -/
def State.configs (s : State) : List State :=
  (s.waiting.foldl (fun (r : State × List State) c => let t := r.1.taking c.1 c.2; (t, r.2 ++ [t])) (s, [s])).2

/-- The configuration once every change that waits is in force. -/
def State.settled (s : State) : State := s.waiting.foldl (fun st c => st.taking c.1 c.2) s

/-- The largest number of units of resource `c` among reservations. -/
def maxUnits (l : List (List (Nat × Nat))) (c : Nat) : Nat := l.foldl (fun m u => Nat.max m (unitsIn u c)) 0

/-- Units of resource `c` held: by jobs and freezes, and by the system, whose raised reservation is held from acceptance
and whose lowered one returns when the change takes effect (R270). -/
def State.heldUnits (s : State) (c : Nat) : Nat := s.jobUnits c + maxUnits (s.configs.map State.sysUnits) c

/-- Step 7 (R269): a job's units `need`, its journal unit and the system reservation of the configuration `after` it leads
to, added to everything held, against every ceiling; the lowest resource that fails is named. -/
def State.withinBudget (s : State) (need : List (Nat × Nat)) (after : Option State) : Option Refuse :=
  let sys := (s.configs ++ after.toList).map State.sysUnits
  let bad (c : Nat) : Bool := s.ceiling c < s.jobUnits c + maxUnits sys c + unitsIn ((11, 1) :: need) c
  (([1, 2, 3, 4, 5, 6, 7, 8, 9, 10, 11, 12, 13] ++ (List.range 9).map (· + 16)).find? bad).map (fun c => ⟨stRefBudget, 0xFF, c⟩)

end Sys2Proof.Machine
end

