-- ==== Sys2Proof/Machine/Commit.lean ====
section
/-! DEFINITION. COMMIT: its descriptor, its checks on the shadow values it captures, and the groups it schedules (R259,
with R13, R24, R68, R73, R74, R93 to R98, R104, R106, R109, R110, R116, R136, R141, R149, R156, R158, R159, R162, R165,
R345). -/

namespace Sys2Proof.Machine

/-! ## The descriptor (R259) -/

/-- IMMEDIATE, the target sample time T, BLOCK, INDEX_MASK, GROUPS. -/
def cmImm (d : Desc) : Bool := bit d.flags 0
def cmT (d : Desc) : Nat := nth d.p 0 0 + 2 ^ 32 * nth d.p 1 0
def cmBlock (d : Desc) : Nat := bits (nth d.p 2 0) 0 8
def cmMask (d : Desc) : Nat := bits (nth d.p 2 0) 8 9
def cmGroups (d : Desc) : Nat := nth d.p 3 0
def cmGroup (d : Desc) (g : Nat) : Bool := bit (cmGroups d) g

/-- The crossbar nibble of slice `n`. -/
def cmNibble (d : Desc) (n : Nat) : Nat := bits (if n < 8 then nth d.p 4 0 else nth d.p 5 0) (4 * (n % 8)) 4

/-- Is it an epoch COMMIT (R74)? -/
def cmEpoch (d : Desc) : Bool := cmBlock d = 1 && cmGroup d 0

/-- The copies it names. -/
def cmCopies (d : Desc) : List Nat := maskList 9 (cmMask d)

/-- The crossbar changes it asks for: slice and input slot. -/
def cmXbar (d : Desc) : List (Nat × Nat) :=
  if cmBlock d = 5 && cmGroup d 9 then (cmCopies d).map (fun n => (n, cmNibble d n)) else []

/-- GROUPS bits Table 11.8 defines for a block. -/
def groupsOf (block : Nat) : Nat :=
  match block with
  | 1 => 3
  | 2 => 1
  | 5 => 0x3FF
  | 6 => 1
  | 0xC => 1
  | _ => 0

/-- Is a block one of Table 11.8? -/
def blockKnown (b : Nat) : Bool := [1, 2, 5, 6, 9, 0xA, 0xB, 0xC].contains b

/-- The words of the SH fields of a slice, group by group. -/
def spxWords (n : Nat) : List Nat := (List.range 6).map (fun i => 0x80000 + 0x80000 * n + 4 * i)
def trgWords (n m : Nat) : List Nat := (List.range 7).map (fun i => 0x80100 + 0x80000 * n + 0x40 * m + 4 * i)
def denWords (n : Nat) : List Nat := ((List.range 4).map (fun i => 0x80200 + 0x80000 * n + 4 * i)) ++ [0x80280 + 0x80000 * n]

/-- The words that the engine, trigger and density groups of a COMMIT capture for slice `n`. -/
def cmSliceWords (d : Desc) (n : Nat) : List Nat :=
  (if cmGroup d 0 then spxWords n else []) ++ (if cmGroup d 1 then trgWords n 0 else [])
  ++ (if cmGroup d 2 then trgWords n 1 else []) ++ (if cmGroup d 3 then denWords n else [])

/-- The words that a COMMIT captures at acceptance (R109, R158). -/
def cmWords (d : Desc) : List Nat :=
  match cmBlock d with
  | 1 => (if cmGroup d 0 then epochRegs else []) ++ (if cmGroup d 1 then [0x10014] else [])
  | 2 => (cmCopies d).map (fun n => 0x20004 + 0x1000 * n)
  | 5 => (cmCopies d).flatMap (fun n => cmSliceWords d n
      ++ ((List.range 4).filter (fun t => cmGroup d (4 + t))).flatMap (ddcRegs n)
      ++ (if cmGroup d 8 then zoomRegs n else []))
  | 6 => xcorRegs
  | 0xC => vidRegs
  | _ => []

/-- The captured words of a list, out of a COMMIT's capture. -/
def capPart (cap : RegFile) (l : List Nat) : RegFile := cap.filter (fun p => l.contains p.1)

/-- The configuration a COMMIT leads to, once what waits before it and it itself are in force. -/
def State.cmAfter (s : State) (d : Desc) : State := s.settled.taking (s.capture (cmWords d)) (cmXbar d)

/-! ## Format checks of the descriptor (R259) -/

def cmShape (d : Desc) : Option Refuse :=
  let b := cmBlock d
  let w := nth d.p 2 0
  let copies := b = 2 || b = 5
  let x := b = 5 && cmGroup d 9
  firstRefusal [
    check (cmImm d && nth d.p 0 0 ≠ 0) (refuseFormat 0),
    check (cmImm d && nth d.p 1 0 ≠ 0) (refuseFormat 1),
    check (!blockKnown b || 2 ^ 17 ≤ w || copies && cmMask d = 0 || !copies && cmMask d ≠ 0) (refuseFormat 2),
    check (cmGroups d = 0 || (cmGroups d ||| groupsOf b) ≠ groupsOf b || b = 1 && cmGroups d = 3) (refuseFormat 3),
    check (!x && nth d.p 4 0 ≠ 0) (refuseFormat 4),
    check (x && (List.range 8).any (fun n => 8 ≤ cmNibble d n && cmNibble d n ≤ 14)) (refuseFormat 4),
    check (!x && nth d.p 5 0 ≠ 0) (refuseFormat 5),
    check (x && (8 ≤ cmNibble d 8 && cmNibble d 8 ≤ 14 || 16 ≤ nth d.p 5 0)) (refuseFormat 5)]

/-! ## Checks of slice values, made on the configuration `v` the COMMIT leads to (DETAIL_WORD 0xFF) -/

/-- Does the engine of slice `n` exceed its capacity: FS_s × F / H > 32 × f_SPX (R94)? -/
def State.spxOver (v : State) (n : Nat) : Bool :=
  let pts := spxPoints (v.spxMode n) (v.spxL2 n)
  let k := if 8200000000 * v.fs.den < v.fs.num then 2 else 4
  k * v.spxH n * v.sliceD n < pts

/-- The spectral-engine values of slice `n` break a rule (R93 to R98, R104, R106, R112). -/
def State.spxBad (v : State) (n : Nat) : Bool :=
  let win := v.inf (Fr.SPX_CTL_WIN n)
  let trace := v.inf (Fr.SPX_DET_TRACE_EN n) = 1
  let t := v.inf (Fr.SPX_INTEG_T n)
  let m := v.inf (Fr.SPX_SK_M n)
  let l2p := v.inf (Fr.SPX_SPAN_LOG2P n)
  let bpp := v.inf (Fr.SPX_SPAN_BPP n)
  let fast (k : Nat) : Bool := 100000 * v.spxH n * v.sliceD n * k * v.fs.den < v.fs.num
  !spxLegal (v.spxMode n) (v.spxL2 n) (v.inf (Fr.SPX_CTL_OVL n)) || v.spxOver n
  || (v.spxShifts n).contains 3 || 5 < win
  || win = 5 && nth (v.slice n).bankLen (v.inf (Fr.SPX_CTL_TBANK n)) 0 < v.spxW n
  || 4 < v.inf (Fr.SPX_DET_TIME_DET n) || v.inf (Fr.SPX_DET_OUT_FMT n) = 3
  || bpp = 0 || 1024 < bpp || l2p < 6 || t = 0 || 2 ^ 20 < t || m < 64 || 65536 < m
  || trace && (v.spxNbins n < v.inf (Fr.SPX_SPAN_START_BIN n) + bpp * 2 ^ l2p
    || v.inf (Fr.SPX_DET_TIME_DET n) = 2 && v.inf (Fr.SPX_DET_OUT_FMT n) ≠ 1 || fast t)
  || v.inf (Fr.SPX_SK_EN n) = 1 && fast m

/-- The values of trigger `m` of slice `n` break a rule (R116, R142). -/
def State.trgBad (v : State) (n m : Nat) : Bool :=
  v.inf (Fr.TRG_END_BIN n m) < v.inf (Fr.TRG_START_BIN n m) || v.spxNbins n ≤ v.inf (Fr.TRG_END_BIN n m)
  || v.inf (Fr.TRG_K n m) = 0 || v.inf (Fr.TRG_QUAL n m) = 3 || v.inf (Fr.TRG_THRESH n m) = 0

/-- The density values of slice `n` break a rule (R136, R142). -/
def State.denBad (v : State) (n : Nat) : Bool :=
  24 < v.inf (Fr.DEN_LOG2CNT n) || 5 < v.inf (Fr.DEN_LOG2BPC n) || v.inf (Fr.DEN_STEP n) = 0 || v.inf (Fr.DEN_PERIOD n) = 0
  || (if v.inf (Fr.DEN_MODE n) = 0 then 2 ^ v.inf (Fr.DEN_LOG2CNT n) * v.kTake n * v.spxH n * v.sliceD n < 10240 * 16
    else v.inf (Fr.DEN_PERIOD n) * 65536 * v.sliceD n < 10240 * 16)

/-- A record would have no history to hold it (R141). -/
def State.unplaced (v : State) (n : Nat) : Bool :=
  v.inf (Fr.HIST_SIZE_MIB n) = 0 && (v.inf (Fr.SPX_DET_TRACE_EN n) = 1 || v.inf (Fr.SPX_SK_EN n) = 1
    || v.inf (Fr.DEN_EN n) = 1 || v.inf (Fr.ZOOM_EN n) = 1)

/-- Base and length in bytes of the history and of a tuner's stream ring in a configuration. -/
def State.histAt (v : State) (n : Nat) : Nat × Nat :=
  (v.inf (Fr.HIST_BASE_MIB n) * 2 ^ 20, v.inf (Fr.HIST_SIZE_MIB n) * 2 ^ 20)
def State.ddcRingAt (v : State) (n t : Nat) : Nat × Nat :=
  (v.inf (Fr.DDC_RING_BASE_MIB n t) * 2 ^ 20, v.inf (Fr.DDC_RING_SIZE_MIB n t) * 2 ^ 20)

/-- Does a COMMIT change the history of slice `n` (R141)? -/
def State.histMoves (s v : State) (n : Nat) : Bool := s.settled.histAt n ≠ v.histAt n

/-- A changed history breaks the rules of R141 and R211. -/
def State.histBad (s v : State) (n : Nat) : Bool :=
  let h := v.histAt n
  s.histMoves v n && (v.inf (Fr.HIST_SIZE_MIB n) < 16 || 4096 < v.inf (Fr.HIST_SIZE_MIB n) || v.badRegion h.1 h.2
    || v.meetsRegion h.1 h.2 (fun r => r.kind = 1 && r.idx ≠ n))

/-- The tuners of slice `n` that run in a configuration. -/
def State.tunersOn (v : State) (n : Nat) : List Nat := (List.range 4).filter (fun t => v.inf (Fr.DDC_EN n t) = 1)

/-- Sum of r_out / FS_s over tuners, as a fraction. -/
def State.decSum (v : State) (n : Nat) (l : List Nat) : Nat × Nat :=
  l.foldl (fun a t => let d := (v.ddcCfg n t).dtot; (a.1 * d + a.2, a.2 * d)) (0, 1)

/-- The values of tuner `t` of slice `n` break a rule (R149). -/
def State.ddcBad (v : State) (n t : Nat) : Bool :=
  let c := v.ddcCfg n t
  let sum := v.decSum n (v.tunersOn n)
  c.r = 0 || 4096 < c.r || c.df = 0 || 128 < c.df || c.xfLen ≠ 0 && c.xfLen < 64 || 4096 < c.xfLen
  || c.l2blk < 4 || 11 < c.l2blk || c.fmt = 1 && 10 < c.l2blk
  || c.on_ < c.off_ || c.minOn = 0 || c.minOff = 0
  || c.tapsBreak (v.ddcTaps n t 0) (v.sliceD n) || c.tapsBreak (v.ddcTaps n t 1) (v.sliceD n)
  || sum.2 < 4 * sum.1 || c.en = 1 && c.size = 0

/-- Does a COMMIT change the stream ring of a tuner (R162)? -/
def State.ddcMoves (s v : State) (n t : Nat) : Bool := s.settled.ddcRingAt n t ≠ v.ddcRingAt n t

/-- A changed stream ring breaks the rules of R162 and R211. -/
def State.ddcRingBad (s v : State) (n t : Nat) : Bool :=
  let r := v.ddcRingAt n t
  s.ddcMoves v n t && (v.inf (Fr.DDC_RING_SIZE_MIB n t) = 0 || 1024 < v.inf (Fr.DDC_RING_SIZE_MIB n t) || v.badRegion r.1 r.2
    || v.meetsRegion r.1 r.2 (fun q => q.kind = 1 || q.kind = 2 && q.idx ≠ 4 * n + t))

/-- The zoom values of slice `n` break a rule (R165). -/
def State.zoomBad (v : State) (n : Nat) : Bool :=
  let named := maskList 4 (v.inf (Fr.ZOOM_TUNERS n))
  let l2 := v.inf (Fr.ZOOM_LOG2N n)
  let ovl := v.inf (Fr.ZOOM_OVL n)
  let tz := v.inf (Fr.ZOOM_T_Z n)
  let sum := v.decSum n named
  l2 < 8 || 17 < l2 || ovl = 3 || 4 < v.inf (Fr.ZOOM_WIN n) || v.inf (Fr.ZOOM_OUT_FMT n) = 3 || tz = 0 || 65536 < tz
  || 131072 < named.length * 2 ^ l2
  || v.sliceD n * sum.2 < 4 * sum.1 * 2 ^ ovl
  || 100000 * (2 ^ l2 / 2 ^ ovl) * tz * v.sliceD n * sum.2 * v.fs.den < v.fs.num * sum.1

/-- Format checks of a COMMIT of SLC. -/
def sliceFmt (s : State) (d : Desc) : Option Refuse :=
  let v := s.cmAfter d
  check ((cmCopies d).any (fun n => v.spxBad n || v.trgBad n 0 || v.trgBad n 1 || v.denBad n || v.unplaced n || s.histBad v n
    || (List.range 4).any (fun t => cmGroup d (4 + t) && (v.ddcBad n t || s.ddcRingBad v n t))
    || cmGroup d 8 && v.zoomBad n)) (refuseFormat 0xFF)

/-! ## State checks -/

/-- The input slot of each slice in the resulting map (R259). -/
def State.cmMap (v : State) : List Nat := (List.range 9).map v.sliceInput

/-- The crossbar group is refused: three slices on one slot, a powered-down unit, a bound slice moved (R13, R16, R169). -/
def State.xbarRefused (s : State) (d : Desc) : Bool :=
  let v := s.cmAfter d
  let map := v.cmMap
  cmGroup d 9 && ((List.range 8).any (fun i => 3 ≤ map.count i)
    || (cmXbar d).any (fun p => p.2 < 8 && !s.powered p.2)
    || (cmXbar d).any (fun p => s.xcorBound p.1 && s.settled.sliceInput p.1 ≠ p.2))

/-- A COMMIT to a bound slice would change its MODE, LOG2LEN or OVL (R169). -/
def State.boundMoves (s v : State) (n : Nat) : Bool :=
  s.xcorBound n && (v.spxMode n ≠ s.settled.spxMode n || v.spxL2 n ≠ s.settled.spxL2 n
    || v.inf (Fr.SPX_CTL_OVL n) ≠ s.settled.inf (Fr.SPX_CTL_OVL n))

/-- State checks of a tuner group: a full queue place, a ring that may not move (R156, R162, R296). -/
def State.ddcRefused (s v : State) (n t : Nat) : Bool :=
  let old := s.settled.ddcCfg n t
  let new := v.ddcCfg n t
  let r := v.ddcRingAt n t
  (s.tuner n t).queued.isSome && !old.restarts new && new.xfLen ≠ 0 && new.bank ≠ old.bank
  || s.ddcMoves v n t && (s.inf (Fr.DDC_EN n t) = 1 || s.tunerStreamed n t || s.overMove r.1 r.2)

/-- State checks of a COMMIT of SLC. -/
def sliceState (s : State) (d : Desc) : Option Refuse :=
  let v := s.cmAfter d
  check ((cmCopies d).any (fun n => !s.powered n || s.boundMoves v n
      || s.histMoves v n && (s.inf (Fr.SPX_CTL_EN n) = 1 || s.inf (Fr.DEN_EN n) = 1 || s.sliceStreamed n
        || s.overMove (v.histAt n).1 (v.histAt n).2)
      || (List.range 4).any (fun t => cmGroup d (4 + t) && s.ddcRefused v n t))
    || s.xbarRefused d) refuseState

/-! ## Target times (R110, R158, R159) -/

/-- The target of a COMMIT: T, or the present of an immediate one. -/
def State.cmTarget (s : State) (d : Desc) : Nat := if cmImm d then s.samp else cmT d

/-- Does a COMMIT touch the engine, triggers, density builder or crossbar of the slices it names? -/
def cmEngine (d : Desc) : Bool := cmBlock d = 5 && (cmGroups d % 16 ≠ 0 || cmGroup d 9)

/-- The first sample time at or after `t` that slice `n` has not received. -/
def State.unseen (s : State) (n t : Nat) : Nat :=
  if s.sliceInput n < 8 then Nat.max t (s.slot (s.sliceInput n)).next else t

/-- The change instant of slice `n` for a target (R110): the configuration before it is `s`, after it `v`. -/
def State.changeAt (s v : State) (n t : Nat) : Nat :=
  let m := Nat.max 1 (Nat.max (s.spxH n * s.sliceD n) (v.spxH n * v.sliceD n))
  ceilDiv (s.unseen n t) m * m

/-- The restart instant C_D of a tuner of slice `n` for a target (R150): a beat boundary of the slot. -/
def State.restartAt (s : State) (n t : Nat) : Nat := beatAt (s.unseen n t) (s.sliceD n)

/-- Window checks of a COMMIT. -/
def commitWindow (s : State) (d : Desc) : Option Refuse :=
  let t := s.cmTarget d
  check (!cmImm d && cmT d < s.earliest
    || cmEngine d && (cmCopies d).any (fun n => (s.slice n).pend.any (fun c => t < c.at_ || t = c.t))
    || cmBlock d = 5 && (cmCopies d).any (fun n => (List.range 4).any (fun k =>
      cmGroup d (4 + k) && (s.tuner n k).pend.any (fun c => c.job ≠ 0 && s.restartAt n t ≤ c.at_)))) refuseWindow

/-! ## The COMMIT job, block by block -/

/-- The new values of an epoch COMMIT would put an enabled slice outside capacity (R94). -/
def State.epochSlow (s : State) (cap : RegFile) : Bool :=
  let v := s.settled.taking cap []
  (List.range 9).any (fun n => v.inf (Fr.SPX_CTL_EN n) = 1 && v.spxOver n)

/-- Regions of a COMMIT of XCOR that lie over a MOVE's write range (R296). -/
def State.xcorOverMove (s : State) (d : Desc) : Bool :=
  let v := s.cmAfter d
  s.overMove (v.inf Fr.XCOR_OUT_BASE_MIB * 2 ^ 20) (v.inf Fr.XCOR_OUT_SIZE_MIB * 2 ^ 20)
  || s.overMove (v.inf Fr.XCOR_FRING_BASE_MIB * 2 ^ 20) (v.inf Fr.XCOR_FRING_SIZE_MIB * 2 ^ 20)

/-- Format checks of a COMMIT (step 4). -/
def commitFmt (s : State) (d : Desc) : Option Refuse :=
  let cap := s.capture (cmWords d)
  firstRefusal [cmShape d,
    match cmBlock d with
    | 1 => check (cmGroup d 0 && !s.epochValuesOk cap) (refuseFormat 0xFF)
    | 5 => sliceFmt s d
    | 6 => xcorFmt s cap
    | 0xC => vidFmt s cap
    | _ => none]

/-- State checks of a COMMIT (step 5). -/
def commitState (s : State) (d : Desc) : Option Refuse :=
  let cap := s.capture (cmWords d)
  match cmBlock d with
  | 1 => check (cmGroup d 0 && (s.epochRefused cap || s.epochSlow cap) || cmGroup d 1 && s.inf Fr.CLK_REF_SRC = 2) refuseState
  | 2 => check ((cmCopies d).any (fun n => !s.powered n)) refuseState
  | 5 => sliceState s d
  | 6 => firstRefusal [xcorState s cap, check (s.xcorOverMove d) refuseState]
  | 0xC => vidState s cap
  | _ => none

/-- The admission test of a COMMIT (step 7): the system reservation its capture leads to; an epoch COMMIT is tested under
the FS it leads to (R270). -/
def commitBudget (s : State) (d : Desc) : Option Refuse :=
  if cmEpoch d then (s.cmAfter d).withinBudget [] none else s.withinBudget [] (some (s.cmAfter d))

/-- The engine, trigger, density and crossbar groups of slice `n` wait for their change instant. -/
def State.sliceCommit (s : State) (d : Desc) (cap : RegFile) (job t n : Nat) : State :=
  let own := capPart cap (cmSliceWords d n)
  let xb := ((cmXbar d).find? (fun p => p.1 = n)).map (·.2)
  let before := s.settled
  let c := before.changeAt (before.taking own (xb.map (fun i => (n, i))).toList) n t
  let ch : SpxChange := ⟨job, own, t, c, cmGroup d 0, b2n (cmGroup d 1) + 2 * b2n (cmGroup d 2), cmGroup d 3, xb⟩
  let s1 := (s.modSlice n (fun x => { x with pend := x.pend ++ [ch] })).setFld (Fr.SPX_PENDING n) 1
  let moved := xb.any (fun i => i ≠ before.sliceInput n)
  if moved then
    (List.range 4).foldl (fun st k => st.modTuner n k (fun x => { x with pend := x.pend ++ [⟨0, [], c⟩] })) s1
  else s1

/-- The tuner groups of slice `n` wait for their restart instant. -/
def State.tunerCommit (s : State) (d : Desc) (cap : RegFile) (job t n : Nat) : State :=
  ((List.range 4).filter (fun k => cmGroup d (4 + k))).foldl (fun st k =>
    st.modTuner n k (fun x => { x with pend := x.pend ++ [⟨job, capPart cap (ddcRegs n k), s.restartAt n t⟩] })) s

/-- The instants a COMMIT of SLC produces: change instants, and restart instants of tuners that restart (R256). -/
def State.cmInstants (s : State) (d : Desc) (job : Nat) : List Nat :=
  (cmCopies d).flatMap (fun n => ((s.slice n).pend.filter (fun c => c.job = job)).map (·.at_)
    ++ (List.range 4).flatMap (fun k => ((s.tuner n k).pend.filter (fun c =>
        c.job = job && (s.ddcCfg n k).restarts (s.ddcCfgOf c.cap n k))).map (·.at_)))

/-- A COMMIT of SLC starts. -/
def State.commitSlices (s : State) (d : Desc) (cap : RegFile) (job : Nat) : State :=
  let t := s.cmTarget d
  let s1 := (cmCopies d).foldl (fun st n =>
    let a := if cmEngine d then st.sliceCommit d cap job t n else st
    let b := a.tunerCommit d cap job t n
    if cmGroup d 8 then b.modZoom n (fun z => { z with pend := z.pend ++ [⟨job, capPart cap (zoomRegs n), t⟩] }) else b) s
  match s1.cmInstants d job with
  | [] => s1
  | i :: l => s1.setExtent job (l.foldl Nat.min i)

/-- The clock groups: an epoch COMMIT is pending until its request (R74), a trim waits for its target (R73). -/
def State.commitClock (s : State) (d : Desc) (cap : RegFile) (job : Nat) : State :=
  if cmGroup d 0 then
    let timed := s.capFld cap Fr.CLK_SYNC_SRC = 0
    let e : EpochReq := ⟨job, cap, cmT d, cmImm d, timed, timed && cmImm d, false⟩
    (s.modClk (fun c => { c with epoch := some e })).setFld Fr.CLK_SYNC_PENDING 1
  else
    let x := signed 19 (s.capFld cap Fr.CLK_TRIM_TARGET)
    if cmImm d then (s.setTrim x).complete job stDone 0 0
    else s.modClk (fun c => { c with trims := c.trims ++ [(job, cmT d, x)] })

/-- Attenuations wait for the first beat boundary at or after the target (R24). -/
def State.commitAttens (s : State) (d : Desc) (cap : RegFile) (job : Nat) : State :=
  { s with attens := s.attens ++ (cmCopies d).map (fun n => ⟨job, n, s.capFld cap (Fr.INTK_ATTEN n), s.cmTarget d⟩) }

/-- The effect of an accepted COMMIT on start; `cap` are the words it captured. -/
def commitApply (s : State) (d : Desc) (cap : RegFile) (job : Nat) : State :=
  match cmBlock d with
  | 1 => s.commitClock d cap job
  | 2 => s.commitAttens d cap job
  | 5 => s.commitSlices d cap job
  | 6 => xcorApply s cap (s.cmTarget d) job
  | 0xC =>
    let c : VidChange := ⟨job, cap, s.cmTarget d⟩
    if !s.vidWaits && c.target ≤ s.samp then (s.vidApply c).complete job stDone 0 0
    else s.modVid (fun v => { v with pend := v.pend ++ [c] })
  | _ => s.complete job stDone 0 0

/-! ## Effects at their instants -/

/-- Trims whose target has come take effect and complete (R73). -/
def State.settleTrims (s : State) : State :=
  let due := s.clk.trims.filter (fun p => p.2.1 ≤ s.samp)
  due.foldl (fun st p => (st.setTrim p.2.2).complete p.1 stDone 0 0)
    (s.modClk (fun c => { c with trims := c.trims.filter (fun p => !(p.2.1 ≤ s.samp)) }))

/-- Timing COMMITs that do not wait for a blanking take effect at their target (R346). -/
def State.settleVid (s : State) : State :=
  (s.vid.pend.filter (fun c => !s.vidWaits && c.target ≤ s.samp)).foldl (fun st c => (st.vidApply c).complete c.job stDone 0 0) s

/-- Attenuations of intake `n` that land at the next beat boundary; their COMMITs complete (R24, R259). -/
def State.landAll (s : State) (n : Nat) : State :=
  let jobs := ((s.attens.filter (fun r => r.intake = n && r.target ≤ s.nextOf n)).map (·.job)).eraseDups
  jobs.foldl State.settleCommit (s.landAttens n)

/-- ATTEN_CHANGE (R24 to R26): the changes of intake `n` that are due land at its next beat boundary. -/
def execAttenChange (n : Nat) (s : State) : Host.Outcome State Fault Refusal := .next (s.landAll n)

end Sys2Proof.Machine
end

