-- ==== Sys2Proof/Machine/Beat.lean ====
section
/-! DEFINITION. Beats, frames and change instants: what a beat does to the ring, the slices and the tuners, what a
completed frame does to triggers, density builder, detectors and correlator, and how a slice changes (R12 to R15, R92,
R102, R109 to R111, R116 to R119, R124, R131, R139, R153, R231). -/

namespace Sys2Proof.Machine

/-! ## Where beats go -/

/-- The input slot that slice `n` takes the beat at sample time `t` from: a crossbar change that waits counts from its
change instant on (R13, R109). -/
def State.inputAt (s : State) (n t : Nat) : Nat :=
  ((s.slice n).pend.filter (fun c => c.at_ ≤ t)).foldl (fun i c => c.xbar.getD i) (s.sliceInput n)

/-- Put a beat into a sample buffer, in order of sample time. -/
def insBeat : List SBeat → SBeat → List SBeat
  | [], b => [b]
  | a :: l, b => if b.t < a.t then b :: a :: l else a :: insBeat l b

/-- A slice receives a beat: its sample buffer while the engine runs or a change waits, and its tuners. A beat inside a
takeover gap is not received (R153, Table 5.6). -/
def State.sliceBeat (s : State) (n : Nat) (b : SBeat) : State :=
  let x := s.slice n
  let gone := b.t < x.gapUntil
  let s1 := s.modSlice n (fun y =>
    { y with buf := if s.spxRuns n || !y.pend.isEmpty then insBeat y.buf (if gone then b.missed else b) else [] })
  if gone || x.failed then s1
  else (List.range 4).foldl (fun st t =>
    if st.ddcRuns n t || !(st.tuner n t).pend.isEmpty then st.modTuner n t (fun y => y.beat b) else st) s1

/-- HIF.STAT.FULL_SERVICE: every step of Table 19.4 has been reached since the last reset (R412). -/
def State.updateService (s : State) : State :=
  let locked (x : Nat) : Bool := s.fld (Fr.CLK_SYN_ROLE x) ≠ roleRelocking
  let intakes := (List.range 9).all (fun k => !s.powered k || nth s.cal.started k false || s.fld (Fr.INTK_STATE k) = 5)
  if s.flag Fr.HIF_BOOT_DONE && s.flag Fr.CLK_RUNNING && s.clk.started && locked 0 && locked 1 && intakes
      && s.hbm.training.isNone && (List.range 128).all (fun p => s.fld (Fr.MEM_PC_STATE p) ≠ pcFilling) then s.setFld Fr.HIF_FULL_SERVICE 1
  else s

/-- What falls due at a beat boundary: trims, timing COMMITs, complete freezes and armings, zoom COMMITs, the switches of
a rotation step. -/
def State.boundary (s : State) : State :=
  let s1 := s.completeFreezes.settleTrims.settleVid.trgSettle
  let s2 := (List.range 9).foldl State.zoomSettle s1
  s2.rotSettle.updateService

/-- Samples that background tracking of an intake integrates (R48): those of beats with VALID set and OVR clear. -/
def State.track (s : State) (slot : Nat) (b : Beat) : State :=
  let k := s.fld (Fr.INTK_SLOT_FEEDER slot)
  if s.flag Fr.CAL_CTL_BG_EN && s.fld (Fr.INTK_SLOT_SOURCE slot) = 0 && k < 9 && b.valid && !b.ovr then
    { s with cal := { s.cal with bgN := modNth s.cal.bgN k (· + 16) } }
  else s

/-- A beat of slot `slot` is delivered (R14, R24, R29 to R33): attenuations due land first, then the ring writer and the
slices take it. -/
def State.deliver (s : State) (slot : Nat) (samples : List Int) (good cbit : Bool) : State :=
  let a0 := s.fld (Fr.INTK_ATTEN_NOW_ATTEN slot)
  let s1 := s.landAll slot
  let chg := s1.fld (Fr.INTK_ATTEN_NOW_ATTEN slot) ≠ a0
  let b := s1.mkBeat slot samples good cbit
  let s2 := (s1.slotBeat slot b).track slot b
  let s3 := s2.ringWrite slot b.t b.d (b.samples.map (unsigned 12)) b.flags
  let sb : SBeat := ⟨b.t, b.d, b.flags + 16 * b2n chg, b.samples⟩
  let s4 := ((List.range 9).filter (fun n => s3.inputAt n b.t = slot)).foldl (fun st n => st.sliceBeat n sb) s3
  s4.modStreams (fun x => b.ovr && x.kind = 1 && s3.sliceInput x.slice = slot) (fun x => { x with ovr := x.ovr + 1 })

/-- BEAT (R12 to R15, R24 to R33, R228 to R231): the converter or link of a slot delivers 16 conversions. Nothing is
delivered while CK_DP is gated or the slot is powered down. -/
def execBeat (slot : Nat) (samples : List Int) (good cbit : Bool) (s : State) : Host.Outcome State Fault Refusal :=
  .next (
    if slot < 8 && s.powered slot && s.flag Fr.CLK_RUNNING && s.clk.run.isNone && !s.inReset then
      (s.deliver slot samples good cbit).boundary
    else s)

/-! ## Frames (R92, R102) -/

/-- The words a slice's earliest change brings, its instant, and its crossbar change. -/
def State.nextChange (s : State) (n : Nat) : Option (Nat × List SpxChange) :=
  match (s.slice n).pend with
  | [] => none
  | c :: l =>
    let at_ := l.foldl (fun m x => Nat.min m x.at_) c.at_
    some (at_, (s.slice n).pend.filter (fun x => x.at_ = at_))

/-- The configuration after the changes of one instant. -/
def State.changed (s : State) (n : Nat) (l : List SpxChange) : State :=
  l.foldl (fun st c => st.taking c.cap (c.xbar.map (fun i => (n, i))).toList) s

/-- Do the changes alter the frames: the words of SPX_CTL or SPX_SHIFT, or the input slot? Where they do not, no frame is
suppressed (Table 5.6). -/
def State.framesChange (s : State) (n : Nat) (l : List SpxChange) : Bool :=
  let v := s.changed n l
  s.forceReg (0x80000 + 0x80000 * n) ≠ v.forceReg (0x80000 + 0x80000 * n)
  || s.forceReg (0x80004 + 0x80000 * n) ≠ v.forceReg (0x80004 + 0x80000 * n) || s.sliceInput n ≠ v.sliceInput n

/-- End of the next frame of slice `n`. -/
def State.frameEnd (s : State) (n : Nat) : Nat := (s.slice n).next + s.spxW n * s.sliceD n

/-- May the next frame of slice `n` be computed: every beat of it has come, it ends before a change that alters the
frames, starts before any other, and the correlator can take it? -/
def State.frameDue (s : State) (n : Nat) : Bool :=
  s.spxRuns n && s.reached n (s.frameEnd n) && s.xcorMay n (s.slice n).next
  && (match s.nextChange n with
    | none => true
    | some (at_, l) => if s.framesChange n l then s.frameEnd n ≤ at_ else (s.slice n).next < at_)

/-- SPECTRUM (R92, R97 to R102, R116 to R120, R133, R104, R108, R172): the next frame of slice `n` completes. `trigIn` are
the TRIG_IN levels at its last sample, `checkFail` the correlator halves whose check fails on it. -/
def execSpectrum (n trigIn checkFail : Nat) (s : State) : Host.Outcome State Fault Refusal :=
  .next (
    if n < 9 && s.frameDue n then
      let f := s.mkFrame n
      let u := 17 + s.servePhys n f.start
      let step := s.spxH n * s.sliceD n
      let s1 := ({ s with trigIn := trigIn }).modSlice n (fun x =>
        { x with next := x.next + step, buf := x.buf.dropWhile (fun b => b.t + 16 * b.d ≤ x.next + step) })
      let s2 := s1.count u .frames 1
      let s3 := if bit f.flags 4 then (s2.setFld (Fr.SPX_FFT_OVF n) 1).count u .overflowed 1 else s2
      let s4 := (((s3.trgFrame n 0 trigIn f).trgFrame n 1 trigIn f).denFrame n trigIn f)
      ((s4.traceFrame n f).skFrame n f).xcorFeed n f checkFail
    else s)

/-! ## Change instants (R109 to R111, R118, R124, R131, R139) -/

/-- The fields of trigger `m` take effect: a host swap is checked and made, or rejected (R131). -/
def State.trgApply (s : State) (n m : Nat) : State :=
  let t := s.inf (Fr.TRG_TABLE n m)
  let s1 := s.trgUnknown n m
  if s.inf (Fr.TRG_OWNER n m) = 1 || t = s.fld (Fr.TRG_TABLE_NOW n m) then s1
  else if maskOk (s.maskTab n m t) then s1.setFld (Fr.TRG_TABLE_NOW n m) t
  else s1.setFld (Fr.TRG_TABLE_BAD n m) 1

/-- A change of the history's place: it starts empty. -/
def State.histApply (s old : State) (n : Nat) : State :=
  if s.histAt n = old.histAt n then s
  else (((s.modSlice n (fun x => { x with hist := [] })).setFld (Fr.HIST_WR_OFS n) 0).setFld (Fr.HIST_OLDEST_OFS n) 0).setFld
    (Fr.HIST_WRAPS n) 0

/-- Registers that show whether the engine and the density builder of a slice run. -/
def State.sliceStat (s : State) (n : Nat) : State :=
  ((s.setFld (Fr.SPX_RUNNING n) (b2n (s.spxRuns n))).setFld (Fr.DEN_RUNNING n)
    (b2n (s.spxRuns n && s.inf (Fr.DEN_EN n) = 1))).setFld (Fr.DEN_KTAKE n) (s.kTake n)

/-- The changes `l` of slice `n` take effect at C = `at_`. -/
def State.applyChange (s : State) (n at_ : Nat) (l : List SpxChange) : State :=
  let engine := l.any (fun c => c.spx || c.xbar.isSome)
  let frames := s.framesChange n l
  let den := frames || l.any (fun c => c.den)
  let run := s.spxRuns n
  let supp := if run && frames then s.spxW n / Nat.max 1 (s.spxH n) - 1 else 0
  let s1 := if engine then s.cutRecords n else s
  let s2 := if den then s1.cutDensity n else s1
  let s3 := (s2.modSlice n (fun x => { x with pend := x.pend.filter (fun c => c.at_ ≠ at_) })).changed n l
  let s4 := if frames then s3.modSlice n (fun x =>
      { x with next := at_, buf := x.buf.filter (fun b => at_ < b.t + 16 * b.d) }) else s3
  let s5 := if engine then
      let a := (((s4.modSlice n (fun x => { x with trace := {}, sk := {} })).spxPrepare n).setFld (Fr.SPX_CTL_NOW n)
        (s4.forceReg (0x80000 + 0x80000 * n)).toNat).incWrap (Fr.SPX_GEN n)
      ((a.setFld (Fr.SPX_SUPP n) supp).setFld (Fr.SPX_CHG_ST n) at_).count (17 + (s.slice n).phys) .suppressed supp
    else s4
  let s6 := if den then
      [0, 1].foldl (fun st m => st.modTrg n m (fun t => { t with hits := 0, hitFired := false }))
        (s5.modDen n (fun d => { d with start := at_ }))
    else s5
  let s7 := [0, 1].foldl (fun st m =>
    if l.any (fun c => bit c.trg m) then st.trgApply n m else if engine then st.trgUnknown n m else st) s6
  let s8 := ((s7.histApply s n).sliceStat n).setFld (Fr.SPX_PENDING n) (b2n (!(s7.slice n).pend.isEmpty))
  (List.range 4).foldl (fun st t => st.ddcStat n t) s8

/-- Has slice `n` computed every frame it computes before a change at `at_`? -/
def State.changeDue (s : State) (n at_ : Nat) (l : List SpxChange) : Bool :=
  s.reached n at_ && (!s.spxRuns n || (if s.framesChange n l then at_ < s.frameEnd n else at_ ≤ (s.slice n).next))

/-- SPX_CHANGE_INSTANT (R109 to R111): the change instant C of slice `n` comes. -/
def execSpxChangeInstant (n : Nat) (s : State) : Host.Outcome State Fault Refusal :=
  .next (
    match s.nextChange n with
    | none => s
    | some (at_, l) =>
      if n < 9 && s.changeDue n at_ l then (l.map (·.job)).foldl State.settleCommit (s.applyChange n at_ l) else s)

end Sys2Proof.Machine
end

