-- ==== Sys2Proof/Machine/Epoch.lean ====
section
/-! DEFINITION. The epoch: what takes effect at t_E, and the beat at sample time 0 (R65, R67, R69, R74 to R77, R83, R85 to
R87, R89, R183, R414). -/

namespace Sys2Proof.Machine

/-- The opcodes of COMMIT and SNAPSHOT (Table 11.6). -/
def opCommit : Nat := 0x02
def opSnapshot : Nat := 0x0C

/-- Every other COMMIT accepted and not wholly in effect, and every SNAPSHOT whose copy has not been taken, completes
CANCELLED: their targets are sample times of the old epoch (R75). -/
def State.cancelTimed (s : State) (keep : Nat) : State :=
  let hit (j : Job) : Bool := j.id ≠ keep && (j.d.opcode = opCommit || j.d.opcode = opSnapshot)
  let s1 := (s.openJobs hit).foldl (fun st j => st.complete j.id stCancelled 0 j.extent) s
  let s2 := { s1 with
    attens := []
    snaps := []
    slices := s1.slices.map (fun (x : Slice) => { x with pend := [] })
    tuners := s1.tuners.map (fun (x : Tuner) => { x with pend := [], queued := none })
    zooms := s1.zooms.map (fun (x : Zoom) => { x with pend := [] })
    xcor := { s1.xcor with pend := [] }
    vid := { s1.vid with pend := [] }
    clk := { s1.clk with trims := [] } }
  (List.range 9).foldl (fun st n => st.setFld (Fr.SPX_PENDING n) 0) s2

/-- The results of slice `n` end at the epoch: traces, blocks and periods in progress end CUT, and frames start again at
sample time 0 (R76, R110, R111). -/
def State.sliceEpoch (s : State) (n : Nat) : State :=
  let s1 := ((s.cutRecords n).cutDensity n).modSlice n (fun x => { x with next := 0, buf := [], gapUntil := 0 })
  let s2 := (List.range 4).foldl (fun st t =>
    let a := if st.ddcRuns n t then st.ddcRestart n t 0 (st.ddcCfg n t) [] else st
    ((a.modTuner n t (fun x => { x with inq := [], blocks := [] })).setFld (Fr.DDC_WR_OFS n t) 0).setFld
      (Fr.DDC_OLDEST_OFS n t) 0) s1
  s2.modZoom n (fun z => { z with tun := z.tun.map (fun (y : ZoomSt) => { ({} : ZoomSt) with chg := y.chg }) })

/-- An input slot starts again at sample time 0. What was counted in beats ends before the first beat of the new epoch,
1 ms later; a link in DATA goes back to WAIT_SYSREF and a slot it feeds carries GAP until it realigns (R75). -/
def State.slotEpoch (s : State) (n : Nat) : State :=
  let back := s.fld (Fr.INTK_LINK_STATE n) = 5
  let fed := s.fld (Fr.INTK_SLOT_SOURCE n) = 1
  let s1 := s.modSlot n (fun x =>
    { x with
      next := 0
      settle := 0
      crcBad := 0
      gapBeats := 0
      ovrHold := 0
      skewAt := none
      gapSource := x.gapSource || fed && back })
  if back then s1.setFld (Fr.INTK_LINK_STATE n) 4 else s1

/-- Sample times of the old epoch that the device keeps for its own timing start again from 0. -/
def State.timesEpoch (s : State) : State :=
  { s with
    hbm := { s.hbm with
      trained := s.hbm.trained.map (fun (p : Nat × Nat) => (p.1, 0))
      ueSec := []
      ueTimes := [] }
    cores := s.cores.map (fun (k : Core) => { k with posts := [] })
    chans := s.chans.map (fun (c : Chan) => { c with cur := c.cur.map (fun (x : Xfer) => { x with starts := [] }) })
    quiesces := s.quiesces.map (fun (q : Quiesce) => { q with stop := q.stop - s.samp })
    rot := s.rot.map (fun (r : RotSt) => { r with a := 0 })
    cal := { s.cal with run := s.cal.run.map (fun (r : CalRun) => { r with start := 0 }) }
    streams := s.streams.map (fun (x : Stream) => { x with ctxAt := 0, dataAt := 0 })
    recs := s.recs.map (fun (r : Rec) => { r with ckpt := 0 }) }

/-- Does an epoch that applies captured words relock: it changes FS, its ratios or the reference, or it leaves holdover
onto a REF_IN that is present (R67, R76)? -/
def State.epochRelocks (s : State) (cap : RegFile) (commit : Bool) : Bool :=
  let v := s.apply cap
  s.inf Fr.CLK_REF_SRC ≠ v.inf Fr.CLK_REF_SRC || s.forceReg 0x10008 ≠ v.forceReg 0x10008
  || s.forceReg 0x1000C ≠ v.forceReg 0x1000C
  || commit && v.srcIsRef && s.flag Fr.CLK_HOLDOVER && s.flag Fr.CLK_PRESENT

/-- The first part of t_E: COMMITs and SNAPSHOTs of the old epoch end, results and inputs start again, the words take
effect, granules nothing holds are discarded (R75, R76). -/
def State.epochWords (s : State) (keep : Nat) (cap : RegFile) (fsNew : Bool) : State :=
  let s1 := ((List.range 9).foldl State.sliceEpoch (s.cancelTimed keep)).xcorEpoch
  let s2 := (if fsNew then s1.endCover else s1).apply cap
  let s3 := (s2.setFld Fr.CLK_FS_NOW (s2.forceReg 0x1000C).toNat).dropGranules
  ((List.range 8).foldl State.slotEpoch s3).timesEpoch

/-- Does holdover go on over an epoch: it leaves it only where it relocks onto a REF_IN that is present (R67)? -/
def State.epochHeld (s : State) (relock : Bool) : Bool :=
  s.flag Fr.CLK_HOLDOVER && !(relock && s.srcIsRef && s.flag Fr.CLK_PRESENT)

/-- The relock an epoch starts: CK_DP is gated and both synthesisers relock (R69, R76, R77). -/
def State.epochRelock (s : State) : State :=
  let held := s.epochHeld true
  ((((s.gateDp).synRelock 0).synRelock 1).setFld Fr.CLK_HOLDOVER (b2n held)).modClk (fun c =>
    { c with relocked := false, refBad := c.refBad && held, synTry := [0, 0] })

/-- A change of FS makes every powered intake due for foreground calibration (R49). -/
def State.epochCal (s : State) : State :=
  (List.range 9).foldl (fun st k => if st.powered k then st.modDue k (fun x => { x with fs := true }) else st) s

/-- The counter is zeroed and the registers of the epoch are written (R75, R83, R87, R89). -/
def State.epochTime (s : State) (aligned : Bool) (phase tod : Nat) (run : EpochRun) : State :=
  let s1 := ((s.setFld Fr.CLK_ALIGNED (b2n aligned)).setFld Fr.CLK_CONT_OK 1).setFld Fr.CLK_EPOCH_PHASE phase
  let s2 := ((s1.setFld Fr.CLK_EPOCH_TOD tod).setFld Fr.CLK_TB_NOW 0).setFld Fr.CLK_SYNC_PENDING 0
  (({ s2 with samp := 0 }).latchPair 0 tod).modClk (fun c =>
    { c with
      epoch := none
      run := some run
      started := true
      internalDue := false
      skipped := 0
      sysrefNext := s2.inf Fr.CLK_SYSREF_OFS
      sysrefLeft := if s2.inf Fr.CLK_SYSREF_MODE = 2 then 8 else c.sysrefLeft })

/-- At t_E (R75, R76): the words take effect, the counter is zeroed, granules nothing holds are discarded, inputs and
results start again, links realign, and the relock begins where one is due. `commit` tells an epoch COMMIT from an
internal epoch; `phase` is what the time-to-digital converter measures and `tod` the time of day of sample time 0. -/
def State.epochAt (s : State) (job : Option Nat) (cap : RegFile) (commit sync : Bool) (phase tod : Nat) : State :=
  let relock := s.epochRelocks cap commit
  let fsNew : Bool := s.capFs cap ≠ s.fs
  let s1 := s.epochWords (job.getD 0) cap fsNew
  let s2 := if relock then s1.epochRelock else s1
  let s3 := if fsNew then s2.epochCal else s2
  let aligned := sync && s1.srcIsRef && !s1.epochHeld relock
  let s4 := s3.epochTime aligned phase tod ⟨job, relock, fsNew, false, aligned⟩
  s4.updateCaps.updatePending

/-- EPOCH_INSTANT (R74 to R76): the epoch request of the pending epoch COMMIT has come and t_E is here. -/
def execEpochInstant (phase tod : Nat) (s : State) : Host.Outcome State Fault Refusal :=
  .next (match s.clk.epoch with
    | none => s
    | some e =>
      let come := if e.timed then e.immediate || e.target ≤ s.samp else e.requested
      if come && s.clk.run.isNone then s.epochAt (some e.job) e.cap true (!e.timed) phase tod else s)

/-- EPOCH (R75, R76): the beat at sample time 0. EPOCH_COUNT advances, a CLOCK event with cause EPOCH is posted, and the
COMMIT completes DONE, or DONE_FLAGGED where relock has not been confirmed in time. -/
def execEpoch (s : State) : Host.Outcome State Fault Refusal :=
  .next (match s.clk.run with
    | none => s
    | some r =>
      let s1 := ((s.incWrap Fr.CLK_EPOCH_COUNT).modClk (fun c => { c with run := none })).clockEv 9 s.clk.active
      match r.job with
      | none => s1
      | some j => s1.complete j (if r.relock && !s.flag Fr.CLK_RUNNING then stFlagged else stDone) 0 0)

/-- INTERNAL_EPOCH (R75, R85, R414): the epoch the device performs without a job, once both synthesisers have locked at
start-up, on PTP acquisition, and after a reset that calls for one. What the time-to-digital converter measures is a
free value; sample time 0 lies 1 ms + DELAY / FS after t_E. -/
def execInternalEpoch (s : State) : Host.Outcome State Fault Refusal :=
  .next (
    if s.clk.internalDue && s.clk.run.isNone then
      let t0 := s.samp + s.samplesOfNs 1000000 + s.inf Fr.CLK_SYNC_DELAY
      (s.epochAt none [] false false s.free (s.todAt t0)).useFree
    else s)

end Sys2Proof.Machine
end

