-- ==== Sys2Proof/Machine/Pmc.lean ====
section
/-! DEFINITION. Performance counters, snapshots of them, instruction sampling on cores (R386 to R396). -/

namespace Sys2Proof.Machine

/-! ## Counters (R386 to R390) -/

/-- The counter of a unit and event in a list; one that has not counted is 0. -/
def counterIn (l : List Counter) (u : Nat) (e : Config.Count) : Counter :=
  (l.find? (fun c => c.unit = u && c.event = e)).getD ⟨u, e, 0, 0, false⟩

/-- The 64-bit word of a counter: VALUE, WRAPS, OVF; a cycle counter's is the clock's (left open). -/
def counterWord (l : List Counter) (st k : Nat) : Nat :=
  let c := counterIn l (Config.pmcUnit k) (Config.pmcCount k)
  let w := c.value + 2 ^ 48 * c.wraps + 2 ^ 56 * b2n c.ovf
  if Config.pmcCount k = Config.Count.cycles then Config.cycleCount (Config.pmcUnit k) st w else w

def pmcBase : Nat := 0x888000
def snapBase : Nat := 0x8A0000
def pmcN : Nat := 6012

/-- PMC_VALUE_PRESET (R8, R389, R390): a write of a VALUE pair, low word first; the high word presets count, WRAPS and OVF.
`collide` says that an increment falls on the same edge: it is lost, with WCOL. -/
def execPmcValuePreset (addr value : Nat) (collide : Bool) (s : State) : Host.Outcome State Fault Refusal :=
  .next (
    let k := (addr - pmcBase) / 16
    let lo := pmcBase + 16 * k
    if addr < pmcBase || pmcN ≤ k then s
    else if addr = lo then { s with rlPend := rfPut s.rlPend lo (BitVec.ofNat 32 value) }
    else if addr = lo + 4 then
      let low := ((rfGet s.rlPend lo).map (·.toNat)).getD (counterWord s.counts s.samp k % 2 ^ 32)
      let w := low + 2 ^ 32 * value
      let s1 := { s with
        rlPend := rfDrop s.rlPend lo (lo + 4)
        counts := modCounter (fun c => { c with value := bits w 0 48, wraps := bits w 48 8, ovf := bit w 56 }) s.counts
          (Config.pmcUnit k) (Config.pmcCount k) }
      if collide then s1.setFld Fr.PMC_WCOL 1 else s1
    else s)

/-- CLR_OVF (R389): a 1 clears a counter's sticky OVF. -/
def execClrOvf (k value : Nat) (s : State) : Host.Outcome State Fault Refusal :=
  .next (
    if k < pmcN && bit value 0 then
      { s with counts := s.counts.map (fun (c : Counter) =>
        if c.unit = Config.pmcUnit k && c.event = Config.pmcCount k then { c with ovf := false } else c) }
    else s)

/-! ## SNAPSHOT (R388, R391 to R393) -/

def snapImm (d : Desc) : Bool := bit (nth d.p 2 0) 0
def snapDump (d : Desc) : Bool := bit (nth d.p 2 0) 1
def snapT (d : Desc) : Nat := pAddr d 0
def snapAddr (d : Desc) : Nat := pAddr d 3

def snapFmt (_s : State) (d : Desc) : Option Refuse :=
  firstRefusal [
    check (snapImm d && nth d.p 0 0 ≠ 0) (refuseFormat 0),
    check (snapImm d && nth d.p 1 0 ≠ 0) (refuseFormat 1),
    check (4 ≤ nth d.p 2 0) (refuseFormat 2),
    check (snapAddr d % 64 ≠ 0) (refuseFormat 3),
    check (snapDump d && nth d.p 5 0 < 64 + 8 * pmcN) (refuseFormat 5)]

def snapState (s : State) (_d : Desc) : Option Refuse := check (4 ≤ s.snaps.length) refuseState

/-- A target less than 50 µs away, or less than 1 ms from another pending one without being equal to it. -/
def snapWindow (s : State) (d : Desc) : Option Refuse :=
  let t := snapT d
  let ms := s.samplesOfNs 1000000
  check (!snapImm d && (t < s.earliest
    || s.snaps.any (fun x => !x.immediate && x.t ≠ t && (if x.t < t then t - x.t else x.t - t) < ms))) refuseWindow

def snapApply (s : State) (d : Desc) (job : Nat) : State :=
  let l := s.snaps ++ [⟨job, snapT d, snapImm d⟩]
  ({ s with snaps := l }).setFld Fr.PMC_PENDING l.length

/-- The bytes of a dump (R393). -/
def State.dump (s : State) : List Nat :=
  let st := s.fld Fr.PMC_SNAP_ST
  padTo 64 (le 4 0x50534B4C ++ le 4 (s.fld Fr.PMC_SNAP_SEQ) ++ le 8 st ++ le 4 pmcN ++ [s.fld Fr.PMC_GATED])
  ++ (List.range pmcN).flatMap (fun k => le 8 (counterWord s.snapped st k))

/-- A SNAPSHOT job completes with its copy, and its dump where it asks for one. -/
def State.snapEnd (s : State) (gated : Bool) (job : Nat) : State :=
  match s.job job with
  | none => s
  | some j =>
    let st := if gated then stFlagged else stDone
    let seq := s.fld Fr.PMC_SNAP_SEQ
    if snapDump j.d then
      let r := s.hostIo j.d (snapAddr j.d) s.dump
      r.1.complete job (if r.2.1 = stDone then st else r.2.1) seq r.2.2
    else s.complete job st seq 0

/-- SNAPSHOT_COPY (R82, R388, R392, R393): at the beat that holds the sample time of the earliest pending SNAPSHOT every
counter is copied into its shadow, modes take effect, the jobs that share the copy complete. -/
def execSnapshotCopy (s : State) : Host.Outcome State Fault Refusal :=
  .next (
    let gated := !s.flag Fr.CLK_RUNNING
    let now := s.samp + (if gated then s.clk.skipped else 0)
    let due := s.snaps.filter (fun x => x.immediate || x.t < now + 16)
    match due with
    | [] => s
    | x0 :: rest =>
      let x := rest.foldl (fun (m : SnapReq) y => if m.immediate then m else if y.immediate || y.t < m.t then y else m) x0
      let same (y : SnapReq) : Bool := y.immediate = x.immediate && (x.immediate || y.t = x.t)
      let left := s.snaps.filter (fun y => !same y)
      let s1 := { s with
        snaps := left
        snapped := s.counts
        regs := s.regs.map (fun (p : Nat × Word) =>
          if pmcBase ≤ p.1 && p.1 < pmcBase + 16 * pmcN && p.1 % 16 = 8 then
            (p.1, BitVec.ofNat 32 (setBits p.2.toNat 1 1 (p.2.toNat % 2))) else p) }
      let s2 := (s1.incWrap Fr.PMC_SNAP_SEQ).setFld Fr.PMC_SNAP_ST (if x.immediate then now else Nat.min now (x.t / 16 * 16))
      let s3 := (s2.setFld Fr.PMC_GATED (b2n gated)).setFld Fr.PMC_PENDING left.length
      ((s.snaps.filter same).map (·.job)).foldl (fun st j => st.snapEnd gated j) s3)

/-! ## Instruction sampling (R394 to R396) -/

def State.modSmp (s : State) (n : Nat) (f : SmpSt → SmpSt) : State := { s with smp := modNth s.smp n f }

/-- INSTRUCTION_SAMPLE (R394 to R396): the record of a sample taken enters the slice's ring, or is dropped where that is
full; SEQ advances in both cases. -/
def execInstructionSample (n : Nat) (s : State) : Host.Outcome State Fault Refusal :=
  .next (
    let m := nth s.smp n {}
    match m.due with
    | [] => s
    | r :: t =>
      let s1 := s.modSmp n (fun x => { x with due := t, seq := (x.seq + 1) % 2 ^ 32 })
      if m.ring.length < 4096 then
        (s1.modSmp n (fun x => { x with ring := x.ring ++ [le 4 m.seq ++ r] })).setFld (Fr.SMP_FILL n) (m.ring.length + 1)
      else s1.incSat (Fr.SMP_DROPPED n))

/-- SAMPLE_DRAIN (R396): one write of up to 64 records to the slice's region, which is overwritten circularly. -/
def execSampleDrain (n : Nat) (s : State) : Host.Outcome State Fault Refusal :=
  .next (
    let m := nth s.smp n {}
    let total := s.fld (Fr.SMP_SIZE_MIB n) * 65536
    let l := m.ring.take 64
    if 8 ≤ n || total = 0 || l.isEmpty then s
    else
      let base := s.fld (Fr.SMP_BASE_MIB n) * 2 ^ 20
      let w := s.fld (Fr.SMP_WR_OFS n)
      let s1 := (List.range l.length).foldl (fun (st : State) i =>
        st.hbmWrite (base + (w + i) % total * 16) (nth l i [])) s
      let left := m.ring.drop 64
      (((s1.modSmp n (fun x => { x with ring := left })).setFld (Fr.SMP_FILL n) left.length).setFld (Fr.SMP_WR_OFS n)
        ((w + l.length) % total)).count 401 .bytes (16 * l.length))

/-- PMC_SMP_WRITE (R394, R396): a host write to PMC.SMP[n]; discarded with CFG_BAD while EN is 1, or where it places the
region outside what R396 allows. -/
def execPmcSmpWrite (addr value : Nat) (s : State) : Host.Outcome State Fault Refusal :=
  .next (
    let n := (addr - 0x880400) / 0x40
    let o := (addr - 0x880400) % 0x40
    if addr < 0x880400 || 8 ≤ n || !(o = 0 || o = 4 || o = 8) then s
    else if s.flag (Fr.SMP_EN n) then s.setFld Fr.PMC_CFG_BAD 1
    else if o = 4 then s.setFld (Fr.SMP_SEED n) value
    else if o = 8 then
      let base := bits value 0 16 * 2 ^ 20
      let len := bits value 16 7 * 2 ^ 20
      if len ≠ 0 && (64 < bits value 16 7 || s.badRegion base len || s.meetsRegion base len (fun r => r.kind ≠ 6 || r.idx ≠ n)) then
        s.setFld Fr.PMC_CFG_BAD 1
      else ((s.setFld (Fr.SMP_BASE_MIB n) value).setFld (Fr.SMP_SIZE_MIB n) (value / 65536)).setFld (Fr.SMP_WR_OFS n) 0
    else
      let l2 := Nat.max 8 (Nat.min 20 (bits value 1 5))
      let s1 := ((s.setFld (Fr.SMP_EN n) value).setFld (Fr.SMP_LOG2N n) l2).setFld (Fr.SMP_CORES n) (value / 65536)
      if bit value 0 then
        let seed := s.fld (Fr.SMP_SEED n)
        let l := if seed = 0 then 1 else seed
        (s1.modSmp n (fun _ => { lfsr := l, left := List.replicate 16 (smpInterval l2 l) })).setFld (Fr.SMP_FILL n) 0
      else s1)

end Sys2Proof.Machine
end

