-- ==== Sys2Proof/Machine/Rings.lean ====
section
/-! DEFINITION. The host rings: doorbells, the ring CONFIGUREs, posting of completions and events, interrupts (R247 to
R250, R253, R255, R258, R260, R262 to R264). -/

namespace Sys2Proof.Machine

/-! ## Emptiness and room (R250, R264) -/

/-- SQ[r].STAT.STATE (R267). -/
def sqDisabled : Nat := 0
def sqRunning : Nat := 1
def sqHalted : Nat := 2

/-- Has the host no descriptor, job or completion left in submission ring `r` (R264)? -/
def State.sqEmpty (s : State) (r : Nat) : Bool :=
  s.fld (Fr.SQ_TAIL r) = s.fld (Fr.SQ_HEAD r) && s.fld (Fr.SQ_OUTSTANDING r) = 0 && !s.flag (Fr.SQ_STANDING r)

/-- Is completion ring `q` empty (R264)? -/
def State.cqEmpty (s : State) (q : Nat) : Bool :=
  s.fld (Fr.CQ_HEAD q) = s.fld (Fr.CQ_TAIL q) && s.fld (Fr.CQ_RESERVED q) = 0

/-- Is the event ring empty (R264)? -/
def State.evEmpty (s : State) : Bool := s.fld Fr.HIF_EV_HEAD = s.fld Fr.HIF_EV_TAIL && s.evlog.isEmpty

/-- Can an entry be reserved in completion ring `q`: reserved and unconsumed entries number fewer than its size (R250)? -/
def State.cqRoom (s : State) (q : Nat) : Bool :=
  s.flag (Fr.CQ_EN q) && s.fld (Fr.CQ_RESERVED q)
    + ringDist (s.fld (Fr.CQ_LOG2SIZE q)) (s.fld (Fr.CQ_HEAD q)) (s.fld (Fr.CQ_TAIL q))
    < ringSize (s.fld (Fr.CQ_LOG2SIZE q))

/-- Has the event ring a free entry? -/
def State.evRoom (s : State) : Bool :=
  s.flag Fr.HIF_EV_EN
    && ringDist (s.fld Fr.HIF_EV_LOG2SIZE) (s.fld Fr.HIF_EV_HEAD) (s.fld Fr.HIF_EV_TAIL)
      < ringSize (s.fld Fr.HIF_EV_LOG2SIZE)

/-! ## Doorbells (R249, R264, R267) -/

/-- The opcode of CONFIGURE, and its TARGET, INDEX and SUB (R258). -/
def opConfigure : Nat := 0x01
def cfTarget (d : Desc) : Nat := bits (nth d.p 0 0) 0 8
def cfIndex (d : Desc) : Nat := bits (nth d.p 0 0) 8 8

/-- Is a ring CONFIGURE of a ring accepted and its completion not posted (R264)? `i` is a global ring number. -/
def State.ringBlocked (s : State) (target i : Nat) : Bool :=
  s.jobs.any (fun j => !j.posted && j.d.opcode = opConfigure && cfTarget j.d = target
    && (if target = 6 then s.globalSq j.func (cfIndex j.d) = some i
      else if target = 7 then s.globalCq j.func (cfIndex j.d) = some i else true))

/-- The oldest index of submission ring `r` whose slot is not free: its first job not posted, or the fetch index. -/
def State.oldestSlot (s : State) (r : Nat) : Nat :=
  match s.jobs.find? (fun j => j.ring = r && !j.posted) with
  | some j => j.idx
  | none => s.fld (Fr.SQ_HEAD r)

/-- Is a submission doorbell valid (R249): at or ahead of the tail, at most 2^k ahead of the oldest slot not free? -/
def State.sqDoorbellOk (s : State) (r idx : Nat) : Bool :=
  let k := s.fld (Fr.SQ_LOG2SIZE r)
  let o := s.oldestSlot r
  s.flag (Fr.SQ_EN r) && !s.ringBlocked 6 r && idx < 2 * ringSize k
  && ringDist k o (s.fld (Fr.SQ_TAIL r)) ≤ ringDist k o idx && ringDist k o idx ≤ ringSize k

/-- SUBMISSION_DOORBELL (R249, R250, R264): the tail moves, or the write is discarded with DB_BAD; a valid doorbell of a
halted ring restarts fetching at the failed index. A doorbell that names no ring of the function has no register. -/
def execSubmissionDoorbell (func i idx : Nat) (s : State) : Host.Outcome State Fault Refusal :=
  .next (match s.globalSq func i with
    | none => s
    | some r =>
      if s.sqDoorbellOk r idx then
        let s1 := s.setFld (Fr.SQ_TAIL r) idx
        if s.fld (Fr.SQ_STATE r) = sqHalted then s1.setFld (Fr.SQ_STATE r) sqRunning else s1
      else (s.setFld (Fr.SQ_DB_BAD r) 1).setFld Fr.HIF_DB_BAD 1)

/-- Does a head index lie from `head` up to `tail` in a ring of 2^k? -/
def headOk (k head tail idx : Nat) : Bool :=
  idx < 2 * ringSize k && ringDist k head idx ≤ ringDist k head tail

/-- Retire the records of completion ring `q` that its head passes by moving from `head` to `idx` (R282). -/
def State.retire282 (s : State) (q k head idx : Nat) : State :=
  let passed (i : Nat) : Bool := ringDist k head i < ringDist k head idx
  ({ s with
    jobs := s.jobs.filter (fun j => !(j.posted && j.cq = q && passed j.cqIdx))
    journal := s.journal.filter (fun r =>
      !(r.cq = q && (r.kind = 6 && passed r.cqIdx
        || s.jobs.any (fun j => j.id = r.job && j.posted && j.cq = q && passed j.cqIdx)))) }).updateJnl

/-- COMPLETION_DOORBELL (R249, R267, R282): the head moves from its place up to TAIL and the journal records of the
entries it passes retire; any other write is discarded with DB_BAD. -/
def execCompletionDoorbell (func i idx : Nat) (s : State) : Host.Outcome State Fault Refusal :=
  .next (match s.globalCq func i with
    | none => s
    | some q =>
      let k := s.fld (Fr.CQ_LOG2SIZE q)
      let head := s.fld (Fr.CQ_HEAD q)
      if s.flag (Fr.CQ_EN q) && !s.ringBlocked 7 q && headOk k head (s.fld (Fr.CQ_TAIL q)) idx then
        (s.setFld (Fr.CQ_HEAD q) idx).retire282 q k head idx
      else s.setFld Fr.HIF_DB_BAD 1)

/-- EVENT_DOORBELL (R267): the head of the event ring, with the same rule. -/
def execEventDoorbell (idx : Nat) (s : State) : Host.Outcome State Fault Refusal :=
  .next (
    if s.flag Fr.HIF_EV_EN && !s.ringBlocked 8 0
        && headOk (s.fld Fr.HIF_EV_LOG2SIZE) (s.fld Fr.HIF_EV_HEAD) (s.fld Fr.HIF_EV_TAIL) idx then
      s.setFld Fr.HIF_EV_HEAD idx
    else s.setFld Fr.HIF_DB_BAD 1)

/-! ## Ring CONFIGURE (R246, R258, R263, R264) -/

/-- Does the PF or VF `f` own submission ring `r`? -/
def State.ownsSq (s : State) (f r : Nat) : Bool := r < 64 && s.ownerSq r = f
def State.ownsCq (s : State) (f q : Nat) : Bool := q < 64 && s.ownerCq q = f

/-- The global number of the ring a ring CONFIGURE names. -/
def State.cfRing (s : State) (func : Nat) (d : Desc) : Option Nat :=
  match cfTarget d with
  | 6 => s.globalSq func (cfIndex d)
  | 7 => s.globalCq func (cfIndex d)
  | _ => some 0

/-- LOG2SIZE and base of a ring CONFIGURE. -/
def cfLog2 (d : Desc) : Nat := bits (nth d.p 3 0) 0 5
def cfBase (d : Desc) : Nat := nth d.p 1 0 + 2 ^ 32 * nth d.p 2 0

/-- The completion ring a submission-ring CONFIGURE binds to, by its global number. -/
def State.cfBound (s : State) (func : Nat) (d : Desc) : Option Nat := s.globalCq func (bits (nth d.p 3 0) 8 6)

/-- A ring CONFIGURE names a ring outside the function's own ranges (R246): its target, or the completion ring it binds
to. An index of the PF beyond 63 is no ring and a matter of format. -/
def ringSec (s : State) (func : Nat) (d : Desc) : Option Refuse :=
  let named : Bool := match s.cfRing func d with
    | none => func = 0
    | some i => match cfTarget d with
      | 6 => s.ownsSq func i
      | 7 => s.ownsCq func i
      | _ => func = 0
  let bound : Bool := cfTarget d ≠ 6 || cfLog2 d = 0 || (match s.cfBound func d with
    | none => false
    | some q => s.ownsCq func q)
  check (!named || !bound) refuseSecurity

/-- Format checks of a ring CONFIGURE; `used` are the bits of P[3] its target defines. -/
def ringFmt (used : Nat) (disable : Bool) (d : Desc) : Option Refuse :=
  let l := cfLog2 d
  firstRefusal [
    check (2 ^ 16 ≤ nth d.p 0 0 || 64 ≤ cfIndex d || cfTarget d = 8 && cfIndex d ≠ 0) (refuseFormat 0),
    check (nth d.p 1 0 % 4096 ≠ 0) (refuseFormat 1),
    check ((nth d.p 3 0 ||| used) ≠ used || !(4 ≤ l && l ≤ 16 || disable && l = 0)) (refuseFormat 3)]

def sqRingFmt (_s : State) (d : Desc) : Option Refuse := ringFmt 0x33F1F true d
def cqRingFmt (_s : State) (d : Desc) : Option Refuse := ringFmt 0xFF1F true d
def evRingFmt (_s : State) (d : Desc) : Option Refuse := ringFmt 0xFF1F false d

/-- A ring that is not empty (R264). -/
def refuseRing : Option Refuse := some ⟨stRefSequence, 0, 0⟩

/-- A ring that holds the CONFIGURE itself is not empty. -/
def sqRingState (s : State) (func : Nat) (d : Desc) : Option Refuse :=
  let r := (s.cfRing func d).getD 0
  firstRefusal [check (d.ring = r || !s.sqEmpty r) refuseRing,
    check (cfLog2 d ≠ 0 && !s.flag (Fr.CQ_EN ((s.cfBound func d).getD 0))) refuseState]

def cqRingState (s : State) (func : Nat) (d : Desc) : Option Refuse :=
  let q := (s.cfRing func d).getD 0
  firstRefusal [check (!s.cqEmpty q) refuseRing,
    check (cfLog2 d = 0 && (List.range 64).any (fun r => s.flag (Fr.SQ_EN r) && s.fld (Fr.SQ_CQ r) = q)) refuseState]

def evRingState (s : State) (_d : Desc) : Option Refuse := check (!s.evEmpty) refuseRing

/-- Indices of submission ring `r` start at 0; its state follows EN. -/
def State.sqRestart (s : State) (r : Nat) (en : Bool) : State :=
  let s1 := (((s.setFld (Fr.SQ_EN r) (b2n en)).setFld (Fr.SQ_HEAD r) 0).setFld (Fr.SQ_TAIL r) 0).setFld (Fr.SQ_STATE r)
    (if en then sqRunning else sqDisabled)
  { s1 with fetchFail := s1.fetchFail.filter (fun p => p.1 ≠ r) }

/-- Indices of completion ring `q` start at 0 and its PHASE at 1. -/
def State.cqRestart (s : State) (q : Nat) (en : Bool) : State :=
  let s1 := (((s.setFld (Fr.CQ_EN q) (b2n en)).setFld (Fr.CQ_HEAD q) 0).setFld (Fr.CQ_TAIL q) 0).setFld (Fr.CQ_PHASE q) 1
  { s1 with cqs := modNth s1.cqs q (fun _ => {}) }

/-- Indices of the event ring start at 0 and its PHASE at 1. -/
def State.evRestart (s : State) (en : Bool) : State :=
  let s1 := ((s.setFld Fr.HIF_EV_EN (b2n en)).setFld Fr.HIF_EV_HEAD 0).setFld Fr.HIF_EV_TAIL 0
  { s1 with evPhase := 1 }

def sqRingApply (s : State) (func : Nat) (d : Desc) : State :=
  let r := (s.cfRing func d).getD 0
  let s1 := (s.setFld (Fr.SQ_BASE r) (cfBase d)).setFld (Fr.SQ_LOG2SIZE r) (cfLog2 d)
  let s2 := if cfLog2 d = 0 then s1 else s1.setFld (Fr.SQ_CQ r) ((s.cfBound func d).getD 0)
  (s2.setFld (Fr.SQ_PRIO r) (bits (nth d.p 3 0) 16 2)).sqRestart r (cfLog2 d ≠ 0)

def cqRingApply (s : State) (func : Nat) (d : Desc) : State :=
  let q := (s.cfRing func d).getD 0
  let s1 := (s.setFld (Fr.CQ_BASE q) (cfBase d)).setFld (Fr.CQ_LOG2SIZE q) (cfLog2 d)
  (s1.setFld (Fr.CQ_VECTOR q) (bits (nth d.p 3 0) 8 8)).cqRestart q (cfLog2 d ≠ 0)

def evRingApply (s : State) (d : Desc) : State :=
  let s1 := (s.setFld Fr.HIF_EV_BASE (cfBase d)).setFld Fr.HIF_EV_LOG2SIZE (cfLog2 d)
  (s1.setFld Fr.HIF_EV_VECTOR (bits (nth d.p 3 0) 8 8)).evRestart true

/-! ## Events (R260, R262) -/

/-- Drop the first entry of a list that meets a condition. -/
def dropOne {α : Type} (p : α → Bool) : List α → List α
  | [] => []
  | a :: l => if p a then l else a :: dropOne p l

/-- A new event enters the MRAM event log; a full one discards by class (R262), and the discard is counted. -/
def State.logEvent (s : State) (e : Ev) : State :=
  if s.evlog.length < 16384 then { s with evlog := s.evlog ++ [e] }
  else
    let s1 := s.count 410 .discards 1
    if evLow e.cls then s1
    else if s.evlog.any (fun x => evLow x.cls) then
      { s1 with evlog := dropOne (fun (x : Ev) => evLow x.cls) s.evlog ++ [e] }
    else { s1 with evlog := s.evlog.drop 1 ++ [e] }

/-- Every event raised and not posted enters the log: what a reset or a lost link leaves. -/
def State.logAll (s : State) : State := s.evq.foldl State.logEvent { s with evq := [] }

/-- Write one event record at the tail of the event ring (R253, R260); its class may fire the event vector (R247). -/
def State.writeEvent (s : State) (e : Ev) : State :=
  let k := s.fld Fr.HIF_EV_LOG2SIZE
  let tail := s.fld Fr.HIF_EV_TAIL
  let next := ringNext k tail
  let s1 := (s.emit (.event (tail % ringSize k) e (evBytes e s.evPhase))).setFld Fr.HIF_EV_TAIL next
  let s2 := if next % ringSize k = 0 then { s1 with evPhase := 1 - s1.evPhase } else s1
  if 1 ≤ e.cls && bit (s.fld Fr.HIF_EV_CLASS_MASK) (e.cls - 1) then s2.fireVector (s.fld Fr.HIF_EV_VECTOR) else s2

/-- EVENT_POST (R260, R262): the oldest held event is posted where the ring has room and posting is not held; a new one
that finds no room enters the log. -/
def execEventPost (s : State) : Host.Outcome State Fault Refusal :=
  let may := s.mayPost && s.evRoom
  .next (match s.evlog, s.evq with
    | e :: l, _ => if may then ({ s with evlog := l }).writeEvent e |>.updateHeld
        else match s.evq with
          | [] => s
          | x :: q => ({ s with evq := q }).logEvent x |>.updateHeld
    | [], x :: q => if may then ({ s with evq := q }).writeEvent x |>.updateHeld
        else ({ s with evq := q }).logEvent x |>.updateHeld
    | [], [] => s)

/-! ## Interrupts (R247) -/

/-- COALESCING_TIMEOUT: the timer of completion ring `q` expires, its vector fires, count and timer restart. -/
def execCoalescingTimeout (q : Nat) (s : State) : Host.Outcome State Fault Refusal :=
  .next (
    if (nth s.cqs q {}).timer then
      ({ s with cqs := modNth s.cqs q (fun _ => {}) }).fireVector (s.fld (Fr.CQ_VECTOR q))
    else s)

/-- MSI_X_INTERVAL_END: 1 µs after a vector fired, the triggers merged meanwhile make the next message. -/
def execMsiXIntervalEnd (v : Nat) (s : State) : Host.Outcome State Fault Refusal :=
  let s1 := { s with msixBusy := s.msixBusy.filter (· ≠ v), msixMerged := s.msixMerged.filter (· ≠ v) }
  .next (if s.msixBusy.contains v && s.msixMerged.contains v then s1.fireVector v else s1)

end Sys2Proof.Machine
end

