-- ==== Sys2Proof/Machine/HostRegs.lean ====
section
/-! DEFINITION. Host accesses to BAR0 and BAR4, and reads over the I2C target: register writes by access code, RL pairs,
ring and function registers, the debug window (R6 to R9, R242, R244 to R246, R263, R267, R306, R398, R425). -/

namespace Sys2Proof.Machine

/-! ## Reading (R7, R8) -/

/-- The low or high half of a 64-bit value. -/
def half (v a lo : Nat) : Nat := if a = lo then v % 2 ^ 32 else v / 2 ^ 32 % 2 ^ 32

/-- Words of ADM.RES[c] that are counted when read: RSVD (in MiB, rounded up, for 0x0C) and JOBS (R292). -/
def State.admWord (s : State) (c o : Nat) : Nat :=
  if o = 8 then (if c = 12 then ceilDiv (s.heldUnits c) (2 ^ 20) else s.heldUnits c)
  else Nat.min 65535 (s.jobsHolding c)

/-- The catalogue words of the counter CAT_SEL names (R386, R403). -/
def State.catWord (s : State) (o : Nat) : Nat :=
  let k := bits (s.reg 0x880200).toNat 0 13
  if pmcN ≤ k then 0
  else if o = 4 then bits (Config.pmcWord k) 0 31 + 2 ^ 31 else Config.pmcName k ((o - 8) / 4)

/-- Is a word the low (1) or high (2) word of an RL pair? The expected signatures are RL pairs too (R398). -/
def rlOf (a : Nat) : Nat :=
  if 0x100 ≤ a && a < 0x1A8 then 1 + a / 4 % 2
  else match regRow a with
    | some r => r.rl
    | none => 0

/-- What a read of the word at offset `a` returns: the stored word, or what the device counts at the read. -/
def State.busRead (s : State) (a : Nat) : Nat :=
  if a = 0x10118 || a = 0x1011C then half s.todNow a 0x10118
  else if a = 0x740000 then setBits (s.reg a).toNat 0 1 (b2n (!s.capOut.isEmpty))
  else if a = 0x840010 || a = 0x840014 then half Config.serial a 0x840010
  else if 0x740100 ≤ a && a < 0x740290 && (a % 16 = 8 || a % 16 = 12) then s.admWord ((a - 0x740100) / 16) (a % 16)
  else if 0x880204 ≤ a && a < 0x880220 then s.catWord (a - 0x880200)
  else if pmcBase ≤ a && a < pmcBase + 16 * pmcN && a % 16 < 8 then
    half (counterWord s.counts s.samp ((a - pmcBase) / 16)) (a % 16) 0
  else if snapBase ≤ a && a < snapBase + 16 * pmcN && a % 16 < 8 then
    half (counterWord s.snapped (s.fld Fr.PMC_SNAP_ST) ((a - snapBase) / 16)) (a % 16) 0
  else (s.reg a).toNat

/-- A read of a word: the low word of an RL pair latches the high word, the next read of the high word returns it. -/
def State.rlRead (s : State) (a : Nat) : Nat × State :=
  match rlOf a with
  | 1 => (s.busRead a, { s with rlLatch := rfPut s.rlLatch (a + 4) (BitVec.ofNat 32 (s.busRead (a + 4))) })
  | 2 => (((rfGet s.rlLatch a).map (·.toNat)).getD (s.busRead a), { s with rlLatch := rfDrop s.rlLatch a (a + 4) })
  | _ => (s.busRead a, s)

/-- RL_LOW_READ (R8, R390): a read of the low word of an RL pair returns it and latches the high word. -/
def execRlLowRead (addr : Nat) (s : State) : Host.Outcome State Fault Refusal :=
  .next (if rlOf addr = 1 then (s.rlRead addr).2.emit (.readData addr (s.rlRead addr).1) else s)

/-- BAR0_UNSUPPORTED_ACCESS (R6): an access of another size, or not aligned, completes with Unsupported Request. -/
def execBar0UnsupportedAccess (addr size : Nat) (_write : Bool) (s : State) : Host.Outcome State Fault Refusal :=
  .next (if size ≠ 4 || addr % 4 ≠ 0 then s.emit .unsupported else s)

/-- MGMT_READ (R425): a read over the I2C target; only the ID, HK and FLT blocks return register contents. -/
def execMgmtRead (addr : Nat) (s : State) : Host.Outcome State Fault Refusal :=
  let shown := addr < 0x10000 || 0x40000 ≤ addr && addr < 0x50000 || 0x8C0000 ≤ addr && addr < 0x900000
  .next (
    if addr % 4 ≠ 0 || 2 ^ 24 ≤ addr then s
    else if shown then (s.rlRead addr).2.emit (.readData addr (s.rlRead addr).1)
    else s.emit (.readData addr 0))

/-! ## Writing (R7 to R9) -/

/-- Has the word at offset `a` a command of its own? -/
def ownWord (a : Nat) : Bool :=
  0x700040 ≤ a && a < 0x70004C
  || 0x701000 ≤ a && a < 0x701800 && a % 0x20 < 0x10 || 0x702000 ≤ a && a < 0x702800 && a % 0x20 < 0x10
  || 0x703000 ≤ a && a < 0x703100 || 0x680600 ≤ a && a < 0x680680
  || a = 0x780000 || 0x780100 ≤ a && a < 0x780200
  || pmcBase ≤ a && a < pmcBase + 16 * pmcN && a % 16 ≠ 8 || 0x880400 ≤ a && a < 0x880600
  || a = 0x1C || a = 0x40020 || a = 0x800104 || a = 0x8C0108 || a = 0x840010 || a = 0x840014

/-- A field of a word held between two limits. -/
def clampField (v lo w least most : Nat) : Nat :=
  setBits v lo w (Nat.min most (Nat.max least (bits v lo w)))

/-- The word a register keeps of a value written, after the Effect columns (what reads back). -/
def keptWord (a v : Nat) : Nat :=
  if a = 0x30000 then clampField v 0 5 1 16
  else if a = 0x10000 then clampField v 4 7 1 100
  else if a = 0x10080 then (if bits v 20 8 = 0 then setBits v 20 8 255 else v)
  else if a = 0x10110 then clampField (clampField v 8 8 1 255) 16 16 1 65535
  else if a = 0x600000 then
    let v1 := clampField v 0 7 8 64
    if 2 ≤ bits v 26 2 then setBits v1 26 2 1 else v1
  else if a = 0x600010 then clampField v 0 4 1 15
  else if a = 0x800020 then clampField v 0 2 1 3
  else if a = 0x40000 then clampField v 1 2 0 2
  else if a = 0x40010 then clampField v 12 4 0 11
  else v

/-- What a write brings about beside the word it stores. -/
def State.wrote (s : State) (a : Nat) : State :=
  if a = 0x10124 then s.modClk (fun c => { c with todSet := true })
  else if a = 0x40000 || a = 0x40010 then (if s.flag Fr.HK_BUSY then s else s.hkBoundary)
  else if 0x40100 ≤ a && a < 0x405E0 then
    s.modHk (fun h => { h with written := ((a - 0x40100) / 0x20 :: h.written).eraseDups })
  else if 0x20000 ≤ a && a < 0x28000 && a % 0x1000 = 0xC then s.updatePins
  else if a = 0x8C0010 then s.updatePin
  else s

/-- A device update lost to a host write on the same edge sets the block's collision bit (R9, R64, R322). -/
def State.collided (s : State) (a : Nat) : State :=
  if 0x30100 ≤ a && a < 0x30340 then s.setFld Fr.CAL_SPARE_WCOL 1
  else if 0x7C0800 ≤ a && a < 0x7C0900 then s.setFld Fr.REC_WCOL 1
  else s

/-- A write of the word at BAR0 offset `a`, by its access code. -/
def State.hostWrite (s : State) (a v : Nat) (collide : Bool) : State :=
  match regRow a with
  | none => s
  | some r =>
    if ownWord a then s
    else if r.rl = 1 then { s with rlPend := rfPut s.rlPend a (BitVec.ofNat 32 v) }
    else if r.rl = 2 then
      let low := (rfGet s.rlPend (a - 4)).getD (s.reg (a - 4))
      (({ s with rlPend := rfDrop s.rlPend (a - 4) a }).setReg (a - 4) low |>.setReg a (BitVec.ofNat 32 v)).wrote a
    else if r.rw = 0 && r.rws = 0 && r.w1c = 0 then s
    else
      let k := keptWord a v
      if a = 0x600000 && bits k 0 7 ≤ bits k 8 7 then s.setFld Fr.MEM_CFG_BAD 1
      else
        let s1 := (s.setReg a (writeMasked r (s.reg a) (BitVec.ofNat 32 k))).wrote a
        if collide then s1.collided a else s1

/-- The BAR0 offset of the ring register that a VF finds at offset `a` of its VF BAR0 (R245); none elsewhere. -/
def State.vfAddr (s : State) (f a : Nat) : Option Nat :=
  if 0x1000 ≤ a && a < 0x1800 then (s.globalSq f ((a - 0x1000) / 0x20)).map (fun r => 0x701000 + 0x20 * r + a % 0x20)
  else if 0x2000 ≤ a && a < 0x2800 then (s.globalCq f ((a - 0x2000) / 0x20)).map (fun q => 0x702000 + 0x20 * q + a % 0x20)
  else none

/-- REGISTER_WRITE (R6 to R9): a host write to a register with no command of its own acts per its access code: RO and
unassigned words discard it, W1C bits clear on 1, an SH word goes to the shadow, the high word of an RL pair makes both
take effect. -/
def execRegisterWrite (func addr value : Nat) (collide : Bool) (s : State) : Host.Outcome State Fault Refusal :=
  .next (
    if addr % 4 ≠ 0 then s
    else if func = 0 then s.hostWrite addr value collide
    else match s.vfAddr func addr with
      | some a => s.hostWrite a value collide
      | none => s)

/-! ## Ring registers (R263) -/

/-- The enable bit that governs a ring register, and whether it is a BASE or CFG word. -/
def ringWord (a : Nat) : Option (FRef × Nat) :=
  if 0x700040 ≤ a && a < 0x70004C then some (Fr.HIF_EV_EN, a - 0x700040)
  else if 0x701000 ≤ a && a < 0x701800 && a % 0x20 < 0x10 then some (Fr.SQ_EN ((a - 0x701000) / 0x20), a % 0x20)
  else if 0x702000 ≤ a && a < 0x702800 && a % 0x20 < 0x10 then some (Fr.CQ_EN ((a - 0x702000) / 0x20), a % 0x20)
  else none

/-- A CFG write that sets EN takes effect: indices start at 0, SEQ_NEXT takes SEQ_BASE. -/
def State.ringEnabled (s : State) (a : Nat) : State :=
  if a = 0x700048 then s.evRestart true
  else if a < 0x702000 then
    let r := (a - 0x701000) / 0x20
    (s.setFld (Fr.SQ_SEQ_NEXT r) (s.fld (Fr.SQ_SEQ_BASE r))).sqRestart r true
  else s.cqRestart ((a - 0x702000) / 0x20) true

/-- A write of a ring register of a ring that is disabled. -/
def State.ringWrite263 (s : State) (a o v : Nat) : State :=
  let r := (regRow a).map (fun x => writeMasked x (s.reg a) (BitVec.ofNat 32 v))
  if o = 0 then { s with rlPend := rfPut s.rlPend a (BitVec.ofNat 32 v) }
  else if o = 4 then
    let low := (rfGet s.rlPend (a - 4)).getD (s.reg (a - 4))
    ({ s with rlPend := rfDrop s.rlPend (a - 4) a }).setReg (a - 4) (BitVec.ofNat 32 (setBits low.toNat 0 12 0))
      |>.setReg a (BitVec.ofNat 32 v)
  else if o = 8 && bit v 31 then
    let sq := 0x701000 ≤ a && a < 0x702000
    if bits v 0 5 < 4 || 16 < bits v 0 5 || sq && !s.flag (Fr.CQ_EN (bits v 8 6)) then s.setFld Fr.HIF_CFG_BAD 1
    else (s.setReg a (r.getD 0#32)).ringEnabled a
  else if o = 0xC && 0x702000 ≤ a then s.setReg a (BitVec.ofNat 32 (clampField (r.getD 0#32).toNat 0 8 1 255))
  else s.setReg a (r.getD 0#32)

/-- RING_REGISTER_WRITE (R245, R263, R267): ring registers accept a write through BAR0 once BOOT_DONE is 1 and while the
ring is disabled; a write to BASE or CFG of an enabled ring sets WR_DISCARD, one that would enable a ring wrongly
CFG_BAD. -/
def execRingRegisterWrite (func addr value : Nat) (s : State) : Host.Outcome State Fault Refusal :=
  .next (
    match (if func = 0 then some addr else s.vfAddr func addr) with
    | none => s
    | some a =>
      match ringWord a with
      | none => s
      | some (en, o) =>
        if a % 4 ≠ 0 || !s.flag Fr.HIF_BOOT_DONE then s
        else if s.flag en then (if o = 0xC then s else s.setFld Fr.HIF_WR_DISCARD 1)
        else s.ringWrite263 a o value)

/-! ## Functions and windows (R245, R246, R306) -/

/-- Would the ranges in word `w` of VF `f` overlap those of another VF? -/
def State.funcOverlaps (s : State) (f w : Nat) : Bool :=
  let sq := (bits w 0 6, bits w 8 7)
  let cq := (bits w 16 6, bits w 24 7)
  let meet (a b : Nat × Nat) : Bool := 0 < a.2 && 0 < b.2 && a.1 < b.1 + b.2 && b.1 < a.1 + a.2
  (List.range 16).any (fun g => 0 < g && g ≠ f
    && (meet sq (s.fld (Fr.FUNC_SQ_FIRST g), s.fld (Fr.FUNC_SQ_COUNT g))
      || meet cq (s.fld (Fr.FUNC_CQ_FIRST g), s.fld (Fr.FUNC_CQ_COUNT g))))

/-- FUNC_WRITE (R245, R246): a write to HIF.FUNC[f]; one that would make two VFs' ranges overlap, or while the VF is
enabled, is discarded with CFG_BAD. The ranges of FUNC[0] are RO. -/
def execFuncWrite (addr value : Nat) (enabled : Bool) (s : State) : Host.Outcome State Fault Refusal :=
  let f := (addr - 0x703000) / 0x10
  let o := addr % 0x10
  .next (
    if addr < 0x703000 || 0x703100 ≤ addr || !(o = 0 || o = 4) || f = 0 && o = 0 then s
    else if f ≠ 0 && enabled || o = 0 && s.funcOverlaps f value then s.setFld Fr.HIF_CFG_BAD 1
    else if o = 4 then s.setFld (Fr.FUNC_OPMASK f) (value / 2)
    else
      (((s.setFld (Fr.FUNC_SQ_FIRST f) value).setFld (Fr.FUNC_SQ_COUNT f) (bits value 8 7)).setFld (Fr.FUNC_CQ_FIRST f)
        (bits value 16 6)).setFld (Fr.FUNC_CQ_COUNT f) (bits value 24 7))

/-- VFWIN_WRITE (R306): a write to DMA.VFWIN[f]; one while VF f is enabled, or that places the window over the ring or the
system area, is discarded with CFG_BAD. -/
def execVfwinWrite (addr value : Nat) (enabled : Bool) (s : State) : Host.Outcome State Fault Refusal :=
  let f := (addr - 0x680600) / 8
  let b := addr % 8 = 0
  let base := if b then bits value 0 16 else s.fld (Fr.DMA_VFWIN_BASE_MIB f)
  let size := if b then s.fld (Fr.DMA_VFWIN_SIZE_MIB f) else bits value 0 17
  .next (
    if addr < 0x680608 || 0x680680 ≤ addr || addr % 4 ≠ 0 then s
    else if enabled || 0 < size && s.badRegion (base * 2 ^ 20) (size * 2 ^ 20) then s.setFld Fr.DMA_CFG_BAD 1
    else if b then s.setFld (Fr.DMA_VFWIN_BASE_MIB f) base else s.setFld (Fr.DMA_VFWIN_SIZE_MIB f) size)

/-! ## The debug window (R244) -/

/-- Bytes of SRAM. -/
def sramSize : Nat := 96 * 2 ^ 20

/-- A byte of SRAM: what was written through the window; else it holds what the device's memories hold, left open. -/
def State.sramByte (s : State) (a : Nat) : Nat × State :=
  match s.sram.find? (fun p => p.1 = a) with
  | some p => (p.2.toNat, s)
  | none => (s.free % 256, s.useFree)

/-- Bytes of SRAM from an address on; beyond its end they read 0. -/
def State.sramBytes (s : State) (a : Nat) : Nat → List Nat × State
  | 0 => ([], s)
  | n + 1 =>
    let r := if a < sramSize then s.sramByte a else (0, s)
    let t := State.sramBytes r.2 (a + 1) n
    (r.1 :: t.1, t.2)

/-- A byte of SRAM written, in ascending order of address. -/
def sramPut : List (Nat × Byte) → Nat → Byte → List (Nat × Byte)
  | [], a, v => [(a, v)]
  | (b, w) :: t, a, v =>
    if b = a then (a, v) :: t else if a < b then (a, v) :: (b, w) :: t else (b, w) :: sramPut t a v

/-- A byte of HBM as the window reads it: poison words as all ones, beyond the address space 0; what the system area
holds behind the validity map has no layout, so its bytes are left open. -/
def State.windowByte (s : State) (a : Nat) : Nat × State :=
  if s.hbmSize ≤ a then (0, s)
  else if s.sysBase + mapBytes ≤ a then (s.free % 256, s.useFree)
  else ((s.hbmByte a).getD 0xFF, s)

/-- Bytes of HBM from an address on, as the window reads them. -/
def State.windowBytes (s : State) (a : Nat) : Nat → List Nat × State
  | 0 => ([], s)
  | n + 1 =>
    let r := s.windowByte a
    let t := State.windowBytes r.2 (a + 1) n
    (r.1 :: t.1, t.2)

/-- DEBUG_WINDOW_ACCESS (R244, R381): a read of `n` bytes or a write through BAR4; the window does not exist in approved
mode. -/
def execDebugWindowAccess (off n : Nat) (wr : Option (List Nat)) (s : State) : Host.Outcome State Fault Refusal :=
  let w := s.fld Fr.HIF_WINDOW
  let a := (w - 1) * 2 ^ 28 + off
  .next (
    if s.approved || 2 ^ 28 ≤ off then s
    else match wr with
      | none =>
        if w = 0 then
          let r := s.sramBytes off n
          r.2.emit (.readData off (unle r.1))
        else if w ≤ 240 then
          let r := s.windowBytes a n
          r.2.emit (.readData off (unle r.1))
        else s.emit (.readData off 0)
      | some l =>
        if !s.flag Fr.HIF_WR_EN || 240 < w then s
        else if w = 0 then
          { s with sram := (List.zip (List.range l.length) l).foldl (fun m p =>
            if off + p.1 < sramSize then sramPut m (off + p.1) (BitVec.ofNat 8 p.2) else m) s.sram }
        else s.hbmWrite a l)

end Sys2Proof.Machine
end

