-- ==== Sys2Proof/Machine/Extract.lean ====
section
/-! DEFINITION. The EXTRACT job (R236 to R238, R310, R311). -/

namespace Sys2Proof.Machine

/-- The fields of Table 10.3. -/
def exSlots (d : Desc) : Nat := bits (nth d.p 0 0) 0 8
def exMode (d : Desc) : Nat := bits (nth d.p 0 0) 8 2
def exDest (d : Desc) : Nat := bits (nth d.p 0 0) 10 1
def exFreeze (d : Desc) : Nat := nth d.p 1 0
def exRate (d : Desc) : Nat := nth d.p 9 0
def exWhole (d : Desc) : Bool := pAddr d 2 = 0 && pAddr d 4 = 0 && exFreeze d ≠ 0

/-- The held freeze it names. -/
def State.exFrz (s : State) (d : Desc) : Option Freeze := s.hbm.freezes.find? (fun f => f.id = exFreeze d)

/-- The range of sample times it reads. -/
def State.exRange (s : State) (d : Desc) : Nat × Nat :=
  if exWhole d then ((s.exFrz d).map (fun f => (f.start, f.stop))).getD (0, 0) else (pAddr d 2, pAddr d 4)

/-- The divider of a slot in the range: that of its granules. -/
def State.exDiv (s : State) (d : Desc) (n : Nat) : Nat :=
  let epoch := ((s.exFrz d).map (fun f => f.epoch)).getD s.epoch8
  let r := s.exRange d
  let g := s.hbm.gran.find? (fun p => p.2.slot = n && p.2.epoch = epoch && granHits p.2 r.1 r.2)
  Nat.max 1 ((g.map (fun p => p.2.d)).getD (s.slotDiv n))

/-- First and end sample time of a slot, on its beat boundaries (R236). -/
def State.exSpan (s : State) (d : Desc) (n : Nat) : Nat × Nat :=
  let b := 16 * s.exDiv d n
  let r := s.exRange d
  (r.1 / b * b, ceilDiv r.2 b * b)

/-- The blocks of the output, slot by slot: slot, index, first sample time, beats, divider (R237). -/
def State.exPlan (s : State) (d : Desc) : List (Nat × Nat × Nat × Nat × Nat) :=
  (maskList 8 (exSlots d)).flatMap (fun n =>
    let dv := s.exDiv d n
    let sp := s.exSpan d n
    let beats := (sp.2 - sp.1) / (16 * dv)
    (List.range (ceilDiv beats 4096)).map (fun i => (n, i, sp.1 + i * 65536 * dv, Nat.min 4096 (beats - i * 4096), dv)))

/-- Bytes of the output (R237). -/
def State.exBytes (s : State) (d : Desc) : Nat :=
  (maskList 8 (exSlots d)).foldl (fun a n =>
    let sp := s.exSpan d n
    let beats := (sp.2 - sp.1) / (16 * s.exDiv d n)
    a + beats / 4096 * blockBytes 4096 + (if beats % 4096 = 0 then 0 else blockBytes (beats % 4096))) 0

/-- Format checks of R236. -/
def extractFmt (s : State) (d : Desc) : Option Refuse :=
  let m := exMode d
  if m = 2 then check (bits (nth d.p 0 0) 11 21 ≠ 0) (refuseFormat 0)
  else
    firstRefusal [
      check (bits (nth d.p 0 0) 11 21 ≠ 0 || m = 3 || exSlots d = 0) (refuseFormat 0),
      check (pAddr d 4 ≤ pAddr d 2 && !exWhole d) (refuseFormat 4),
      check (exDest d = 0 && nth d.p 6 0 % 64 ≠ 0) (refuseFormat 6),
      check (exDest d = 0 && nth d.p 8 0 * 1024 < s.exBytes d) (refuseFormat 8),
      check (exRate d = 0 || 28000 < exRate d) (refuseFormat 9)]

/-- The open stream of kind 0x08 it delivers to (R310). -/
def State.exStream (s : State) (d : Desc) : Option Stream :=
  if exDest d = 1 then s.streams.find? (fun x => x.id = nth d.p 6 0 && x.kind = 8) else none

/-- State checks of R236 and R310. -/
def extractState (s : State) (d : Desc) : Option Refuse :=
  let m := exMode d
  let frz := s.exFrz d
  check ((exFreeze d ≠ 0 && frz.isNone) || (m = 2 && exFreeze d = 0)
    || frz.any (fun f => !f.complete || (m ≠ 2 && (maskList 8 (exSlots d)).any (fun n => !bit f.slots n)))
    || (m ≠ 2 && (maskList 8 (exSlots d)).any (fun n => !s.powered n))
    || (m ≠ 2 && exDest d = 1 && (s.exStream d).isNone)) refuseState

/-- Window checks of R236. -/
def extractWindow (s : State) (d : Desc) : Option Refuse :=
  check (exMode d ≠ 2 &&
    (match s.exFrz d with
    | some f => pAddr d 2 < f.start && !exWhole d || f.stop < pAddr d 4
    | none => (maskList 8 (exSlots d)).any (fun n =>
        let sp := s.exSpan d n
        sp.1 < s.fld (Fr.MEM_OLDEST_ST n) || nth s.hbm.ringNext n 0 < sp.2))) refuseWindow

/-- What it reserves (R236, R270, R311). -/
def extractNeed (s : State) (d : Desc) : List (Nat × Nat) :=
  if exMode d = 2 then []
  else
    let u := s.unitsAt ⟨exRate d * 1000000, 1⟩ 64
    let r := s.exRange d
    let live := if exFreeze d = 0 then [(12, s.freezeCharge (exSlots d) r.1 r.2 s.hbm.freezes), (13, 1)] else []
    let dest := match s.exStream d with
      | some x =>
        let v := s.unitsAt (extractRate (exRate d) x.spp 44) 64
        if x.dest = 0 then (if s.fld Fr.NET_MODE = 1 then [(6, v), (7, v)] else [(6 + x.port, v)]) else []
      | none => [(5, u)]
    [(1, u), (3, u)] ++ dest ++ live

/-- Its charge against the recording its stream goes to (R330). -/
def extractBudget (s : State) (d : Desc) : Option Refuse :=
  match s.exStream d with
  | some x => check (x.dest = 2 && s.overRec (nth x.p 3 0) (extractRate (exRate d) x.spp 108)) (some ⟨stRefBudget, 0xFF, 8⟩)
  | none => none

/-- An EXTRACT takes its granules and is queued on channel 20 or 21, the one with less to do; RELEASE lets the freeze go. -/
def extractApply (s : State) (d : Desc) (job : Nat) : State :=
  if exMode d = 2 then (s.releaseFreeze (exFreeze d)).complete job stDone 0 0
  else
    let r := s.exRange d
    let live := exFreeze d = 0
    let js := if live then (s.hbm.gran.filter (fun p =>
      p.2.live && bit (exSlots d) p.2.slot && p.2.epoch = s.epoch8 && granHits p.2 r.1 r.2)).map (·.1) else []
    let id := (s.exStream d).map (fun x => x.id)
    let e : ExtractSt := ⟨job, exFreeze d, exMode d = 1, s.exPlan d, js, id, 0⟩
    let s1 := { (if live then s.hold js else s) with extracts := s.extracts ++ [e] }
    let load c := (s.chan c).queue.length + b2n (s.chan c).cur.isSome
    let ch := if load 21 < load 20 then 21 else 20
    let x : Xfer := ⟨.extract job, spExtract, if id.isSome then spStream else spHost, 0, 2, s.fld Fr.DMA_RETRY, bit d.flags 8,
      false, false, s.exBytes d, 0, pAddr d 6, s.gapOf 2 (exRate d * 1000000), [], 0, [], [], 0, 0, [], none, false⟩
    (s1.enqueue ch x).updateFreezeRegs

end Sys2Proof.Machine
end

