-- ==== Sys2Proof/Machine/Interrupt.lean ====
section
/-! DEFINITION. What the end of a job leaves behind in its units: jobs completed INTERRUPTED by a reset, outcomes held for
JOURNAL_READ, the progress a journal record states (R256, R282 to R285, R289). -/

namespace Sys2Proof.Machine

/-! ## QUIESCE (R289) -/

/-- The opcode of QUIESCE, its MODE, SLICE_MASK and TIMEOUT in ms. -/
def opQuiesce : Nat := 0x13
def quMode (d : Desc) : Nat := bits (nth d.p 0 0) 0 2
def quSlices (d : Desc) : Nat := bits (nth d.p 0 0) 8 9
def quTimeout (d : Desc) : Nat := nth d.p 1 0

/-- Is a descriptor a QUIESCE with MODE RESET? -/
def quReset (d : Desc) : Bool := d.opcode = opQuiesce && quMode d = 2

/-! ## Work done (R256, R282) -/

/-- The channel that carries a job's transfer. -/
def State.jobChan (s : State) (id : Nat) : Option Nat :=
  (List.range 32).find? (fun c =>
    (s.chan c).cur.any (fun x => x.owner = XOwner.move id || x.owner = XOwner.extract id))

/-- What an open job has done so far, in the unit of its EXTENT. -/
def State.workDone (s : State) (j : Job) : Nat :=
  match s.jobChan j.id with
  | some c => s.fld (Fr.DMA_CH_DONE_BYTES c)
  | none =>
    match s.streams.find? (fun x => x.job = j.id) with
    | some x => x.sent
    | none =>
      if j.d.opcode = 0x05 then s.fld (Fr.TRG_FIRES (armSlice j.d) (armTrg j.d)) else j.extent

/-- Does an accepted job run: open, and not held by a BARRIER? -/
def Job.running (j : Job) : Bool := j.done.isNone && !j.waiting

/-- A PROGRESS record of a job (R282). -/
def State.progress (s : State) (j : Job) : State := s.jrecJob 2 { j with extent := s.workDone j } 0

/-- EXTENT of the latest journal record of a job (R285). -/
def State.lastExtent (s : State) (id : Nat) : Nat :=
  (((s.journal.filter (fun r => r.job = id)).getLast?).map (·.extent)).getD 0

/-- PROGRESS (R282): the record of a running job falls due. -/
def execProgress (job : Nat) (s : State) : Host.Outcome State Fault Refusal :=
  .next (match s.job job with
    | some j => if j.running then s.progress j else s
    | none => s)

/-! ## Jobs interrupted by a reset (R284, R285) -/

/-- The status with which a reset ends an open job: a QUIESCE with MODE RESET completes DONE. -/
def Job.resetStatus (j : Job) : Nat := if quReset j.d then stDone else stInterrupted

/-- Open jobs that meet a condition end with EXTENT from their latest record; their reservations return. -/
def State.interrupt (s : State) (p : Job → Bool) : State :=
  let hit (j : Job) : Bool := j.done.isNone && p j
  let s1 := { s with
    intr := s.intr + s.jobs.countP (fun j => hit j && j.resetStatus = stInterrupted)
    jobs := s.jobs.map (fun (j : Job) => if hit j then
      { j with
        done := some j.resetStatus
        extent := s.lastExtent j.id
        res := []
        waiting := false } else j) }
  (List.range 64).foldl State.updateStanding s1

/-- Transfers of MOVE jobs leave their channels. -/
def State.dropMoves (s : State) (gone : Nat → Bool) : State :=
  let mine (x : Xfer) : Bool := match x.owner with | .move j => gone j | _ => false
  let s1 := { s with chans := s.chans.map (fun (c : Chan) => { c with queue := c.queue.filter (fun x => !mine x) }) }
  (List.range 32).foldl (fun (st : State) c =>
    match (st.chan c).cur with
    | some x => if mine x then st.xferEnd c x stInterrupted 0 else st
    | none => st) s1

/-- Triggers armed by jobs that have ended are armed no longer. -/
def State.dropArms (s : State) (gone : Nat → Bool) : State :=
  (List.range 18).foldl (fun (st : State) k =>
    let n := k / 2
    let m := k % 2
    if (st.trg n m).job ≠ 0 && gone (st.trg n m).job then
      ((st.setFld (Fr.TRG_ARMED n m) 0).setFld (Fr.TRG_HOLDING n m) 0).modTrg n m (fun _ => {})
    else st) s

/-- Cores run by jobs that have ended halt. -/
def State.dropCores (s : State) (gone : Nat → Bool) : State :=
  (List.range 144).foldl (fun (st : State) k =>
    let c := nth st.cores k {}
    if c.job ≠ 0 && gone c.job then st.coreEnd (k / 16) (k % 16) 1 0 c.pc c.pc else st) s

/-- Changes of COMMITs that have ended before their instant never come (R288). -/
def State.dropCommits (s : State) (gone : Nat → Bool) : State :=
  let s1 := { s with
    attens := s.attens.filter (fun a => !gone a.job)
    slices := s.slices.map (fun (x : Slice) => { x with pend := x.pend.filter (fun c => !gone c.job) })
    tuners := s.tuners.map (fun (x : Tuner) =>
      { x with
        pend := x.pend.filter (fun c => c.job = 0 || !gone c.job)
        queued := if x.queued.any (fun (q : Nat × Nat × Nat × Nat) => gone q.1) then none else x.queued })
    zooms := s.zooms.map (fun (z : Zoom) => { z with pend := z.pend.filter (fun c => !gone c.job) })
    vid := { s.vid with
      pend := s.vid.pend.filter (fun c => !gone c.job)
      frame := if s.vid.frame.any (fun (f : Nat × Nat × Nat) => gone f.1) then none else s.vid.frame }
    clk := { s.clk with
      trims := s.clk.trims.filter (fun t => !gone t.1)
      epoch := if s.clk.epoch.any (fun (e : EpochReq) => gone e.job) then none else s.clk.epoch
      synAck := s.clk.synAck.map (fun (a : Option Nat) => if a.any gone then none else a) } }
  let s2 := s1.modXcor (fun y => { y with pend := y.pend.filter (fun c => !gone c.job) })
  let s3 := (List.range 9).foldl (fun (st : State) n =>
    st.setFld (Fr.SPX_PENDING n) (b2n (!(st.slice n).pend.isEmpty))) s2
  let s4 := s3.setFld Fr.CLK_SYNC_PENDING (b2n s3.clk.epoch.isSome)
  (s4.setFld Fr.VID_PENDING (b2n s4.vidWaits)).xcorPending

/-- Requests that name jobs which have ended go on without them, or lapse. -/
def State.dropRequests (s : State) (gone : Nat → Bool) : State :=
  let s1 := { s with
    snaps := s.snaps.filter (fun x => !gone x.job)
    bists := s.bists.map (fun (b : BistRun) => if gone b.job then { b with job := 0 } else b)
    quiesces := s.quiesces.filter (fun q => !gone q.job)
    resetDue := if gone s.resetDue then 0 else s.resetDue
    hk := { s.hk with nextJob := if gone s.hk.nextJob then 0 else s.hk.nextJob }
    cal := { s.cal with
      jobs := s.cal.jobs.filter (fun c => !gone c.job)
      run := s.cal.run.map (fun (r : CalRun) => { r with jobs := r.jobs.filter (fun j => !gone j) })
      due := s.cal.due.map (fun (d : CalDue) =>
        { d with
          jobs := d.jobs.filter (fun j => !gone j)
          mode1 := d.mode1 && d.jobs.any (fun j => !gone j)
          mode2 := d.mode2 && (d.jobs.isEmpty || d.jobs.any (fun j => !gone j)) }) } }
  (s1.setFld Fr.PMC_PENDING (b2n (!s1.snaps.isEmpty))).updatePending

/-- The units let go of jobs that have ended: streams, recordings, extracts, transfers, armings, cores, COMMITs, requests. -/
def State.dropUnits (s : State) (gone : Nat → Bool) : State :=
  let s1 := (s.extracts.filter (fun e => gone e.job)).foldl (fun (st : State) e => st.endExtract e.job stInterrupted) s
  let s2 := (s1.streams.filter (fun x => gone x.job)).foldl (fun (st : State) x => st.endStream x.id stInterrupted) s1
  let s3 := (s2.recs.filter (fun r => gone r.job)).foldl (fun (st : State) r =>
    st.recOver r.id 0 stInterrupted r.cseq 0 stCancelled) s2
  (((((s3.dropMoves gone).dropArms gone).dropCores gone).dropCommits gone).dropRequests gone).updateFreezeRegs

/-- A reset ends the open jobs that meet a condition. -/
def State.endJobs (s : State) (p : Job → Bool) : State :=
  let l := (s.openJobs p).map (·.id)
  (s.interrupt p).dropUnits (fun i => l.contains i)

/-! ## Outcomes held for JOURNAL_READ (R284, R285) -/

/-- A completed job whose entry is never written: its COMPLETING record holds the outcome. -/
def State.holdOutcome (s : State) (j : Job) : State :=
  match j.done with
  | none => s
  | some st =>
    let at_ := s.fld (Fr.CQ_TAIL j.cq)
    let s1 := s.jrecJob 3 { j with cqIdx := at_ } st
    let s2 := s1.modJob j.id (fun x => { x with posted := true, cqIdx := at_ })
    s2.setFld (Fr.CQ_TAIL j.cq) (ringNext (s.fld (Fr.CQ_LOG2SIZE j.cq)) at_)

/-- Hold the outcomes of every job of some rings not yet posted. -/
def State.holdOutcomes (s : State) (p : Job → Bool) : State :=
  (s.jobs.filter (fun j => !j.posted && p j)).foldl State.holdOutcome s

/-- Submission ring `r` is disabled and holds nothing. -/
def State.disableSq (s : State) (r : Nat) : State :=
  ((s.sqRestart r false).setFld (Fr.SQ_OUTSTANDING r) 0).setFld (Fr.SQ_STANDING r) 0

/-- Completion ring `q` is disabled and holds nothing. -/
def State.disableCq (s : State) (q : Nat) : State := (s.cqRestart q false).setFld (Fr.CQ_RESERVED q) 0

/-- Descriptor fetches that wait for a retry are given up, their reserved entries return (R250). -/
def State.dropFetches (s : State) : State :=
  let s1 := s.fetchFail.foldl (fun (st : State) f =>
    let q := st.fld (Fr.SQ_CQ f.1)
    st.setFld (Fr.CQ_RESERVED q) (st.fld (Fr.CQ_RESERVED q) - 1)) s
  { s1 with fetchFail := [] }

end Sys2Proof.Machine
end

