-- ==== Sys2Proof/Machine/Resets.lean ====
section
/-! DEFINITION. Power-up, boot and every reset: what each keeps, how jobs resume after it, power-fail warning, loss and
return of the host link (R235, R265, R283 to R287, R289, R369, R381, R383, R405 to R416, R433). -/

namespace Sys2Proof.Machine

/-! ## Register words over a reset (R414) -/

/-- A word with every bit. -/
def fullMask : Nat := 2 ^ 32 - 1

/-- Register words keep the bits of a mask and take their reset values elsewhere. -/
def State.maskRegs (s : State) (m : Nat → Nat) : State :=
  let whole (p : Nat × Word) : Bool := m p.1 = fullMask
  { s with
    regs := s.regs.filterMap (fun p =>
      let k := BitVec.ofNat 32 (m p.1)
      if m p.1 = 0 then none else some (p.1, (p.2 &&& k) ||| (regReset p.1 &&& ~~~ k)))
    force := s.force.filter whole
    rlLatch := s.rlLatch.filter whole
    rlPend := s.rlPend.filter whole }

/-- The RWS bits of a word. -/
def rwsMask (a : Nat) : Nat :=
  match regRow a with
  | some r => r.rws
  | none => 0

/-- The ring registers that R284 restores: the event ring's, SQ[r] and CQ[q]. -/
def ringReg (a : Nat) : Bool :=
  0x700040 ≤ a && a < 0x70004C || 0x700050 ≤ a && a < 0x700060 || 0x701000 ≤ a && a < 0x701800
  || 0x702000 ≤ a && a < 0x702800

/-- What a power-on (`power`), a RESET_N or a watchdog reset keeps of a word: the map of the HBM and its retirements
(R210), the numbers of the journal and the fault records, OTP; with `rings` the ring registers; a warm reset also RWS
bits, the housekeeping table, limits and results (R365), PEAK_KIB (R242) and EPOCH_COUNT (R414). -/
def deviceMask (power rings : Bool) (a : Nat) : Nat :=
  if 0x600008 ≤ a && a < 0x600010 || 0x600400 ≤ a && a < 0x600600 then fullMask
  else if 0x8C0000 ≤ a && a < 0x8C000C || 0x8C0100 ≤ a && a < 0x8C0108 || a = 0x840008 || a = 0x84001C then fullMask
  else if a = 0x840000 then 0x18
  else if rings && ringReg a then fullMask
  else if power then 0
  else if a = 0x8C010C then 2
  else if 0x40100 ≤ a && a < 0x405E0 || 0x40800 ≤ a && a < 0x40900 then fullMask
  else if a = 0x600014 then 0x7FFF0000
  else if a = 0x10084 then 0xFFFF
  else rwsMask a

/-- Does a reset of the host-facing blocks reset a word: HIF with ADM, DMA, SLC, XCOR, VID (Table 19.5)? -/
def hostBlock (a : Nat) : Bool :=
  0x700000 ≤ a && a < 0x780000 || 0x680000 ≤ a && a < 0x700000 || 0x80000 ≤ a && a < 0x500000
  || 0x580000 ≤ a && a < 0x600000 || 0x800000 ≤ a && a < 0x840000

/-- What such a reset keeps of a word: ring registers, the state of the DisplayPort link, which stays up; with `stay` the
state of the host link and BOOT_DONE (QUIESCE RESET). -/
def hostMask (stay : Bool) (a : Nat) : Nat :=
  if !hostBlock a || ringReg a then fullMask
  else if a = 0x800040 then 0xFE7
  else if a = 0x700004 then (if stay then 0xF1F03 else 0)
  else rwsMask a

/-- What a QUIESCE SLICE_RESET keeps: the registers of slices it does not name. -/
def sliceMask (mask : Nat) (a : Nat) : Nat :=
  if 0x80000 ≤ a && a < 0x500000 && bit mask ((a - 0x80000) / 0x80000) then rwsMask a else fullMask

/-! ## RESUME (R284 to R287) -/

/-- Note what the RESUME event of a reset will hold; with one already due, the older epoch stays, to which the EXTENT
values refer (R284). -/
def State.noteReset (s : State) (cause func flags : Nat) : State :=
  let first := !s.flag Fr.FLTJNL_RESUME_PENDING
  let s1 := { s with resumeHold := cause, resumeFunc := func, resumeFlags := flags }
  let s2 := if first then
      { s1 with
        oldEpoch := if s.everUsed then s.epoch8 else 0
        jseqLast := s.jlast.1
        oldSt := s.jlast.2.1
        oldTod := s.jlast.2.2 }
    else s1
  s2.setFld Fr.FLTJNL_LAST_RESET cause

/-- All posting is held until RESUME (R285). -/
def State.holdPosting (s : State) : State := s.setFld Fr.FLTJNL_RESUME_PENDING 1

/-- The payload of the RESUME event (R287). -/
def State.resumePay (s : State) : List Nat :=
  le 4 s.intr ++ le 4 s.unknown ++ [s.resumeFlags + 2 * b2n s.abandoned, s.resumeFunc, s.oldEpoch, 0]
  ++ le 4 s.jseqLast ++ le 8 s.oldSt ++ le 8 s.oldTod

/-- The RESUME event itself, with the next EVSEQ. -/
def State.resumeEv (s : State) : Ev :=
  ⟨s.fld Fr.HIF_EVSEQ_NEXT, 0xA, s.resumeHold, 0, s.samp, padTo 48 s.resumePay⟩

/-- Post the completions of ring `r` that have their turn. -/
def State.postRing (s : State) (r : Nat) : State := (List.range s.jobs.length).foldl (fun (st : State) _ => st.postHead r) s

/-- RESUME (R285): FETCH_EN is set and the link is up. RESUME is posted first, or held first where the event ring has no
room; then on each ring in ring order the outcomes not yet posted; then fetching resumes. An abandoned RESUME waits for
the first event ring the host enables. -/
def execResume (s : State) : Host.Outcome State Fault Refusal :=
  .next (
    if s.flag Fr.FLTJNL_RESUME_PENDING && s.flag Fr.HIF_FETCH_EN && s.flag Fr.HIF_LINK_UP && s.flag Fr.HIF_BOOT_DONE
        && (!s.abandoned || s.flag Fr.HIF_EV_EN) then
      let s1 := (s.incWrap Fr.HIF_EVSEQ_NEXT).setFld Fr.FLTJNL_RESUME_PENDING 0
      let s2 := if s1.evRoom then s1.writeEvent s.resumeEv else { s1 with evlog := s.resumeEv :: s1.evlog }
      let s3 := (List.range 64).foldl State.postRing s2
      ({ s3 with resumeHold := 0, resumeFlags := 0, resumeFunc := 0, intr := 0, unknown := 0, abandoned := false }).updateHeld
    else s)

/-- ABANDON (R285): a host that has lost its ring memory. Every restored ring is disabled, the outcomes stay in the
journal, RESUME will carry ABANDONED. It acts only while RESUME_PENDING is 1 and FETCH_EN 0. -/
def execAbandon (value : Nat) (s : State) : Host.Outcome State Fault Refusal :=
  .next (
    if bit value 0 && s.flag Fr.FLTJNL_RESUME_PENDING && !s.flag Fr.HIF_FETCH_EN then
      if s.resumeHold = 6 then { s with abandoned := true }
      else
        let s1 := s.dropFetches.holdOutcomes (fun _ => true)
        let s2 := (List.range 64).foldl (fun (st : State) r => (st.disableSq r).disableCq r) s1
        { (s2.evRestart false) with abandoned := true }
    else s)

/-! ## Boot (R368, R369, R373, R381, R383, R408 to R411) -/

/-- The images the boot ROM tries, each with its source, in the order of STRAP_BOOT (Table 19.3). -/
def bootOrder (b : Boot) (boot : Nat) : List (Nat × List Nat) :=
  if boot = 1 then [(1, b.copyB), (0, b.copyA)]
  else if boot = 2 then [(0, b.copyA)]
  else if boot = 3 then [(1, b.copyB)]
  else if boot = 4 then []
  else [(0, b.copyA), (1, b.copyB)]

/-- The first image that passes R368, and the check failed on the last one that did not. -/
def State.bootFind (s : State) : List (Nat × List Nat) → Nat → Nat × Option (Nat × List Nat)
  | [], c => (c, none)
  | (i, l) :: t, c => if s.kuver 1 l = 0 then (c, some (i, l)) else s.bootFind t (s.kuver 1 l)

/-- The self-tests of R383, in its order: twelve known-answer tests, then the entropy start-up test. -/
def testsAll : Nat := 0x1FFF

/-- The firmware starts from a verified image: measured (R373), self-tests run (R383), BOOT_DONE. A failed test leaves the
error state and posts SELFTEST_FAIL. The housekeeping converter runs unless it has failed. -/
def State.runFirmware (s : State) (source : Nat) (l : List Nat) : State :=
  let s1 := s.extend 0 (sha256 (l.take 64 ++ kvPayload l))
  let fail := s.bootTests % (testsAll + 1)
  let s2 := ((s1.setFld Fr.ID_SOURCE source).setFld Fr.SEC_COPY source).setFld Fr.SEC_TESTS (testsAll - fail)
  let s3 := (s2.setFld Fr.SEC_STATE (if fail = 0 then 0 else 2)).modSec (fun x =>
    { x with fwSvn := kvSvn l, fwSlot := (s.kvSlot l).getD 4, exhausted := false, entropyBad := bit fail 12 })
  let s4 := if fail = 0 then s3 else s3.secEv 2 0
  let s5 := ({ s4 with booted := true }).setFld Fr.HIF_BOOT_DONE 1
  (s5.setFld Fr.HK_RUNNING (b2n (!s.flag Fr.HK_FAULT))).updatePin

/-- Reset values that straps select (R408). -/
def State.strapRegs (s : State) : State :=
  let boot := bits s.straps 0 3
  let s1 := s.setReg 4 (BitVec.ofNat 32 (s.straps + 4096 * b2n (5 ≤ boot)))
  let ref := bits s.straps 3 2
  let out := if bits s.straps 10 2 = 0 then 2 else 0
  let s2 := (s1.setFld Fr.CLK_REF_SRC ref).setInf Fr.CLK_REF_SRC ref
  let s3 := (s2.setFld Fr.CLK_SYNC_OUT_MODE out).setInf Fr.CLK_SYNC_OUT_MODE out
  let s4 := (s3.setFld Fr.HK_MODE (bits s.straps 7 1)).modHk (fun h => { h with mode := bits s.straps 7 1 })
  (s4.setFld Fr.NET_DEV_INDEX (bits s.straps 10 2)).setFld Fr.SEC_APPROVED (bits s.straps 8 1)

/-- The boot ROM runs: a zeroisation in progress completes, a change of STRAP_SECURE zeroises scope 0, M[2] is measured,
and the first image that passes runs; in recovery the ROM waits for one. -/
def State.bootRom (s : State) (b : Boot) : State :=
  let changed := s.sec.secure.any (fun (x : Bool) => x ≠ s.approved)
  let s1 := (if changed then (s.zeroise 0 0).zeroised.secEv 7 0 else s.zeroised).modSec (fun x =>
    { x with secure := some s.approved })
  let s2 := s1.extend 2 ([b2n s.approved] ++ padTo 32 s1.sec.owner ++ le 4 (s1.fld Fr.SEC_SVN_FW) ++ le 4 (s1.fld Fr.SEC_SVN_CORE))
  let s3 := { s2 with bootTests := b.testsFail }
  let l := bootOrder b (bits s.straps 0 3)
  let r := s3.bootFind l 0
  let s4 := s3.setFld Fr.SEC_CAUSE r.1
  match r.2 with
  | some (i, img) =>
    let s5 := s4.runFirmware i img
    if (l.head?.map (·.1)) = some i then s5 else s5.secEv 1 s5.sec.fwSlot
  | none => (s4.setFld Fr.ID_SOURCE 3).setFld Fr.ID_RECOV_WAIT (b2n (bits s.straps 0 3 = 4))

/-- RECOV_GO (R411): the boot ROM reads the image the host names and runs it if it passes; else it waits again. -/
def execRecovGo (value : Nat) (image : List Nat) (s : State) : Host.Outcome State Fault Refusal :=
  .next (
    if !bit value 0 || !s.flag Fr.ID_RECOV_WAIT then s
    else
      let img := image.take (s.fld Fr.ID_RECOV_LEN)
      let k := s.kuver 1 img
      let s1 := s.setFld Fr.SEC_CAUSE k
      if k = 0 then (s1.setFld Fr.ID_RECOV_WAIT 0).runFirmware 2 img
      else s1.setFld Fr.ID_RECOV_FAIL 1)

/-! ## The whole device (power-on, RESET_N, watchdog) -/

/-- HBM over a reset of the whole device: a power-on discards everything but the map and its holes; a warm reset keeps
contents and what freezes hold, and ends trainings, recoveries and a RESTRIPE in progress (R235, R414, R433). -/
def Hbm.fresh (h : Hbm) (power : Bool) : Hbm :=
  if power then { holes := h.holes }
  else { h with
    stalled := []
    training := none
    fill := 0
    ueSec := []
    ueTimes := []
    trained := h.trained.map (fun (p : Nat × Nat) => (p.1, 0))
    recovering := []
    ringOn := true
    restripe := none }

/-- Is the device's HBM map still as manufactured (R210)? -/
def State.unmapped (s : State) : Bool := (s.pcOfSlot 0).isNone && s.hbm.holes.isEmpty

/-- The pseudo-channels over a reset: at the first power-on channels 30 and 31 of every stack become spares; every reset
ends training and self-refresh; at a power-on every spare is filled with poison words again (R210, R218). -/
def State.freshPcs (s : State) (power first : Bool) : State :=
  let s1 := if first then
      (List.range 128).foldl (fun (st : State) p =>
        if p % 32 < 30 then st.setPc p pcActive (30 * (p / 32) + p % 32) else st.setPc p pcSpare 0xFF) s
    else s
  let s2 := (List.range 128).foldl (fun (st : State) p =>
    let x := st.fld (Fr.MEM_PC_STATE p)
    if x = pcTraining || x = pcSelfRefresh then st.setFld (Fr.MEM_PC_STATE p) pcActive
    else if power && x = pcSpare then st.setFld (Fr.MEM_PC_STATE p) pcFilling else st) s1
  if power then s2.setFld Fr.MEM_SPARES 0 else s2

/-- Failures and takeovers that a warm reset keeps (R433), in the registers of the units. -/
def State.keepFailures (s old : State) : State :=
  let s1 := (List.range 9).foldl (fun (st : State) k =>
    if nth old.cal.failed k false then st.setFld (Fr.INTK_STATE k) 5 else st) s
  let s2 := match old.cal.takeover with
    | some k => (((s1.setFld (Fr.INTK_SLOT_FEEDER k) 8).setFld Fr.CAL_SPARE_USE 3).setFld Fr.CAL_SPARE_INPUT k).setFld
        (Fr.INTK_STATE 8) 3 |>.setFld (Fr.INTK_STAT_STEER 8) k
    | none => if nth old.cal.failed 8 false then s1.setFld Fr.CAL_SPARE_USE 5 else s1
  let s3 := (List.range 2).foldl (fun (st : State) x =>
    if old.fld (Fr.CLK_SYN_ROLE x) = roleFailed then st.setFld (Fr.CLK_SYN_ROLE x) roleFailed else st) s2
  let s4 := if old.flag Fr.HK_FAULT then s3.setFld Fr.HK_FAULT 1 else s3
  s4.xcorReturn

/-- The state of the device in reset: every unit as at its reset but for what this kind of reset keeps. -/
def State.fresh (s : State) (power rings : Bool) : State :=
  let m := s.maskRegs (deviceMask power rings)
  let failed := if power then List.replicate 9 false else s.cal.failed
  let cal : CalSt := {
    due := (List.range 9).map (fun k => ({ startUp := s.powered k && !nth failed k false } : CalDue))
    failed := failed
    takeover := if power then none else s.cal.takeover
    takeFlt := if power then 0 else s.cal.takeFlt }
  let new : State := {
    pending := s.pending
    regs := m.regs
    freeCtr := s.freeCtr
    out := s.out
    jobs := s.jobs
    nextJob := s.nextJob
    evlog := s.evlog
    evPhase := if rings then s.evPhase else 1
    journal := s.journal
    faults := s.faults
    parked := s.parked
    everUsed := s.everUsed
    resumeHold := s.resumeHold
    resumeFlags := s.resumeFlags
    resumeFunc := s.resumeFunc
    oldEpoch := s.oldEpoch
    oldSt := s.oldSt
    oldTod := s.oldTod
    jseqLast := s.jseqLast
    unknown := s.unknown
    intr := s.intr
    jlast := s.jlast
    capOut := if !power && s.xcor.failed.length = 2 then [9] else []
    ctlPair := if power then 0 else s.ctlPair
    ctlFailed := if power then [] else s.ctlFailed
    straps := s.straps
    hbm := s.hbm.fresh power
    cal := cal
    slices := (List.range 9).map (fun n =>
      if power then { phys := n } else { phys := (s.slice n).phys, failed := (s.slice n).failed })
    sliceFailed := if power then [] else s.sliceFailed
    counts := if power then [] else s.counts
    xcor := if power then {} else { failed := s.xcor.failed, flt := s.xcor.flt }
    sec := s.sec
    rails := s.rails
    aux := s.aux }
  if power then new else new.keepFailures s

/-- The registers that show what a reset has kept. -/
def State.showKept (s : State) : State :=
  let s1 := (List.range 8).foldl State.updateOldest s
  s1.updateFreezeRegs.updateCaps.updateKeys.updatePending.updateJnl.updateFlt.updateHeld

/-- Enter a warm reset of the whole device: open jobs end, granules nothing holds are discarded (R235, R284, R414). -/
def State.enterWarm (s : State) (cause : Nat) : State :=
  let s1 := ((s.dropFetches.endJobs (fun _ => true)).logAll).dropGranules
  let s2 := (s1.noteReset cause 0 0).fresh false true
  (s2.freshPcs false s.unmapped).showKept.holdPosting.setFld Fr.FLTJNL_LAST_RESET cause

/-- Leave it: straps are latched where the reset resamples them, the boot ROM runs; with PFAIL_N low nothing is fetched
until it rises (R406, R407, R412). -/
def State.leaveReset (s : State) (straps : Nat) (b : Boot) : State :=
  let s1 := ({ s with straps := straps, parked := s.parked && b.pfail }).strapRegs
  let s2 := { s1 with cal := { s1.cal with due := s1.cal.due.zipIdx.map (fun (p : CalDue × Nat) =>
    { p.1 with startUp := s1.powered p.2 && !nth s1.cal.failed p.2 false }) } }
  ((s2.setFld Fr.FLTJNL_PFAIL_NOW (b2n b.pfail)).bootRom b).updatePending.updateCaps.updatePin

/-- RESET_N (R405, R414): low for `ns` nanoseconds. Under 1 µs it is ignored, from 10 µs on it resets the device; in
between the effect is undefined. -/
def execResetN (ns : Nat) (boot : Boot) (s : State) : Host.Outcome State Fault Refusal :=
  if ns < 1000 then .next s
  else if ns < 10000 then .fault (.resetPulseUndefined ns)
  else .next ((s.enterWarm 3).leaveReset (boot.straps % 4096) boot)

/-- WATCHDOG (R414): a reset of the device that does not resample the straps. -/
def execWatchdog (boot : Boot) (s : State) : Host.Outcome State Fault Refusal :=
  .next ((s.enterWarm 4).leaveReset s.straps boot)

/-- Jobs all of whose records lie in unreadable rows, and refusals whose only record does (R286): each completes
INTERRUPTED with EXTENT 0 and RESULT 0xFFFF_FFFF under one fault record. TOKEN and OPCODE can no longer be read. -/
def State.resolveTorn (s : State) (torn : List Nat) : State :=
  let lost (j : Job) : Bool := !j.posted && (s.journal.filter (fun r => r.job = j.id)).all (fun r => torn.contains r.jseq)
  let refs := s.journal.filter (fun r => r.kind = 6 && torn.contains r.jseq)
  let n := s.jobs.countP lost + refs.length
  if n = 0 then { s with journal := s.journal.filter (fun r => !torn.contains r.jseq) }
  else
    let s1 := s.fault 0x10 0 none false s.samp 0 0 (fun j => lost j)
    let blank (st : State) (j : Job) : Job × State :=
      ({ j with
        d := { j.d with
          token := st.free % 2 ^ 32
          opcode := st.useFree.free % 256 }
        done := some stInterrupted
        result := 2 ^ 32 - 1
        extent := 0
        res := []
        waiting := false
        flt := s1.lastFlt }, st.useFree.useFree)
    let s2 := (s.jobs.filter lost).foldl (fun (st : State) j =>
      let b := blank st j
      b.2.modJob j.id (fun _ => b.1)) s1
    let s3 := refs.foldl (fun (st : State) r =>
      let ring := (st.globalSq r.func r.sq).getD 0
      let d : Desc := ⟨ring, r.seq, 0, 0, 0, 0, 0, [], [], none⟩
      let j : Job := ⟨st.nextJob, r.func, ring, st.fld (Fr.SQ_HEAD ring), r.cq, 0, d, false, false, false, 0, none, false,
        0, 0, 0, 128, [], false, []⟩
      let b := blank { st with nextJob := st.nextJob + 1 } j
      let later (x : Job) : Bool := b.2.journal.any (fun y => y.job = x.id && y.kind = 1 && r.jseq < y.jseq)
      let s' := { b.2 with jobs := b.2.jobs.takeWhile (fun x => !later x) ++ [b.1] ++ b.2.jobs.dropWhile (fun x => !later x) }
      (s'.setFld (Fr.CQ_RESERVED r.cq) (s'.fld (Fr.CQ_RESERVED r.cq) + 1)).setFld (Fr.SQ_OUTSTANDING ring)
        (s'.fld (Fr.SQ_OUTSTANDING ring) + 1)) s2
    { s3 with
      unknown := s3.unknown + n
      intr := s3.intr + n
      journal := s3.journal.filter (fun r => !torn.contains r.jseq) }

/-- The last journal record that still reads, for the RESUME event (R287). -/
def State.lastReadable (s : State) (torn : List Nat) : State :=
  if torn.contains s.jlast.1 then
    match (s.journal.filter (fun r => !torn.contains r.jseq)).getLast? with
    | some r => { s with jlast := (r.jseq, r.st, r.tod) }
    | none => { s with jlast := (0, 0, 0) }
  else s

/-- POWER_ON (R218, R235, R283 to R286, R404 to R414): supplies are valid and RESET_N rises. Journal, fault records, keys,
OTP and the pseudo-channel map survive; rings are restored where the journal holds unretired jobs. -/
def execPowerOn (boot : Boot) (s : State) : Host.Outcome State Fault Refusal :=
  let warned := s.parked || !s.everUsed
  let torn := if warned then [] else boot.torn
  let first := s.unmapped
  let s0 := ({ s with rails := [] } : State).lastReadable torn
  let s1 := (s0.dropFetches.resolveTorn torn).endJobs (fun _ => true)
  let rings := s1.journal.any (fun r => r.kind ≠ 5)
  let s2 := (s1.logAll.noteReset (if warned then 1 else 2) 0 (b2n (!warned) + 4 * b2n (!torn.isEmpty))).fresh true rings
  let s3 := ((s2.freshPcs true first).showKept.holdPosting.setFld Fr.FLTJNL_LAST_RESET (if warned then 1 else 2)).setFld
    Fr.FLTJNL_UNWARNED (b2n (!warned))
  .next (({ s3 with parked := false, jobs := if rings then s3.jobs else [] }).leaveReset (boot.straps % 4096) boot)

/-! ## The host-facing blocks (PERST_N, hot reset, PF FLR, QUIESCE RESET) -/

/-- Slice `n` back to its reset configuration, on the physical slice that serves it. -/
def State.sliceReset (s : State) (n : Nat) : State :=
  let s1 := s.dropCoreXfers n
  { (s1.modSlice n (fun x => { phys := x.phys, failed := x.failed })) with
    tuners := s1.tuners.zipIdx.map (fun (p : Tuner × Nat) => if p.2 / 4 = n then {} else p.1)
    zooms := modNth s1.zooms n (fun _ => {})
    cores := s1.cores.zipIdx.map (fun (p : Core × Nat) => if p.2 / 16 = n then {} else p.1) }

/-- A reset of HIF with ADM, DMA, SLC, XCOR and VID: jobs of every function end, rings stay restored, VFs are disabled,
an internal epoch without relock follows (R284, R414). `stay` tells a QUIESCE RESET, which keeps host link and BOOT_DONE. -/
def State.hostReset (s : State) (cause : Nat) (stay : Bool) : State :=
  let s1 := ((s.dropFetches.endJobs (fun _ => true)).logAll).noteReset cause 0 0
  let s2 := (List.range 9).foldl State.sliceReset s1
  let s3 := (s2.maskRegs (hostMask stay)).dropGranules
  let s4 := { s3 with
    cqs := List.replicate 64 {}
    msixBusy := []
    msixMerged := []
    msixMasked := []
    msixPend := []
    lastRing := 63
    recent := if stay then s3.recent else 0
    linkLost := stay && s3.linkLost
    chans := List.replicate 32 {}
    extracts := []
    xcor := { failed := s3.xcor.failed, flt := s3.xcor.flt }
    vid := { sink := s3.vid.sink }
    pulses := [0, 0, 0, 0]
    clk := { s3.clk with internalDue := true } }
  let s5 := if stay then s4 else s4.setFld Fr.HIF_BOOT_DONE (b2n s.booted)
  (s5.xcorReturn.showKept.holdPosting.updatePins).updateService

/-- PERST_N, a PCIe hot reset or a PF FLR (R414): the host link retrains. -/
def execPerstN (s : State) : Host.Outcome State Fault Refusal := .next (s.hostReset 5 false)

/-- VF_FLR (R284): an FLR of VF `f`, or its VF Enable cleared: its jobs end, its rings are disabled and their outcomes
held for JOURNAL_READ. -/
def execVfFlr (f : Nat) (s : State) : Host.Outcome State Fault Refusal :=
  .next (
    if f = 0 || 16 ≤ f then s
    else
      let mine (l : Nat × Nat × Nat) : Bool := s.ownerSq l.1 = f
      let s0 := { ({ s with fetchFail := s.fetchFail.filter mine }).dropFetches with
        fetchFail := s.fetchFail.filter (fun l => !mine l) }
      let s1 := ((s0.endJobs (fun j => j.func = f)).noteReset 6 f 0).holdOutcomes (fun j => j.func = f)
      let s2 := (List.range 64).foldl (fun (st : State) r =>
        let a := if s.ownerSq r = f then st.disableSq r else st
        if s.ownerCq r = f then a.disableCq r else a) s1
      (s2.holdPosting.updateJnl).updateHeld)

/-- Does an open job use one of the slices a mask names: a stream, an arming, a core of it, a COMMIT that waits on it? -/
def State.usesSlices (s : State) (mask : Nat) (j : Job) : Bool :=
  (maskList 9 mask).any (fun n =>
    j.d.opcode ≠ 0x07 && s.jobOnSlice n j
    || (s.slice n).pend.any (fun c => c.job = j.id) || (nth s.zooms n {}).pend.any (fun c => c.job = j.id)
    || (List.range 4).any (fun t => (s.tuner n t).pend.any (fun c => c.job = j.id)
        || (s.tuner n t).queued.any (fun q => q.1 = j.id)))

/-- QUIESCE SLICE_RESET (R284, R289, R414): the named slices take their reset configuration, jobs that use one end, and a
RESUME event with CAUSE 0x08 follows; nothing else is held. -/
def State.slicesReset (s : State) (mask : Nat) : State :=
  let n0 := s.intr
  let s1 := s.endJobs (s.usesSlices mask)
  let n := s1.intr - n0
  let s2 := (maskList 9 mask).foldl State.sliceReset s1
  let s3 := (s2.maskRegs (sliceMask mask)).setFld Fr.FLTJNL_LAST_RESET 8
  let pay := le 4 n ++ zeros 6 ++ [s.epoch8, 0] ++ le 4 s.jlast.1 ++ le 8 s.jlast.2.1 ++ le 8 s.jlast.2.2
  ({ s3 with intr := n0 }).raise 0xA 8 0 pay |>.updatePins

/-- The soft reset of a QUIESCE RESET falls due once every completion before its own is posted (R289). -/
def State.softReset (s : State) : State :=
  match s.job s.resetDue with
  | none => s
  | some j =>
    if s.resetDue ≠ 0 && s.jobs.all (fun x => x.posted || j.id ≤ x.id) then s.hostReset 7 true else s

/-! ## Power-fail warning (R283, R406, R416) -/

/-- A journal record that belongs to no job. -/
def noDesc : Desc := ⟨0, 0, 0, 0, 0, 0, 0, [], [], none⟩

/-- PFAIL_N falls: fetching stops; each running job gets a PROGRESS record and a PARK record follows. Before BOOT_DONE
nothing is parked. -/
def State.pfailFall (s : State) : State :=
  let s1 := (s.setFld Fr.FLTJNL_PFAIL_NOW 1).count 426 .pfails 1
  if s.flag Fr.FLTJNL_PFAIL_NOW then s
  else if !s.flag Fr.HIF_BOOT_DONE then s1
  else
    let s2 := (s1.jobs.filter Job.running).foldl State.progress s1
    { (s2.jrec 5 0 0 noDesc 0 0 0 0 0) with parked := true }

def execPfailNFall (s : State) : Host.Outcome State Fault Refusal := .next s.pfailFall

/-- PFAIL_N_RISE (R283): fetching resumes, no job is interrupted. -/
def execPfailNRise (s : State) : Host.Outcome State Fault Refusal :=
  .next ({ (s.setFld Fr.FLTJNL_PFAIL_NOW 0) with parked := false })

/-! ## The host link (R265) -/

/-- Channels whose transfer names host memory pause, or run again. -/
def State.pauseHost (s : State) (from_ to_ : Nat) : State :=
  (List.range 32).foldl (fun (st : State) c =>
    if (st.chan c).cur.any (fun x => x.hostSide) && st.fld (Fr.DMA_CH_STATE c) = from_ then st.setFld (Fr.DMA_CH_STATE c) to_
    else st) s

/-- The host link is lost; `recent` ring entries were issued in the 10 µs before. -/
def State.hostDown (s : State) (recent : Nat) : State :=
  if !s.flag Fr.HIF_LINK_UP then s
  else
    let s1 := { (s.setFld Fr.HIF_LINK_UP 0) with linkLost := true, recent := recent }
    ((s1.pauseHost chRunning chPaused).linkEv 0x20 1 0 0).updateHeld

def execHostDown (recent : Nat) (s : State) : Host.Outcome State Fault Refusal := .next (s.hostDown recent)

/-- A ring entry among what has left the block. -/
def Out.ringEntry : Out → Bool
  | .completion _ _ _ _ => true
  | .event _ _ _ => true
  | _ => false

/-- HOST_UP (R243, R265): the link trains. After a loss without a reset of the function HOST_UP is raised and the entries
issued in the 10 µs before the loss are written again, unchanged. -/
def execHostUp (width speed : Nat) (s : State) : Host.Outcome State Fault Refusal :=
  .next (
    if s.flag Fr.HIF_LINK_UP || s.inReset then s
    else
      let lanes := Nat.min width (if bit s.straps 5 then 8 else 16)
      let s1 := ((s.setFld Fr.HIF_LINK_UP 1).setFld Fr.HIF_WIDTH lanes).setFld Fr.HIF_SPEED speed
      let s2 := s1.pauseHost chPaused chRunning
      if s.linkLost then
        let sent := s.out.filter Out.ringEntry
        let s3 := s2.linkEv 0x21 1 0 0
        let s4 := (sent.drop (sent.length - s.recent)).foldl State.emit s3
        ({ s4 with linkLost := false, recent := 0 }).updateHeld
      else s2.updateHeld)

end Sys2Proof.Machine
end

