-- ==== Sys2Proof/Machine/Guarantees.lean ====
section
/-! DEFINITION. QUIESCE, SHED_ORDER, JOURNAL_READ and the changeover of the control pairs (R277, R279, R289, R291). -/

namespace Sys2Proof.Machine

/-! ## QUIESCE (R289) -/

/-- MODE DRAIN needs a TIMEOUT, SLICE_RESET a slice. SLICE_MASK and TIMEOUT are read by one mode each. -/
def quiesceFmt (_s : State) (d : Desc) : Option Refuse :=
  firstRefusal [
    check (bits (nth d.p 0 0) 2 6 ≠ 0 || bits (nth d.p 0 0) 17 15 ≠ 0 || quMode d = 3 && quSlices d = 0) (refuseFormat 0),
    check (quMode d = 0 && (quTimeout d = 0 || 65535 < quTimeout d)) (refuseFormat 1)]

/-- MODE 2 and 3 belong to the PF. -/
def quiesceSec (_s : State) (func : Nat) (d : Desc) : Option Refuse := check (2 ≤ quMode d && func ≠ 0) refuseSecurity

/-- SLICE_RESET of a powered-down slice (R16). -/
def quiesceState (s : State) (d : Desc) : Option Refuse :=
  check (quMode d = 3 && (maskList 9 (quSlices d)).any (fun n => !s.powered n)) refuseState

/-- The other open jobs of a function. -/
def State.othersOpen (s : State) (func job : Nat) : Nat := (s.openJobs (fun j => j.func = func && j.id ≠ job)).length

/-- A standing job that QUIESCE CLOSE closes completes CANCELLED; a recording once its last commands have completed. -/
def State.closeStanding (s : State) (j : Job) : State :=
  if j.d.opcode = 0x03 then
    match s.streams.find? (fun x => x.job = j.id) with
    | some x => s.endStream x.id stCancelled
    | none => s.complete j.id stCancelled 0 j.extent
  else if j.d.opcode = 0x07 then
    match s.recs.find? (fun r => r.job = j.id && r.ended.isNone) with
    | some r =>
      let s1 := (s.streams.filter (fun x => x.intoRec r.id)).foldl (fun (st : State) x => st.endStream x.id stCancelled) s
      s1.recFinish r.id 0 stCancelled 0
    | none => s
  else if j.d.opcode = 0x05 then
    let fires := s.fld (Fr.TRG_FIRES (armSlice j.d) (armTrg j.d))
    ((s.complete j.id stCancelled fires fires).dropArms (fun i => i = j.id)).updateFreezeRegs
  else
    match (List.range 144).find? (fun k => (nth s.cores k {}).job = j.id) with
    | some k =>
      let c := nth s.cores k {}
      let s1 := s.complete j.id stCancelled (1 + 65536 * c.pc) 0
      (s1.modCore (k / 16) (k % 16) (fun x => { x with ending := x.ending.or (some (.stop 0)) })).coreSettle (k / 16) (k % 16)
    | none => s

/-- QUIESCEs that wait complete as their conditions come: DRAIN with no other job of the function open, CLOSE with none
of the standing jobs it closes open. -/
def State.settleQuiesces (s : State) : State :=
  s.quiesces.foldl (fun (st : State) (q : Quiesce) =>
    let settled := if q.mode = 0 then st.othersOpen q.func q.job = 0
      else (st.openJobs (fun j => j.func = q.func && j.standing && j.id < q.job)).isEmpty
    if settled then
      { (st.complete q.job stDone 0 0) with quiesces := st.quiesces.filter (fun x => x.job ≠ q.job) }
    else st) s

/-- An accepted QUIESCE. -/
def quiesceApply (s : State) (func : Nat) (d : Desc) (job : Nat) : State :=
  let wait (st : State) : State := { st with
    quiesces := st.quiesces ++ [(⟨job, func, quMode d, st.samp + st.samplesOfNs (1000000 * quTimeout d)⟩ : Quiesce)] }
  match quMode d with
  | 0 => (wait s).settleQuiesces
  | 1 => (wait ((s.openJobs (fun j => j.func = func && j.standing)).foldl State.closeStanding s)).settleQuiesces
  | 2 => ({ s with resetDue := job }).softReset
  | _ => (s.slicesReset (quSlices d)).complete job stDone 0 0

/-- DRAIN_TIMEOUT (R289): TIMEOUT has run out with jobs still open. -/
def execDrainTimeout (job : Nat) (s : State) : Host.Outcome State Fault Refusal :=
  .next (
    match s.quiesces.find? (fun q => q.job = job && q.mode = 0) with
    | none => s
    | some q =>
      if q.stop ≤ s.samp then
        { (s.complete job stFlagged (s.othersOpen q.func job) 0) with quiesces := s.quiesces.filter (fun x => x.job ≠ job) }
      else s)

/-! ## SHED_ORDER (R279) -/

def shSq (d : Desc) : Nat := bits (nth d.p 0 0) 0 6
def shCount (d : Desc) : Nat := bits (nth d.p 0 0) 8 3

/-- The (SEQ, RANK) pairs. -/
def shPairs (d : Desc) : List (Nat × Nat) :=
  (List.range (shCount d)).map (fun k => (nth d.p (1 + 2 * k) 0, nth d.p (2 + 2 * k) 0))

/-- SQ outside the function's ranges. -/
def shedSec (s : State) (func : Nat) (d : Desc) : Option Refuse :=
  check (match s.globalSq func (shSq d) with
    | none => true
    | some r => !s.ownsSq func r) refuseSecurity

/-- COUNT and reserved bits; words beyond the pairs are reserved. -/
def shedFmt (_s : State) (d : Desc) : Option Refuse :=
  firstRefusal (check (bits (nth d.p 0 0) 6 2 ≠ 0 || bits (nth d.p 0 0) 11 21 ≠ 0 || shCount d = 0 || 5 < shCount d) (refuseFormat 0)
    :: (List.range 11).map (fun i =>
      let k := i + 1
      check (if 2 * shCount d < k then nth d.p k 0 ≠ 0 else k % 2 = 0 && 256 ≤ nth d.p k 0) (refuseFormat k)))

/-- The open standing job of a ring with a SEQ. -/
def State.standingSeq (s : State) (r seq : Nat) : Option Job :=
  s.jobs.find? (fun j => j.ring = r && j.standing && j.done.isNone && j.d.seq = seq)

def shedState (s : State) (func : Nat) (d : Desc) : Option Refuse :=
  let r := (s.globalSq func (shSq d)).getD 64
  check ((shPairs d).any (fun p => (s.standingSeq r p.1).isNone)) refuseState

def shedApply (s : State) (func : Nat) (d : Desc) (job : Nat) : State :=
  let r := (s.globalSq func (shSq d)).getD 64
  ((shPairs d).foldl (fun (st : State) p =>
    match st.standingSeq r p.1 with
    | some j => st.modJob j.id (fun x => { x with rank := p.2 })
    | none => st) s).complete job stDone 0 0

/-! ## JOURNAL_READ (R291) -/

def jrWhat (d : Desc) : Nat := bits (nth d.p 0 0) 0 2
def jrLen (d : Desc) : Nat := nth d.p 4 0

def journalFmt (_s : State) (d : Desc) : Option Refuse :=
  firstRefusal [
    check (nth d.p 0 0 ≠ jrWhat d || jrWhat d = 3) (refuseFormat 0),
    check (jrLen d % 64 ≠ 0) (refuseFormat 4)]

/-- The records asked for, each as its bytes, in ascending order. A VF gets its own journal records and the fault records.
The PHASE of each record of the event log is a free value. -/
def State.journalRecs (s : State) (func : Nat) (d : Desc) : List (List Nat) :=
  match jrWhat d with
  | 0 => (s.journal.filter (fun r => nth d.p 1 0 ≤ r.jseq && (func = 0 || r.func = func))).map jrecBytes
  | 1 => (s.faults.filter (fun f => nth d.p 1 0 ≤ f.id)).map fltBytes
  | _ => if func = 0 then s.evlog.zipIdx.map (fun e => evBytes e.1 (Config.freeValue (s.freeCtr + e.2) % 2)) else []

/-- The records that fit are written; RESULT counts them, EXTENT the bytes. -/
def journalApply (s : State) (func : Nat) (d : Desc) (job : Nat) : State :=
  let size := if jrWhat d = 0 then 32 else 64
  let l := (s.journalRecs func d).take (jrLen d / size)
  let r := (s.useFrees l.length).hostIo d (pAddr d 2) l.flatten
  r.1.complete job r.2.1 (r.2.2 / size) r.2.2

/-! ## The control pairs (R277) -/

/-- CONTROL_PAIR_FAILURE (R276, R277): the pair in charge fails its lockstep compare. The standby takes over with the job
state the journal holds; with the standby failed already the failure lies beyond the assumptions and only the watchdog
ends it (R414). -/
def execControlPairFailure (onset : Nat) (s : State) : Host.Outcome State Fault Refusal :=
  .next (
    let p := s.ctlPair
    let q := 1 - p
    let s1 := { s with ctlFailed := (p :: s.ctlFailed).eraseDups }
    if s.ctlFailed.contains p then s
    else if s.ctlFailed.contains q then s1.fault 7 p none true onset 0 0 (fun _ => false)
    else (({ s1 with ctlPair := q }).fault 7 p (some q) false onset 0 s.samp (fun _ => false)))

end Sys2Proof.Machine
end

