-- ==== Sys2Proof/Machine/Jobs.lean ====
section
/-! DEFINITION. Decision and start of every job: the checks of Table 11.4 in their order, refusal, acceptance, BARRIER, the
posting of completions, descriptor fetch and its retries (R248 to R259, R266, R269, R270, R282). -/

namespace Sys2Proof.Machine

/-! ## What a job checks and does -/

/-- The part of a job that its owning chapter gives: the checks of steps 3 to 7 of Table 11.4, what the job reserves, and
what it does once it starts. `used` counts the parameter words its table defines, `flags` are its own JOB_FLAGS. -/
structure JobDef where
  used : Nat
  flags : Nat := 0
  standing : Bool := false
  sec : State → Nat → Desc → Option Refuse := fun _ _ _ => none
  secEv : State → Desc → State := fun s _ => s
  fmt : State → Nat → Desc → Option Refuse := fun _ _ _ => none
  st : State → Nat → Desc → Option Refuse := fun _ _ _ => none
  win : State → Desc → Option Refuse := fun _ _ => none
  need : State → Desc → List (Nat × Nat) := fun _ _ => []
  budget : State → Desc → Option Refuse := fun s _ => s.withinBudget [] none
  start : State → Nat → Desc → Nat → State

/-- A step-7 check of a job that reserves units. -/
def needBudget (need : State → Desc → List (Nat × Nat)) (s : State) (d : Desc) : Option Refuse := s.withinBudget (need s d) none

/-- A step-7 check with a further condition of the job's own chapter. -/
def needBudgetAnd (need : State → Desc → List (Nat × Nat)) (own : State → Desc → Option Refuse) (s : State) (d : Desc) :
    Option Refuse := firstRefusal [s.withinBudget (need s d) none, own s d]

/-- The DMA share of a path that a table load, a CHECK of a buffer and a JOURNAL_READ reserve (R270, Table 12.2). -/
def shareNeed (path : Nat) (s : State) (d : Desc) : List (Nat × Nat) :=
  [(path, ceilDiv ((Config.dmaShare d.opcode).val * s.capacity path) 256)]

/-- The load of a table of `n` bytes from host memory: DONE with EXTENT in bytes once it is in place (R258); what a load
that fails leaves is `fail` (R288). -/
def tableLoad (n : Nat) (load : State → Desc → State) (fail : State → Desc → Nat → State) (s : State) (d : Desc)
    (job : Nat) : State :=
  match hostRead d n with
  | .inr e => (fail s d e).complete job stErrBus 0 e
  | .inl _ => (load s d).complete job stDone 0 n

/-- Bytes of a CONFIGURE table load: four for each entry. -/
def cfBytes (d : Desc) : Nat := 4 * nth d.p 3 0

/-! ## CONFIGURE (R258) -/

def cfSlotSource : JobDef where
  used := 4
  fmt := fun s _ d => slotSourceFmt s d
  st := fun s _ d => slotSourceState s d
  budget := fun s d => s.withinBudget [] (some (slotSourceApply s d))
  start := fun s _ d job => (slotSourceApply s d).complete job stDone 0 0

def cfWindowTable : JobDef where
  used := 4
  fmt := fun _ _ d => windowTableFmt d
  st := fun s _ d => windowTableState s d
  need := shareNeed 4
  budget := needBudget (shareNeed 4)
  start := fun s _ d job => tableLoad (cfBytes d) windowTableLoad windowTableFail s d job

/-- The table has been read before the decision (R114). -/
def cfMaskTable : JobDef where
  used := 4
  fmt := fun _ _ d => maskTableFmt d
  st := fun s _ d => maskTableState s d
  need := shareNeed 4
  budget := needBudget (shareNeed 4)
  start := fun s _ d job => (maskTableLoad s d).complete job stDone 0 (cfBytes d)

def cfFirBank : JobDef where
  used := 4
  fmt := fun s _ d => firBankFmt s d
  st := fun s _ d => firBankState s d
  need := shareNeed 4
  budget := needBudget (shareNeed 4)
  start := fun s _ d job => tableLoad (cfBytes d) firBankLoad firBankFail s d job

def cfGainBank : JobDef where
  used := 4
  fmt := fun _ _ d => gainBankFmt d
  st := fun s _ d => gainBankState s d
  need := shareNeed 4
  budget := needBudget (shareNeed 4)
  start := fun s _ d job => tableLoad (cfBytes d) gainBankLoad gainBankFail s d job

def cfSqRing : JobDef where
  used := 4
  sec := ringSec
  fmt := fun s _ d => sqRingFmt s d
  st := sqRingState
  start := fun s func d job => (sqRingApply s func d).complete job stDone 0 0

def cfCqRing : JobDef where
  used := 4
  sec := ringSec
  fmt := fun s _ d => cqRingFmt s d
  st := cqRingState
  start := fun s func d job => (cqRingApply s func d).complete job stDone 0 0

def cfEvRing : JobDef where
  used := 4
  sec := ringSec
  fmt := fun s _ d => evRingFmt s d
  st := fun s _ d => evRingState s d
  start := fun s _ d job => (evRingApply s d).complete job stDone 0 0

def cfPalette : JobDef where
  used := 4
  fmt := fun s _ d => paletteFmt s d
  st := fun s _ _ => check (!s.hasDisplay) refuseState
  need := shareNeed 4
  budget := needBudget (shareNeed 4)
  start := fun s _ d job => tableLoad (cfBytes d) paletteLoad paletteFail s d job

/-- A field of word 0 that names nothing: a TARGET, an OP or a MODE outside its table. -/
def jobUnknown : JobDef where
  used := 12
  fmt := fun _ _ _ => refuseFormat 0
  start := fun s _ _ _ => s

/-! ## The other jobs (Table 11.6) -/

def jobCommit : JobDef where
  used := 6
  flags := 1
  fmt := fun s _ d => commitFmt s d
  st := fun s _ d => commitState s d
  win := commitWindow
  budget := commitBudget
  start := fun s _ d job => commitApply s d (((s.job job).map (·.cap)).getD []) job

def jobStreamOpen : JobDef where
  used := 12
  standing := true
  fmt := fun s _ d => streamFmt s d
  st := fun s _ d => streamState s d
  need := streamNeed
  budget := needBudgetAnd streamNeed streamBudget
  start := fun s _ d job => streamApply s d job

def jobStreamClose : JobDef where
  used := 1
  st := fun s _ d => streamCloseState s d.ring d
  start := fun s _ d job => streamCloseApply s d job

def jobArm (d : Desc) : JobDef where
  used := 6
  standing := armMode d < 2
  fmt := fun s _ d => armFmt s d
  st := fun s _ d => armState s d
  need := fun s d => if armMode d < 2 then armNeed s d else []
  budget := needBudget (fun s d => if armMode d < 2 then armNeed s d else [])
  start := fun s _ d job => armApply s d job

def jobExtract : JobDef where
  used := 10
  fmt := fun s _ d => extractFmt s d
  st := fun s _ d => extractState s d
  win := extractWindow
  need := extractNeed
  budget := needBudgetAnd extractNeed extractBudget
  start := fun s _ d job => extractApply s d job

def jobRecordStart : JobDef where
  used := 8
  standing := true
  sec := fun s _ d => recSec s d
  secEv := recSecEv
  fmt := fun s _ d => recFmt s d
  st := fun s _ d => recState s d
  need := recNeed
  budget := needBudget recNeed
  start := fun s _ d job => recApply s d job

def jobRecordStop : JobDef where
  used := 1
  st := fun s _ d => recStopState s d.ring d
  start := fun s _ d job => recStopApply s d job

def jobCoreLoad : JobDef where
  used := 4
  flags := 1
  sec := fun s _ d => coreLoadSec s d
  secEv := coreLoadSecEv
  fmt := fun s _ d => coreLoadFmt s d
  st := fun s _ d => coreLoadState s d
  start := fun s _ d job => coreLoadDo s d job

def jobCoreRun (d : Desc) : JobDef where
  used := 4
  standing := crMode d = 0
  fmt := fun s _ d => coreRunFmt s d
  st := fun s _ d => coreRunState s d.ring d
  need := fun s d => if crMode d = 0 then coreRunNeed s d else []
  budget := needBudget (fun s d => if crMode d = 0 then coreRunNeed s d else [])
  start := fun s _ d job => coreRunApply s d job

def jobCalibrate : JobDef where
  used := 1
  fmt := fun _ _ d => calibrateFmt d
  st := fun s _ d => calibrateState s d
  start := fun s _ d job => calibrateApply s d job

def jobSnapshot : JobDef where
  used := 6
  fmt := fun s _ d => snapFmt s d
  st := fun s _ d => snapState s d
  win := snapWindow
  start := fun s _ d job => snapApply s d job

def jobBist : JobDef where
  used := 1
  fmt := fun s _ d => bistFmt s d
  st := fun s _ d => bistState s d
  start := fun s _ d job => bistApply s d job

def jobAttest : JobDef where
  used := 12
  sec := fun s _ d => attestSec s d
  fmt := fun s _ d => attestFmt s d
  start := fun s _ d job => attestApply s d job

def koGenerate : JobDef where
  used := 5
  sec := fun s _ d => generateSec s d
  fmt := fun s _ d => generateFmt s d
  st := fun s _ d => generateState s d
  start := fun s _ d job => generateApply s d job

def koImport : JobDef where
  used := 5
  sec := fun s _ d => importSec s d
  fmt := fun s _ d => importFmt s d
  start := fun s _ d job => importApply s d job

def koExport : JobDef where
  used := 5
  sec := fun s _ d => exportSec s d
  fmt := fun s _ d => exportFmt s d
  st := fun s _ d => exportState s d
  start := fun s _ d job => exportApply s d job

def koDelete : JobDef where
  used := 5
  sec := fun s _ d => deleteSec s d
  fmt := fun s _ d => deleteFmt s d
  st := fun s _ d => deleteState s d
  start := fun s _ d job => deleteApply s d job

def koOwner : JobDef where
  used := 5
  sec := fun s _ d => deleteSec s d
  fmt := fun s _ d => deleteFmt s d
  st := fun s _ d => ownerState s d
  start := fun s _ d job => ownerApply s d job

def koSvn : JobDef where
  used := 5
  fmt := fun s _ d => svnFmt s d
  st := fun s _ d => svnState s d
  start := fun s _ d job => svnApply s d job

def koZeroise : JobDef where
  used := 5
  sec := fun s _ d => deleteSec s d
  fmt := fun s _ d => zeroiseFmt s d
  start := fun s _ d job => zeroiseApply s d job

def koReseed : JobDef where
  used := 5
  sec := fun s _ d => reseedSec s d
  fmt := fun s _ d => deleteFmt s d
  start := fun s _ d job => reseedApply s d job

def koRevoke : JobDef where
  used := 5
  sec := fun s _ d => deleteSec s d
  fmt := fun s _ d => revokeFmt s d
  st := fun s _ d => revokeState s d
  start := fun s _ d job => revokeApply s d job

def jobMove : JobDef where
  used := 8
  sec := moveSec
  fmt := moveFmt
  need := moveNeed
  budget := needBudget moveNeed
  start := fun s _ d job => moveApply s d job

def jobVideo : JobDef where
  used := 3
  fmt := fun s _ d => videoFmt s d
  st := fun s _ d => videoState s d
  start := fun s _ d job => videoApply s d job

def jobHkTable : JobDef where
  used := 3
  fmt := fun s _ d => hkTableFmt s d
  st := fun s _ d => hkTableState s d
  start := fun s _ d job => hkTableApply s d job

def jobQuiesce : JobDef where
  used := 2
  sec := quiesceSec
  fmt := fun s _ d => quiesceFmt s d
  st := fun s _ d => quiesceState s d
  start := quiesceApply

def jobRestripe : JobDef where
  used := 1
  fmt := fun s _ d => restripeFmt s d
  st := fun s _ d => restripeState s d
  start := fun s _ d job => restripeApply s d job

def jobCheckBuffer : JobDef where
  used := 5
  fmt := fun s _ d => checkBufFmt s d
  need := shareNeed 4
  budget := needBudget (shareNeed 4)
  start := fun s _ d job => checkBufApply s d job

def jobCheckVerify : JobDef where
  used := 5
  fmt := fun s _ d => checkVerFmt s d
  st := fun s _ d => checkVerState s d
  start := fun s _ d job => checkVerApply s d job

def jobFaultAck : JobDef where
  used := 2
  fmt := fun s _ d => faultAckFmt s d
  st := fun s _ d => ackState s d
  start := fun s _ d job => ackApply s d job

def jobFaultReturn : JobDef where
  used := 2
  fmt := fun s _ d => faultAckFmt s d
  st := fun s _ d => returnState s d
  start := fun s _ d job => returnApply s d job

def jobJournal : JobDef where
  used := 5
  fmt := fun s _ d => journalFmt s d
  need := shareNeed 5
  budget := needBudget (shareNeed 5)
  start := journalApply

def jobShed : JobDef where
  used := 12
  sec := shedSec
  fmt := fun s _ d => shedFmt s d
  st := shedState
  start := shedApply

/-- CONFIGURE by its TARGET (Table 11.7). -/
def cfJob (d : Desc) : JobDef :=
  match cfTarget d with
  | 1 => cfSlotSource
  | 2 => cfWindowTable
  | 3 => cfMaskTable
  | 4 => cfFirBank
  | 5 => cfGainBank
  | 6 => cfSqRing
  | 7 => cfCqRing
  | 8 => cfEvRing
  | 9 => cfPalette
  | _ => jobUnknown

/-- KEY_OP by its OP (R376). -/
def koJob (d : Desc) : JobDef :=
  match koOp d with
  | 0 => koGenerate
  | 1 => koImport
  | 2 => koExport
  | 3 => koDelete
  | 4 => koOwner
  | 5 => koSvn
  | 6 => koZeroise
  | 7 => koReseed
  | 8 => koRevoke
  | _ => jobUnknown

/-- CHECK by its MODE (R322). -/
def ckJob (d : Desc) : JobDef :=
  match bits (nth d.p 0 0) 0 2 with
  | 0 => jobCheckBuffer
  | 1 => jobCheckVerify
  | _ => jobUnknown

/-- The job a descriptor names (Table 11.6), none for an OPCODE outside 0x01 to 0x18. -/
def jobOf (d : Desc) : Option JobDef :=
  match d.opcode with
  | 0x01 => some (cfJob d)
  | 0x02 => some jobCommit
  | 0x03 => some jobStreamOpen
  | 0x04 => some jobStreamClose
  | 0x05 => some (jobArm d)
  | 0x06 => some jobExtract
  | 0x07 => some jobRecordStart
  | 0x08 => some jobRecordStop
  | 0x09 => some jobCoreLoad
  | 0x0A => some (jobCoreRun d)
  | 0x0B => some jobCalibrate
  | 0x0C => some jobSnapshot
  | 0x0D => some jobBist
  | 0x0E => some jobAttest
  | 0x0F => some (koJob d)
  | 0x10 => some jobMove
  | 0x11 => some jobVideo
  | 0x12 => some jobHkTable
  | 0x13 => some jobQuiesce
  | 0x14 => some jobRestripe
  | 0x15 => some (ckJob d)
  | 0x16 => some (if nth d.p 1 0 = 1 then jobFaultReturn else jobFaultAck)
  | 0x17 => some jobJournal
  | 0x18 => some jobShed
  | _ => none

/-! ## The checks in their order (R252) -/

/-- Step 2: OPCODE, reserved header bits, JOB_FLAGS its job does not define. -/
def stepHeader (d : Desc) (flags : Nat) : Option Refuse :=
  check (d.rsvd9 ≠ 0 || d.rsvd12 ≠ 0 || (d.flags ||| (flags + 0x300)) ≠ flags + 0x300) (some ⟨stRefFormat, 0xFE, 0⟩)

/-- The first nonzero parameter word from `used` on: a word the job's table does not define is reserved (R248). -/
def reservedWord (d : Desc) (used : Nat) : Option Refuse :=
  match (List.range 12).find? (fun k => used ≤ k && nth d.p k 0 ≠ 0) with
  | some k => refuseFormat k
  | none => none

/-- Step 4: of the job's own format check and its reserved words, the one at the lower word. -/
def stepFormat (own : Option Refuse) (d : Desc) (used : Nat) : Option Refuse :=
  match own, reservedWord d used with
  | some a, some b => if a.dword ≤ b.dword then some a else some b
  | some a, none => some a
  | none, b => b

/-- What the checks of Table 11.4 find, in their order; whether the refusal leaves SEQ_NEXT where it was; the step-3
refusal of the job's own chapter is marked, since it may post an event. -/
structure JobVerdict where
  refuse : Option Refuse
  step1 : Bool
  own3 : Bool
  deriving DecidableEq, Repr

/-- Steps 1 to 7 of Table 11.4 for a descriptor. -/
def State.checkJob (s : State) (d : Desc) : JobVerdict :=
  let func := s.ownerSq d.ring
  if d.seq ≠ s.fld (Fr.SQ_SEQ_NEXT d.ring) then ⟨some ⟨stRefSequence, 0xFE, 0⟩, true, false⟩
  else match jobOf d with
    | none => ⟨some ⟨stRefFormat, 0xFE, 0⟩, false, false⟩
    | some k =>
      match firstRefusal [stepHeader d k.flags, stepSecurity s func d] with
      | some r => ⟨some r, false, false⟩
      | none =>
        match k.sec s func d with
        | some r => ⟨some r, false, true⟩
        | none => ⟨firstRefusal [stepFormat (k.fmt s func d) d k.used, k.st s func d, k.win s d, k.budget s d], false, false⟩

/-! ## Refusal and acceptance -/

/-- A descriptor leaves its slot: its completion entry is reserved, the fetch index moves on (R250). -/
def State.fetched (s : State) (r : Nat) : State :=
  let q := s.fld (Fr.SQ_CQ r)
  (s.setFld (Fr.CQ_RESERVED q) (s.fld (Fr.CQ_RESERVED q) + 1)).setFld (Fr.SQ_HEAD r)
    (ringNext (s.fld (Fr.SQ_LOG2SIZE r)) (s.fld (Fr.SQ_HEAD r)))

/-- A refusal: after a REFUSE record its entry is posted at once, then SEQ_NEXT advances; a failure of step 1 advances
nothing and is no outcome of the journal (R252, R255, R282). -/
def State.refuse (s : State) (d : Desc) (r : Refuse) (advance : Bool) : State :=
  let func := s.ownerSq d.ring
  let q := s.fld (Fr.SQ_CQ d.ring)
  let s1 := if advance then s.jrec 6 func (s.localSq func d.ring) d 0 (s.fld (Fr.CQ_TAIL q)) r.status 0 0 else s
  let s2 := s1.postEntry q ⟨d.seq, d.token, d.opcode, r.status, s.localSq func d.ring, 0, 0, 0, r.dword, r.dres, 0⟩ (bit d.flags 9)
  let s3 := if advance then s2.incWrap (Fr.SQ_SEQ_NEXT d.ring) else s2
  if r.status = stRefBudget then (s3.setFld Fr.ADM_LAST_REFUSED r.dres).count 411 (.refusals r.dres) 1 else s3

/-- Has every earlier job of its ring completed, or opened if it is a standing one (R251)? -/
def State.barrierMet (s : State) (j : Job) : Bool :=
  s.jobs.all (fun x => x.ring ≠ j.ring || j.id ≤ x.id || x.done.isSome || x.standing && x.opened)

/-- Does an earlier job of its ring still wait? Effects come in ring order. -/
def State.behindWaiting (s : State) (j : Job) : Bool :=
  s.jobs.any (fun x => x.ring = j.ring && x.id < j.id && x.waiting && x.done.isNone)

/-- May a job start now? -/
def State.mayStart (s : State) (j : Job) : Bool := !s.behindWaiting j && (!bit j.d.flags 8 || s.barrierMet j)

/-- An accepted job starts. -/
def State.startJob (s : State) (id : Nat) : State :=
  match s.job id with
  | none => s
  | some j =>
    let s1 := s.modJob id (fun x => { x with waiting := false, opened := x.standing })
    match jobOf j.d with
    | some k => k.start s1 j.func j.d j.id
    | none => s1

/-- The jobs of ring `r` that wait start as their turn comes, in ring order. -/
def State.startWaiting (s : State) (r : Nat) : State :=
  (s.jobs.filter (fun j => j.ring = r && j.waiting && j.done.isNone)).foldl (fun (st : State) j =>
    match st.job j.id with
    | some x => if x.waiting && st.mayStart x then st.startJob x.id else st
    | none => st) s

/-- The shadow words a job captures at acceptance: those a COMMIT names (R109). -/
def State.captured (s : State) (d : Desc) : RegFile := if d.opcode = 0x02 then s.capture (cmWords d) else []

/-- The index its completion entry would take if the entries reserved before it were posted first (R281). -/
def State.reservedIdx (s : State) (q : Nat) : Nat :=
  (s.fld (Fr.CQ_TAIL q) + s.fld (Fr.CQ_RESERVED q) - 1) % (2 * ringSize (s.fld (Fr.CQ_LOG2SIZE q)))

/-- The record of a job at its acceptance; `idx` is the index of its descriptor. -/
def State.newJob (s : State) (k : JobDef) (d : Desc) (idx : Nat) : Job :=
  let q := s.fld (Fr.SQ_CQ d.ring)
  { id := s.nextJob
    func := s.ownerSq d.ring
    ring := d.ring
    idx := idx
    cq := q
    cqIdx := s.reservedIdx q
    d := d
    standing := k.standing
    opened := false
    waiting := true
    acceptSt := s.samp
    done := none
    posted := false
    result := 0
    extent := 0
    flt := 0
    rank := 128
    res := k.need s d
    flagged := false
    cap := s.captured d }

/-- Acceptance (R252, R269, R270, R282): an ACCEPT record, SEQ_NEXT advances, the units are reserved; the job starts
unless a BARRIER holds it. -/
def State.accept (s : State) (k : JobDef) (d : Desc) (idx : Nat) : State :=
  let j := s.newJob k d idx
  let s1 := ({ s with nextJob := s.nextJob + 1 }).jrecJob 1 j 0
  let s2 := { (s1.incWrap (Fr.SQ_SEQ_NEXT d.ring)) with jobs := s.jobs ++ [j] }
  let s3 := (s2.setFld (Fr.SQ_OUTSTANDING d.ring) (s2.fld (Fr.SQ_OUTSTANDING d.ring) + 1)).updateStanding d.ring
  s3.updateJnl.startWaiting d.ring

/-- A fetch that waits for a retry ends: the entry reserved for it returns. -/
def State.dropFetch (s : State) (r : Nat) : State :=
  if s.fetchFail.any (fun f => f.1 = r) then
    let q := s.fld (Fr.SQ_CQ r)
    { (s.setFld (Fr.CQ_RESERVED q) (s.fld (Fr.CQ_RESERVED q) - 1)) with
      fetchFail := s.fetchFail.filter (fun f => f.1 ≠ r) }
  else s

/-- The device decides a descriptor it has read (R252): every check in order, then refusal or acceptance. -/
def State.decide (s : State) (d : Desc) : State :=
  if 64 ≤ d.ring then s
  else
    let s0 := s.dropFetch d.ring
    let s1 := { (s0.fetched d.ring) with lastRing := d.ring }
    let v := s1.checkJob d
    match v.refuse, jobOf d with
    | some r, some k => (if v.own3 then k.secEv s1 d else s1).refuse d r (!v.step1)
    | some r, none => s1.refuse d r (!v.step1)
    | none, some k => s1.accept k d (s0.fld (Fr.SQ_HEAD d.ring))
    | none, none => s1

/-! ## Fetching (R250) -/

/-- May ring `r` be fetched from: fetching is on, the ring runs and holds a descriptor, room for its completion exists, no
DRAIN of its function is in progress (R289), no failed fetch of it waits? -/
def State.mayFetch (s : State) (r : Nat) : Bool :=
  s.flag Fr.HIF_FETCH_EN && s.flag Fr.HIF_BOOT_DONE && s.flag Fr.HIF_LINK_UP && !s.flag Fr.FLTJNL_RESUME_PENDING
  && !s.flag Fr.FLTJNL_PFAIL_NOW && s.fld (Fr.SQ_STATE r) = sqRunning && s.fld (Fr.SQ_TAIL r) ≠ s.fld (Fr.SQ_HEAD r)
  && s.cqRoom (s.fld (Fr.SQ_CQ r)) && !s.quiesces.any (fun q => q.mode = 0 && q.func = s.ownerSq r)
  && s.resetDue = 0 && !s.fetchFail.any (fun f => f.1 = r)

/-- The ring served next: the highest PRIO, rotating among equals from the ring served last. -/
def State.nextRing (s : State) : Option Nat :=
  let l := (List.range 64).filter s.mayFetch
  let top := l.foldl (fun m r => Nat.max m (s.fld (Fr.SQ_PRIO r))) 0
  ((List.range 64).map (fun i => (s.lastRing + 1 + i) % 64)).find? (fun r => l.contains r && s.fld (Fr.SQ_PRIO r) = top)

/-- A read that failed: its entry stays reserved while it waits for a retry. -/
def State.fetchFailed (s : State) (r : Nat) : State :=
  let q := s.fld (Fr.SQ_CQ r)
  { (s.setFld (Fr.CQ_RESERVED q) (s.fld (Fr.CQ_RESERVED q) + 1)) with
    fetchFail := s.fetchFail ++ [(r, 0, s.fld (Fr.SQ_HEAD r))]
    lastRing := r }

/-- Does the host memory that a mask-table CONFIGURE reads before its decision fail (R114)? -/
def maskUnread (d : Desc) : Bool := d.opcode = 0x01 && cfTarget d = 3 && d.hostErr.any (fun e => e < cfBytes d)

/-- DESCRIPTOR_FETCH (R250, R252): the ring served next; the descriptor is read and decided, or its read fails. -/
def execDescriptorFetch (d : Desc) (s : State) : Host.Outcome State Fault Refusal :=
  .next (
    if s.nextRing ≠ some d.ring then s
    else if d.hostErr.isSome then s.fetchFailed d.ring
    else s.decide d)

/-- FETCH_RETRY (R250): 1 µs after a failed read; after three failures the ring halts and FETCH_FAIL is posted. -/
def execFetchRetry (d : Desc) (s : State) : Host.Outcome State Fault Refusal :=
  .next (
    match s.fetchFail.find? (fun f => f.1 = d.ring) with
    | none => s
    | some f =>
      let s1 := s.setFld Fr.HIF_FETCH_ERR 1
      if d.hostErr.isNone then s1.decide d
      else if f.2.1 + 1 < 3 then
        { s1 with fetchFail := s1.fetchFail.map (fun (x : Nat × Nat × Nat) => if x.1 = d.ring then (x.1, x.2.1 + 1, x.2.2) else x) }
      else ((s1.dropFetch d.ring).setFld (Fr.SQ_STATE d.ring) sqHalted).linkEv 0x22 1 0 0)

/-- COMPLETION_POST (R251, R255, R282, R289): on a ring, QUIESCEs whose condition has come complete, jobs held by a BARRIER
start, and the oldest job not yet posted is posted if it has completed and posting is not held. -/
def execCompletionPost (ring : Nat) (s : State) : Host.Outcome State Fault Refusal :=
  .next (
    if 64 ≤ ring then s
    else
      let s1 := s.settleQuiesces.startWaiting ring
      let s2 := if s1.mayPost then s1.postHead ring else s1
      s2.softReset.updateHeld)

/-! ## The job rows: each a descriptor of its kind, decided -/

/-- A descriptor with an OPCODE. -/
def asOp (d : Desc) (op : Nat) : Desc := { d with opcode := op }

/-- A descriptor with a field of word 0 or 1 set. -/
def withField (d : Desc) (k lo w v : Nat) : Desc := { d with p := modNth (padTo 12 d.p) k (fun x => setBits x lo w v) }

/-- A CONFIGURE of a target. -/
def asTarget (d : Desc) (t : Nat) : Desc := withField (asOp d 0x01) 0 0 8 t

/-- A KEY_OP of an OP. -/
def asKeyOp (d : Desc) (op : Nat) : Desc := withField (asOp d 0x0F) 0 0 4 op

def execConfigureSlotSource (d : Desc) (s : State) : Host.Outcome State Fault Refusal := .next (s.decide (asTarget d 1))
def execConfigureWindowTable (d : Desc) (s : State) : Host.Outcome State Fault Refusal := .next (s.decide (asTarget d 2))
/-- A table that cannot be read is a failed fetch (R114). -/
def execConfigureMaskTable (d : Desc) (s : State) : Host.Outcome State Fault Refusal :=
  let x := asTarget d 3
  .next (if x.ring < 64 && maskUnread x then (s.dropFetch x.ring).fetchFailed x.ring else s.decide x)
def execConfigureFirBank (d : Desc) (s : State) : Host.Outcome State Fault Refusal := .next (s.decide (asTarget d 4))
def execConfigureGainBank (d : Desc) (s : State) : Host.Outcome State Fault Refusal := .next (s.decide (asTarget d 5))
def execConfigureSubmissionRing (d : Desc) (s : State) : Host.Outcome State Fault Refusal := .next (s.decide (asTarget d 6))
def execConfigureCompletionRing (d : Desc) (s : State) : Host.Outcome State Fault Refusal := .next (s.decide (asTarget d 7))
def execConfigureEventRing (d : Desc) (s : State) : Host.Outcome State Fault Refusal := .next (s.decide (asTarget d 8))
def execConfigureDisplayPalette (d : Desc) (s : State) : Host.Outcome State Fault Refusal := .next (s.decide (asTarget d 9))
def execCommit (d : Desc) (s : State) : Host.Outcome State Fault Refusal := .next (s.decide (asOp d 0x02))
/-- The epoch group of CLK (R74). -/
def execEpochCommit (d : Desc) (s : State) : Host.Outcome State Fault Refusal :=
  .next (s.decide (withField (withField (asOp d 0x02) 2 0 8 1) 3 0 2 1))
/-- The TRIM group of CLK (R73). -/
def execTrimCommit (d : Desc) (s : State) : Host.Outcome State Fault Refusal :=
  .next (s.decide (withField (withField (asOp d 0x02) 2 0 8 1) 3 0 2 2))
def execStreamOpen (d : Desc) (s : State) : Host.Outcome State Fault Refusal := .next (s.decide (asOp d 0x03))
def execStreamClose (d : Desc) (s : State) : Host.Outcome State Fault Refusal := .next (s.decide (asOp d 0x04))
def execArmTriggerSingle (d : Desc) (s : State) : Host.Outcome State Fault Refusal :=
  .next (s.decide (withField (asOp d 0x05) 0 5 2 0))
def execArmTriggerRepeat (d : Desc) (s : State) : Host.Outcome State Fault Refusal :=
  .next (s.decide (withField (asOp d 0x05) 0 5 2 1))
def execDisarm (d : Desc) (s : State) : Host.Outcome State Fault Refusal :=
  .next (s.decide (withField (asOp d 0x05) 0 5 2 2))
def execExtract (d : Desc) (s : State) : Host.Outcome State Fault Refusal :=
  .next (s.decide (withField (asOp d 0x06) 0 8 2 0))
def execExtractRelease (d : Desc) (s : State) : Host.Outcome State Fault Refusal :=
  .next (s.decide (withField (asOp d 0x06) 0 8 2 1))
def execRelease (d : Desc) (s : State) : Host.Outcome State Fault Refusal :=
  .next (s.decide (withField (asOp d 0x06) 0 8 2 2))
def execRecordStart (d : Desc) (s : State) : Host.Outcome State Fault Refusal := .next (s.decide (asOp d 0x07))
def execRecordStop (d : Desc) (s : State) : Host.Outcome State Fault Refusal := .next (s.decide (asOp d 0x08))
def execCoreLoad (d : Desc) (s : State) : Host.Outcome State Fault Refusal := .next (s.decide (asOp d 0x09))
def execCoreRunStart (d : Desc) (s : State) : Host.Outcome State Fault Refusal :=
  .next (s.decide (withField (asOp d 0x0A) 0 8 2 0))
def execCoreRunStop (d : Desc) (s : State) : Host.Outcome State Fault Refusal :=
  .next (s.decide (withField (asOp d 0x0A) 0 8 2 1))
def execCalibrate (d : Desc) (s : State) : Host.Outcome State Fault Refusal := .next (s.decide (asOp d 0x0B))
def execSnapshot (d : Desc) (s : State) : Host.Outcome State Fault Refusal := .next (s.decide (asOp d 0x0C))
def execBist (d : Desc) (s : State) : Host.Outcome State Fault Refusal := .next (s.decide (asOp d 0x0D))
def execAttestQuote (d : Desc) (s : State) : Host.Outcome State Fault Refusal :=
  .next (s.decide (withField (asOp d 0x0E) 0 0 2 0))
def execAttestCertificates (d : Desc) (s : State) : Host.Outcome State Fault Refusal :=
  .next (s.decide (withField (asOp d 0x0E) 0 0 2 1))
def execGenerate (d : Desc) (s : State) : Host.Outcome State Fault Refusal := .next (s.decide (asKeyOp d 0))
def execImport (d : Desc) (s : State) : Host.Outcome State Fault Refusal := .next (s.decide (asKeyOp d 1))
def execExportPublic (d : Desc) (s : State) : Host.Outcome State Fault Refusal := .next (s.decide (asKeyOp d 2))
def execDelete (d : Desc) (s : State) : Host.Outcome State Fault Refusal := .next (s.decide (asKeyOp d 3))
def execSetOwner (d : Desc) (s : State) : Host.Outcome State Fault Refusal := .next (s.decide (asKeyOp d 4))
def execSvnCommit (d : Desc) (s : State) : Host.Outcome State Fault Refusal := .next (s.decide (asKeyOp d 5))
def execZeroise (d : Desc) (s : State) : Host.Outcome State Fault Refusal := .next (s.decide (asKeyOp d 6))
def execReseed (d : Desc) (s : State) : Host.Outcome State Fault Refusal := .next (s.decide (asKeyOp d 7))
def execRevokeVendor (d : Desc) (s : State) : Host.Outcome State Fault Refusal := .next (s.decide (asKeyOp d 8))
def execMove (d : Desc) (s : State) : Host.Outcome State Fault Refusal := .next (s.decide (asOp d 0x10))
def execVideoCommit (d : Desc) (s : State) : Host.Outcome State Fault Refusal := .next (s.decide (asOp d 0x11))
def execHkTable (d : Desc) (s : State) : Host.Outcome State Fault Refusal := .next (s.decide (asOp d 0x12))
def execQuiesceDrain (d : Desc) (s : State) : Host.Outcome State Fault Refusal :=
  .next (s.decide (withField (asOp d 0x13) 0 0 2 0))
def execQuiesceClose (d : Desc) (s : State) : Host.Outcome State Fault Refusal :=
  .next (s.decide (withField (asOp d 0x13) 0 0 2 1))
def execQuiesceReset (d : Desc) (s : State) : Host.Outcome State Fault Refusal :=
  .next (s.decide (withField (asOp d 0x13) 0 0 2 2))
def execSliceReset (d : Desc) (s : State) : Host.Outcome State Fault Refusal :=
  .next (s.decide (withField (asOp d 0x13) 0 0 2 3))
def execRestripe (d : Desc) (s : State) : Host.Outcome State Fault Refusal := .next (s.decide (asOp d 0x14))
def execCheckBuffer (d : Desc) (s : State) : Host.Outcome State Fault Refusal :=
  .next (s.decide (withField (asOp d 0x15) 0 0 2 0))
def execCheckVerify (d : Desc) (s : State) : Host.Outcome State Fault Refusal :=
  .next (s.decide (withField (asOp d 0x15) 0 0 2 1))
def execFaultAckAck (d : Desc) (s : State) : Host.Outcome State Fault Refusal :=
  .next (s.decide (withField (asOp d 0x16) 1 0 1 0))
def execFaultAckReturn (d : Desc) (s : State) : Host.Outcome State Fault Refusal :=
  .next (s.decide (withField (asOp d 0x16) 1 0 1 1))
def execJournalRead (d : Desc) (s : State) : Host.Outcome State Fault Refusal := .next (s.decide (asOp d 0x17))
def execShedOrder (d : Desc) (s : State) : Host.Outcome State Fault Refusal := .next (s.decide (asOp d 0x18))

end Sys2Proof.Machine
end

