-- ==== Sys2Proof/Machine/Rails.lean ====
section
/-! DEFINITION. Rail monitors (R420): what a rail that leaves its range brings down, and its return. -/

namespace Sys2Proof.Machine

/-- The state an outcome answers, the given one where it stops. -/
def State.after (s : State) (o : Host.Outcome State Fault Refusal) : State :=
  match o with
  | .next t => t
  | _ => s

/-- A fault on converter die `d`, which holds intakes 3d to 3d + 2; its slots carry GAP and wait for their first good
beat. -/
def State.dieFault (s : State) (onset d : Nat) : State :=
  let l := (List.range 8).filter (fun n => n / 3 = d && s.powered n && s.fld (Fr.INTK_SLOT_SOURCE n) = 0)
  let s1 := s.fault 0x0C d none true onset (listMask l) 0 (fun j => l.any (fun n => s.jobOnSlot n j))
  l.foldl (fun (st : State) n => st.modSlot n (fun x => { x with restore := s1.lastFlt })) s1

/-- Converter rails: a fault on each die, calibrations in progress and every coefficient are lost. -/
def State.converterTrip (s : State) (onset : Nat) : State :=
  let s1 := (List.range 3).foldl (fun (st : State) d => st.dieFault onset d) s.endCover
  let s2 := match s1.cal.run with
    | some r => (s1.setRun none).modDue r.k (fun d => { d with jobs := d.jobs ++ r.jobs })
    | none => s1
  { s2 with cal := { s2.cal with started := List.replicate 9 false } }

/-- SerDes rails: every link goes down under its own rule. What was issued in the 10 µs before is a free value. -/
def State.serdesTrip (s : State) (onset : Nat) : State :=
  let s1 := s.useFree.hostDown s.free
  let s2 := s1.after (execEthPortFailure 0 onset s1)
  let s3 := s2.after (execEthPortFailure 1 onset s2)
  let s4 := s3.after (execRecDown onset s3)
  let s5 := (List.range 8).foldl (fun (st : State) n => st.after (execLinkLockLoss n st)) s4
  s5.after (execDpDown s5)

/-- RAIL_MONITOR_TRIP (R420): a rail of a group (0 VDD_CORE, VDD_SRAM, VDD_IO; 1 VDD_CNV, VDDA_CNV; 2 the HBM rails; 3 the
SerDes rails) has left its nominal value by more than 6 % for 1 µs. -/
def execRailMonitorTrip (group onset : Nat) (s : State) : Host.Outcome State Fault Refusal :=
  let t := { s with rails := (group :: s.rails).eraseDups }
  .next (
    if 4 ≤ group || s.rails.contains group then s
    else if group = 0 then { (t.pfailFall.enterWarm 3) with inReset := true }
    else if group = 1 then t.converterTrip onset
    else if group = 2 then (List.range 4).foldl (fun (st : State) k => st.after (execStackRecovery k st)) t
    else t.serdesTrip onset)

/-- RAIL_RECOVERY (R420): the rail has been back in range for 10 ms. A core rail ends the reset as RESET_N does; after a
converter rail every intake calibrates in place. A core rail that fell below the power-on threshold is a POWER_ON. -/
def execRailRecovery (group : Nat) (boot : Boot) (s : State) : Host.Outcome State Fault Refusal :=
  let t := { s with rails := s.rails.filter (· ≠ group) }
  .next (
    if 4 ≤ group || !s.rails.contains group then s
    else if group = 0 then ({ t with inReset := false }).leaveReset (boot.straps % 4096) boot
    else if group = 1 then
      ((List.range 9).foldl (fun (st : State) k =>
        if st.powered k && !nth st.cal.failed k false then st.modDue k (fun d => { d with startUp := true }) else st)
        { t with rails := 4 :: t.rails.filter (· ≠ 4) }).updatePending
    else t)

end Sys2Proof.Machine
end

