-- ==== Sys2Proof/Machine/Dispatch.lean ====
section
/-! DEFINITION. Which meaning each command has: one arm for each constructor, one direct call for each arm. -/

namespace Sys2Proof.Machine

/-- A command's effect on everything but the queue. -/
def exec (i : Instr) (s : State) : Host.Outcome State Fault Refusal :=
  match i with
  | .configureSlotSource d => Sys2Proof.Machine.execConfigureSlotSource d s
  | .configureWindowTable d => Sys2Proof.Machine.execConfigureWindowTable d s
  | .configureMaskTable d => Sys2Proof.Machine.execConfigureMaskTable d s
  | .configureFirBank d => Sys2Proof.Machine.execConfigureFirBank d s
  | .configureGainBank d => Sys2Proof.Machine.execConfigureGainBank d s
  | .configureSubmissionRing d => Sys2Proof.Machine.execConfigureSubmissionRing d s
  | .configureCompletionRing d => Sys2Proof.Machine.execConfigureCompletionRing d s
  | .configureEventRing d => Sys2Proof.Machine.execConfigureEventRing d s
  | .configureDisplayPalette d => Sys2Proof.Machine.execConfigureDisplayPalette d s
  | .commit d => Sys2Proof.Machine.execCommit d s
  | .epochCommit d => Sys2Proof.Machine.execEpochCommit d s
  | .trimCommit d => Sys2Proof.Machine.execTrimCommit d s
  | .streamOpen d => Sys2Proof.Machine.execStreamOpen d s
  | .streamClose d => Sys2Proof.Machine.execStreamClose d s
  | .armTriggerSingle d => Sys2Proof.Machine.execArmTriggerSingle d s
  | .armTriggerRepeat d => Sys2Proof.Machine.execArmTriggerRepeat d s
  | .disarm d => Sys2Proof.Machine.execDisarm d s
  | .extract d => Sys2Proof.Machine.execExtract d s
  | .extractRelease d => Sys2Proof.Machine.execExtractRelease d s
  | .release d => Sys2Proof.Machine.execRelease d s
  | .recordStart d => Sys2Proof.Machine.execRecordStart d s
  | .recordStop d => Sys2Proof.Machine.execRecordStop d s
  | .coreLoad d => Sys2Proof.Machine.execCoreLoad d s
  | .coreRunStart d => Sys2Proof.Machine.execCoreRunStart d s
  | .coreRunStop d => Sys2Proof.Machine.execCoreRunStop d s
  | .calibrate d => Sys2Proof.Machine.execCalibrate d s
  | .snapshot d => Sys2Proof.Machine.execSnapshot d s
  | .bist d => Sys2Proof.Machine.execBist d s
  | .attestQuote d => Sys2Proof.Machine.execAttestQuote d s
  | .attestCertificates d => Sys2Proof.Machine.execAttestCertificates d s
  | .generate d => Sys2Proof.Machine.execGenerate d s
  | .importKey d => Sys2Proof.Machine.execImport d s
  | .exportPublic d => Sys2Proof.Machine.execExportPublic d s
  | .deleteKey d => Sys2Proof.Machine.execDelete d s
  | .setOwner d => Sys2Proof.Machine.execSetOwner d s
  | .svnCommit d => Sys2Proof.Machine.execSvnCommit d s
  | .zeroise d => Sys2Proof.Machine.execZeroise d s
  | .reseed d => Sys2Proof.Machine.execReseed d s
  | .revokeVendor d => Sys2Proof.Machine.execRevokeVendor d s
  | .move d => Sys2Proof.Machine.execMove d s
  | .videoCommit d => Sys2Proof.Machine.execVideoCommit d s
  | .hkTable d => Sys2Proof.Machine.execHkTable d s
  | .quiesceDrain d => Sys2Proof.Machine.execQuiesceDrain d s
  | .quiesceClose d => Sys2Proof.Machine.execQuiesceClose d s
  | .quiesceReset d => Sys2Proof.Machine.execQuiesceReset d s
  | .sliceReset d => Sys2Proof.Machine.execSliceReset d s
  | .restripe d => Sys2Proof.Machine.execRestripe d s
  | .checkBuffer d => Sys2Proof.Machine.execCheckBuffer d s
  | .checkVerify d => Sys2Proof.Machine.execCheckVerify d s
  | .faultAckAck d => Sys2Proof.Machine.execFaultAckAck d s
  | .faultAckReturn d => Sys2Proof.Machine.execFaultAckReturn d s
  | .journalRead d => Sys2Proof.Machine.execJournalRead d s
  | .shedOrder d => Sys2Proof.Machine.execShedOrder d s
  | .submissionDoorbell func k idx => Sys2Proof.Machine.execSubmissionDoorbell func k idx s
  | .completionDoorbell func k idx => Sys2Proof.Machine.execCompletionDoorbell func k idx s
  | .eventDoorbell idx => Sys2Proof.Machine.execEventDoorbell idx s
  | .descriptorFetch d => Sys2Proof.Machine.execDescriptorFetch d s
  | .fetchRetry d => Sys2Proof.Machine.execFetchRetry d s
  | .completionPost ring => Sys2Proof.Machine.execCompletionPost ring s
  | .coalescingTimeout q => Sys2Proof.Machine.execCoalescingTimeout q s
  | .registerWrite func addr value collide => Sys2Proof.Machine.execRegisterWrite func addr value collide s
  | .rlLowRead addr => Sys2Proof.Machine.execRlLowRead addr s
  | .bar0UnsupportedAccess addr size write => Sys2Proof.Machine.execBar0UnsupportedAccess addr size write s
  | .debugWindowAccess off n wr => Sys2Proof.Machine.execDebugWindowAccess off n wr s
  | .ringRegisterWrite func addr value => Sys2Proof.Machine.execRingRegisterWrite func addr value s
  | .funcWrite addr value enabled => Sys2Proof.Machine.execFuncWrite addr value enabled s
  | .vfwinWrite addr value enabled => Sys2Proof.Machine.execVfwinWrite addr value enabled s
  | .pmcValuePreset addr value collide => Sys2Proof.Machine.execPmcValuePreset addr value collide s
  | .clrOvf k value => Sys2Proof.Machine.execClrOvf k value s
  | .abandon value => Sys2Proof.Machine.execAbandon value s
  | .recovGo value image => Sys2Proof.Machine.execRecovGo value image s
  | .auxGo value => Sys2Proof.Machine.execAuxGo value s
  | .auxReadDone data => Sys2Proof.Machine.execAuxReadDone data s
  | .hkGo value => Sys2Proof.Machine.execHkGo value s
  | .mgmtRead addr => Sys2Proof.Machine.execMgmtRead addr s
  | .beat slot samples good cbit => Sys2Proof.Machine.execBeat slot samples good cbit s
  | .spectrum n trigIn checkFail => Sys2Proof.Machine.execSpectrum n trigIn checkFail s
  | .trigOutPulseEnd pin => Sys2Proof.Machine.execTrigOutPulseEnd pin s
  | .densityPeriodClose n => Sys2Proof.Machine.execDensityPeriodClose n s
  | .densityReadoutDone n => Sys2Proof.Machine.execDensityReadoutDone n s
  | .spxChangeInstant n => Sys2Proof.Machine.execSpxChangeInstant n s
  | .ddcRestartInstant n t => Sys2Proof.Machine.execDdcRestartInstant n t s
  | .ddcOutputSample n t => Sys2Proof.Machine.execDdcOutputSample n t s
  | .ddcBlockWrite n t => Sys2Proof.Machine.execDdcBlockWrite n t s
  | .xfadeEnd n t => Sys2Proof.Machine.execXfadeEnd n t s
  | .ddcDeliveryEnd id => Sys2Proof.Machine.execDdcDeliveryEnd id s
  | .zoomRecord n t => Sys2Proof.Machine.execZoomRecord n t s
  | .attenChange n => Sys2Proof.Machine.execAttenChange n s
  | .fPayloadStaged k g => Sys2Proof.Machine.execFPayloadStaged k g s
  | .correlatorHalfFail h onset trip => Sys2Proof.Machine.execCorrelatorHalfFail h onset trip s
  | .refInLoss mean => Sys2Proof.Machine.execRefInLoss mean s
  | .refInReturn ofs => Sys2Proof.Machine.execRefInReturn ofs s
  | .lossOfLock onset => Sys2Proof.Machine.execLossOfLock onset s
  | .lockLossStandby onset => Sys2Proof.Machine.execLockLossStandby onset s
  | .lockConfirmation syn phase => Sys2Proof.Machine.execLockConfirmation syn phase s
  | .ckDpRelease periods ntoLost => Sys2Proof.Machine.execCkDpRelease periods ntoLost s
  | .synthRelockRetry syn => Sys2Proof.Machine.execSynthRelockRetry syn s
  | .memPll onset => Sys2Proof.Machine.execMemPll onset s
  | .proveFallback onset => Sys2Proof.Machine.execProveFallback onset s
  | .epochInstant phase tod => Sys2Proof.Machine.execEpochInstant phase tod s
  | .ppsEdge st tod => Sys2Proof.Machine.execPpsEdge st tod s
  | .todPairLatch tod => Sys2Proof.Machine.execTodPairLatch tod s
  | .ptpMessage port kind offset rate tod utc => Sys2Proof.Machine.execPtpMessage port kind offset rate tod utc s
  | .sysrefPulse skews off => Sys2Proof.Machine.execSysrefPulse skews off s
  | .laneClockRecovery link => Sys2Proof.Machine.execLaneClockRecovery link s
  | .syncHeaderLock link => Sys2Proof.Machine.execSyncHeaderLock link s
  | .ilasReceived link ok => Sys2Proof.Machine.execIlasReceived link ok s
  | .linkStepTimeout link => Sys2Proof.Machine.execLinkStepTimeout link s
  | .crc12Failure link beats => Sys2Proof.Machine.execCrc12Failure link beats s
  | .linkLockLoss link => Sys2Proof.Machine.execLinkLockLoss link s
  | .calSensorRead temps => Sys2Proof.Machine.execCalSensorRead temps s
  | .backgroundUpdate k => Sys2Proof.Machine.execBackgroundUpdate k s
  | .sideBySideDone samples gain skew => Sys2Proof.Machine.execSideBySideDone samples gain skew s
  | .primaryCalibrationDone tone pass => Sys2Proof.Machine.execPrimaryCalibrationDone tone pass s
  | .inPlaceCalibrationDone tone => Sys2Proof.Machine.execInPlaceCalibrationDone tone s
  | .calibrationRetry k => Sys2Proof.Machine.execCalibrationRetry k s
  | .intakeFault k onset => Sys2Proof.Machine.execIntakeFault k onset s
  | .sliceFault k onset rel => Sys2Proof.Machine.execSliceFault k onset rel s
  | .bistDone kind index sigLogic sigMem => Sys2Proof.Machine.execBistDone kind index sigLogic sigMem s
  | .retrainingStart p temp => Sys2Proof.Machine.execRetrainingStart p temp s
  | .retrainingDone ok temp => Sys2Proof.Machine.execRetrainingDone ok temp s
  | .forcedRefresh p => Sys2Proof.Machine.execForcedRefresh p s
  | .selfRefreshEntry k => Sys2Proof.Machine.execSelfRefreshEntry k s
  | .selfRefreshExit k => Sys2Proof.Machine.execSelfRefreshExit k s
  | .stackRecovery k => Sys2Proof.Machine.execStackRecovery k s
  | .stackRecovered k failed => Sys2Proof.Machine.execStackRecovered k failed s
  | .spareReady p => Sys2Proof.Machine.execSpareReady p s
  | .patrolScrub ces ues => Sys2Proof.Machine.execPatrolScrub ces ues s
  | .dmaBurstStart ch => Sys2Proof.Machine.execDmaBurstStart ch s
  | .dmaBurstDone ch ues => Sys2Proof.Machine.execDmaBurstDone ch ues s
  | .dmaBurstRetry ch burst err => Sys2Proof.Machine.execDmaBurstRetry ch burst err s
  | .dmaTransferDone ch => Sys2Proof.Machine.execDmaTransferDone ch s
  | .dataPacket id => Sys2Proof.Machine.execDataPacket id s
  | .contextPair id => Sys2Proof.Machine.execContextPair id s
  | .keepalive id => Sys2Proof.Machine.execKeepalive id s
  | .hostStreamRecordWrite id rdOfs => Sys2Proof.Machine.execHostStreamRecordWrite id rdOfs s
  | .arpRequest port v6 target mac ip => Sys2Proof.Machine.execArpRequest port v6 target mac ip s
  | .ethPortFailure p onset => Sys2Proof.Machine.execEthPortFailure p onset s
  | .ethUp p => Sys2Proof.Machine.execEthUp p s
  | .recordPortLinkUp width speed found => Sys2Proof.Machine.execRecordPortLinkUp width speed found s
  | .recDown onset => Sys2Proof.Machine.execRecDown onset s
  | .nvmeCompletion ns flush status => Sys2Proof.Machine.execNvmeCompletion ns flush status s
  | .checkpoint id => Sys2Proof.Machine.execCheckpoint id s
  | .segmentEnd id => Sys2Proof.Machine.execSegmentEnd id s
  | .dpHpdHigh lanes rate edid => Sys2Proof.Machine.execDpHpdHigh lanes rate edid s
  | .hpdIrq lost => Sys2Proof.Machine.execHpdIrq lost s
  | .frameDone under urgent => Sys2Proof.Machine.execFrameDone under urgent s
  | .hkConversionDone nv value => Sys2Proof.Machine.execHkConversionDone nv value s
  | .hkSelfCalibration ok => Sys2Proof.Machine.execHkSelfCalibration ok s
  | .instructionSample n => Sys2Proof.Machine.execInstructionSample n s
  | .sampleDrain n => Sys2Proof.Machine.execSampleDrain n s
  | .progress job => Sys2Proof.Machine.execProgress job s
  | .controlPairFailure onset => Sys2Proof.Machine.execControlPairFailure onset s
  | .watchdog boot => Sys2Proof.Machine.execWatchdog boot s
  | .powerOn boot => Sys2Proof.Machine.execPowerOn boot s
  | .resetN ns boot => Sys2Proof.Machine.execResetN ns boot s
  | .vfFlr f => Sys2Proof.Machine.execVfFlr f s
  | .hostDown recent => Sys2Proof.Machine.execHostDown recent s
  | .hostUp width speed => Sys2Proof.Machine.execHostUp width speed s
  | .railMonitorTrip group onset => Sys2Proof.Machine.execRailMonitorTrip group onset s
  | .railRecovery group boot => Sys2Proof.Machine.execRailRecovery group boot s
  | .entropyRetest pass => Sys2Proof.Machine.execEntropyRetest pass s
  | .coreMaskSwap n c => Sys2Proof.Machine.execCoreMaskSwap n c s
  | .coreSend n c => Sys2Proof.Machine.execCoreSend n c s
  | .corePost n c => Sys2Proof.Machine.execCorePost n c s
  | .coreDmaGo n c => Sys2Proof.Machine.execCoreDmaGo n c s
  | .coreMsgPop n c => Sys2Proof.Machine.execCoreMsgPop n c s
  | .mac n c x => Sys2Proof.Machine.execMac n c x s
  | .msu n c x => Sys2Proof.Machine.execMsu n c x s
  | .mpy n c x => Sys2Proof.Machine.execMpy n c x s
  | .parallelLoad n c x => Sys2Proof.Machine.execParallelLoad n c x s
  | .load n c x => Sys2Proof.Machine.execLoad n c x s
  | .store n c x => Sys2Proof.Machine.execStore n c x s
  | .add n c x => Sys2Proof.Machine.execAdd n c x s
  | .sub n c x => Sys2Proof.Machine.execSub n c x s
  | .adds n c x => Sys2Proof.Machine.execAdds n c x s
  | .subs n c x => Sys2Proof.Machine.execSubs n c x s
  | .and n c x => Sys2Proof.Machine.execAnd n c x s
  | .or n c x => Sys2Proof.Machine.execOr n c x s
  | .xor n c x => Sys2Proof.Machine.execXor n c x s
  | .not n c x => Sys2Proof.Machine.execNot n c x s
  | .shl n c x => Sys2Proof.Machine.execShl n c x s
  | .shr n c x => Sys2Proof.Machine.execShr n c x s
  | .asr n c x => Sys2Proof.Machine.execAsr n c x s
  | .min n c x => Sys2Proof.Machine.execMin n c x s
  | .max n c x => Sys2Proof.Machine.execMax n c x s
  | .abs n c x => Sys2Proof.Machine.execAbs n c x s
  | .neg n c x => Sys2Proof.Machine.execNeg n c x s
  | .cmp n c x => Sys2Proof.Machine.execCmp n c x s
  | .mov n c x => Sys2Proof.Machine.execMov n c x s
  | .ext n c x => Sys2Proof.Machine.execExt n c x s
  | .aclr n c x => Sys2Proof.Machine.execAclr n c x s
  | .ald n c x => Sys2Proof.Machine.execAld n c x s
  | .aadd n c x => Sys2Proof.Machine.execAadd n c x s
  | .asub n c x => Sys2Proof.Machine.execAsub n c x s
  | .ashl n c x => Sys2Proof.Machine.execAshl n c x s
  | .aasr n c x => Sys2Proof.Machine.execAasr n c x s
  | .aget n c x => Sys2Proof.Machine.execAget n c x s
  | .mvx n c x => Sys2Proof.Machine.execMvx n c x s
  | .ldi n c x => Sys2Proof.Machine.execLdi n c x s
  | .addi n c x => Sys2Proof.Machine.execAddi n c x s
  | .andi n c x => Sys2Proof.Machine.execAndi n c x s
  | .ori n c x => Sys2Proof.Machine.execOri n c x s
  | .cmpi n c x => Sys2Proof.Machine.execCmpi n c x s
  | .br n c x => Sys2Proof.Machine.execBr n c x s
  | .beq n c x => Sys2Proof.Machine.execBeq n c x s
  | .bne n c x => Sys2Proof.Machine.execBne n c x s
  | .blt n c x => Sys2Proof.Machine.execBlt n c x s
  | .bge n c x => Sys2Proof.Machine.execBge n c x s
  | .call n c x => Sys2Proof.Machine.execCall n c x s
  | .ret n c x => Sys2Proof.Machine.execRet n c x s
  | .loop n c x => Sys2Proof.Machine.execLoop n c x s
  | .nop n c x => Sys2Proof.Machine.execNop n c x s
  | .halt n c x => Sys2Proof.Machine.execHalt n c x s
  | .wait n c x => Sys2Proof.Machine.execWait n c x s
  | .mfs n c x => Sys2Proof.Machine.execMfs n c x s
  | .mts n c x => Sys2Proof.Machine.execMts n c x s
  | .fence n c x => Sys2Proof.Machine.execFence n c x s
  | .drainTimeout job => Sys2Proof.Machine.execDrainTimeout job s
  | .codeError link beats => Sys2Proof.Machine.execCodeError link beats s
  | .illegalInstruction n c => Sys2Proof.Machine.execIllegalInstruction n c s
  | .msiXIntervalEnd v => Sys2Proof.Machine.execMsiXIntervalEnd v s
  | .netCfgWrite addr value => Sys2Proof.Machine.execNetCfgWrite addr value s
  | .pmcSmpWrite addr value => Sys2Proof.Machine.execPmcSmpWrite addr value s
  | .eventPost => Sys2Proof.Machine.execEventPost s
  | .xcorChangeInstant => Sys2Proof.Machine.execXcorChangeInstant s
  | .integrationBoundary => Sys2Proof.Machine.execIntegrationBoundary s
  | .correlatorReadoutDone => Sys2Proof.Machine.execCorrelatorReadoutDone s
  | .trimStep => Sys2Proof.Machine.execTrimStep s
  | .epoch => Sys2Proof.Machine.execEpoch s
  | .internalEpoch => Sys2Proof.Machine.execInternalEpoch s
  | .syncInPulse => Sys2Proof.Machine.execSyncInPulse s
  | .syncTimeout => Sys2Proof.Machine.execSyncTimeout s
  | .ppsLoss => Sys2Proof.Machine.execPpsLoss s
  | .ptpLoss => Sys2Proof.Machine.execPtpLoss s
  | .calibrationStart => Sys2Proof.Machine.execCalibrationStart s
  | .steeringSettled => Sys2Proof.Machine.execSteeringSettled s
  | .calBistStep => Sys2Proof.Machine.execCalBistStep s
  | .rotationStep => Sys2Proof.Machine.execRotationStep s
  | .rotationTimeout => Sys2Proof.Machine.execRotationTimeout s
  | .dpUp => Sys2Proof.Machine.execDpUp s
  | .dpTrainFail => Sys2Proof.Machine.execDpTrainFail s
  | .dpDown => Sys2Proof.Machine.execDpDown s
  | .vblank => Sys2Proof.Machine.execVblank s
  | .lineMatch => Sys2Proof.Machine.execLineMatch s
  | .hkEntryDelayEnd => Sys2Proof.Machine.execHkEntryDelayEnd s
  | .snapshotCopy => Sys2Proof.Machine.execSnapshotCopy s
  | .resume => Sys2Proof.Machine.execResume s
  | .pfailNFall => Sys2Proof.Machine.execPfailNFall s
  | .pfailNRise => Sys2Proof.Machine.execPfailNRise s
  | .perstN => Sys2Proof.Machine.execPerstN s
  | .zeroizeN => Sys2Proof.Machine.execZeroizeN s
  | .zeroised => Sys2Proof.Machine.execZeroised s
  | .drbgReseed => Sys2Proof.Machine.execDrbgReseed s
  | .entropyFail => Sys2Proof.Machine.execEntropyFail s
  | .coreBudgetTick => Sys2Proof.Machine.execCoreBudgetTick s
  | .syncOutGenerate => Sys2Proof.Machine.execSyncOutGenerate s
  | .dpTrainRetry => Sys2Proof.Machine.execDpTrainRetry s
  | .restripeDone => Sys2Proof.Machine.execRestripeDone s
  | .memPllRelock => Sys2Proof.Machine.execMemPllRelock s
  | .controlPllRelock => Sys2Proof.Machine.execControlPllRelock s

end Sys2Proof.Machine
end

