-- ==== Sys2Proof/Safety.lean ====
section
/-! DEFINITION. What the claims about the block speak of: its invariant, a safe step, what a command leaves alone, and when
a descriptor is taken and its job starts at once. -/

namespace Sys2Proof.Machine

/-- The addresses of a sparse memory rise strictly. -/
def rising : List (Nat × Byte) → Bool
  | [] => true
  | [_] => true
  | (a, _) :: (b, x) :: t => decide (a < b) && rising ((b, x) :: t)

/-- The state's tables have their numbers of entries: eight input slots, nine slices with two triggers and four mask
tables, 36 tuners, 144 cores, 32 DMA channels and so on; no two jobs bear one number. -/
def State.Shaped (s : State) : Prop :=
  s.slots.length = 8 ∧ s.slices.length = 9 ∧ s.tuners.length = 36 ∧ s.zooms.length = 9 ∧ s.cores.length = 144
    ∧ s.chans.length = 32 ∧ s.smp.length = 8 ∧ s.pulses.length = 4 ∧ s.xcor.banks.length = 16
    ∧ s.cal.due.length = 9 ∧ s.cal.retryWait.length = 9 ∧ s.cal.bgUpdates.length = 9 ∧ s.cal.bgN.length = 9
    ∧ s.clk.synTry.length = 2 ∧ s.clk.synFlt.length = 2 ∧ s.clk.synAck.length = 2
    ∧ (∀ x ∈ s.slices, x.trg.length = 2 ∧ x.masks.length = 4 ∧ x.banks.length = 2 ∧ x.bankLen.length = 2)
    ∧ (∀ x ∈ s.tuners, x.banks.length = 2) ∧ (∀ z ∈ s.zooms, z.tun.length = 4)
    ∧ s.jobs.Pairwise (fun a b => a.id ≠ b.id)

/-- The invariant of the block: the HBM's bytes stand in canonical form, the SRAM's addresses rise strictly, and every
job bears a number below the next one to be given. -/
def State.Inv (s : State) : Prop :=
  Memory.wf s.hbm.cells = true ∧ rising s.sram = true ∧ ∀ j ∈ s.jobs, j.id < s.nextJob

/-- A safe state: the command at the front of its queue ends in no fault. -/
def State.Safe (s : State) : Prop := ∀ f, step s ≠ .fault f

/-- Command `i` completes in state `s`: exec answers a next state, and `p` holds of it. -/
def Completes (i : Instr) (s : State) (p : State → Prop) : Prop := ∃ t, exec i s = .next t ∧ p t

/-- From `s` to `t` exactly one event is raised, of a class and cause, stamped with the sample time of `s` and numbered by
EVSEQ_NEXT, which advances (R262). -/
def State.oneEvent (s t : State) (cls cause : Nat) : Prop :=
  (∃ e, t.evq = s.evq ++ [e] ∧ e.cls = cls ∧ e.cause = cause ∧ e.st = s.samp ∧ e.evseq = s.fld Fr.HIF_EVSEQ_NEXT)
    ∧ t.fld Fr.HIF_EVSEQ_NEXT = (s.fld Fr.HIF_EVSEQ_NEXT + 1) % 2 ^ 32

/-! ## What a command leaves alone -/

/-- A field of one word that shares no bit with field `f`. -/
def FRef.apart (g f : FRef) : Prop :=
  if f.lo + f.w ≤ 32 then g.addr ≠ f.addr ∨ g.lo + g.w ≤ f.lo ∨ f.lo + f.w ≤ g.lo
  else g.addr ≠ f.addr ∧ g.addr ≠ f.addr + 4

/-- Every field of a register word is unchanged, but for those that share a bit with a listed field. -/
def State.onlyFields (s t : State) (l : List FRef) : Prop :=
  ∀ g : FRef, g.lo + g.w ≤ 32 → (∀ f ∈ l, FRef.apart g f) → t.fld g = s.fld g

/-- Every register word is unchanged, but for those at the listed addresses. -/
def State.onlyWords (s t : State) (l : List Nat) : Prop := ∀ a, a ∉ l → t.reg a = s.reg a

/-- The register fields that taking a descriptor of ring `r` may change: the reservation and head of its rings, the next
SEQ, the counts of its jobs, and the journal's own registers (R250, R252, R281). -/
def State.takenFields (s : State) (r : Nat) : List FRef :=
  [Fr.CQ_RESERVED (s.fld (Fr.SQ_CQ r)), Fr.SQ_HEAD r, Fr.SQ_SEQ_NEXT r, Fr.SQ_OUTSTANDING r, Fr.SQ_STANDING r,
    Fr.FLTJNL_JSEQ_NEXT, Fr.FLTJNL_OPEN_JOBS]

/-- The SRAM byte written at an address through the debug window; none where nothing was (R244). -/
def State.sramAt (s : State) (a : Nat) : Option Byte := (s.sram.find? (fun p => p.1 = a)).map (·.2)

/-- The HBM byte at an address, poison or not. -/
def State.cell (s : State) (a : Nat) : Byte := cellGet s.hbm.cells a

/-- No command waits for a beat or a target: no job, no attenuation, trim, timing or zoom change, no rotation (R259). -/
def State.NothingDue (s : State) : Prop :=
  s.jobs = [] ∧ s.attens = [] ∧ s.clk.trims = [] ∧ s.vid.pend = [] ∧ s.rot = none ∧ ∀ z ∈ s.zooms, z.pend = []

/-! ## A descriptor that is taken -/

/-- The state in which the device decides a descriptor of ring `r` it has read: an entry is reserved and the head moved. -/
def State.reading (s : State) (r : Nat) : State := { (s.fetched r) with lastRing := r }

/-- Does descriptor `d` pass the checks of R252? -/
def State.passes (s : State) (d : Desc) : Prop := ((s.reading d.ring).checkJob d).refuse = none

/-- A descriptor that is taken and whose job starts at once: no failed fetch of its ring waits, it passes the checks of
R252, no earlier job of its ring waits and it asks for no BARRIER (R251). -/
def State.Ready (s : State) (d : Desc) : Prop :=
  d.ring < 64 ∧ s.fetchFail.all (fun f => f.1 ≠ d.ring) = true ∧ s.passes d ∧ bit d.flags 8 = false
    ∧ s.jobs.all (fun j => j.id < s.nextJob && (j.ring ≠ d.ring || !j.waiting || j.done.isSome)) = true

/-- State `s` with everything that taking a descriptor may change as `t` has it (R252, R269, R282). -/
def State.asTaken (s t : State) : State :=
  { s with
    regs := t.regs
    jobs := t.jobs
    nextJob := t.nextJob
    journal := t.journal
    everUsed := t.everUsed
    jlast := t.jlast
    lastRing := t.lastRing
    counts := t.counts }

/-- Command `i` takes descriptor `d`: an ACCEPT record is written, SEQ_NEXT advances, the job is the last of the list and
has the next number, no other job changes (R252, R282). The job runs on, or has completed at once with the status, RESULT
and EXTENT of `o`; `p` holds of the next state. -/
def Takes (i : Instr) (s : State) (d : Desc) (o : Option (Nat × Nat × Nat)) (p : State → Prop) : Prop :=
  Completes i s fun t =>
    (∃ j, t.jobs = s.jobs ++ [j] ∧ j.id = s.nextJob ∧ j.d = d ∧ j.waiting = false ∧ j.posted = false ∧ j.done = o.map (·.1)
      ∧ ∀ r, o = some r → j.result = r.2.1 ∧ j.extent = r.2.2)
    ∧ (∃ r, t.journal = s.journal ++ [r] ∧ r.kind = 1 ∧ r.job = s.nextJob)
    ∧ t.fld (Fr.SQ_SEQ_NEXT d.ring) = (s.fld (Fr.SQ_SEQ_NEXT d.ring) + 1) % 2 ^ 32 ∧ p t

/-- The job with number `id` has completed with a status. -/
def State.jobDone (s : State) (id status : Nat) : Prop := ∃ j, s.job id = some j ∧ j.done = some status

/-- The job with number `id` is accepted, has started and has not completed. -/
def State.jobRuns (s : State) (id : Nat) : Prop := ∃ j, s.job id = some j ∧ j.done = none ∧ j.waiting = false

/-- Status, RESULT and EXTENT of a completed job. -/
def State.jobResult (s : State) (id : Nat) : Option (Nat × Nat × Nat) :=
  (s.job id).bind (fun j => j.done.map (fun st => (st, j.result, j.extent)))

/-! ## A core instruction -/

/-- Core `c` of slice `n` is ready for instruction `i`: it runs, its cap is not reached, and `i` stands at its PC (R205). -/
def State.runs (s : State) (n c : Nat) (i : Instr) : Prop := s.cores.length = 144 ∧ s.coreReady n c i = true

/-- Core `k` at the instruction after its PC, by the loop-end test of R196. -/
def Core.next (k : Core) : Core :=
  { k with
    pc := (loopNext k.loops k.pc).2
    loops := (loopNext k.loops k.pc).1 }

/-- Core `q` is core `k` but for the count of cycles and stalls (R197, R205). -/
def Core.same (k q : Core) : Prop :=
  q = { k with
    used := q.used
    capped := q.capped
    accHot := q.accHot
    pHot := q.pHot
    waitCause := 0 }

/-- Instruction `i` retires on core `c` of slice `n`: `p` holds of the core, which is RUNNING; no other core and no other
register changes, beside them only what is counted and sampled (R386, R394). -/
def Retires (i : Instr) (s : State) (n c : Nat) (p : Core → Prop) : Prop :=
  Completes i s fun t =>
    p (t.core n c) ∧ (∀ k, k ≠ 16 * n + c → nth t.cores k {} = nth s.cores k {}) ∧ t.fld (Fr.CORE_STATE n c) = coreRunning
    ∧ s.onlyFields t [Fr.CORE_STATE n c]
    ∧ t = { s with
        regs := t.regs
        cores := t.cores
        counts := t.counts
        freeCtr := t.freeCtr
        smp := t.smp }

/-- Instruction `i` traps core `c` of slice `n` with a cause at once: no DMA request of the core is pending, its CORE_RUN
ends DONE_FLAGGED with END 2, the cause and the address `pc` after the instruction, and a CORE event is raised (R206). -/
def Traps (i : Instr) (s : State) (n c cause pc : Nat) : Prop :=
  ∀ j, (s.core n c).dmaOut = 0 → s.job (s.core n c).job = some j → j.done = none → j.ring < 64 →
    Completes i s fun t =>
      t.jobResult j.id = some (1, 2 + 256 * cause + 65536 * pc, 0) ∧ t.fld (Fr.CORE_STATE n c) = coreTrapped
      ∧ t.fld (Fr.CORE_CAUSE n c) = cause ∧ t.fld (Fr.CORE_PC n c) = pc ∧ (t.core n c).job = 0 ∧ s.oneEvent t 0xD cause
      ∧ (∀ k, k ≠ 16 * n + c → nth t.cores k {} = nth s.cores k {}) ∧ (∀ k, k ≠ j.id → t.job k = s.job k)
      ∧ s.onlyFields t [Fr.CORE_STATE n c, Fr.CORE_PC n c, Fr.CORE_SR n c, Fr.CORE_BUDGET n c, Fr.CORE_CAUSE n c,
          Fr.CORE_EV_RATE n c, Fr.CORE_BUDGET_SUM n, Fr.CORE_RUN_MASK n, Fr.SQ_STANDING j.ring, Fr.HIF_EVSEQ_NEXT]
      ∧ t = { s with
          regs := t.regs
          cores := t.cores
          jobs := t.jobs
          evq := t.evq
          counts := t.counts
          freeCtr := t.freeCtr
          smp := t.smp }

end Sys2Proof.Machine

namespace Sys2Proof

/-- The host memory a descriptor names gives its first `n` bytes. -/
def Desc.reads (d : Desc) (n : Nat) : Prop := ∀ e, d.hostErr = some e → n ≤ e

end Sys2Proof
end

