-- ==== Sys2Proof/WellFormed.lean ====
section
/-! DEFINITION. Which commands are well formed: operands within the ranges the spec gives their fields. The machine takes
any command; statements about encodings and frames name this predicate where they need it. -/

namespace Sys2Proof

/-- Bytes. -/
def bytesOk (l : List Nat) : Bool := l.all (fun b => b < 256)

/-- Bytes, where there are any. -/
def optBytes (o : Option (List Nat)) : Bool := o.all bytesOk

/-- The fields of a descriptor fit their places (Table 11.3). -/
def Desc.ok (d : Desc) : Bool :=
  d.ring < 64 && d.seq < 2 ^ 32 && d.token < 2 ^ 32 && d.opcode < 256 && d.rsvd9 < 256 && d.flags < 2 ^ 16
  && d.rsvd12 < 2 ^ 32 && d.p.length == 12 && d.p.all (fun w => w < 2 ^ 32) && bytesOk d.data

/-- The facts of a boot fit their places. -/
def Boot.ok (b : Boot) : Bool := b.straps < 4096 && b.testsFail < 2 ^ 13 && bytesOk b.copyA && bytesOk b.copyB

/-- The fields of an F0 instruction fit (Table 9.4). -/
def F0.ok (x : F0) : Bool :=
  x.acc < 2 && x.sa < 16 && x.sb < 16 && x.lx < 2 && x.px < 8 && x.dx < 16 && x.ly < 2 && x.py < 8 && x.dy < 16
  && x.modx < 2 && x.mody < 2

/-- The fields of an F1 instruction fit. -/
def F1.ok (x : F1) : Bool := x.dst < 16 && x.sa < 16 && x.sb < 16 && x.sh < 64 && x.t < 2

/-- The fields of an F2 instruction fit. -/
def F2.ok (x : F2) : Bool := x.idx < 16 && x.file < 8 && x.imm < 2 ^ 16

/-- The fields of an F3 instruction fit. -/
def F3.ok (x : F3) : Bool := x.p < 8 && x.d < 16 && x.pm < 2 && x.ofs < 2 ^ 16

/-- The fields of an F4 instruction fit. -/
def F4.ok (x : F4) : Bool := x.target < 2 ^ 13 && x.src < 2 && x.count < 2 ^ 12

/-- The fields of an F5 instruction fit. -/
def F5.ok (x : F5) : Bool := x.d < 16 && x.code < 2 ^ 16 && x.sreg < 16

/-- Well-formedness of a command. -/
def wellFormed (i : Instr) : Bool :=
  match i with
  | .configureSlotSource d => d.ok
  | .configureWindowTable d => d.ok
  | .configureMaskTable d => d.ok
  | .configureFirBank d => d.ok
  | .configureGainBank d => d.ok
  | .configureSubmissionRing d => d.ok
  | .configureCompletionRing d => d.ok
  | .configureEventRing d => d.ok
  | .configureDisplayPalette d => d.ok
  | .commit d => d.ok
  | .epochCommit d => d.ok
  | .trimCommit d => d.ok
  | .streamOpen d => d.ok
  | .streamClose d => d.ok
  | .armTriggerSingle d => d.ok
  | .armTriggerRepeat d => d.ok
  | .disarm d => d.ok
  | .extract d => d.ok
  | .extractRelease d => d.ok
  | .release d => d.ok
  | .recordStart d => d.ok
  | .recordStop d => d.ok
  | .coreLoad d => d.ok
  | .coreRunStart d => d.ok
  | .coreRunStop d => d.ok
  | .calibrate d => d.ok
  | .snapshot d => d.ok
  | .bist d => d.ok
  | .attestQuote d => d.ok
  | .attestCertificates d => d.ok
  | .generate d => d.ok
  | .importKey d => d.ok
  | .exportPublic d => d.ok
  | .deleteKey d => d.ok
  | .setOwner d => d.ok
  | .svnCommit d => d.ok
  | .zeroise d => d.ok
  | .reseed d => d.ok
  | .revokeVendor d => d.ok
  | .move d => d.ok
  | .videoCommit d => d.ok
  | .hkTable d => d.ok
  | .quiesceDrain d => d.ok
  | .quiesceClose d => d.ok
  | .quiesceReset d => d.ok
  | .sliceReset d => d.ok
  | .restripe d => d.ok
  | .checkBuffer d => d.ok
  | .checkVerify d => d.ok
  | .faultAckAck d => d.ok
  | .faultAckReturn d => d.ok
  | .journalRead d => d.ok
  | .shedOrder d => d.ok
  | .submissionDoorbell func i idx => func < 16 && i < 64 && idx < 2 ^ 17
  | .completionDoorbell func i idx => func < 16 && i < 64 && idx < 2 ^ 17
  | .eventDoorbell idx => idx < 2 ^ 17
  | .descriptorFetch d => d.ok
  | .fetchRetry d => d.ok
  | .completionPost ring => ring < 64
  | .coalescingTimeout q => q < 64
  | .registerWrite func addr value _ => func < 16 && addr < 2 ^ 24 && addr % 4 == 0 && value < 2 ^ 32
  | .rlLowRead addr => addr < 2 ^ 24 && addr % 4 == 0
  | .bar0UnsupportedAccess addr size _ => addr < 2 ^ 24 && 0 < size && size ≤ 4096
  | .debugWindowAccess off n wr => off < 2 ^ 28 && 0 < n && n ≤ 4096 && optBytes wr
  | .ringRegisterWrite func addr value => func < 16 && addr < 2 ^ 24 && addr % 4 == 0 && value < 2 ^ 32
  | .funcWrite addr value _ => addr < 2 ^ 24 && addr % 4 == 0 && value < 2 ^ 32
  | .vfwinWrite addr value _ => addr < 2 ^ 24 && addr % 4 == 0 && value < 2 ^ 32
  | .pmcValuePreset addr value _ => addr < 2 ^ 24 && addr % 4 == 0 && value < 2 ^ 32
  | .clrOvf k value => k < 6012 && value < 2 ^ 32
  | .abandon value => value < 2 ^ 32
  | .recovGo value image => value < 2 ^ 32 && bytesOk image
  | .auxGo value => value < 2 ^ 32
  | .auxReadDone data => optBytes data
  | .hkGo value => value < 2 ^ 32
  | .mgmtRead addr => addr < 2 ^ 16
  | .beat slot samples _ _ => slot < 8 && samples.length == 16 && samples.all (fun x => -2048 ≤ x && x < 2048)
  | .spectrum n trigIn _ => n < 9 && trigIn < 16
  | .trigOutPulseEnd pin => pin < 4
  | .densityPeriodClose n => n < 9
  | .densityReadoutDone n => n < 9
  | .spxChangeInstant n => n < 9
  | .ddcRestartInstant n t => n < 9 && t < 4
  | .ddcOutputSample n t => n < 9 && t < 4
  | .ddcBlockWrite n t => n < 9 && t < 4
  | .xfadeEnd n t => n < 9 && t < 4
  | .ddcDeliveryEnd _ => true
  | .zoomRecord n t => n < 9 && t < 4
  | .attenChange n => n < 9
  | .fPayloadStaged i _ => i < 8
  | .correlatorHalfFail h _ _ => h < 2
  | .refInLoss _ => true
  | .refInReturn _ => true
  | .lossOfLock _ => true
  | .lockLossStandby _ => true
  | .lockConfirmation syn _ => syn < 2
  | .ckDpRelease _ _ => true
  | .synthRelockRetry syn => syn < 2
  | .memPll _ => true
  | .proveFallback _ => true
  | .epochInstant _ tod => tod < 2 ^ 64
  | .ppsEdge _ tod => tod < 2 ^ 64
  | .todPairLatch tod => tod < 2 ^ 64
  | .ptpMessage port _ _ _ tod _ => port < 2 && tod < 2 ^ 64
  | .sysrefPulse _ _ => true
  | .laneClockRecovery link => link < 8
  | .syncHeaderLock link => link < 8
  | .ilasReceived link _ => link < 8
  | .linkStepTimeout link => link < 8
  | .crc12Failure link _ => link < 8
  | .linkLockLoss link => link < 8
  | .calSensorRead temps => temps.length == 9
  | .backgroundUpdate k => k < 9
  | .sideBySideDone _ _ _ => true
  | .primaryCalibrationDone _ _ => true
  | .inPlaceCalibrationDone _ => true
  | .calibrationRetry k => k < 9
  | .intakeFault k _ => k < 9
  | .sliceFault k _ _ => k < 9
  | .bistDone _ _ sigLogic sigMem => sigLogic < 2 ^ 32 && sigMem < 2 ^ 32
  | .retrainingStart p _ => p < 128
  | .retrainingDone _ _ => true
  | .forcedRefresh p => p < 128
  | .selfRefreshEntry k => k < 4
  | .selfRefreshExit k => k < 4
  | .stackRecovery k => k < 4
  | .stackRecovered k _ => k < 4
  | .spareReady p => p < 128
  | .patrolScrub _ _ => true
  | .dmaBurstStart ch => ch < 32
  | .dmaBurstDone ch _ => ch < 32
  | .dmaBurstRetry ch _ _ => ch < 32
  | .dmaTransferDone ch => ch < 32
  | .dataPacket _ => true
  | .contextPair _ => true
  | .keepalive _ => true
  | .hostStreamRecordWrite _ _ => true
  | .arpRequest port _ _ mac _ => port < 2 && mac < 2 ^ 48
  | .ethPortFailure p _ => p < 2
  | .ethUp p => p < 2
  | .recordPortLinkUp _ _ _ => true
  | .recDown _ => true
  | .nvmeCompletion ns _ status => ns < 8 && status < 2 ^ 16
  | .checkpoint _ => true
  | .segmentEnd _ => true
  | .dpHpdHigh _ _ edid => bytesOk edid
  | .hpdIrq _ => true
  | .frameDone _ _ => true
  | .hkConversionDone _ _ => true
  | .hkSelfCalibration _ => true
  | .instructionSample n => n < 9
  | .sampleDrain n => n < 9
  | .progress _ => true
  | .controlPairFailure _ => true
  | .watchdog boot => boot.ok
  | .powerOn boot => boot.ok
  | .resetN ns boot => ns < 8 && boot.ok
  | .vfFlr f => 0 < f && f < 16
  | .hostDown _ => true
  | .hostUp _ _ => true
  | .railMonitorTrip group _ => group < 8
  | .railRecovery group boot => group < 8 && boot.ok
  | .entropyRetest _ => true
  | .coreMaskSwap n c => n < 9 && c < 16
  | .coreSend n c => n < 9 && c < 16
  | .corePost n c => n < 9 && c < 16
  | .coreDmaGo n c => n < 9 && c < 16
  | .coreMsgPop n c => n < 9 && c < 16
  | .mac n c x => n < 9 && c < 16 && x.ok
  | .msu n c x => n < 9 && c < 16 && x.ok
  | .mpy n c x => n < 9 && c < 16 && x.ok
  | .parallelLoad n c x => n < 9 && c < 16 && x.ok
  | .load n c x => n < 9 && c < 16 && x.ok
  | .store n c x => n < 9 && c < 16 && x.ok
  | .add n c x => n < 9 && c < 16 && x.ok
  | .sub n c x => n < 9 && c < 16 && x.ok
  | .adds n c x => n < 9 && c < 16 && x.ok
  | .subs n c x => n < 9 && c < 16 && x.ok
  | .and n c x => n < 9 && c < 16 && x.ok
  | .or n c x => n < 9 && c < 16 && x.ok
  | .xor n c x => n < 9 && c < 16 && x.ok
  | .not n c x => n < 9 && c < 16 && x.ok
  | .shl n c x => n < 9 && c < 16 && x.ok
  | .shr n c x => n < 9 && c < 16 && x.ok
  | .asr n c x => n < 9 && c < 16 && x.ok
  | .min n c x => n < 9 && c < 16 && x.ok
  | .max n c x => n < 9 && c < 16 && x.ok
  | .abs n c x => n < 9 && c < 16 && x.ok
  | .neg n c x => n < 9 && c < 16 && x.ok
  | .cmp n c x => n < 9 && c < 16 && x.ok
  | .mov n c x => n < 9 && c < 16 && x.ok
  | .ext n c x => n < 9 && c < 16 && x.ok && x.sh < 32
  | .aclr n c x => n < 9 && c < 16 && x.ok
  | .ald n c x => n < 9 && c < 16 && x.ok
  | .aadd n c x => n < 9 && c < 16 && x.ok
  | .asub n c x => n < 9 && c < 16 && x.ok
  | .ashl n c x => n < 9 && c < 16 && x.ok
  | .aasr n c x => n < 9 && c < 16 && x.ok
  | .aget n c x => n < 9 && c < 16 && x.ok && x.sh < 3
  | .mvx n c x => n < 9 && c < 16 && x.ok && fileOk (x.sh / 8) x.dst && fileOk (x.sh % 8) x.sa
  | .ldi n c x => n < 9 && c < 16 && x.ok && fileOk x.file x.idx
  | .addi n c x => n < 9 && c < 16 && x.ok && fileOk x.file x.idx
  | .andi n c x => n < 9 && c < 16 && x.ok && x.file == 0
  | .ori n c x => n < 9 && c < 16 && x.ok && x.file == 0
  | .cmpi n c x => n < 9 && c < 16 && x.ok && x.file == 0
  | .br n c x => n < 9 && c < 16 && x.ok
  | .beq n c x => n < 9 && c < 16 && x.ok
  | .bne n c x => n < 9 && c < 16 && x.ok
  | .blt n c x => n < 9 && c < 16 && x.ok
  | .bge n c x => n < 9 && c < 16 && x.ok
  | .call n c x => n < 9 && c < 16 && x.ok
  | .ret n c x => n < 9 && c < 16 && x.ok
  | .loop n c x => n < 9 && c < 16 && x.ok
  | .nop n c x => n < 9 && c < 16 && x.ok
  | .halt n c x => n < 9 && c < 16 && x.ok
  | .wait n c x => n < 9 && c < 16 && x.ok
  | .mfs n c x => n < 9 && c < 16 && x.ok && x.sreg < 2
  | .mts n c x => n < 9 && c < 16 && x.ok && x.sreg < 2
  | .fence n c x => n < 9 && c < 16 && x.ok
  | .drainTimeout _ => true
  | .codeError link _ => link < 8
  | .illegalInstruction n c => n < 9 && c < 16
  | .msiXIntervalEnd v => v < 256
  | .netCfgWrite addr value => addr < 2 ^ 24 && addr % 4 == 0 && value < 2 ^ 32
  | .pmcSmpWrite addr value => addr < 2 ^ 24 && addr % 4 == 0 && value < 2 ^ 32
  | .eventPost => true
  | .xcorChangeInstant => true
  | .integrationBoundary => true
  | .correlatorReadoutDone => true
  | .trimStep => true
  | .epoch => true
  | .internalEpoch => true
  | .syncInPulse => true
  | .syncTimeout => true
  | .ppsLoss => true
  | .ptpLoss => true
  | .calibrationStart => true
  | .steeringSettled => true
  | .calBistStep => true
  | .rotationStep => true
  | .rotationTimeout => true
  | .dpUp => true
  | .dpTrainFail => true
  | .dpDown => true
  | .vblank => true
  | .lineMatch => true
  | .hkEntryDelayEnd => true
  | .snapshotCopy => true
  | .resume => true
  | .pfailNFall => true
  | .pfailNRise => true
  | .perstN => true
  | .zeroizeN => true
  | .zeroised => true
  | .drbgReseed => true
  | .entropyFail => true
  | .coreBudgetTick => true
  | .syncOutGenerate => true
  | .dpTrainRetry => true
  | .restripeDone => true
  | .memPllRelock => true
  | .controlPllRelock => true

end Sys2Proof
end

