-- ==== Sys2Proof/Certificates/Slice0/Obligations.lean ====
section
/-! DEFINITION. The statements about the block that are to be proved: each formalises what rules of the spec say a command
does, or a property of the whole model. -/

open Sys2Proof Sys2Proof.Machine

/-- A step carries out the command at the front of the queue. For every command c and state s whose queue is c followed
by the commands rest, a step of s is exec of c on s with the queue rest. With no command waiting the block idles:
that clause is the model's choice (assumption log, entry 1), since every time-driven effect of the spec is a
command. -/
def Obligations.StepRunsFront : Prop :=
  (∀ (s : State) (c : Instr) (rest : List Instr), s.pending = c :: rest → step s = exec c { s with pending := rest })
  ∧ (∀ s : State, s.pending = [] → step s = .next s)

/-- No command changes the queue, and only a boot that latches them changes the straps. Whatever command is carried
out, the commands that wait stay as they are, and the straps change only at POWER_ON, RESET_N and RAIL_RECOVERY,
the rows that raise RESET_N. That a command's effect is on everything but the queue is the model's form. -/
def Obligations.CommandsLeaveQueue : Prop :=
  ∀ (c : Instr) (s t : State), exec c s = .next t →
    t.pending = s.pending
    ∧ ((∀ b, c ≠ .powerOn b) → (∀ n b, c ≠ .resetN n b) → (∀ g b, c ≠ .railRecovery g b) → t.straps = s.straps)

/-- Registers after reset hold the values of their tables. After reset no command waits, no job is accepted, no event,
fault or journal record exists, and registers of every block read the reset values of their tables; every SH word
in force holds the reset value of its shadow. The words are listed by their BAR0 offsets. -/
def Obligations.ResetValues : Prop :=
  State.reset.pending = [] ∧ State.reset.jobs = [] ∧ State.reset.journal = [] ∧ State.reset.faults = []
  ∧ State.reset.evq = [] ∧ State.reset.hbm.cells = [] ∧ State.reset.sram = [] ∧ State.reset.samp = 0
  ∧ State.reset.reg 0x20004 = 31#32
  ∧ State.reset.reg 0x27004 = 31#32
  ∧ State.reset.reg 0x20014 = 754#32
  ∧ State.reset.reg 0x30000 = 772#32
  ∧ State.reset.reg 0x10000 = 164#32
  ∧ State.reset.reg 0x10040 = 2858359235#32
  ∧ State.reset.reg 0x10044 = 2#32
  ∧ State.reset.reg 0x10110 = 6557696#32
  ∧ State.reset.reg 0x80000 = 590508#32
  ∧ State.reset.reg 0x80100 = 65552#32
  ∧ State.reset.reg 0x80200 = 184#32
  ∧ State.reset.reg 0x80400 = 140#32
  ∧ State.reset.reg 0x80600 = 25313624#32
  ∧ State.reset.reg 0x580000 = 676#32
  ∧ State.reset.reg 0x600000 = 6557744#32
  ∧ State.reset.reg 0x600400 = 2040#32
  ∧ State.reset.reg 0x70004C = 16380#32
  ∧ State.reset.reg 0x702018 = 131072#32
  ∧ State.reset.reg 0x703004 = 33554430#32
  ∧ State.reset.reg 0x740004 = 1024000#32
  ∧ State.reset.reg 0x680000 = 3#32
  ∧ State.reset.reg 0x780120 = 49152#32
  ∧ State.reset.reg 0x7C0800 = 4294967295#32
  ∧ State.reset.reg 0x800000 = 14#32
  ∧ State.reset.reg 0x40004 = 9984#32
  ∧ State.reset.reg 0x40114 = 16777215#32
  ∧ State.reset.reg 0x840000 = 16#32
  ∧ State.reset.reg 0x880000 = 6012#32
  ∧ State.reset.reg 0x880444 = 490434055#32
  ∧ State.reset.reg 0x8C0010 = 917502#32
  ∧ (∀ a, State.reset.forceReg a = State.reset.reg a)

/-- The state after reset meets the invariant. The HBM's bytes stand in canonical form, the SRAM's addresses rise
strictly and every accepted job bears a number below the next one; every table has its number of entries. -/
def Obligations.ResetMeetsInv : Prop :=
  State.reset.Inv ∧ State.reset.Shaped

/-- Every step keeps the invariant. From every state that meets the invariant (canonical HBM bytes, rising SRAM
addresses, job numbers below the next one), whatever command stands at the front of the queue, the next state meets
it. -/
def Obligations.StepKeepsInv : Prop :=
  ∀ s t : State, s.Inv → step s = .next t → t.Inv

/-- A core instruction decodes from its own word. For every well-formed core instruction of slice n and core c its word
is below 2^32 and decodes to the same instruction with every operand at its value. -/
def Obligations.CoreEncodeDecode : Prop :=
  ∀ (i : Instr) (w : Nat), wellFormed i = true → encodeCore i = some w →
    w < 2 ^ 32 ∧ ∃ n c, decodeCore n c w = some i

/-- Every legal core word is the word of what it decodes to. A 32-bit word that decodes to a core instruction is the
word of that instruction, and of no other: no two words share a meaning. -/
def Obligations.CoreDecodeEncode : Prop :=
  ∀ (n c w : Nat) (i : Instr), w < 2 ^ 32 → decodeCore n c w = some i → encodeCore i = some w

/-- Reserved core words are illegal. Words of class 6 and 7, F1 and F2 opcodes beyond the tables and words with a
reserved bit set decode to no instruction. -/
def Obligations.CoreWordsIllegal : Prop :=
  ∀ n c w : Nat,
    (6 ≤ bits w 29 3 → decodeCore n c w = none)
    ∧ (bits w 29 3 = 1 → bits w 0 5 ≠ 0 ∨ 0x1A ≤ bits w 24 5 → decodeCore n c w = none)
    ∧ (bits w 29 3 = 2 → bits w 16 2 ≠ 0 ∨ 5 ≤ bits w 25 4 → decodeCore n c w = none)
    ∧ (bits w 29 3 = 3 → bits w 16 4 ≠ 0 → decodeCore n c w = none)
    ∧ (bits w 29 3 = 5 → 6 ≤ bits w 24 5 → decodeCore n c w = none)

/-- An access that is no aligned 32-bit access completes with Unsupported Request and does nothing. Any access to BAR0
of another size than four bytes, or at an offset that is no multiple of four, completes with Unsupported Request:
that completion leaves the block and nothing else changes. A write row at such an offset writes nothing. -/
def Obligations.UnsupportedAccess : Prop :=
  (∀ (s : State) (addr size : Nat) (write : Bool), size ≠ 4 ∨ addr % 4 ≠ 0 →
    exec (.bar0UnsupportedAccess addr size write) s = .next { s with out := s.out ++ [.unsupported] })
  ∧ (∀ (s : State) (func addr value : Nat) (collide : Bool), addr % 4 ≠ 0 →
    exec (.registerWrite func addr value collide) s = .next s)

/-- A register write acts by the access code of each bit. A write of the physical function to a word with no command of
its own: an unassigned word and a word of RO bits discard it; else RW and RWS bits take the value as the Effect
column keeps it, W1C bits are cleared by a 1 and every other bit stays; the words in force, the memories and every
other register word stay, but for the housekeeping entry that a MODE write starts. FLT.PIN computes its bits 18 up.
Where the device updates a CAL record on the same edge WCOL is set. The exact Effect limits are those of keptWord. -/
def Obligations.RegisterWriteByCode : Prop :=
  ∀ (s : State) (addr value : Nat) (c : Bool), addr % 4 = 0 → ownWord addr = false →
    (regRow addr = none → exec (.registerWrite 0 addr value c) s = .next s)
    ∧ (∀ r, regRow addr = some r → r.rl = 0 →
      (r.rw = 0 → r.rws = 0 → r.w1c = 0 → exec (.registerWrite 0 addr value c) s = .next s)
      ∧ (r.rw ≠ 0 ∨ r.rws ≠ 0 ∨ r.w1c ≠ 0 →
          (addr = 0x600000 → bits (keptWord addr value) 8 7 < bits (keptWord addr value) 0 7) →
        ∃ t, exec (.registerWrite 0 addr value false) s = .next t
          ∧ (∀ i, i < 32 → (addr = 0x8C0010 → i < 18) → (t.reg addr).getLsbD i =
              if (BitVec.ofNat 32 r.rw).getLsbD i || (BitVec.ofNat 32 r.rws).getLsbD i then
                (BitVec.ofNat 32 (keptWord addr value)).getLsbD i
              else (s.reg addr).getLsbD i
                && !((BitVec.ofNat 32 r.w1c).getLsbD i && (BitVec.ofNat 32 (keptWord addr value)).getLsbD i))
          ∧ s.onlyWords t [addr, 0x40004]
          ∧ t = { s with regs := t.regs, clk := t.clk, hk := t.hk, pins := t.pins, out := t.out })
      ∧ (r.rw ≠ 0 ∨ r.rws ≠ 0 ∨ r.w1c ≠ 0 → 0x30100 ≤ addr → addr < 0x30340 →
        ∃ t, exec (.registerWrite 0 addr value true) s = .next t ∧ t.flag Fr.CAL_SPARE_WCOL = true))

/-- A 64-bit register takes effect on the write of its high word. Of an RL pair the low word written first changes no
register; the write of the high word then makes both words take the values written. -/
def Obligations.RlPairWrite : Prop :=
  ∀ (s : State) (a v w : Nat) (r r' : RegRow) (c : Bool), a % 4 = 0 → v < 2 ^ 32 → w < 2 ^ 32 →
    regRow a = some r → r.rl = 1 → ownWord a = false → regRow (a + 4) = some r' → r'.rl = 2 → ownWord (a + 4) = false →
    ∃ t u, exec (.registerWrite 0 a v c) s = .next t ∧ t.regs = s.regs
      ∧ exec (.registerWrite 0 (a + 4) w c) t = .next u
      ∧ (u.reg a).toNat = v ∧ (u.reg (a + 4)).toNat = w ∧ s.onlyWords u [a, a + 4] ∧ u.force = s.force ∧ u.hbm = s.hbm

/-- A read of an RL low word latches the high word; the I2C target shows three blocks. A read of the low word of an RL
pair returns it, and until another read the high word returns what the pair held at that moment. A read over the
I2C target returns register contents in the ID, HK and FLT blocks and zero elsewhere; no read changes a register
word. -/
def Obligations.RegisterReads : Prop :=
  (∀ (s : State) (a : Nat), rlOf a = 1 → rlOf (a + 4) = 2 →
    ∃ t, exec (.rlLowRead a) s = .next t ∧ t.out = s.out ++ [.readData a (s.busRead a)]
      ∧ (∀ u : State, u.rlLatch = t.rlLatch → (u.rlRead (a + 4)).1 = s.busRead (a + 4) % 2 ^ 32)
      ∧ t = { s with rlLatch := t.rlLatch, out := t.out })
  ∧ (∀ (s : State) (a : Nat), a % 4 = 0 → a < 2 ^ 24 →
    ∃ t, exec (.mgmtRead a) s = .next t
      ∧ (0x50000 ≤ a → a < 0x8C0000 → t = { s with out := s.out ++ [.readData a 0] })
      ∧ ((0x40000 ≤ a ∧ a < 0x50000) ∨ (0x8C0000 ≤ a ∧ a < 0x900000) → rlOf a = 0 →
          t = { s with out := s.out ++ [.readData a (s.busRead a)] }))

/-- Ring registers accept writes only while their ring is disabled. For submission ring r through BAR0 after BOOT_DONE:
a write to BASE or CFG of the enabled ring is discarded with WR_DISCARD; a CFG write that enables it with LOG2SIZE
outside 4 to 16, or with a completion ring that is not enabled, is discarded with CFG_BAD; another CFG write that
sets EN enables it with its fields, its indices at 0 and SEQ_NEXT at SEQ_BASE. Before BOOT_DONE nothing is written. -/
def Obligations.RingRegisterWrite263 : Prop :=
  ∀ (s : State) (r value : Nat), r < 64 → value < 2 ^ 32 →
    (s.flag Fr.HIF_BOOT_DONE = false → exec (.ringRegisterWrite 0 (0x701008 + 0x20 * r) value) s = .next s)
    ∧ (s.flag Fr.HIF_BOOT_DONE = true → s.flag (Fr.SQ_EN r) = true → ∀ o, o = 0 ∨ o = 4 ∨ o = 8 →
      ∃ t, exec (.ringRegisterWrite 0 (0x701000 + 0x20 * r + o) value) s = .next t
        ∧ t.flag Fr.HIF_WR_DISCARD = true ∧ s.onlyFields t [Fr.HIF_WR_DISCARD] ∧ t = { s with regs := t.regs })
    ∧ (s.flag Fr.HIF_BOOT_DONE = true → s.flag (Fr.SQ_EN r) = false → bit value 31 = true →
      ∃ t, exec (.ringRegisterWrite 0 (0x701008 + 0x20 * r) value) s = .next t
        ∧ (bits value 0 5 < 4 ∨ 16 < bits value 0 5 ∨ s.flag (Fr.CQ_EN (bits value 8 6)) = false →
            t.flag Fr.HIF_CFG_BAD = true ∧ s.onlyFields t [Fr.HIF_CFG_BAD] ∧ t = { s with regs := t.regs })
        ∧ (4 ≤ bits value 0 5 → bits value 0 5 ≤ 16 → s.flag (Fr.CQ_EN (bits value 8 6)) = true →
            t.flag (Fr.SQ_EN r) = true ∧ t.fld (Fr.SQ_LOG2SIZE r) = bits value 0 5 ∧ t.fld (Fr.SQ_CQ r) = bits value 8 6
            ∧ t.fld (Fr.SQ_PRIO r) = bits value 16 2 ∧ t.fld (Fr.SQ_HEAD r) = 0 ∧ t.fld (Fr.SQ_TAIL r) = 0
            ∧ t.fld (Fr.SQ_STATE r) = sqRunning ∧ t.fld (Fr.SQ_SEQ_NEXT r) = s.fld (Fr.SQ_SEQ_BASE r)
            ∧ s.onlyFields t [⟨0x701008 + 0x20 * r, 0, 32⟩, Fr.SQ_HEAD r, Fr.SQ_TAIL r, Fr.SQ_STATE r, Fr.SQ_SEQ_NEXT r]
            ∧ t = { s with regs := t.regs, fetchFail := t.fetchFail }))

/-- Writes to the functions' ranges, opcode masks and windows. A write to HIF.FUNC[f] or DMA.VFWIN[f] while VF f is
enabled, one that would make ranges of two VFs overlap, and a window over the ring or the system area are discarded
with CFG_BAD; the ranges of FUNC[0] are read-only; any other write takes effect, and changes that register alone. -/
def Obligations.FunctionAndWindowWrites : Prop :=
  ∀ (s : State) (f value : Nat), 1 ≤ f → f < 16 → value < 2 ^ 32 →
    exec (.funcWrite 0x703000 value false) s = .next s
    ∧ (∀ enabled, enabled = true ∨ s.funcOverlaps f value = true →
      ∃ t, exec (.funcWrite (0x703000 + 0x10 * f) value enabled) s = .next t ∧ t.flag Fr.HIF_CFG_BAD = true
        ∧ s.onlyFields t [Fr.HIF_CFG_BAD] ∧ t = { s with regs := t.regs })
    ∧ (s.funcOverlaps f value = false →
      ∃ t, exec (.funcWrite (0x703000 + 0x10 * f) value false) s = .next t
        ∧ t.fld (Fr.FUNC_SQ_FIRST f) = bits value 0 6 ∧ t.fld (Fr.FUNC_SQ_COUNT f) = bits value 8 7
        ∧ t.fld (Fr.FUNC_CQ_FIRST f) = bits value 16 6 ∧ t.fld (Fr.FUNC_CQ_COUNT f) = bits value 24 7
        ∧ s.onlyWords t [0x703000 + 0x10 * f] ∧ t = { s with regs := t.regs })
    ∧ (∃ t, exec (.funcWrite (0x703004 + 0x10 * f) value false) s = .next t
        ∧ t.fld (Fr.FUNC_OPMASK f) = bits value 1 24 ∧ s.onlyFields t [Fr.FUNC_OPMASK f] ∧ t = { s with regs := t.regs })
    ∧ (∀ enabled, enabled = true
          ∨ (0 < s.fld (Fr.DMA_VFWIN_SIZE_MIB f)
            ∧ s.badRegion (bits value 0 16 * 2 ^ 20) (s.fld (Fr.DMA_VFWIN_SIZE_MIB f) * 2 ^ 20) = true) →
      ∃ t, exec (.vfwinWrite (0x680600 + 8 * f) value enabled) s = .next t ∧ t.flag Fr.DMA_CFG_BAD = true
        ∧ s.onlyFields t [Fr.DMA_CFG_BAD] ∧ t = { s with regs := t.regs })
    ∧ (s.badRegion (bits value 0 16 * 2 ^ 20) (s.fld (Fr.DMA_VFWIN_SIZE_MIB f) * 2 ^ 20) = false →
      ∃ t, exec (.vfwinWrite (0x680600 + 8 * f) value false) s = .next t
        ∧ t.fld (Fr.DMA_VFWIN_BASE_MIB f) = bits value 0 16
        ∧ s.onlyFields t [Fr.DMA_VFWIN_BASE_MIB f] ∧ t = { s with regs := t.regs })
    ∧ (s.badRegion (s.fld (Fr.DMA_VFWIN_BASE_MIB f) * 2 ^ 20) (bits value 0 17 * 2 ^ 20) = false →
      ∃ t, exec (.vfwinWrite (0x680604 + 8 * f) value false) s = .next t
        ∧ t.fld (Fr.DMA_VFWIN_SIZE_MIB f) = bits value 0 17
        ∧ s.onlyFields t [Fr.DMA_VFWIN_SIZE_MIB f] ∧ t = { s with regs := t.regs })

/-- The debug window reads and writes SRAM or HBM as WINDOW places it. In approved mode the window does not exist. A
write while WR_EN is 0, or through a WINDOW beyond 240, is discarded; with WINDOW 0 it stores its bytes in SRAM and
with WINDOW w from 1 to 240 in HBM from (w − 1) × 256 MiB on, and every byte outside the bytes it names stays. A
read through a WINDOW beyond 240 returns 0; one of HBM below the system area returns its bytes, poison as all ones,
one of the validity map returns its entries; a read changes no memory. What SRAM bytes that nothing wrote and the
rest of the system area read as is left open, and the map reads as its entries stand (log entries 112 and 113). -/
def Obligations.DebugWindow : Prop :=
  ∀ (s : State) (off n : Nat) (l : List Nat), off < 2 ^ 28 →
    (s.approved = true → ∀ wr, exec (.debugWindowAccess off n wr) s = .next s)
    ∧ (s.flag Fr.HIF_WR_EN = false ∨ 240 < s.fld Fr.HIF_WINDOW →
        exec (.debugWindowAccess off n (some l)) s = .next s)
    ∧ (s.approved = false → s.flag Fr.HIF_WR_EN = true → s.fld Fr.HIF_WINDOW = 0 → off + l.length ≤ sramSize →
        rising s.sram = true →
      ∃ t, exec (.debugWindowAccess off n (some l)) s = .next t
        ∧ (∀ i, i < l.length → t.sramAt (off + i) = some (BitVec.ofNat 8 (nth l i 0)))
        ∧ (∀ a, a < off ∨ off + l.length ≤ a → t.sramAt a = s.sramAt a)
        ∧ t = { s with sram := t.sram })
    ∧ (s.approved = false → s.flag Fr.HIF_WR_EN = true → 1 ≤ s.fld Fr.HIF_WINDOW → s.fld Fr.HIF_WINDOW ≤ 240 →
      ∃ t, exec (.debugWindowAccess off n (some l)) s = .next t
        ∧ (∀ i, i < l.length → (s.fld Fr.HIF_WINDOW - 1) * 2 ^ 28 + off + i < s.hbmSize →
            s.hbm.holes.contains (s.slotOf ((s.fld Fr.HIF_WINDOW - 1) * 2 ^ 28 + off + i)) = false →
            t.cell ((s.fld Fr.HIF_WINDOW - 1) * 2 ^ 28 + off + i) = BitVec.ofNat 8 (nth l i 0))
        ∧ (∀ a, a < (s.fld Fr.HIF_WINDOW - 1) * 2 ^ 28 + off ∨ (s.fld Fr.HIF_WINDOW - 1) * 2 ^ 28 + off + l.length ≤ a →
            t.cell a = s.cell a)
        ∧ t = { s with hbm := t.hbm })
    ∧ (s.approved = false → 240 < s.fld Fr.HIF_WINDOW →
        exec (.debugWindowAccess off n none) s = .next { s with out := s.out ++ [.readData off 0] })
    ∧ (s.approved = false → 1 ≤ s.fld Fr.HIF_WINDOW → s.fld Fr.HIF_WINDOW ≤ 240 →
      let a0 := (s.fld Fr.HIF_WINDOW - 1) * 2 ^ 28 + off
      (a0 + n ≤ s.sysBase → exec (.debugWindowAccess off n none) s = .next { s with out := s.out ++
          [.readData off (unle ((List.range n).map (fun i => if a0 + i < s.hbmSize then
            (if s.isPoison (a0 + i) then 0xFF else (s.cell (a0 + i)).toNat) else 0)))] })
      ∧ (s.sysBase ≤ a0 → a0 + n ≤ s.sysBase + mapBytes → a0 + n ≤ s.hbmSize →
        exec (.debugWindowAccess off n none) s = .next { s with out := s.out ++
          [.readData off (unle ((List.range n).map (fun i => s.mapByte (a0 + i - s.sysBase))))] })
      ∧ ∃ t, exec (.debugWindowAccess off n none) s = .next t ∧ t = { s with freeCtr := t.freeCtr, out := t.out })
    ∧ (s.approved = false → s.fld Fr.HIF_WINDOW = 0 →
      ∃ t, exec (.debugWindowAccess off n none) s = .next t ∧ t.sram = s.sram
        ∧ t = { s with freeCtr := t.freeCtr, out := t.out })

/-- Presetting a counter and clearing its OVF. A write of both words of PMC[k], low word first, presets its count,
WRAPS and OVF and no other counter's; where an increment falls on the same edge it is lost and WCOL is set. CLR_OVF
of 1 clears OVF and keeps count and WRAPS; of 0 it does nothing. What a cycle counter counts on from its preset is
left open by the model (assumption log). -/
def Obligations.PmcCounters : Prop :=
  ∀ (s : State) (k lo hi : Nat), k < pmcN → lo < 2 ^ 32 → hi < 2 ^ 25 →
    (∃ t u, exec (.pmcValuePreset (pmcBase + 16 * k) lo false) s = .next t ∧ t.counts = s.counts
      ∧ exec (.pmcValuePreset (pmcBase + 16 * k + 4) hi false) t = .next u
      ∧ counterWord u.counts u.samp k = (if Config.pmcCount k = Config.Count.cycles then
          Config.cycleCount (Config.pmcUnit k) u.samp (lo + 2 ^ 32 * hi) else lo + 2 ^ 32 * hi)
      ∧ (∀ v e, v ≠ Config.pmcUnit k ∨ e ≠ Config.pmcCount k → counterIn u.counts v e = counterIn s.counts v e)
      ∧ u = { s with rlPend := u.rlPend, counts := u.counts })
    ∧ Completes (.pmcValuePreset (pmcBase + 16 * k + 4) hi true) s (fun t => t.flag Fr.PMC_WCOL = true
      ∧ s.onlyFields t [Fr.PMC_WCOL])
    ∧ Completes (.clrOvf k 1) s (fun t =>
        (counterIn t.counts (Config.pmcUnit k) (Config.pmcCount k)).ovf = false
        ∧ (counterIn t.counts (Config.pmcUnit k) (Config.pmcCount k)).value
            = (counterIn s.counts (Config.pmcUnit k) (Config.pmcCount k)).value
        ∧ (counterIn t.counts (Config.pmcUnit k) (Config.pmcCount k)).wraps
            = (counterIn s.counts (Config.pmcUnit k) (Config.pmcCount k)).wraps
        ∧ t = { s with counts := t.counts })
    ∧ exec (.clrOvf k 0) s = .next s

/-- A snapshot copies every counter, and its job completes with the number of the copy. With one SNAPSHOT pending whose
instant has come and that asks for no dump, the copy takes every counter into its shadow, the mode written to a
counter takes effect, SNAP_SEQ counts up, nothing is pending and the job completes: DONE, or DONE_FLAGGED where the
clock is gated or a fault affected it, with RESULT the new SNAP_SEQ. With none pending nothing happens. -/
def Obligations.SnapshotCopies : Prop :=
  (∀ s : State, s.snaps = [] → exec .snapshotCopy s = .next s)
  ∧ (∀ (s : State) (x : SnapReq) (j : Job), s.snaps = [x] →
      x.immediate = true ∨ x.t < s.samp + (if s.flag Fr.CLK_RUNNING then 0 else s.clk.skipped) + 16 →
      s.job x.job = some j → j.done = none → j.ring < 64 → snapDump j.d = false →
    Completes .snapshotCopy s (fun t =>
      t.snapped = s.counts ∧ t.snaps = [] ∧ t.fld Fr.PMC_PENDING = 0
      ∧ t.fld Fr.PMC_SNAP_SEQ = (s.fld Fr.PMC_SNAP_SEQ + 1) % 2 ^ 32
      ∧ t.flag Fr.PMC_GATED = !s.flag Fr.CLK_RUNNING
      ∧ (∀ k w, k < pmcN → rfGet s.regs (pmcBase + 16 * k + 8) = some w →
          bit (t.reg (pmcBase + 16 * k + 8)).toNat 1 = bit w.toNat 0)
      ∧ t.jobResult x.job = some
          (if s.flag Fr.CLK_RUNNING && j.flt = 0 then stDone else stFlagged, (s.fld Fr.PMC_SNAP_SEQ + 1) % 2 ^ 32, 0)
      ∧ t = { s with regs := t.regs, jobs := t.jobs, snaps := t.snaps, snapped := t.snapped }))

/-- Sampling of core instructions: records, their drain and its registers. A sample taken enters the slice's ring with
the sequence number, which advances, or is counted dropped where the ring holds 4,096; a drain writes up to 64
records into the slice's region, no byte outside it, and moves WR_OFS round the region; SMP registers accept no
write while EN is 1 (CFG_BAD), hold LOG2N between 8 and 20, and a region outside what the ring and the system area
leave is discarded with CFG_BAD. -/
def Obligations.InstructionSampling : Prop :=
  ∀ (s : State) (n value : Nat), n < 8 → s.smp.length = 8 → value < 2 ^ 32 →
    (∀ r rest, (nth s.smp n {}).due = r :: rest → (nth s.smp n {}).ring.length < 4096 →
      Completes (.instructionSample n) s (fun t => (nth t.smp n {}).due = rest
        ∧ (nth t.smp n {}).ring = (nth s.smp n {}).ring ++ [le 4 (nth s.smp n {}).seq ++ r]
        ∧ (nth t.smp n {}).seq = ((nth s.smp n {}).seq + 1) % 2 ^ 32
        ∧ t.fld (Fr.SMP_FILL n) = (nth s.smp n {}).ring.length + 1
        ∧ s.onlyFields t [Fr.SMP_FILL n] ∧ t = { s with regs := t.regs, smp := t.smp }))
    ∧ (∀ r rest, (nth s.smp n {}).due = r :: rest → 4096 ≤ (nth s.smp n {}).ring.length →
        s.fld (Fr.SMP_DROPPED n) + 1 < 2 ^ 32 →
      Completes (.instructionSample n) s (fun t => (nth t.smp n {}).ring = (nth s.smp n {}).ring
        ∧ (nth t.smp n {}).seq = ((nth s.smp n {}).seq + 1) % 2 ^ 32
        ∧ t.fld (Fr.SMP_DROPPED n) = s.fld (Fr.SMP_DROPPED n) + 1
        ∧ s.onlyFields t [Fr.SMP_DROPPED n] ∧ t = { s with regs := t.regs, smp := t.smp }))
    ∧ ((nth s.smp n {}).ring ≠ [] → 0 < s.fld (Fr.SMP_SIZE_MIB n) → (∀ b ∈ (nth s.smp n {}).ring, b.length = 16) →
      Completes (.sampleDrain n) s (fun t => (nth t.smp n {}).ring = (nth s.smp n {}).ring.drop 64
        ∧ t.fld (Fr.SMP_FILL n) = ((nth s.smp n {}).ring.length - 64) % 2 ^ 13
        ∧ t.fld (Fr.SMP_WR_OFS n) = (s.fld (Fr.SMP_WR_OFS n) + ((nth s.smp n {}).ring.take 64).length)
            % (s.fld (Fr.SMP_SIZE_MIB n) * 65536)
        ∧ (∀ a, a < s.fld (Fr.SMP_BASE_MIB n) * 2 ^ 20
              ∨ (s.fld (Fr.SMP_BASE_MIB n) + s.fld (Fr.SMP_SIZE_MIB n)) * 2 ^ 20 ≤ a → t.cell a = s.cell a)
        ∧ s.onlyFields t [Fr.SMP_FILL n, Fr.SMP_WR_OFS n]
        ∧ t = { s with regs := t.regs, smp := t.smp, hbm := t.hbm, counts := t.counts }))
    ∧ (s.flag (Fr.SMP_EN n) = true → ∀ o, o = 0 ∨ o = 4 ∨ o = 8 →
      Completes (.pmcSmpWrite (0x880400 + 0x40 * n + o) value) s (fun t =>
        t.flag Fr.PMC_CFG_BAD = true ∧ s.onlyFields t [Fr.PMC_CFG_BAD] ∧ t = { s with regs := t.regs }))
    ∧ (s.flag (Fr.SMP_EN n) = false →
      Completes (.pmcSmpWrite (0x880400 + 0x40 * n) value) s (fun t =>
        t.fld (Fr.SMP_EN n) = value % 2 ∧ t.fld (Fr.SMP_LOG2N n) = Nat.max 8 (Nat.min 20 (bits value 1 5))
        ∧ t.fld (Fr.SMP_CORES n) = bits value 16 16
        ∧ s.onlyFields t [Fr.SMP_EN n, Fr.SMP_LOG2N n, Fr.SMP_CORES n, Fr.SMP_FILL n]
        ∧ t = { s with regs := t.regs, smp := t.smp }))
    ∧ (s.flag (Fr.SMP_EN n) = false → bits value 16 7 = 0 ∨ (bits value 16 7 ≤ 64
          ∧ s.badRegion (bits value 0 16 * 2 ^ 20) (bits value 16 7 * 2 ^ 20) = false
          ∧ s.meetsRegion (bits value 0 16 * 2 ^ 20) (bits value 16 7 * 2 ^ 20) (fun r => r.kind ≠ 6 || r.idx ≠ n) = false) →
      Completes (.pmcSmpWrite (0x880408 + 0x40 * n) value) s (fun t =>
        t.fld (Fr.SMP_BASE_MIB n) = bits value 0 16 ∧ t.fld (Fr.SMP_SIZE_MIB n) = bits value 16 7
        ∧ t.fld (Fr.SMP_WR_OFS n) = 0 ∧ t = { s with regs := t.regs }))

/-- The housekeeping converter follows its table. Where the monitor runs in native mode, the end of an entry's DELAY
starts its conversion; the end of a conversion writes the code of its voltage into the slot of its point, marks it
valid and counts it, and after the last repeat of the last entry the table starts again and PASSES counts; a
reference within 1 % ends the self-calibration, one outside sets REF_FAIL and FAULT, stops converting, makes every
result invalid and creates a fault record of KIND 0x0D. The statement takes an entry with REPEAT 1, no limit
enabled, no pending table and no change of MODE. -/
def Obligations.HkSequence : Prop :=
  ∀ s : State, s.flag Fr.HK_RUNNING = true → s.hk.mode = 0 → s.fld Fr.HK_MODE = 0 →
    (s.hk.delay = true → s.flag Fr.HK_BUSY = false → s.hk.calDue = false →
      Completes .hkEntryDelayEnd s (fun t => t.flag Fr.HK_BUSY = true ∧ t.hk.delay = false
        ∧ s.onlyFields t [Fr.HK_BUSY] ∧ t = { s with regs := t.regs, hk := t.hk }))
    ∧ (∀ nv value : Int, s.flag Fr.HK_BUSY = true → s.hk.leg = none → s.hk.next = none → s.hk.rep = 0 →
        bits (s.hkEntry (s.fld Fr.HK_ENTRY)) 8 8 = 1 → bits (s.hkEntry (s.fld Fr.HK_ENTRY)) 0 5 < 31 →
        s.flag (Fr.HK_PT_LIM_EN (bits (s.hkEntry (s.fld Fr.HK_ENTRY)) 0 5)) = false →
      Completes (.hkConversionDone nv value) s (fun t =>
        let k := bits (s.hkEntry (s.fld Fr.HK_ENTRY)) 0 5
        t.fld (Fr.HK_PT_CODE k) = (hkCode nv).1 ∧ t.flag (Fr.HK_PT_OVR k) = (hkCode nv).2
        ∧ t.flag (Fr.HK_PT_VALID k) = true ∧ t.flag Fr.HK_BUSY = false ∧ t.hk.delay = true
        ∧ (s.fld Fr.HK_NENT ≤ s.fld Fr.HK_ENTRY + 1 → t.fld Fr.HK_ENTRY = 0 ∧ t.hk.calDue = true
            ∧ t.fld Fr.HK_PASSES = (s.fld Fr.HK_PASSES + 1) % 2 ^ 32)
        ∧ (s.fld Fr.HK_ENTRY + 1 < s.fld Fr.HK_NENT → t.fld Fr.HK_ENTRY = (s.fld Fr.HK_ENTRY + 1) % 64
            ∧ t.fld Fr.HK_PASSES = s.fld Fr.HK_PASSES)
        ∧ t = { s with regs := t.regs, hk := t.hk }))
    ∧ (s.flag Fr.HK_BUSY = false → s.hk.calDue = true →
      Completes (.hkSelfCalibration true) s (fun t => t.hk.calDue = false ∧ t = { s with hk := t.hk })
      ∧ Completes (.hkSelfCalibration false) s (fun t => t.flag Fr.HK_REF_FAIL = true ∧ t.flag Fr.HK_FAULT = true
        ∧ t.flag Fr.HK_RUNNING = false ∧ (∀ k, k < 39 → t.flag (Fr.HK_PT_VALID k) = false)
        ∧ s.oneEvent t 4 0xD ∧ (∃ f, t.faults.getLast? = some f ∧ f.kind = 0xD ∧ f.acked = false)
        ∧ t = { s with regs := t.regs, hk := t.hk, faults := t.faults, evq := t.evq, jobs := t.jobs }))

/-- In LK2 mode a GO converts one point. A GO in LK2 mode with no conversion of its own running, naming a channel
without RAIL or channel 31, makes the converter busy with that point; its end stores code and OVR in LEG_RES and in
the point's slot, clears BUSY and sets DONE. A GO while BUSY, in native mode, or with RAIL on another channel than
31 is discarded with LEG_DISCARD. -/
def Obligations.HkSingleConversion : Prop :=
  ∀ (s : State) (ch : Nat), ch < 31 → s.flag Fr.HK_RUNNING = true →
    (s.hk.mode = 1 → s.fld Fr.HK_MODE = 1 → s.flag Fr.HK_LEG_BUSY = false → s.flag Fr.HK_BUSY = false →
      Completes (.hkGo (ch + 256)) s (fun t => t.flag Fr.HK_LEG_BUSY = true ∧ t.flag Fr.HK_BUSY = true
        ∧ t.hk.leg = some (ch, 0)
        ∧ s.onlyFields t [Fr.HK_LEG_CHANNEL, Fr.HK_LEG_RAIL, Fr.HK_LEG_BUSY, Fr.HK_BUSY]
        ∧ t = { s with regs := t.regs, hk := t.hk }))
    ∧ (s.flag Fr.HK_LEG_BUSY = true ∨ s.hk.mode = 0 ∧ s.fld Fr.HK_MODE = 0 →
      Completes (.hkGo (ch + 256)) s (fun t => t.flag Fr.HK_LEG_DISCARD = true
        ∧ s.onlyFields t [Fr.HK_LEG_CHANNEL, Fr.HK_LEG_RAIL, Fr.HK_LEG_DISCARD] ∧ t = { s with regs := t.regs }))
    ∧ Completes (.hkGo (ch + 32 + 256)) s (fun t => t.flag Fr.HK_LEG_DISCARD = true)
    ∧ (∀ nv value : Int, s.flag Fr.HK_BUSY = true → s.hk.leg = some (ch, 0) → s.flag (Fr.HK_PT_LIM_EN ch) = false →
        s.fld Fr.HK_MODE = s.hk.mode →
      Completes (.hkConversionDone nv value) s (fun t => t.fld (Fr.HK_PT_CODE ch) = (hkCode nv).1
        ∧ t.fld Fr.HK_LEG_CODE = (hkCode nv).1 ∧ t.flag Fr.HK_LEG_OVR = (hkCode nv).2 ∧ t.flag Fr.HK_LEG_BUSY = false
        ∧ t.flag Fr.HK_LEG_DONE = true ∧ t.flag Fr.HK_BUSY = false ∧ t.hk.leg = none
        ∧ t = { s with regs := t.regs, hk := t.hk }))

/-- The DisplayPort link comes up, retries, retrains and goes down. With the controller present: DP_HPD high starts
training and reads the EDID; success stores lanes and rate, posts DP_UP and brings the link up, or leaves it blank
with NOFIT and MODE_NOFIT where the mode does not fit; a failure posts DP_TRAIN_FAIL and is retried; a lost lock
retrains; DP_HPD low posts DP_DOWN and the link is down. -/
def Obligations.DisplayLink : Prop :=
  ∀ s : State, s.hasDisplay = true →
    (∀ (lanes rate : Nat) (edid : List Nat), s.flag Fr.VID_HPD = false →
      Completes (.dpHpdHigh lanes rate edid) s (fun t => t.flag Fr.VID_HPD = true ∧ t.fld Fr.VID_LINK = dpTraining
        ∧ t.vid.sink = some (lanes, rate)
        ∧ (∀ k, k < 64 → t.reg (0x800800 + 4 * k) = BitVec.ofNat 32 (unle (((padTo 256 edid).drop (4 * k)).take 4)))
        ∧ (∀ a, a ≠ 0x800040 → (∀ k, k < 64 → a ≠ 0x800800 + 4 * k) → t.reg a = s.reg a)
        ∧ t = { s with regs := t.regs, vid := t.vid }))
    ∧ (s.fld Fr.VID_LINK = dpTraining →
      Completes .dpTrainFail s (fun t => t.fld Fr.VID_LINK = dpDown ∧ t.flag Fr.VID_TRAIN_FAIL = true
        ∧ s.oneEvent t 8 0x1A ∧ s.onlyFields t [Fr.VID_LINK, Fr.VID_TRAIN_FAIL, Fr.HIF_EVSEQ_NEXT]
        ∧ t = { s with regs := t.regs, evq := t.evq })
      ∧ (∀ lanes rate, s.vid.sink = some (lanes, rate) → lanes < 8 → rate < 16 →
        Completes .dpUp s (fun t => t.fld Fr.VID_LANES = lanes ∧ t.fld Fr.VID_RATE = rate
          ∧ (s.dpFits lanes rate = true → t.fld Fr.VID_LINK = dpUp ∧ t.flag Fr.VID_NOFIT = false ∧ s.oneEvent t 8 0x19)
          ∧ (s.dpFits lanes rate = false → t.fld Fr.VID_LINK = dpBlank ∧ t.flag Fr.VID_NOFIT = true
              ∧ (t.evq.map (fun e => (e.cls, e.cause))) = s.evq.map (fun e => (e.cls, e.cause)) ++ [(8, 0x19), (0xC, 6)])
          ∧ t = { s with regs := t.regs, evq := t.evq, vid := t.vid })))
    ∧ (s.flag Fr.VID_HPD = true → s.fld Fr.VID_LINK = dpDown →
      Completes .dpTrainRetry s (fun t => t.fld Fr.VID_LINK = dpTraining ∧ s.onlyFields t [Fr.VID_LINK]
        ∧ t = { s with regs := t.regs }))
    ∧ (s.flag Fr.VID_HPD = true → dpUp ≤ s.fld Fr.VID_LINK →
      Completes (.hpdIrq true) s (fun t => t.fld Fr.VID_LINK = dpTraining ∧ s.onlyFields t [Fr.VID_LINK]
        ∧ t = { s with regs := t.regs })
      ∧ exec (.hpdIrq false) s = .next s)
    ∧ (s.flag Fr.VID_HPD = true →
      Completes .dpDown s (fun t => t.flag Fr.VID_HPD = false ∧ t.fld Fr.VID_LINK = dpDown ∧ t.fld Fr.VID_LANES = 0
        ∧ s.oneEvent t 8 0x18 ∧ s.onlyFields t [Fr.VID_HPD, Fr.VID_LINK, Fr.VID_LANES, Fr.VID_RATE, Fr.HIF_EVSEQ_NEXT]
        ∧ t = { s with regs := t.regs, evq := t.evq }))

/-- Vertical blanking latches the frame buffer and palette; lines and frames are counted. With the controller present
and no timing COMMIT pending, the start of blanking counts the frame and latches a pending frame buffer and loaded
palette entries; its VIDEO_COMMIT completes DONE with the frame number and sample time. A line match sets LINE. The
end of a frame adds its underrun lines, saturating, and sets UNDERRUN. Each posts its event only where EV_EN allows
it. -/
def Obligations.DisplayTiming : Prop :=
  ∀ s : State, s.hasDisplay = true →
    (s.vid.pend = [] → s.vid.loaded = false → s.vid.modeDone = false → s.inf Fr.VID_EV_EN = 0 →
      ∀ (id base stride : Nat) (j : Job), s.vid.frame = some (id, base, stride) → base < 2 ^ 64 → stride < 2 ^ 16 →
        s.job id = some j → j.done = none → j.flt = 0 → j.ring < 64 → s.fld Fr.VID_FRAME + 1 < 2 ^ 64 →
      Completes .vblank s (fun t => t.fld Fr.VID_FRAME = s.fld Fr.VID_FRAME + 1 ∧ t.fld Fr.VID_BASE_NOW = base
        ∧ t.fld Fr.VID_STRIDE_NOW = stride ∧ t.flag Fr.VID_PENDING = false ∧ t.vid.frame = none
        ∧ t.fld Fr.VID_LINE = s.inf Fr.VID_V_ACTIVE
        ∧ t.jobResult id = some (stDone, (s.fld Fr.VID_FRAME + 1) % 2 ^ 32, s.samp)
        ∧ t = { s with regs := t.regs, vid := t.vid, jobs := t.jobs }))
    ∧ (s.vid.match_ < 2 ^ 12 →
      Completes .lineMatch s (fun t => t.fld Fr.VID_LINE = s.vid.match_
        ∧ (bit (s.inf Fr.VID_EV_EN) 1 = true → s.oneEvent t 0xC 2) ∧ (bit (s.inf Fr.VID_EV_EN) 1 = false → t.evq = s.evq)
        ∧ s.onlyFields t [Fr.VID_LINE, Fr.HIF_EVSEQ_NEXT] ∧ t = { s with regs := t.regs, vid := t.vid, evq := t.evq }))
    ∧ (s.inf Fr.VID_EN = 1 → s.framePoison = 0 → ∀ under urgent,
      Completes (.frameDone under urgent) s (fun t =>
        t.fld Fr.VID_UNDERRUN_LINES = Nat.min (2 ^ 32 - 1) (s.fld Fr.VID_UNDERRUN_LINES + under)
        ∧ (0 < under → t.flag Fr.VID_UNDERRUN = true)
        ∧ t.out = s.out ++ [.frame (s.fld Fr.VID_BASE_NOW) (decide (s.fld Fr.VID_LINK ≠ dpUp) || decide (s.fld Fr.VID_STRIDE_NOW = 0))]
        ∧ (s.inf Fr.VID_EV_EN = 0 → t.evq = s.evq)
        ∧ s.onlyFields t [Fr.VID_UNDERRUN_LINES, Fr.VID_POISON_WORDS, Fr.VID_UNDERRUN, Fr.VID_LINE, Fr.HIF_EVSEQ_NEXT]
        ∧ t = { s with regs := t.regs, vid := t.vid, evq := t.evq, out := t.out, counts := t.counts }))

/-- An AUX read of the DisplayPort configuration data. AUX_GO of 1 while no read is in progress sends the request for
AUX_ADDR and sets AUX_BUSY; while busy it is discarded. The end of the read clears AUX_BUSY and stores its bytes,
or sets AUX_ERR where it was NACKed or timed out. -/
def Obligations.AuxReads : Prop :=
  ∀ s : State, s.hasDisplay = true →
    (s.flag Fr.VID_AUX_BUSY = false →
      Completes (.auxGo 1) s (fun t => t.flag Fr.VID_AUX_BUSY = true ∧ t.out = s.out ++ [.aux (s.fld Fr.VID_AUX_ADDR)]
        ∧ s.onlyFields t [Fr.VID_AUX_BUSY] ∧ t = { s with regs := t.regs, out := t.out, aux := s.aux + 1 }))
    ∧ (s.flag Fr.VID_AUX_BUSY = true → exec (.auxGo 1) s = .next s)
    ∧ (s.flag Fr.VID_AUX_BUSY = true →
      Completes (.auxReadDone none) s (fun t => t.flag Fr.VID_AUX_BUSY = false ∧ t.flag Fr.VID_AUX_ERR = true
        ∧ s.onlyFields t [Fr.VID_AUX_BUSY, Fr.VID_AUX_ERR] ∧ t = { s with regs := t.regs })
      ∧ (∀ l : List Nat, Completes (.auxReadDone (some l)) s (fun t => t.flag Fr.VID_AUX_BUSY = false
        ∧ t.flag Fr.VID_AUX_ERR = false
        ∧ (∀ j, j < 4 → t.reg (0x800110 + 4 * j) = BitVec.ofNat 32 (unle (((padTo 16 (l.take (s.fld Fr.VID_AUX_LEN + 1))).drop (4 * j)).take 4)))
        ∧ s.onlyFields t [Fr.VID_AUX_BUSY, Fr.VID_AUX_ERR, Fr.VID_AUX_DATA 0, Fr.VID_AUX_DATA 1, Fr.VID_AUX_DATA 2,
            Fr.VID_AUX_DATA 3] ∧ t = { s with regs := t.regs })))

/-- The reference is lost and comes back. With SRC in force REF_IN and no holdover, the loss clears PRESENT, enters
holdover at the mean frequency, moves CK_PROVE to the internal oscillator and posts REF_LOSS; while REF_IN is
unused it only clears PRESENT. Its return within 200 ppm with AUTO_REJOIN leaves holdover, clears ALIGNED and posts
REF_RETURN; beyond 200 ppm holdover goes on and REF_BAD is posted. -/
def Obligations.ReferenceAndHoldover : Prop :=
  ∀ s : State,
    (s.srcIsRef = true → s.flag Fr.CLK_HOLDOVER = false → ∀ mean : Int,
      Completes (.refInLoss mean) s (fun t => t.flag Fr.CLK_PRESENT = false ∧ t.flag Fr.CLK_HOLDOVER = true
        ∧ t.flag Fr.CLK_PROVE_INT = true ∧ t.clk.freqHold = mean ∧ s.oneEvent t 6 1
        ∧ s.onlyFields t [Fr.CLK_PRESENT, Fr.CLK_HOLDOVER, Fr.CLK_PROVE_INT, Fr.HIF_EVSEQ_NEXT]
        ∧ t = { s with regs := t.regs, clk := t.clk, evq := t.evq }))
    ∧ (s.srcIsRef = false → ∀ mean : Int,
      Completes (.refInLoss mean) s (fun t => t.flag Fr.CLK_PRESENT = false ∧ s.onlyFields t [Fr.CLK_PRESENT]
        ∧ t = { s with regs := t.regs }))
    ∧ (s.srcIsRef = true → s.flag Fr.CLK_HOLDOVER = true → s.clk.refBad = false →
      ∀ ofs : Int,
      (ofs.natAbs ≤ 20000 → s.flag Fr.CLK_AUTO_REJOIN = true →
        Completes (.refInReturn ofs) s (fun t => t.flag Fr.CLK_PRESENT = true ∧ t.flag Fr.CLK_HOLDOVER = false
          ∧ t.flag Fr.CLK_ALIGNED = false ∧ s.oneEvent t 6 2
          ∧ s.onlyFields t [Fr.CLK_PRESENT, Fr.CLK_FREQ_OFS, Fr.CLK_HOLDOVER, Fr.CLK_ALIGNED, Fr.HIF_EVSEQ_NEXT]
          ∧ t = { s with regs := t.regs, clk := t.clk, evq := t.evq }))
      ∧ (20000 < ofs.natAbs →
        Completes (.refInReturn ofs) s (fun t => t.flag Fr.CLK_PRESENT = true ∧ t.flag Fr.CLK_HOLDOVER = true
          ∧ t.clk.refBad = true ∧ s.oneEvent t 6 3
          ∧ s.onlyFields t [Fr.CLK_PRESENT, Fr.CLK_FREQ_OFS, Fr.HIF_EVSEQ_NEXT]
          ∧ t = { s with regs := t.regs, clk := t.clk, evq := t.evq })))

/-- A synthesiser loses lock. Outside an epoch, with no covered hand-over running: the active one's loss with a locked
standby gates CK_DP, makes the standby active and posts FAULT and TAKEOVER with SPARE the standby; without one the
datapath halts, beyond the assumptions, with FAULT and HALT; the standby's loss leaves the clock running and posts
FAULT and LOCK_LOSS_STANDBY. Each counts the loss and makes that synthesiser RELOCKING. -/
def Obligations.SynthesiserLoss : Prop :=
  ∀ (s : State) (onset : Nat), s.clk.active < 2 → s.clk.run = none → s.cal.run = none →
    (s.fld (Fr.CLK_SYN_ROLE s.clk.active) = roleActive →
      (s.fld (Fr.CLK_SYN_ROLE (otherSyn s.clk.active)) = roleStandby →
        s.flag (Fr.CLK_SYN_AL_LOCK (otherSyn s.clk.active)) = true →
        Completes (.lossOfLock onset) s (fun t => t.flag Fr.CLK_RUNNING = false
          ∧ t.fld (Fr.CLK_SYN_ROLE s.clk.active) = roleRelocking
          ∧ t.flag (Fr.CLK_SYN_AL_LOCK s.clk.active) = false
          ∧ t.fld (Fr.CLK_SYN_ROLE (otherSyn s.clk.active)) = roleActive ∧ t.clk.active = otherSyn s.clk.active
          ∧ t.clk.relocked = true ∧ t.clk.prove = true
          ∧ t.evq.map (fun e => (e.cls, e.cause)) = s.evq.map (fun e => (e.cls, e.cause)) ++ [(4, 3), (5, 3)]
          ∧ (∃ f, t.faults.getLast? = some f ∧ f.kind = 3 ∧ f.spare = otherSyn s.clk.active ∧ f.beyond = false ∧ f.onset = onset)
          ∧ t = { s with regs := t.regs, clk := t.clk, evq := t.evq, faults := t.faults, jobs := t.jobs }))
      ∧ (s.flag (Fr.CLK_SYN_AL_LOCK (otherSyn s.clk.active)) = false →
        Completes (.lossOfLock onset) s (fun t => t.flag Fr.CLK_RUNNING = false ∧ t.clk.halted = true
          ∧ t.fld (Fr.CLK_SYN_ROLE s.clk.active) = roleRelocking
          ∧ (∃ f, t.faults.getLast? = some f ∧ f.kind = 3 ∧ f.spare = 0xFF ∧ f.beyond = true ∧ f.onset = onset))))
    ∧ (s.fld (Fr.CLK_SYN_ROLE (otherSyn s.clk.active)) = roleStandby →
      Completes (.lockLossStandby onset) s (fun t => t.fld (Fr.CLK_SYN_ROLE (otherSyn s.clk.active)) = roleRelocking
        ∧ t.flag Fr.CLK_RUNNING = s.flag Fr.CLK_RUNNING ∧ t.clk.active = s.clk.active
        ∧ t.evq.map (fun e => (e.cls, e.cause)) = s.evq.map (fun e => (e.cls, e.cause)) ++ [(4, 3), (6, 4)]
        ∧ t = { s with regs := t.regs, clk := t.clk, evq := t.evq, faults := t.faults, jobs := t.jobs }))

/-- A synthesiser confirms lock or fails to, and CK_DP is released. Beside an active one, a RELOCKING synthesiser that
confirms lock becomes the standby and posts LOCK_RETURN; in a halt the first becomes active; a failed attempt
before the sixteenth is counted, the sixteenth makes it FAILED. Once lock is confirmed CK_DP is released: RUNNING,
fabric and control back, sample time advanced by the periods counted, CONT_OK and ALIGNED cleared where the NTO was
lost. -/
def Obligations.SynthesiserReturn : Prop :=
  ∀ (s : State) (x : Nat) (phase : Int), x < 2 →
    (s.fld (Fr.CLK_SYN_ROLE x) = roleRelocking → s.clk.halted = false → s.fld (Fr.CLK_SYN_ROLE (otherSyn x)) = roleActive →
        nth s.clk.synAck x none = none →
      Completes (.lockConfirmation x phase) s (fun t => t.fld (Fr.CLK_SYN_ROLE x) = roleStandby
        ∧ t.flag (Fr.CLK_SYN_AL_LOCK x) = true ∧ t.flag (Fr.CLK_SYN_DL_LOCK x) = true
        ∧ t.fld (Fr.CLK_SYN_PHASE_ERR x) = unsigned 16 phase ∧ s.oneEvent t 6 5
        ∧ t = { s with regs := t.regs, clk := t.clk, evq := t.evq }))
    ∧ (s.fld (Fr.CLK_SYN_ROLE x) = roleRelocking → s.clk.halted = true → s.clk.relocked = false →
        nth s.clk.synAck x none = none →
      Completes (.lockConfirmation x phase) s (fun t => t.fld (Fr.CLK_SYN_ROLE x) = roleActive ∧ t.clk.active = x
        ∧ t.clk.relocked = true ∧ t = { s with regs := t.regs, clk := t.clk }))
    ∧ (s.fld (Fr.CLK_SYN_ROLE x) = roleRelocking → s.clk.run = none → s.clk.synTry.length = 2 →
      (nth s.clk.synTry x 0 + 1 < 16 →
        Completes (.synthRelockRetry x) s (fun t => nth t.clk.synTry x 0 = nth s.clk.synTry x 0 + 1
          ∧ t = { s with clk := t.clk }))
      ∧ (nth s.clk.synTry x 0 = 15 → nth s.clk.synAck x none = none →
        Completes (.synthRelockRetry x) s (fun t => t.fld (Fr.CLK_SYN_ROLE x) = roleFailed
          ∧ s.onlyFields t [Fr.CLK_SYN_ROLE x] ∧ t = { s with regs := t.regs, clk := t.clk })))
    ∧ (s.flag Fr.CLK_RUNNING = false → s.clk.relocked = true → s.clk.started = true → s.clk.run = none →
        s.clk.halted = false → ∀ (periods : Nat) (ntoLost : Bool),
      Completes (.ckDpRelease periods ntoLost) s (fun t => t.flag Fr.CLK_RUNNING = true ∧ t.clk.prove = false
        ∧ t.clk.relocked = false ∧ t.clk.skipped = s.clk.skipped + s.ntoSamples periods
        ∧ (∀ n, n < 8 → (nth t.slots n {}).next = beatAt ((s.slot n).next + s.ntoSamples periods) (s.slotDiv n))
        ∧ (ntoLost = true → t.flag Fr.CLK_CONT_OK = false ∧ t.flag Fr.CLK_ALIGNED = false)
        ∧ (ntoLost = false → t.fld Fr.CLK_CONT_OK = s.fld Fr.CLK_CONT_OK ∧ t.fld Fr.CLK_ALIGNED = s.fld Fr.CLK_ALIGNED)
        ∧ s.onlyFields t [Fr.CLK_RUNNING, Fr.CLK_CONT_OK, Fr.CLK_ALIGNED]
        ∧ t = { s with regs := t.regs, clk := t.clk, slots := t.slots }))

/-- The memory PLL and the control PLL lose lock and return. A loss of the memory PLL posts FAULT of KIND 0x0F INDEX 0
and MEM_PLL and holds the HBM traffic of every slot in the ballast, and a retraining in progress is abandoned; the
relock fills RESTORED_ST and leaves held only slots in training or self-refresh; a loss of the control PLL posts
FAULT INDEX 1 and PROVE_FALLBACK with CK_PROVE on the internal oscillator until its relock. -/
def Obligations.MemoryAndControlPll : Prop :=
  ∀ (s : State) (onset : Nat),
    (s.clk.memPll = none →
      Completes (.memPll onset) s (fun t => t.clk.memPll = some t.lastFlt ∧ t.lastFlt = (s.lastFlt + 1) % 2 ^ 32
        ∧ (∀ k, k < s.fld Fr.MEM_N_ACT → k ∈ t.hbm.stalled) ∧ t.hbm.training = none ∧ t.hbm.cells = s.hbm.cells
        ∧ t.evq.map (fun e => (e.cls, e.cause)) = s.evq.map (fun e => (e.cls, e.cause)) ++ [(4, 0xF), (6, 0xF)]
        ∧ (∃ f, t.faults.getLast? = some f ∧ f.kind = 0xF ∧ f.index = 0 ∧ f.spare = 0xFF)
        ∧ t = { s with regs := t.regs, clk := t.clk, hbm := t.hbm, evq := t.evq, faults := t.faults, jobs := t.jobs }))
    ∧ (∀ id, s.clk.memPll = some id → id ≠ 0 →
      Completes .memPllRelock s (fun t => t.clk.memPll = none
        ∧ (∀ x, x ∈ t.hbm.stalled ↔ x ∈ s.hbm.stalled ∧ x ∈ s.heldElse) ∧ t.hbm.cells = s.hbm.cells
        ∧ (∀ f ∈ t.faults, f.id = id → f.restored = s.samp) ∧ t.evq = s.evq
        ∧ t = { s with regs := t.regs, clk := t.clk, hbm := t.hbm, faults := t.faults }))
    ∧ (s.clk.ctlPll = none →
      Completes (.proveFallback onset) s (fun t => t.clk.ctlPll = some t.lastFlt ∧ t.flag Fr.CLK_PROVE_INT = true
        ∧ t.evq.map (fun e => (e.cls, e.cause)) = s.evq.map (fun e => (e.cls, e.cause)) ++ [(4, 0xF), (6, 0x10)]
        ∧ t = { s with regs := t.regs, clk := t.clk, evq := t.evq, faults := t.faults, jobs := t.jobs }))
    ∧ (∀ id, s.clk.ctlPll = some id → id ≠ 0 →
      Completes .controlPllRelock s (fun t => t.clk.ctlPll = none ∧ t.flag Fr.CLK_PROVE_INT = false
        ∧ (∀ f ∈ t.faults, f.id = id → f.restored = s.samp)
        ∧ t = { s with regs := t.regs, clk := t.clk, faults := t.faults }))

/-- The trim walks, and the time of day follows PPS and PTP. Each trim step moves TRIM_NOW by at most 1 ppm toward the
target in force; a pair is latched every 2^24 samples; a PPS edge latches PPS_ST and PPS_TOD, and with SRC 1 or 3
steps the counter where the error reaches STEP_THR; its loss posts PPS_LOSS. A Sync message locks within STEP_THR
and with SRC 2 sets the counter; an Announce carries UTC_OFS; loss of Sync posts PTP_LOSS. The units of STEP_THR
are 10 ns. -/
def Obligations.TrimAndTimeOfDay : Prop :=
  ∀ s : State,
    (s.flag Fr.CLK_WALKING = true → -200000 ≤ s.clk.target → s.clk.target ≤ 200000 → ∀ cur : Int, cur = signed 19 (s.fld Fr.CLK_TRIM_NOW) →
        -200000 ≤ cur → cur ≤ 200000 →
      Completes .trimStep s (fun t =>
        (signed 19 (t.fld Fr.CLK_TRIM_NOW) - cur).natAbs ≤ 1000
        ∧ ((s.clk.target - cur).natAbs ≤ 1000 → signed 19 (t.fld Fr.CLK_TRIM_NOW) = s.clk.target ∧ t.flag Fr.CLK_WALKING = false)
        ∧ (1000 < (s.clk.target - cur).natAbs →
            (s.clk.target - signed 19 (t.fld Fr.CLK_TRIM_NOW)).natAbs + 1000 = (s.clk.target - cur).natAbs)
        ∧ s.onlyFields t [Fr.CLK_TRIM_NOW, Fr.CLK_WALKING] ∧ t = { s with regs := t.regs }))
    ∧ (∀ tod, tod < 2 ^ 64 → s.clk.pairSt / 2 ^ 24 < s.samp / 2 ^ 24 →
      Completes (.todPairLatch tod) s (fun t => t.clk.pairSt = s.samp / 2 ^ 24 * 2 ^ 24 ∧ t.clk.pairTod = tod
        ∧ t.fld Fr.CLK_TOD_NOW = tod ∧ s.onlyFields t [Fr.CLK_TOD_NOW] ∧ t = { s with regs := t.regs, clk := t.clk }))
    ∧ (∀ st tod, st < 2 ^ 64 → tod < 2 ^ 64 → s.clk.ppsEdge = false → s.fld Fr.CLK_TOD_SRC = 0 →
      Completes (.ppsEdge st tod) s (fun t => t.fld Fr.CLK_PPS_ST = st ∧ t.fld Fr.CLK_PPS_TOD = tod
        ∧ t.flag Fr.CLK_PPS_PRESENT = true ∧ t.clk.pairSt = st ∧ t.clk.pairTod = tod ∧ t.evq = s.evq
        ∧ t = { s with regs := t.regs, clk := t.clk }))
    ∧ (∀ st tod : Nat, st < 2 ^ 64 → s.clk.ppsEdge = false → s.fld Fr.CLK_TOD_SRC = 3 → s.fld Fr.CLK_PPS_OFS = 0 → 1 ≤ s.fld Fr.CLK_STEP_THR →
        10 * s.fld Fr.CLK_STEP_THR ≤ ((tod : Int) - (nearestSecond tod * 1000000000 : Nat)).natAbs → tod < 2 ^ 63 →
      Completes (.ppsEdge st tod) s (fun t => t.clk.pairTod = nearestSecond tod * 1000000000 ∧ s.oneEvent t 6 0xC
        ∧ t = { s with regs := t.regs, clk := t.clk, evq := t.evq }))
    ∧ (s.flag Fr.CLK_PPS_PRESENT = true →
      Completes .ppsLoss s (fun t => t.flag Fr.CLK_PPS_PRESENT = false ∧ s.oneEvent t 6 0xA
        ∧ s.onlyFields t [Fr.CLK_PPS_PRESENT, Fr.HIF_EVSEQ_NEXT] ∧ t = { s with regs := t.regs, evq := t.evq }))
    ∧ (s.fld Fr.CLK_TOD_SRC = 2 → s.inf Fr.CLK_REF_SRC ≠ 2 → ∀ (offset rate : Int) (tod utc : Nat), tod < 2 ^ 64 → utc < 2 ^ 16 →
      Completes (.ptpMessage s.ptpPort 0 offset rate tod utc) s (fun t => t.clk.pairTod = tod ∧ t.clk.pairSt = s.samp
        ∧ t.flag Fr.CLK_TOD_VALID = true ∧ t.clk.ptpSync = true ∧ t.clk.ptpLost = false
        ∧ (t.flag Fr.CLK_PTP_LOCKED = true ↔ offset.natAbs < 10 * Nat.max 1 (s.fld Fr.CLK_STEP_THR))
        ∧ s.onlyFields t [Fr.CLK_PTP_LOCKED, Fr.CLK_TOD_NOW, Fr.CLK_TOD_VALID] ∧ t = { s with regs := t.regs, clk := t.clk })
      ∧ Completes (.ptpMessage s.ptpPort 1 offset rate tod utc) s (fun t => t.fld Fr.CLK_UTC_OFS = utc
        ∧ s.onlyFields t [Fr.CLK_UTC_OFS] ∧ t = { s with regs := t.regs }))
    ∧ (s.ptpUsed = true → s.clk.ptpSync = true → s.clk.ptpLost = false →
      Completes .ptpLoss s (fun t => t.clk.ptpLost = true ∧ t.flag Fr.CLK_PTP_LOCKED = false ∧ s.oneEvent t 6 0xD
        ∧ t.fld Fr.CLK_TRIM_NOW = s.fld Fr.CLK_TRIM_NOW ∧ t = { s with regs := t.regs, clk := t.clk, evq := t.evq }))

/-- SYNC pulses, their time-out, and SYSREF. A qualifying SYNC_IN pulse requests an untimed pending epoch, and is
counted IGNORED where none is pending, repeated on SYNC_OUT in REPEAT mode; a time-out cancels the COMMIT; GENERATE
drives one pulse at the target. A due SYSREF edge in CONTINUOUS mode, or ON_DEMAND with pulses left, leaves the
block and the next falls one period later. -/
def Obligations.SyncAndSysref : Prop :=
  ∀ s : State,
    (s.clk.epoch = none → s.fld Fr.CLK_SYNC_IGNORED + 1 < 2 ^ Fr.CLK_SYNC_IGNORED.w →
      Completes .syncInPulse s (fun t => t.fld Fr.CLK_SYNC_IGNORED = s.fld Fr.CLK_SYNC_IGNORED + 1
        ∧ t.out = s.out ++ (if s.syncOutMode = 1 then [.edge 4 1, .edge 4 0] else [])
        ∧ s.onlyFields t [Fr.CLK_SYNC_IGNORED] ∧ t = { s with regs := t.regs, out := t.out }))
    ∧ (∀ e : EpochReq, s.clk.epoch = some e → e.timed = false → e.requested = false →
      Completes .syncInPulse s (fun t => t.clk.epoch = some { e with requested := true }
        ∧ t = { s with clk := { s.clk with epoch := t.clk.epoch }, out := t.out })
      ∧ (∀ j, s.job e.job = some j → j.done = none → j.ring < 64 →
        Completes .syncTimeout s (fun t => t.clk.epoch = none ∧ t.flag Fr.CLK_SYNC_PENDING = false
          ∧ t.jobResult e.job = some (stCancelled, 0, 0) ∧ t.force = s.force
          ∧ t = { s with regs := t.regs, clk := { s.clk with epoch := none }, jobs := t.jobs })))
    ∧ (∀ e : EpochReq, s.clk.epoch = some e → s.capFld e.cap Fr.CLK_SYNC_OUT_MODE = 2 → e.generated = false →
        e.target ≤ s.samp →
      Completes .syncOutGenerate s (fun t => t.out = s.out ++ [.edge 4 1, .edge 4 0]
        ∧ t = { s with out := t.out, clk := { s.clk with epoch := some { e with generated := true } } }))
    ∧ (s.flag Fr.CLK_RUNNING = true → s.clk.sysrefNext ≤ s.samp →
        s.inf Fr.CLK_SYSREF_MODE = 1 ∨ s.inf Fr.CLK_SYSREF_MODE = 2 ∧ 0 < s.clk.sysrefLeft →
      Completes (.sysrefPulse [] []) s (fun t => t.out = s.out ++ [.edge 5 1, .edge 5 0]
        ∧ t.clk.sysrefNext = s.clk.sysrefNext + Nat.max 1 (s.inf Fr.CLK_SYSREF_MULT) * 32768
        ∧ t.clk.sysrefLeft = s.clk.sysrefLeft - 1
        ∧ t = { s with out := t.out, clk := { s.clk with sysrefNext := t.clk.sysrefNext, sysrefLeft := t.clk.sysrefLeft } })
      ∧ (∀ n, n < 8 → s.fld (Fr.INTK_LINK_STATE n) = 5 →
        Completes (.sysrefPulse [] [n]) s (fun t => t.flag (Fr.INTK_LINKERR_SYSREF_PHASE n) = true
          ∧ s.onlyFields t [Fr.INTK_LINKERR_SYSREF_PHASE n])))

/-- The epoch instant zeroes the counter; the beat at sample time 0 completes the COMMIT. When the request of the
pending epoch COMMIT has come and no epoch runs, or an internal epoch is due, the counter is zeroed, the words
captured take effect, phase and time of day of sample time 0 are stored, no epoch is pending, and a counter starts
that runs on. The beat at sample time 0 counts EPOCH_COUNT, posts EPOCH and completes the COMMIT: DONE, or
DONE_FLAGGED where a relock has not been confirmed. What an internal epoch measures is a free value. -/
def Obligations.Epochs : Prop :=
  ∀ s : State, s.clk.run = none →
    (∀ (e : EpochReq) (phase tod : Nat), s.clk.epoch = some e → tod < 2 ^ 64 →
        (if e.timed then e.immediate || e.target ≤ s.samp else e.requested) = true →
      Completes (.epochInstant phase tod) s (fun t => t.samp = 0 ∧ t.clk.epoch = none ∧ t.clk.pairSt = 0 ∧ t.clk.pairTod = tod
        ∧ t.clk.started = true ∧ (∃ r, t.clk.run = some r ∧ r.job = some e.job)
        ∧ (∀ p ∈ e.cap, ∃ q ∈ e.cap, q.1 = p.1 ∧ t.forceReg p.1 = q.2)
        ∧ t.fld Fr.CLK_EPOCH_TOD = tod ∧ t.flag Fr.CLK_SYNC_PENDING = false ∧ t.fld Fr.CLK_TB_NOW = 0
        ∧ t.flag Fr.CLK_CONT_OK = true ∧ t.evlog = s.evlog ∧ t.sec = s.sec ∧ t.straps = s.straps))
    ∧ (s.clk.internalDue = true →
      Completes .internalEpoch s (fun t => t.samp = 0 ∧ t.clk.internalDue = false ∧ t.clk.pairSt = 0
        ∧ (∃ r, t.clk.run = some r ∧ r.job = none) ∧ t.fld Fr.CLK_TB_NOW = 0 ∧ t.flag Fr.CLK_CONT_OK = true))
    ∧ (∀ r : EpochRun, r.job = none →
      Completes .epoch { s with clk := { s.clk with run := some r } } (fun t =>
        t.fld Fr.CLK_EPOCH_COUNT = (s.fld Fr.CLK_EPOCH_COUNT + 1) % 2 ^ Fr.CLK_EPOCH_COUNT.w ∧ t.clk.run = none ∧ s.oneEvent t 6 9
        ∧ t = { s with regs := t.regs, evq := t.evq }))
    ∧ (∀ (r : EpochRun) (id : Nat) (j : Job), r.job = some id → s.job id = some j → j.done = none → j.flt = 0 →
        j.ring < 64 →
      Completes .epoch { s with clk := { s.clk with run := some r } } (fun t => t.clk.run = none ∧ s.oneEvent t 6 9
        ∧ t.jobResult id = some (if r.relock && !s.flag Fr.CLK_RUNNING then stFlagged else stDone, 0, 0)
        ∧ t = { s with regs := t.regs, evq := t.evq, jobs := t.jobs }))

/-- A JESD204C link walks through its bring-up. From CDR lane clocks lead to SYNC, sync headers to ALIGN, the ILAS to
WAIT_SYSREF with eight SYSREF pulses in ON_DEMAND mode; a differing ILAS of an 8b/10b link sets ILAS_MISMATCH,
posts a LINK event and stays in ALIGN; a step that runs out of time posts a LINK event and restarts the sequence
from lane lock. -/
def Obligations.LinkBringUp : Prop :=
  ∀ (s : State) (n : Nat), n < 8 → s.slots.length = 8 →
    (s.fld (Fr.INTK_LINK_STATE n) = 1 →
      Completes (.laneClockRecovery n) s (fun t => t.fld (Fr.INTK_LINK_STATE n) = 2 ∧ t.fld (Fr.INTK_LINK_CDR_LOCK n) = 0xF
        ∧ s.onlyFields t [Fr.INTK_LINK_STATE n, Fr.INTK_LINK_CDR_LOCK n] ∧ t = { s with regs := t.regs }))
    ∧ (s.fld (Fr.INTK_LINK_STATE n) = 2 →
      Completes (.syncHeaderLock n) s (fun t => t.fld (Fr.INTK_LINK_STATE n) = 3 ∧ t.fld (Fr.INTK_LINK_SYNC_LOCK n) = 0xF
        ∧ s.onlyFields t [Fr.INTK_LINK_STATE n, Fr.INTK_LINK_SYNC_LOCK n] ∧ t = { s with regs := t.regs }))
    ∧ (s.fld (Fr.INTK_LINK_STATE n) = 3 → (s.slot n).ilasBad = false →
      Completes (.ilasReceived n true) s (fun t => t.fld (Fr.INTK_LINK_STATE n) = 4
        ∧ (s.inf Fr.CLK_SYSREF_MODE = 2 → t.clk.sysrefLeft = 8)
        ∧ (s.inf Fr.CLK_SYSREF_MODE ≠ 2 → t.clk = s.clk)
        ∧ s.onlyFields t [Fr.INTK_LINK_STATE n] ∧ t = { s with regs := t.regs, clk := { s.clk with sysrefLeft := t.clk.sysrefLeft } })
      ∧ (bit (s.fld (Fr.INTK_LINK_PARAM n)) 2 = true →
        Completes (.ilasReceived n false) s (fun t => t.fld (Fr.INTK_LINK_STATE n) = 3
          ∧ t.flag (Fr.INTK_LINKERR_ILAS_MISMATCH n) = true ∧ s.oneEvent t 8 4
          ∧ s.onlyFields t [Fr.INTK_LINKERR_ILAS_MISMATCH n, Fr.HIF_EVSEQ_NEXT]
          ∧ t = { s with regs := t.regs, slots := t.slots, evq := t.evq })))
    ∧ (1 ≤ s.fld (Fr.INTK_LINK_STATE n) → s.fld (Fr.INTK_LINK_STATE n) ≤ 4 → (s.slot n).ilasBad = false →
      Completes (.linkStepTimeout n) s (fun t => t.fld (Fr.INTK_LINK_STATE n) = 1
        ∧ s.oneEvent t 8 (Nat.min 3 (s.fld (Fr.INTK_LINK_STATE n)))
        ∧ t.fld (Fr.INTK_LINK_CDR_LOCK n) = 0 ∧ t.fld (Fr.INTK_LINK_SYNC_LOCK n) = 0
        ∧ s.onlyFields t [Fr.INTK_LINK_STATE n, Fr.INTK_LINK_CDR_LOCK n, Fr.INTK_LINK_SYNC_LOCK n, Fr.HIF_EVSEQ_NEXT]
        ∧ t = { s with regs := t.regs, slots := t.slots, evq := t.evq }))

/-- Errors of a JESD204C link in DATA. A failed CRC-12 of a 64b/66b link, or a code error of an 8b/10b link, sets its
error bit, makes the beats it carried bad and leaves the link in DATA; a loss of alignment sets ALIGN_LOSS, posts a
LINK event and restarts the bring-up, and a slot the link feeds carries GAP. -/
def Obligations.LinkErrors : Prop :=
  ∀ (s : State) (n beats onset : Nat), n < 8 → s.slots.length = 8 → s.fld (Fr.INTK_LINK_STATE n) = 5 →
    (bit (s.fld (Fr.INTK_LINK_PARAM n)) 2 = false →
      Completes (.crc12Failure n beats) s (fun t => t.flag (Fr.INTK_LINKERR_CRC12 n) = true
        ∧ (t.slot n).crcBad = Nat.max (s.slot n).crcBad beats ∧ t.fld (Fr.INTK_LINK_STATE n) = 5
        ∧ s.onlyFields t [Fr.INTK_LINKERR_CRC12 n] ∧ t = { s with regs := t.regs, slots := t.slots, counts := t.counts }))
    ∧ (bit (s.fld (Fr.INTK_LINK_PARAM n)) 2 = true →
      Completes (.codeError n beats) s (fun t => t.flag (Fr.INTK_LINKERR_SYNC_HDR n) = true
        ∧ (t.slot n).crcBad = Nat.max (s.slot n).crcBad beats ∧ t.fld (Fr.INTK_LINK_STATE n) = 5
        ∧ s.onlyFields t [Fr.INTK_LINKERR_SYNC_HDR n] ∧ t = { s with regs := t.regs, slots := t.slots, counts := t.counts }))
    ∧ Completes (.linkLockLoss n) s (fun t => t.flag (Fr.INTK_LINKERR_ALIGN_LOSS n) = true
        ∧ t.fld (Fr.INTK_LINK_STATE n) = 1 ∧ s.oneEvent t 8 6
        ∧ (s.fld (Fr.INTK_SLOT_SOURCE n) = 1 → (t.slot n).gapSource = true ∧ (t.slot n).lost = true)
        ∧ s.onlyFields t [Fr.INTK_LINKERR_ALIGN_LOSS n, Fr.INTK_LINK_STATE n, Fr.INTK_LINK_CDR_LOCK n,
            Fr.INTK_LINK_SYNC_LOCK n, Fr.HIF_EVSEQ_NEXT] ∧ t = { s with regs := t.regs, slots := t.slots, evq := t.evq })

/-- A calibration starts, is handed over, and ends. With no calibration in progress the next due intake that can run
starts one, and what it was due for is taken; a covered one steers intake 8 to the input, a settled steering begins
the side-by-side run, a match within the limits switches the slot to intake 8 and isolates the primary, the
calibrated primary goes back to a side-by-side run, and a second match returns the slot to it and counts a
calibration; an in-place one ends with COUNT. Fewer than 2,048 samples repeat a side-by-side run. -/
def Obligations.CalibrationRun : Prop :=
  (∀ (s : State) (k : Nat) (h : CalHow), s.cal.run = none → s.cal.returns = [] →
      (∀ m, m < 9 → (s.due m).jobs = []) → s.calNext = some k → s.calHow k = some h → k < 9 → s.cal.due.length = 9 →
    Completes .calibrationStart s (fun t => (∃ r, t.cal.run = some r ∧ r.k = k ∧ r.how = h ∧ r.step = 1 ∧ r.start = s.samp)
      ∧ (t.due k).any = (s.due k).forced
      ∧ (h = CalHow.covered → t.fld Fr.CAL_SPARE_USE = 1 ∧ t.fld Fr.CAL_SPARE_INPUT = k)
      ∧ (h ≠ CalHow.covered → t.fld (Fr.INTK_STATE k) = 2)))
  ∧ (∀ (s : State) (r : CalRun), s.cal.run = some r → r.k < 8 → s.slots.length = 8 → r.how = CalHow.covered →
    (s.cal.steering = true → s.cal.steerNext = none → s.cal.takeover = none → r.step = 1 → r.own = false →
      Completes .steeringSettled s (fun t => t.cal.run = some { r with step := 3 } ∧ t.cal.steering = false
        ∧ t.flag (Fr.INTK_STAT_SETTLED 8) = true
        ∧ s.onlyFields t [Fr.INTK_STAT_SETTLED 8] ∧ t = { s with regs := t.regs, cal := t.cal, slots := t.slots }))
    ∧ (∀ (samples : Nat) (gain skew : Int),
      (r.step = 3 ∨ r.step = 6 → samples < 2048 → r.repeats < 4 →
        Completes (.sideBySideDone samples gain skew) s (fun t => t.cal.run = some { r with repeats := r.repeats + 1 }
          ∧ t = { s with cal := t.cal }))
      ∧ (r.step = 3 → s.fld (Fr.INTK_SLOT_SOURCE r.k) = 0 → 2048 ≤ samples → gain.natAbs ≤ 50 → skew.natAbs ≤ 50 →
        Completes (.sideBySideDone samples gain skew) s (fun t => t.fld (Fr.INTK_SLOT_FEEDER r.k) = 8
          ∧ t.fld (Fr.INTK_STATE r.k) = 2 ∧ t.cal.run = some { r with step := 5, repeats := 0 }
          ∧ t.fld (Fr.CAL_REC_RES_GAIN r.k) = unsigned 16 gain ∧ t.fld (Fr.CAL_REC_RES_SKEW r.k) = unsigned 16 skew
          ∧ t = { s with regs := t.regs, cal := t.cal }))
      ∧ (r.step = 6 → s.fld (Fr.INTK_SLOT_SOURCE r.k) = 0 → r.handback = none → r.reject = none → r.jobs = [] → s.cal.steering = false →
          2048 ≤ samples → gain.natAbs ≤ 50 → skew.natAbs ≤ 50 →
        Completes (.sideBySideDone samples gain skew) s (fun t => t.fld (Fr.INTK_SLOT_FEEDER r.k) = r.k
          ∧ t.fld (Fr.INTK_STATE r.k) = 1 ∧ t.fld (Fr.CAL_REC_COUNT r.k) = (s.fld (Fr.CAL_REC_COUNT r.k) + 1) % 2 ^ 32
          ∧ t.fld (Fr.CAL_REC_RETRY r.k) = 0 ∧ t.cal.run = some { r with step := 8 }
          ∧ t = { s with regs := t.regs, cal := t.cal })))
    ∧ (∀ (tone : Int) (pass : Bool), r.step = 5 →
      Completes (.primaryCalibrationDone tone pass) s (fun t => t.fld (Fr.INTK_STATE r.k) = 1
        ∧ t.fld (Fr.CAL_REC_RES_TONE r.k) = unsigned 16 tone
        ∧ t.cal.run = some { r with step := 6, repeats := 0, reject := if toneLimit < tone then some 1 else none }
        ∧ s.onlyFields t [Fr.INTK_STATE r.k, Fr.CAL_REC_RES_TONE r.k] ∧ t = { s with regs := t.regs, cal := t.cal })))
  ∧ (∀ (s : State) (r : CalRun) (tone : Int), s.cal.run = some r → r.k < 8 → r.how = CalHow.inPlace → r.own = false → r.jobs = [] →
      tone ≤ toneLimit →
    Completes (.inPlaceCalibrationDone tone) s (fun t => t.cal.run = none ∧ t.fld (Fr.INTK_STATE r.k) = 1
      ∧ t.fld (Fr.CAL_REC_COUNT r.k) = (s.fld (Fr.CAL_REC_COUNT r.k) + 1) % 2 ^ 32
      ∧ t.fld (Fr.CAL_REC_LAST_TEMP r.k) = s.fld (Fr.CAL_REC_TEMP_NOW r.k)
      ∧ t = { s with regs := t.regs, cal := t.cal }))

/-- What makes an intake due, background tracking and the rotating self-test. The end of a retry delay counts RETRY and
makes the intake due; a sensor reading stores every temperature and makes due a powered intake that has drifted
beyond DELTA while AUTO_EN; background tracking updates a running intake after 2^24 samples; a self-test step of an
idle unit lends intake 8 to the input whose turn it is, or tests intake 8 itself, a failed intake is skipped for
the next one, and a step that finds intake 8 in use only moves the turn on. -/
def Obligations.CalibrationTiming : Prop :=
  ∀ s : State, s.cal.due.length = 9 → s.cal.retryWait.length = 9 → s.cal.bgN.length = 9 → s.cal.bgUpdates.length = 9 →
    (∀ k, k < 9 → nth s.cal.retryWait k false = true →
      Completes (.calibrationRetry k) s (fun t => (t.due k).retry = true ∧ nth t.cal.retryWait k false = false
        ∧ t.fld (Fr.CAL_REC_RETRY k) = (s.fld (Fr.CAL_REC_RETRY k) + 1) % 4
        ∧ s.onlyFields t [Fr.CAL_REC_RETRY k, Fr.CAL_SPARE_PENDING] ∧ t = { s with regs := t.regs, cal := t.cal }))
    ∧ (∀ temps : List Int, temps.length = 9 → s.cal.run = none → s.flag Fr.CAL_CTL_AUTO_EN = true →
      Completes (.calSensorRead temps) s (fun t =>
        (∀ k, k < 9 → t.fld (Fr.CAL_REC_TEMP_NOW k) = unsigned 16 (nth temps k 0))
        ∧ (∀ k, k < 9 → s.powered k = true → nth s.cal.sched k false = false →
            calHalfDegree * Nat.min 16 (Nat.max 1 (s.fld Fr.CAL_CTL_DELTA)) <
              (signed 16 (unsigned 16 (nth temps k 0)) - nth s.cal.base k 0).natAbs → (t.due k).temp = true)
        ∧ t.cal.run = none ∧ t = { s with regs := t.regs, cal := t.cal }))
    ∧ (∀ k, k < 9 → s.flag Fr.CAL_CTL_BG_EN = true → 2 ^ 24 ≤ nth s.cal.bgN k 0 → s.fld (Fr.INTK_STATE k) = 1 →
      Completes (.backgroundUpdate k) s (fun t => nth t.cal.bgN k 0 = nth s.cal.bgN k 0 - 2 ^ 24
        ∧ nth t.cal.bgUpdates k 0 = nth s.cal.bgUpdates k 0 + 1 ∧ t = { s with cal := t.cal }))
    ∧ (s.fld Fr.CAL_BIST_PERIOD ≠ 0 → s.powered s.cal.rotation = true → nth s.cal.failed s.cal.rotation false = false →
        s.fld Fr.CAL_SPARE_USE = 0 → s.cal.run = none → s.spareBusy = false → s.cal.rotation < 9 → s.bists = [] →
      Completes .calBistStep s (fun t => t.cal.rotation = (s.cal.rotation + 1) % 9 ∧ t.fld Fr.CAL_SPARE_USE = 2
        ∧ (s.cal.rotation < 8 → t.fld Fr.CAL_SPARE_INPUT = s.cal.rotation
            ∧ (∃ r, t.cal.run = some r ∧ r.k = s.cal.rotation ∧ r.how = CalHow.bist))
        ∧ (s.cal.rotation = 8 → t.fld (Fr.INTK_STATE 8) = 4 ∧ (∃ r, t.cal.run = some r ∧ r.k = 8 ∧ r.how = CalHow.bist8))))
    ∧ (s.fld Fr.CAL_BIST_PERIOD ≠ 0 → s.cal.rotation < 7 → nth s.cal.failed s.cal.rotation false = true →
        s.powered (s.cal.rotation + 1) = true → nth s.cal.failed (s.cal.rotation + 1) false = false →
      (s.cal.run.isSome = true → Completes .calBistStep s (fun t =>
        t = { s with cal := { s.cal with rotation := s.cal.rotation + 2 } }))
      ∧ (s.fld Fr.CAL_SPARE_USE = 0 → s.cal.run = none → s.spareBusy = false → s.bists = [] →
        Completes .calBistStep s (fun t => t.cal.rotation = s.cal.rotation + 2
          ∧ ∃ r, t.cal.run = some r ∧ r.k = s.cal.rotation + 1 ∧ r.how = CalHow.bist)))

/-- A failed intake and its replacement. With no calibration in progress: a failed intake that feeds its slot is taken
over by intake 8, steered to it, with FAULT and TAKEOVER and SPARE 8; where intake 8 already serves one or has
failed the fault lies beyond the assumptions and has no replacement; an intake whose slot a link feeds, and an idle
intake 8, fail without effect on a slot. The intake's state is FAILED in each case. -/
def Obligations.IntakeFaults : Prop :=
  ∀ (s : State) (k onset : Nat), s.cal.run = none → s.bists = [] → nth s.cal.failed k false = false →
    (k < 8 → s.fld (Fr.INTK_SLOT_SOURCE k) = 0 → s.cal.takeover = none → nth s.cal.failed 8 false = false →
      Completes (.intakeFault k onset) s (fun t => t.cal.takeover = some k ∧ t.fld (Fr.INTK_STATE k) = 5
        ∧ t.fld Fr.CAL_SPARE_USE = 3 ∧ t.fld Fr.CAL_SPARE_INPUT = k ∧ t.cal.takeFlt = t.lastFlt
        ∧ t.evq.map (fun e => (e.cls, e.cause)) = s.evq.map (fun e => (e.cls, e.cause)) ++ [(4, 1), (5, 1)]
        ∧ (∃ f, t.faults.getLast? = some f ∧ f.kind = 1 ∧ f.index = k ∧ f.spare = 8 ∧ f.beyond = false ∧ f.onset = onset
            ∧ f.slots = 2 ^ k)))
    ∧ (k < 8 → s.fld (Fr.INTK_SLOT_SOURCE k) = 0 → s.cal.takeover.isSome = true ∨ nth s.cal.failed 8 false = true →
      Completes (.intakeFault k onset) s (fun t => t.cal.takeover = s.cal.takeover ∧ t.fld (Fr.INTK_STATE k) = 5
        ∧ s.oneEvent t 4 1
        ∧ (∃ f, t.faults.getLast? = some f ∧ f.kind = 1 ∧ f.index = k ∧ f.spare = 0xFF ∧ f.beyond = true ∧ f.onset = onset)
        ∧ t = { s with regs := t.regs, cal := t.cal, evq := t.evq, faults := t.faults, jobs := t.jobs }))
    ∧ (k < 8 → s.fld (Fr.INTK_SLOT_SOURCE k) = 1 →
      Completes (.intakeFault k onset) s (fun t => t.cal.takeover = s.cal.takeover ∧ t.fld (Fr.INTK_STATE k) = 5
        ∧ s.oneEvent t 4 1 ∧ (∃ f, t.faults.getLast? = some f ∧ f.beyond = false ∧ f.slots = 0 ∧ f.affected = 0)
        ∧ t = { s with regs := t.regs, cal := t.cal, evq := t.evq, faults := t.faults, jobs := t.jobs }))
    ∧ (k = 8 → s.cal.takeover = none →
      Completes (.intakeFault k onset) s (fun t => t.fld (Fr.INTK_STATE 8) = 5 ∧ t.fld Fr.CAL_SPARE_USE = 5 ∧ s.oneEvent t 4 1
        ∧ (∃ f, t.faults.getLast? = some f ∧ f.beyond = false)
        ∧ t = { s with regs := t.regs, cal := t.cal, slots := t.slots, evq := t.evq, faults := t.faults, jobs := t.jobs }))

/-- A beat advances its slot, carries its flags and reaches the capture ring; attenuations land; a pulse ends. While
CK_DP is gated or the slot is powered down a beat does nothing. Else, where no other command waits, a beat of an
intake-fed slot that is settled and has no fault advances the slot by 16 sample times, shows VALID or GAP, sets
OVR_SEEN where a sample meets the threshold, and moves TB_NOW; no other slot changes, and with the capture ring off
no byte of memory. With the ring on, a beat that follows the last one in the slot's current granule is written
there as 24 bytes and no other byte changes. An attenuation that is due lands and its COMMIT completes; the end of
a pulse leaves the pin low where nothing else holds it. -/
def Obligations.BeatsAndPins : Prop :=
  (∀ (s : State) (slot : Nat) (samples : List Int) (good cbit : Bool), slot < 8 → s.slots.length = 8 →
    (s.powered slot = false ∨ s.flag Fr.CLK_RUNNING = false → exec (.beat slot samples good cbit) s = .next s)
    ∧ (s.NothingDue → s.powered slot = true → s.flag Fr.CLK_RUNNING = true → s.clk.run = none → s.inReset = false →
        s.fld (Fr.INTK_SLOT_SOURCE slot) = 0 → (s.slot slot).settle = 0 → (s.slot slot).gapSource = false →
        (s.slot slot).lost = false → (s.slot slot).restore = 0 → s.hbm.stalled = [] →
      let cs := (List.range 16).map (fun i => clip12 (nth samples i 0))
      let x := s.slot slot
      Completes (.beat slot samples good cbit) s (fun t =>
        (t.slot slot).next = x.next + 16
        ∧ t.flag (Fr.INTK_SLOT_VALID_NOW slot) = (good && !s.slotGap slot)
        ∧ t.flag (Fr.INTK_SLOT_GAP_NOW slot) = s.slotGap slot
        ∧ t.flag (Fr.INTK_OVR_SEEN slot) = (s.flag (Fr.INTK_OVR_SEEN slot)
            || !s.slotGap slot && cs.any (fun c => s.fld (Fr.INTK_OVR_THR slot) ≤ c.natAbs))
        ∧ t.samp = Nat.max s.samp x.next
        ∧ (∀ m, m ≠ slot → t.slot m = s.slot m)
        ∧ s.onlyFields t [Fr.INTK_SLOT_VALID_NOW slot, Fr.INTK_SLOT_GAP_NOW slot, Fr.INTK_OVR_SEEN slot,
            Fr.INTK_OVR_FAST_NOW slot, Fr.CLK_TB_NOW, Fr.HIF_FULL_SERVICE, Fr.MEM_OLDEST_ST slot]
        ∧ (s.hbm.ringOn = false → ∀ a, t.cell a = s.cell a)
        ∧ (∀ j g, s.hbm.ringOn = true → s.slotGap slot = false → s.hbm.holes = [] →
            nth s.hbm.curGran slot none = some j → s.gran j = some g → g.live = true → g.slot = slot → g.d = 1 →
            g.epoch = s.epoch8 → g.first = x.next / 65536 * 65536 → nth s.hbm.ringNext slot 0 = x.next →
            (j + 1) * granBytes ≤ s.hbmSize →
          let a0 := j * granBytes + 24 * ((x.next - g.first) / 16)
          (∀ i, i < 24 → (t.cell (a0 + i)).toNat = nth (beatBytes (cs.map (unsigned 12))) i 0)
          ∧ (∀ a, a < a0 ∨ a0 + 24 ≤ a → t.cell a = s.cell a))
        ∧ t = { s with
            regs := t.regs
            samp := t.samp
            slots := t.slots
            slices := t.slices
            tuners := t.tuners
            cal := t.cal
            counts := t.counts
            pins := t.pins
            out := t.out
            streams := t.streams
            hbm := t.hbm })))
  ∧ (∀ (s : State) (n : Nat), (∀ r ∈ s.attens, r.intake ≠ n) → exec (.attenChange n) s = .next s)
  ∧ (∀ (s : State) (r : AttenReq) (j : Job), s.attens = [r] → r.intake < 8 → r.target ≤ (s.slot r.intake).next → r.atten < 32 →
      s.inf (Fr.INTK_ATTEN r.intake) ≠ r.atten → s.slots.length = 8 → s.fld (Fr.INTK_SLOT_SOURCE r.intake) = 0 →
      (s.slot r.intake).settle = 0 → r.job ≠ 0 → s.job r.job = some j → j.done = none → j.ring < 64 →
      (∀ x ∈ s.slices, x.pend = []) → (∀ x ∈ s.tuners, x.pend = [] ∧ x.queued = none) → (∀ x ∈ s.zooms, x.pend = []) →
    Completes (.attenChange r.intake) s (fun t => t.attens = []
      ∧ t.inf (Fr.INTK_ATTEN r.intake) = r.atten ∧ t.fld (Fr.INTK_ATTEN_NOW_ATTEN r.intake) = r.atten
      ∧ (t.slot r.intake).settle = s.settleBeats
      ∧ t.jobResult r.job = some (if j.flagged || j.flt ≠ 0 then stFlagged else stDone, j.result, j.extent)
      ∧ t = { s with
          regs := t.regs
          force := t.force
          slots := t.slots
          attens := []
          jobs := t.jobs }))
  ∧ (∀ (s : State) (pin : Nat), pin < 4 → s.pulses.length = 4 →
      (∀ n, n < 8 → s.flag (Fr.INTK_OVR_FAST_NOW n) = false) → (∀ k, k < 4 → bit s.pins k = decide (0 < nth s.pulses k 0)) →
    Completes (.trigOutPulseEnd pin) s (fun t => nth t.pulses pin 0 = nth s.pulses pin 0 - 1
      ∧ bit t.pins pin = decide (1 < nth s.pulses pin 0)
      ∧ (nth s.pulses pin 0 = 1 → t.out = s.out ++ [Out.edge pin 0]) ∧ (nth s.pulses pin 0 ≠ 1 → t.out = s.out)
      ∧ (∀ k, k ≠ pin → nth t.pulses k 0 = nth s.pulses k 0)
      ∧ t = { s with
          pulses := t.pulses
          pins := t.pins
          out := t.out }))

/-- A frame moves its slice one hop on and feeds the triggers; a change instant brings the configuration; density
periods close and are read out. A frame that is due, on a slice whose detectors, density builder and correlator
input are off, moves the slice's grid by H × D and leaves the other slices; one that carries GAP sets RUN of both
triggers to 0 and leaves their state. A frame not due does nothing. At a change instant of a slice that does not
run, and brings EN only, the captured words are in force, GEN counts, CHG_ST is C, nothing waits and the COMMIT
completes. The end of a density period swaps the buffers, begins the readout and carries floor(X (1 - 2^-d)); the
readout's end writes one record and no byte outside the slice's history. -/
def Obligations.SliceFrames : Prop :=
  (∀ (s : State) (n trigIn bad : Nat), n < 9 →
    (s.frameDue n = false → exec (.spectrum n trigIn bad) s = .next s)
    ∧ (s.frameDue n = true → s.slices.length = 9 → s.inf (Fr.DEN_EN n) = 0 → s.inf (Fr.SPX_DET_TRACE_EN n) = 0 →
        s.inf (Fr.SPX_SK_EN n) = 0 → s.xcorBound n = false → (s.trg n 0).swapReq = false → (s.trg n 1).swapReq = false →
        s.jobs = [] →
      Completes (.spectrum n trigIn bad) s (fun t =>
        (t.slice n).next = (s.slice n).next + s.spxH n * s.sliceD n
        ∧ (∀ m, m ≠ n → t.slice m = s.slice m)
        ∧ (bit (s.mkFrame n).flags 3 = true → t.fld (Fr.TRG_RUN n 0) = 0 ∧ t.fld (Fr.TRG_RUN n 1) = 0
            ∧ t.fld (Fr.TRG_KNOWN n 0) = s.fld (Fr.TRG_KNOWN n 0) ∧ t.fld (Fr.TRG_INSIDE n 0) = s.fld (Fr.TRG_INSIDE n 0))
        ∧ (bit (s.mkFrame n).flags 3 = false → ∀ m, m < 2 → t.flag (Fr.TRG_KNOWN n m) = true
            ∧ t.flag (Fr.TRG_INSIDE n m) = (s.judge n m (s.mkFrame n)).inside
            ∧ t.fld (Fr.TRG_RUN n m) = if (s.judge n m (s.mkFrame n)).inside then Nat.min 65535 (s.fld (Fr.TRG_RUN n m) + 1) else 0)
        ∧ t.flag (Fr.SPX_FFT_OVF n) = (s.flag (Fr.SPX_FFT_OVF n) || bit (s.mkFrame n).flags 4)
        ∧ t.trigIn = trigIn
        ∧ s.onlyFields t [Fr.SPX_FFT_OVF n, Fr.TRG_KNOWN n 0, Fr.TRG_INSIDE n 0, Fr.TRG_RUN n 0, Fr.TRG_HOLDING n 0,
            Fr.TRG_KNOWN n 1, Fr.TRG_INSIDE n 1, Fr.TRG_RUN n 1, Fr.TRG_HOLDING n 1]
        ∧ t = { s with
            regs := t.regs
            trigIn := t.trigIn
            slices := t.slices
            counts := t.counts })))
  ∧ (∀ (s : State) (n : Nat), (s.slice n).pend = [] → exec (.spxChangeInstant n) s = .next s)
  ∧ (∀ (s : State) (n : Nat) (c : SpxChange) (w : BitVec 32) (j : Job), n < 9 → s.slices.length = 9 → (s.slice n).pend = [c] → c.cap = [(0x80000 + 0x80000 * n, w)] →
      c.spx = true → c.trg = 0 → c.den = false → c.xbar = none → s.reached n c.at_ = true → s.inf (Fr.SPX_CTL_EN n) = 0 →
      s.streams = [] → (s.slice n).trace.used = 0 → (s.slice n).sk.added = 0 → (s.slice n).den.out = none →
      (s.slice n).den.used = 0 → c.at_ < 2 ^ 64 →
      c.job ≠ 0 → s.job c.job = some j → j.done = none → j.ring < 64 → (∀ m, m < 9 → m ≠ n → (s.slice m).pend = []) → s.attens = [] →
      (∀ x ∈ s.tuners, x.pend = [] ∧ x.queued = none) → (∀ x ∈ s.zooms, x.pend = []) →
    Completes (.spxChangeInstant n) s (fun t => (t.slice n).pend = [] ∧ t.forceReg (0x80000 + 0x80000 * n) = w
      ∧ (∀ a, a ≠ 0x80000 + 0x80000 * n → t.forceReg a = s.forceReg a)
      ∧ t.fld (Fr.SPX_GEN n) = (s.fld (Fr.SPX_GEN n) + 1) % 256 ∧ t.fld (Fr.SPX_CHG_ST n) = c.at_
      ∧ t.flag (Fr.SPX_PENDING n) = false ∧ t.fld (Fr.TRG_KNOWN n 0) = 0 ∧ t.fld (Fr.TRG_KNOWN n 1) = 0
      ∧ (∀ m, m ≠ n → t.slice m = s.slice m)
      ∧ t.jobResult c.job = some (if j.flagged || j.flt ≠ 0 then stFlagged else stDone, j.result, j.extent)
      ∧ t = { s with
          regs := t.regs
          force := t.force
          slices := t.slices
          counts := t.counts
          jobs := t.jobs }))
  ∧ (∀ (s : State) (n : Nat), n < 9 → s.slices.length = 9 →
    ((s.slice n).den.due = true → (s.slice n).den.out = none →
      Completes (.densityPeriodClose n) s (fun t => (t.slice n).den.due = false
        ∧ ((t.slice n).den.out.map (fun o => o.cells)) = some (s.slice n).den.cells
        ∧ (∀ c v, (c, v) ∈ (t.slice n).den.cells → ∃ x, (c, x) ∈ (s.slice n).den.cells
            ∧ v = x * (2 ^ s.inf (Fr.DEN_DECAY n) - 1) / 2 ^ s.inf (Fr.DEN_DECAY n))
        ∧ (s.inf (Fr.DEN_DECAY n) = 0 → (t.slice n).den.cells = [])
        ∧ t.flag (Fr.DEN_READOUT n) = true ∧ t.flag (Fr.DEN_BUF n) = !s.flag (Fr.DEN_BUF n)
        ∧ (∀ m, m ≠ n → t.slice m = s.slice m)
        ∧ s.onlyFields t [Fr.DEN_BUF n, Fr.DEN_READOUT n]
        ∧ t = { s with
            regs := t.regs
            slices := t.slices }))
    ∧ ((s.slice n).den.out = none → exec (.densityReadoutDone n) s = .next s)
    ∧ (∀ o, (s.slice n).den.out = some o → (s.slice n).den.due = false → s.streams = [] →
        s.fld (Fr.HIST_WR_OFS n) < s.inf (Fr.HIST_SIZE_MIB n) * 16384 →
      Completes (.densityReadoutDone n) s (fun t => (t.slice n).den.out = none ∧ t.flag (Fr.DEN_READOUT n) = false
        ∧ t.fld (Fr.DEN_LAST_ST n) = o.first % 2 ^ 64
        ∧ (∀ a, a < (s.histAt n).1 ∨ (s.histAt n).1 + (s.histAt n).2 ≤ a → t.cell a = s.cell a)
        ∧ t = { s with
            regs := t.regs
            slices := t.slices
            hbm := t.hbm
            cores := t.cores
            counts := t.counts })))

/-- A tuner's outputs, blocks, fades, restarts, trigger deliveries and zoom records. An output that is ready, of a
tuner without detector and zoom, advances j; the first S are suppressed, every later one joins the block in
progress as the newest sample. A full block is written inside the tuner's ring and no byte outside it changes, SEQ
counts and the block is empty; a zoom record of T_Z frames likewise goes to the slice's history. The end of a fade
leaves the new bank alone in force. At a restart instant that changes a field of the restart set the tuner starts a
new grid at C_D with output 0, GEN counts and its COMMIT completes. A trigger delivery that has reached its end
stops. Commands whose instant has not come do nothing. -/
def Obligations.TunerOutputs : Prop :=
  ∀ (s : State) (n k : Nat), n < 9 → k < 4 → s.tuners.length = 36 → (nth s.zooms n {}).pend = [] →
    (s.ddcReady n k = false → exec (.ddcOutputSample n k) s = .next s)
    ∧ (s.ddcReady n k = true → (s.ddcCfg n k).thrEn = 0 → s.zoomServes n k = false →
      Completes (.ddcOutputSample n k) s (fun t =>
        (t.tuner n k).j = (s.tuner n k).j + 1
        ∧ (t.tuner n k).blk.data = (if (s.tuner n k).j < (s.tuner n k).s then (s.tuner n k).blk.data
            else (s.ddcCompute n k).1.v :: (s.tuner n k).blk.data)
        ∧ (∀ m q, m < 9 → q < 4 → (m, q) ≠ (n, k) → t.tuner m q = s.tuner m q)
        ∧ s.onlyFields t [Fr.DDC_STAGE_OVF n k, Fr.DDC_RUNNING n k, Fr.DDC_SETTLING n k, Fr.DDC_XFADE n k, Fr.DDC_QUEUED n k]
        ∧ t = { s with
            regs := t.regs
            tuners := t.tuners
            counts := t.counts }))
    ∧ ((s.tuner n k).blk.data.length < 2 ^ (s.ddcCfg n k).l2blk → exec (.ddcBlockWrite n k) s = .next s)
    ∧ (2 ^ (s.ddcCfg n k).l2blk ≤ (s.tuner n k).blk.data.length → s.streams = [] →
        6 * (s.tuner n k).blk.data.length + 128 ≤ s.inf (Fr.DDC_RING_SIZE_MIB n k) * 2 ^ 20 →
        s.fld (Fr.DDC_WR_OFS n k) < s.inf (Fr.DDC_RING_SIZE_MIB n k) * 16384 →
      Completes (.ddcBlockWrite n k) s (fun t => (t.tuner n k).blk = {} ∧ (t.tuner n k).firstBlk = false
        ∧ (t.tuner n k).seq = ((s.tuner n k).seq + 1) % 2 ^ 32
        ∧ (∀ a, a < (s.ddcRingAt n k).1 ∨ (s.ddcRingAt n k).1 + (s.ddcRingAt n k).2 ≤ a → t.cell a = s.cell a)
        ∧ (∀ m q, m < 9 → q < 4 → (m, q) ≠ (n, k) → t.tuner m q = s.tuner m q)
        ∧ t = { s with
            regs := t.regs
            tuners := t.tuners
            hbm := t.hbm }))
    ∧ ((s.tuner n k).fade = none → exec (.xfadeEnd n k) s = .next s)
    ∧ (∀ f, (s.tuner n k).fade = some f → f.len ≤ f.k → f.bank < 2 → (s.tuner n k).queued = none →
      Completes (.xfadeEnd n k) s (fun t => t.fld (Fr.DDC_BANK_NOW n k) = f.bank ∧ t.flag (Fr.DDC_XFADE n k) = false
        ∧ t.tuner n k = { s.tuner n k with fade := none }
        ∧ (∀ m q, m < 9 → q < 4 → (m, q) ≠ (n, k) → t.tuner m q = s.tuner m q)
        ∧ t = { s with
            regs := t.regs
            tuners := t.tuners }))
    ∧ ((s.tuner n k).pend = [] → exec (.ddcRestartInstant n k) s = .next s)
    ∧ (∀ c j, (s.tuner n k).pend = [c] → s.reached n c.at_ = true → s.ddcRuns n k = false → c.cap ≠ [] → c.at_ < 2 ^ 64 →
        (s.ddcCfg n k).restarts (s.ddcCfgOf c.cap n k) = true → s.streams = [] →
        (s.tuner n k).blk.data = [] → (s.zoomTun n k).used = 0 → s.flag (Fr.DDC_ABOVE n k) = false →
        (s.tuner n k).fade = none → (s.tuner n k).fadeAt = none → (s.tuner n k).queued = none →
        c.job ≠ 0 → s.job c.job = some j → j.done = none → j.ring < 64 → s.attens = [] → (∀ x ∈ s.slices, x.pend = []) →
        (∀ x ∈ s.tuners, x.queued = none) →
        (∀ x ∈ s.zooms, x.pend = []) →
        (∀ m, m < 9 → ∀ q, q < 4 → (m, q) ≠ (n, k) → (s.tuner m q).pend = []) →
      Completes (.ddcRestartInstant n k) s (fun t => (t.tuner n k).pend = [] ∧ (t.tuner n k).j = 0 ∧ (t.tuner n k).start = c.at_
        ∧ (t.tuner n k).firstBlk = true ∧ (t.tuner n k).chain = clearedChain
        ∧ t.fld (Fr.DDC_GEN n k) = (s.fld (Fr.DDC_GEN n k) + 1) % 256 ∧ t.fld (Fr.DDC_RESTART_ST n k) = c.at_
        ∧ (∀ m q, m < 9 → q < 4 → (m, q) ≠ (n, k) → t.tuner m q = s.tuner m q)
        ∧ t.jobResult c.job = some (if j.flagged || j.flt ≠ 0 then stFlagged else stDone, j.result, j.extent)
        ∧ t = { s with
            regs := t.regs
            force := t.force
            tuners := t.tuners
            zooms := t.zooms
            jobs := t.jobs }))
    ∧ (∀ id x w, s.stream id = some x → x.window = some w → s.jobs = [] → w.2 ≠ 0 →
        (s.tuner x.slice x.inst).blk.data = [] → w.2 ≤ (s.tuner x.slice x.inst).start →
      Completes (.ddcDeliveryEnd id) s (fun t => t.stream id = some { x with window := none }
        ∧ (∀ i, i ≠ id → t.stream i = s.stream i)
        ∧ t = { s with streams := t.streams }))
    ∧ (s.zoomServes n k = false → exec (.zoomRecord n k) s = .next s)
    ∧ (s.zoomServes n k = true → 0 < (s.zoomTun n k).frames → s.inf (Fr.ZOOM_T_Z n) ≤ (s.zoomTun n k).frames →
        s.zooms.length = 9 → (∀ z ∈ s.zooms, z.tun.length = 4) → s.streams = [] →
        s.fld (Fr.HIST_WR_OFS n) < s.inf (Fr.HIST_SIZE_MIB n) * 16384 → 4 * s.zoomN n + 128 ≤ (s.histAt n).2 →
      Completes (.zoomRecord n k) s (fun t => (t.zoomTun n k).frames = 0 ∧ (t.zoomTun n k).used = 0
        ∧ (t.zoomTun n k).buf = (s.zoomTun n k).buf
        ∧ (∀ a, a < (s.histAt n).1 ∨ (s.histAt n).1 + (s.histAt n).2 ≤ a → t.cell a = s.cell a)
        ∧ t = { s with
            regs := t.regs
            slices := t.slices
            zooms := t.zooms
            hbm := t.hbm
            cores := t.cores
            counts := t.counts }))

/-- The correlator's change instants, integrations, records, payloads and failed halves. At a change instant of an idle
correlator the captured word is in force, GEN counts and the COMMIT completes with the instant as EXTENT. An
integration that ends is closed for its readout, SEQ counts and the next begins at the boundary; the readout's end
writes the record at WR_OFS of the output ring, a full payload of the F-engine goes to the staging ring, and no
byte outside the ring changes. The first half to fail leaves the other to serve: HALVES names it, the integration
carries DEGRADED, a record of KIND 8 with the survivor as spare is created; with the second, correlation stops. -/
def Obligations.Correlator : Prop :=
  ∀ s : State,
    ((∀ c ∈ s.xcor.pend, c.instant = false) → exec .xcorChangeInstant s = .next s)
    ∧ (∀ (c : XChange) (w : BitVec 32) (j : Job), s.xcor.pend = [c] → c.instant = true → c.cap = [(0x580000, w)] →
        s.inf Fr.XCOR_CORR_EN = 0 → s.inf Fr.XCOR_FENG_EN = 0 → s.xcor.out = none → s.xcor.running = false →
        s.xcorChanges c.cap = true → s.xcorInstant c < 2 ^ 64 →
        (∃ n ∈ boundSlices (s.capFld c.cap Fr.XCOR_SRC), s.reached n (s.xcorInstant c) = true) →
        s.job c.job = some j → j.done = none → j.ring < 64 → s.streams = [] →
      Completes .xcorChangeInstant s (fun t => t.xcor.pend = [] ∧ t.forceReg 0x580000 = w
        ∧ t.fld Fr.XCOR_GEN = (s.fld Fr.XCOR_GEN + 1) % 256 ∧ t.xcor.cur.begin_ = s.xcorInstant c ∧ t.xcor.cur.cut = true
        ∧ t.fld Fr.XCOR_INT_ST = s.xcorInstant c ∧ t.flag Fr.XCOR_PENDING = false
        ∧ t.jobResult c.job = some (if j.flt = 0 then stDone else stFlagged, 0, s.xcorInstant c)
        ∧ t = { s with
            regs := t.regs
            force := t.force
            xcor := t.xcor
            capOut := t.capOut
            jobs := t.jobs }))
    ∧ (s.xcor.running = false → exec .integrationBoundary s = .next s)
    ∧ (s.xcor.running = true → s.xcor.out = none → s.xcor.pend = [] → s.xcor.failed = [] → s.xcor.ret = [] → 0 < s.xcor.cur.frames →
        s.xcorPassed (s.xcorEnd s.xcor.cur.begin_) = true → s.xcorEnd s.xcor.cur.begin_ < 2 ^ 64 →
        (∃ n ∈ boundSlices (s.inf Fr.XCOR_SRC), s.reached n (s.xcorEnd s.xcor.cur.begin_) = true) →
      Completes .integrationBoundary s (fun t =>
        t.xcor.out = some (s.xcor.cur.first, s.xcorBytes s.xcor.cur false)
        ∧ t.xcor.seq = (s.xcor.seq + 1) % 2 ^ 32 ∧ t.xcor.cur.begin_ = s.xcorEnd s.xcor.cur.begin_
        ∧ t.xcor.cur.frames = 0 ∧ t.xcor.cur.cut = false ∧ t.fld Fr.XCOR_INT_ST = s.xcorEnd s.xcor.cur.begin_
        ∧ s.onlyFields t [Fr.XCOR_CUT, Fr.XCOR_HALVES, Fr.XCOR_RUNNING, Fr.XCOR_INT_ST, Fr.XCOR_PENDING]
        ∧ t = { s with
            regs := t.regs
            xcor := t.xcor
            capOut := t.capOut }))
    ∧ (s.xcor.out = none → exec .correlatorReadoutDone s = .next s)
    ∧ (∀ r base total, s.xcor.out = some r → base = s.inf Fr.XCOR_OUT_BASE_MIB * 2 ^ 20 → total = s.inf Fr.XCOR_OUT_SIZE_MIB * 16384 →
        s.streams = [] → 0 < r.2.length → s.fld Fr.XCOR_WR_OFS + ceilDiv r.2.length 64 ≤ total → base + total * 64 ≤ s.hbmSize →
        s.hbm.holes = [] →
      Completes .correlatorReadoutDone s (fun t => t.xcor.out = none
        ∧ t.fld Fr.XCOR_WR_OFS = (s.fld Fr.XCOR_WR_OFS + ceilDiv r.2.length 64) % total
        ∧ (∀ i, i < r.2.length → t.cell (base + s.fld Fr.XCOR_WR_OFS * 64 + i) = BitVec.ofNat 8 (nth r.2 i 0))
        ∧ (∀ a, a < base ∨ base + total * 64 ≤ a → t.cell a = s.cell a)
        ∧ t = { s with
            regs := t.regs
            xcor := t.xcor
            hbm := t.hbm }))
    ∧ (∀ i g : Nat, (∀ b ∈ s.xcor.fbufs, b.i ≠ i) → exec (.fPayloadStaged i g) s = .next s)
    ∧ (∀ b base total, s.xcor.fbufs = [b] → 2 ^ s.inf Fr.XCOR_LOG2NSPEC ≤ b.frames → base = s.inf Fr.XCOR_FRING_BASE_MIB * 2 ^ 20 →
        total = s.inf Fr.XCOR_FRING_SIZE_MIB * 16384 → 0 < b.bytes.length → s.fld Fr.XCOR_F_WR_OFS + ceilDiv b.bytes.length 64 ≤ total →
        base + total * 64 ≤ s.hbmSize → s.hbm.holes = [] → s.streams = [] →
      Completes (.fPayloadStaged b.i b.g) s (fun t => t.xcor.fbufs = []
        ∧ t.fld Fr.XCOR_F_WR_OFS = (s.fld Fr.XCOR_F_WR_OFS + ceilDiv b.bytes.length 64) % total
        ∧ (∀ i, i < b.bytes.length → t.cell (base + s.fld Fr.XCOR_F_WR_OFS * 64 + i) = BitVec.ofNat 8 (nth b.bytes i 0))
        ∧ (∀ a, a < base ∨ base + total * 64 ≤ a → t.cell a = s.cell a)
        ∧ t = { s with
            regs := t.regs
            xcor := t.xcor
            hbm := t.hbm
            counts := t.counts }))
    ∧ (∀ h onset : Nat, h < 2 →
      (h ∈ s.xcor.failed → ∀ trip, exec (.correlatorHalfFail h onset trip) s = .next s)
      ∧ ((s.xcor.fails.filter (fun p => p.1 = h)).length < 3 → exec (.correlatorHalfFail h onset false) s = .next s)
      ∧ (s.xcor.failed = [] → s.fld Fr.FLTJNL_LAST_ID + 1 < 2 ^ 32 →
        Completes (.correlatorHalfFail h onset true) s (fun t => t.xcor.failed = [h]
          ∧ t.fld Fr.XCOR_HALVES = (if h = 1 then 1 else 2) ∧ t.xcor.cur.degraded = true ∧ t.xcor.degFrom % 2 = 0
          ∧ (∃ f, t.faults.getLast? = some f ∧ f.kind = 8 ∧ f.index = h ∧ f.spare = 1 - h ∧ f.beyond = false ∧ f.onset = onset)
          ∧ t = { s with
              regs := t.regs
              xcor := t.xcor
              faults := t.faults
              evq := t.evq
              jobs := t.jobs }))
      ∧ (s.xcor.failed = [1 - h] → s.streams = [] → s.fld Fr.FLTJNL_LAST_ID + 1 < 2 ^ 32 →
        Completes (.correlatorHalfFail h onset true) s (fun t => t.xcor.running = false ∧ t.flag Fr.XCOR_RUNNING = false
          ∧ t.fld Fr.XCOR_HALVES = 3 ∧ 9 ∈ t.capOut
          ∧ (∃ f, t.faults.getLast? = some f ∧ f.kind = 8 ∧ f.index = h ∧ f.beyond = true)
          ∧ t = { s with
              regs := t.regs
              xcor := t.xcor
              capOut := t.capOut
              faults := t.faults
              evq := t.evq
              jobs := t.jobs })))

/-- Retraining, refresh, self-refresh and scrubbing of the HBM. Retraining of an active pseudo-channel that is due
starts while no other trains and the ballast is calm: its slot is stalled; not otherwise. A working setting
releases it; a failed one retires it: a spare takes its slot, whose contents read as poison, or, with no spare, the
slot becomes a hole. Self-refresh stalls an idle stack and never a busy one; an access releases it. A word the
scrubber finds uncorrectable outside the ring is poison and sets UE. No byte of memory changes. -/
def Obligations.HbmUpkeep : Prop :=
  ∀ (s : State) (p : Nat) (temp : Int), p < 128 →
    (s.hbm.training.isSome = true ∨ ballastCalm ≤ s.hbm.fill → exec (.retrainingStart p temp) s = .next s)
    ∧ (s.hbm.training = none → s.hbm.recovering = [] → s.hbm.fill < ballastCalm → s.fld (Fr.MEM_PC_STATE p) = pcActive →
        s.fld (Fr.MEM_PC_SLOT p) ≠ 0xFF → s.trainDue p temp = true → s.clk.memPll = none →
      Completes (.retrainingStart p temp) s (fun t => t.fld (Fr.MEM_PC_STATE p) = pcTraining ∧ t.hbm.training = some p
        ∧ s.fld (Fr.MEM_PC_SLOT p) ∈ t.hbm.stalled ∧ (∀ a, t.cell a = s.cell a)
        ∧ s.onlyFields t [Fr.MEM_PC_STATE p]
        ∧ t = { s with
            regs := t.regs
            hbm := t.hbm
            counts := t.counts }))
    ∧ (s.hbm.training = none → ∀ ok, exec (.retrainingDone ok temp) s = .next s)
    ∧ (s.hbm.training = some p → s.clk.memPll = none → s.hbm.stalled = [s.fld (Fr.MEM_PC_SLOT p)] → -128 ≤ temp → temp < 128 →
      Completes (.retrainingDone true temp) s (fun t => t.fld (Fr.MEM_PC_STATE p) = pcActive
        ∧ t.fld (Fr.MEM_PC_TEMP_TRAIN p) = unsigned 8 temp ∧ t.hbm.training = none ∧ t.hbm.stalled = [] ∧ t.hbm.fill = 0
        ∧ (∀ a, t.cell a = s.cell a)
        ∧ s.onlyFields t [Fr.MEM_PC_STATE p, Fr.MEM_PC_TEMP_TRAIN p, Fr.MEM_FILL_KIB, Fr.MEM_PEAK_KIB, Fr.MEM_URGENT]
        ∧ t = { s with
            regs := t.regs
            hbm := t.hbm }))
    ∧ (s.hbm.training = some p → s.fld Fr.FLTJNL_LAST_ID + 1 < 2 ^ 32 → s.fld (Fr.MEM_PC_STATE p) ≠ pcSpare →
      Completes (.retrainingDone false temp) s (fun t => t.hbm.training = none ∧ t.fld (Fr.MEM_PC_SLOT p) = 0xFF
        ∧ (∀ a, s.slotOf a = s.fld (Fr.MEM_PC_SLOT p) → t.isPoison a = true) ∧ (∀ a, t.cell a = s.cell a)
        ∧ (∃ f, t.faults.getLast? = some f ∧ f.kind = 4 ∧ f.index = p ∧ f.beyond = (s.spareFor p).isNone)
        ∧ (s.spareFor p = none → t.fld (Fr.MEM_PC_STATE p) = pcFailed ∧ t.flag Fr.MEM_HOLED = true)
        ∧ (∀ q, s.spareFor p = some q → t.fld (Fr.MEM_PC_STATE p) = pcRetired ∧ t.fld (Fr.MEM_PC_STATE q) = pcActive
            ∧ t.fld (Fr.MEM_PC_SLOT q) = s.fld (Fr.MEM_PC_SLOT p) ∧ t.flag Fr.MEM_RETIRED = true
            ∧ t.fld Fr.MEM_SPARES = s.fld Fr.MEM_SPARES - 1)
        ∧ t = { s with
            regs := t.regs
            hbm := t.hbm
            evq := t.evq
            faults := t.faults
            jobs := t.jobs }))
    ∧ Completes (.forcedRefresh p) s (fun t => t = { s with counts := t.counts }
        ∧ (s.fld (Fr.MEM_PC_STATE p) ≠ pcActive → t = s))
    ∧ (∀ k, k < 4 → s.hbmBusy = true → exec (.selfRefreshEntry k) s = .next s)
    ∧ (∀ k, k < 4 → s.hbmBusy = false → s.hbm.training = none → s.hbm.recovering = [] →
      Completes (.selfRefreshEntry k) s (fun t =>
        (∀ q, q < 128 → t.fld (Fr.MEM_PC_STATE q) = if q / 32 = k ∧ s.fld (Fr.MEM_PC_STATE q) = pcActive
            ∧ s.fld (Fr.MEM_PC_SLOT q) ≠ 0xFF then pcSelfRefresh else s.fld (Fr.MEM_PC_STATE q))
        ∧ (∀ q ∈ s.stackPcs k pcActive, s.fld (Fr.MEM_PC_SLOT q) ∈ t.hbm.stalled) ∧ (∀ a, t.cell a = s.cell a)
        ∧ t = { s with
            regs := t.regs
            hbm := t.hbm }))
    ∧ (∀ k, k < 4 → s.clk.memPll = none →
      Completes (.selfRefreshExit k) s (fun t =>
        (∀ q, q < 128 → t.fld (Fr.MEM_PC_STATE q) = if q / 32 = k ∧ s.fld (Fr.MEM_PC_STATE q) = pcSelfRefresh
            ∧ s.fld (Fr.MEM_PC_SLOT q) ≠ 0xFF then pcActive else s.fld (Fr.MEM_PC_STATE q))
        ∧ (∀ q ∈ s.stackPcs k pcSelfRefresh, s.fld (Fr.MEM_PC_SLOT q) ∉ t.hbm.stalled) ∧ (∀ a, t.cell a = s.cell a)
        ∧ t = { s with
            regs := t.regs
            hbm := t.hbm }))
    ∧ (∀ ces ues, s.fld Fr.MEM_SCRUB_H = 0 → exec (.patrolScrub ces ues) s = .next s)
    ∧ (∀ a q, s.fld Fr.MEM_SCRUB_H ≠ 0 → s.ringBytes ≤ a → a < s.hbmSize → s.pcOfSlot (s.slotOf (a / 32 * 32)) = some q →
      Completes (.patrolScrub [] [a]) s (fun t => t.flag Fr.MEM_UE = true
        ∧ (∀ i, i < 32 → t.isPoison (a / 32 * 32 + i) = true) ∧ (∀ b, t.cell b = s.cell b)
        ∧ s.onlyFields t [Fr.MEM_UE, Fr.HIF_EVSEQ_NEXT]
        ∧ t = { s with
            regs := t.regs
            hbm := t.hbm
            counts := t.counts
            evq := t.evq }))

/-- A stack's recovery, a spare's fill and the end of a RESTRIPE. A failing stack is stalled whole and its channels
retrain; when all of them train it goes on with a MEMORY event and no byte changed; one in recovery is not reset
again. The end of a spare's fill makes it available and posts cause 8. At the end of a RESTRIPE GRAIN, HASH, the
ring's size and the system area's base follow its parameter word, N_ACT counts the healthy channels less the
spares, every byte reads 0 and none is poison, no granule is held, the ring runs again, and the job completes DONE
with a MEMORY event of cause 7. -/
def Obligations.HbmRecovery : Prop :=
  ∀ s : State,
    (∀ k, k < 4 →
      (k ∈ s.hbm.recovering → exec (.stackRecovery k) s = .next s)
      ∧ (k ∉ s.hbm.recovering → Completes (.stackRecovery k) s (fun t => k ∈ t.hbm.recovering
        ∧ (∀ p, p / 32 = k → p < 128 → s.fld (Fr.MEM_PC_STATE p) = pcActive → s.fld (Fr.MEM_PC_SLOT p) ≠ 0xFF →
            t.fld (Fr.MEM_PC_STATE p) = pcTraining ∧ s.fld (Fr.MEM_PC_SLOT p) ∈ t.hbm.stalled)
        ∧ (∀ p, p / 32 ≠ k → p < 128 → t.fld (Fr.MEM_PC_STATE p) = s.fld (Fr.MEM_PC_STATE p))
        ∧ (∀ a, t.cell a = s.cell a)
        ∧ t = { s with
            regs := t.regs
            hbm := t.hbm }))
      ∧ (k ∉ s.hbm.recovering → ∀ failed, exec (.stackRecovered k failed) s = .next s)
      ∧ (k ∈ s.hbm.recovering → s.clk.memPll = none → s.stackPcs k pcTraining ≠ [] →
        Completes (.stackRecovered k []) s (fun t => k ∉ t.hbm.recovering ∧ s.oneEvent t 7 4
          ∧ (∀ p ∈ s.stackPcs k pcTraining, t.fld (Fr.MEM_PC_STATE p) = pcActive ∧ s.fld (Fr.MEM_PC_SLOT p) ∉ t.hbm.stalled)
          ∧ (∀ a, t.cell a = s.cell a)
          ∧ t = { s with
              regs := t.regs
              hbm := t.hbm
              evq := t.evq })))
    ∧ (∀ p, p < 128 →
      (s.fld (Fr.MEM_PC_STATE p) ≠ pcFilling → exec (.spareReady p) s = .next s)
      ∧ (s.fld (Fr.MEM_PC_STATE p) = pcFilling → s.fld Fr.MEM_SPARES < 15 →
        Completes (.spareReady p) s (fun t => t.fld (Fr.MEM_PC_STATE p) = pcSpare
          ∧ t.fld Fr.MEM_SPARES = s.fld Fr.MEM_SPARES + 1 ∧ s.oneEvent t 7 8
          ∧ s.onlyFields t [Fr.MEM_PC_STATE p, Fr.MEM_SPARES, Fr.HIF_EVSEQ_NEXT]
          ∧ t = { s with
              regs := t.regs
              evq := t.evq })))
    ∧ (s.hbm.restripe = none → exec .restripeDone s = .next s)
    ∧ (∀ id d j, s.hbm.restripe = some (id, d) → s.job id = some j → j.done = none → j.ring < 64 →
        restripeSpares d ≤ s.healthyPcs.length → restripeGrain d ≤ 4 →
      Completes .restripeDone s (fun t => t.hbm.restripe = none ∧ t.hbm.ringOn = true
        ∧ t.fld Fr.MEM_GRAIN = restripeGrain d ∧ t.fld Fr.MEM_HASH = restripeHash d ∧ t.fld Fr.MEM_RING_GIB = restripeRing d
        ∧ t.fld Fr.MEM_N_ACT = s.healthyPcs.length - restripeSpares d
        ∧ t.fld Fr.MEM_SYS_BASE_MIB = (s.restripeSys d / 2 ^ 20) % 2 ^ 16
        ∧ (∀ a, t.cell a = 0#8 ∧ t.isPoison a = false) ∧ t.hbm.gran = [] ∧ t.hbm.losses = [] ∧ s.oneEvent t 7 7
        ∧ t.jobResult id = some (if j.flt = 0 then stDone else stFlagged, 0, 0)
        ∧ t = { s with
            regs := t.regs
            hbm := t.hbm
            slices := t.slices
            tuners := t.tuners
            xcor := t.xcor
            evq := t.evq
            jobs := t.jobs
            smp := t.smp }))

/-- Bursts of a DMA channel: start, completion, retry, halt and the end of the transfer. On a running channel the next
burst of a paced transfer starts and joins those in flight. The oldest in flight completes: its bytes of HBM go to
host memory and DONE_BYTES counts them; a source word that is poison ends the transfer with ERROR_MEDIA, error 6
and the bytes before it as EXTENT. A failed burst is retried while its retries last and RETRIES counts; the next
failure halts the channel, and with nothing in flight ends the transfer. Once every burst has completed the
transfer ends: its MOVE completes DONE with the whole length. -/
def Obligations.DmaBursts : Prop :=
  ∀ (s : State) (ch : Nat) (x : Xfer) (id : Nat), ch < 32 → s.chans.length = 32 → s.chan ch = ⟨some x, []⟩ → x.owner = XOwner.move id →
    (s.fld (Fr.DMA_CH_STATE ch) ≠ chRunning → exec (.dmaBurstStart ch) s = .next s)
    ∧ (s.fld (Fr.DMA_CH_STATE ch) = chRunning → x.fail = none → x.issued < x.bursts → (∀ u, x.starts[15]? = some u → u + x.gap ≤ s.samp) →
      Completes (.dmaBurstStart ch) s (fun t => t.chan ch = ⟨some { x with
            issued := x.issued + 1
            flight := x.flight ++ [x.issued]
            starts := (s.samp :: x.starts).take 16 }, []⟩
        ∧ (∀ c, c ≠ ch → t.chan c = s.chan c) ∧ t = { s with chans := t.chans }))
    ∧ (x.flight = [] → ∀ ues, exec (.dmaBurstDone ch ues) s = .next s)
    ∧ (∀ k rest bs, x.flight = k :: rest → x.srcSpace = spHbm → x.dstSpace = spHost → x.irqHalf = false → x.fail = none →
        s.hbmBytes (x.src + k * burstBytes x.burst) (x.burstLen k) = bs.map some →
        s.fld (Fr.DMA_CH_DONE_BYTES ch) + bs.length < 2 ^ 32 →
      Completes (.dmaBurstDone ch []) s (fun t => t.chan ch = ⟨some { x with flight := rest }, []⟩
        ∧ t.out = s.out ++ [Out.hostWrite (x.dst + k * burstBytes x.burst) bs]
        ∧ t.fld (Fr.DMA_CH_DONE_BYTES ch) = s.fld (Fr.DMA_CH_DONE_BYTES ch) + bs.length
        ∧ (∀ c, c ≠ ch → t.chan c = s.chan c) ∧ s.onlyFields t [Fr.DMA_CH_DONE_BYTES ch]
        ∧ t = { s with
            regs := t.regs
            chans := t.chans
            counts := t.counts
            jobs := t.jobs
            out := t.out }))
    ∧ (∀ k rest j, x.flight = k :: rest → x.srcSpace = spHbm →
        none ∈ s.hbmBytes (x.src + k * burstBytes x.burst) (x.burstLen k) → s.job id = some j → j.done = none → j.ring < 64 →
      Completes (.dmaBurstDone ch []) s (fun t => (t.chan ch).cur = none
        ∧ t.jobResult id = some (stErrMedia, Nat.min x.retries 255 + 256 * 6 + 65536 * ch, k * burstBytes x.burst)
        ∧ t.fld (Fr.DMA_CH_STATE ch) = chIdle ∧ t.fld (Fr.DMA_CH_LAST_ERR ch) = 6
        ∧ t = { s with
            regs := t.regs
            chans := t.chans
            jobs := t.jobs }))
    ∧ (∀ k err, k ∉ x.flight ∨ err = 0 ∨ err = 6 ∨ 7 < err → exec (.dmaBurstRetry ch k err) s = .next s)
    ∧ (∀ k err, k ∈ x.flight → 1 ≤ err → err ≤ 7 → err ≠ 6 → x.fail = none →
      (((x.tries.find? (fun p => p.1 = k)).map (·.2)).getD 0 < x.retry →
        Completes (.dmaBurstRetry ch k err) s (fun t =>
          ((t.chan ch).cur.map (fun y => (y.flight, y.retries, y.lastErr, y.fail))) = some (x.flight, x.retries + 1, err, none)
          ∧ t.fld (Fr.DMA_CH_LAST_ERR ch) = err ∧ t.fld (Fr.DMA_CH_RETRIES ch) = Nat.min 255 (x.retries + 1)
          ∧ (∀ c, c ≠ ch → t.chan c = s.chan c) ∧ s.onlyFields t [Fr.DMA_CH_LAST_ERR ch, Fr.DMA_CH_RETRIES ch]
          ∧ t = { s with
              regs := t.regs
              chans := t.chans
              counts := t.counts }))
      ∧ (x.retry ≤ ((x.tries.find? (fun p => p.1 = k)).map (·.2)).getD 0 → (∃ m ∈ x.flight, m ≠ k) →
        Completes (.dmaBurstRetry ch k err) s (fun t => t.fld (Fr.DMA_CH_STATE ch) = chHalted
          ∧ ((t.chan ch).cur.map (fun y => (y.flight, y.fail))) = some (x.flight.filter (· ≠ k), some k)
          ∧ bit (t.fld Fr.DMA_HALTED) ch = true
          ∧ t = { s with
              regs := t.regs
              chans := t.chans
              counts := t.counts }))
      ∧ (∀ j, x.retry ≤ ((x.tries.find? (fun p => p.1 = k)).map (·.2)).getD 0 → x.flight = [k] → s.job id = some j → j.done = none →
          j.ring < 64 → x.srcSpace = spHbm → k + 1 < x.bursts →
        Completes (.dmaBurstRetry ch k err) s (fun t => (t.chan ch).cur = none ∧ t.fld (Fr.DMA_CH_STATE ch) = chIdle
          ∧ t.jobResult id = some (stErrBus, Nat.min x.retries 255 + 256 * err + 65536 * ch, k * burstBytes x.burst)
          ∧ t = { s with
              regs := t.regs
              chans := t.chans
              counts := t.counts
              jobs := t.jobs })))
    ∧ (x.issued ≠ x.bursts → exec (.dmaTransferDone ch) s = .next s)
    ∧ (∀ j, x.issued = x.bursts → x.flight = [] → x.fail = none → s.job id = some j → j.done = none → j.ring < 64 → x.irqFull = false →
      Completes (.dmaTransferDone ch) s (fun t => (t.chan ch).cur = none ∧ t.fld (Fr.DMA_CH_STATE ch) = chIdle
        ∧ t.jobResult id = some (if j.flt = 0 then stDone else stFlagged,
            Nat.min x.retries 255 + 256 * x.lastErr + 65536 * ch, x.length)
        ∧ (∀ c, c ≠ ch → t.chan c = s.chan c)
        ∧ t = { s with
            regs := t.regs
            chans := t.chans
            jobs := t.jobs }))

/-- Ethernet ports: address requests, configuration, failure and return. A request for an address of a port that is up
is answered by one packet of that port, any other is not. A write of a port's register is discarded with CFG_BAD
while the port carries a stream, else it takes the writable bits. A port up for 1 s shows it and posts a LINK
event. A port that fails shows it and posts one; in FAILOVER mode the standby takes its stream, nothing is shed,
and a record of KIND 6 names it as spare. -/
def Obligations.NetworkPorts : Prop :=
  ∀ (s : State) (p : Nat), p < 2 → s.ptpUsed = false →
    (∀ v6 target mac ip, (if v6 = true then s.portIpv6 p else s.fld (Fr.NET_PORT_IPV4 p)) ≠ target ∨ s.fld (Fr.NET_PORT_STATE p) ≠ 1 →
      exec (.arpRequest p v6 target mac ip) s = .next s)
    ∧ (∀ v6 target mac ip, (if v6 = true then s.portIpv6 p else s.fld (Fr.NET_PORT_IPV4 p)) = target → target ≠ 0 → s.fld (Fr.NET_PORT_STATE p) = 1 →
      Completes (.arpRequest p v6 target mac ip) s (fun t =>
        (∃ bytes, t.out = s.out ++ [Out.packet p [s.fld (Fr.NET_PORT_MAC p), mac, 0, b2n v6, target, ip, 0, 0, 0] bytes])
        ∧ t = { s with out := t.out }))
    ∧ (∀ o v, o ≤ 0x24 → o % 4 = 0 → s.fld Fr.NET_MODE = 0 →
      ((∃ x ∈ s.streams, x.dest = 0 ∧ x.port = p) → ∀ r, regRow (0x780100 + 0x80 * p + o) = some r → r.rw ≠ 0 →
        Completes (.netCfgWrite (0x780100 + 0x80 * p + o) v) s (fun t => t.flag Fr.NET_CFG_BAD = true
          ∧ s.onlyFields t [Fr.NET_CFG_BAD] ∧ t = { s with regs := t.regs }))
      ∧ ((∀ x ∈ s.streams, x.dest ≠ 0 ∨ x.port ≠ p) → ∀ r, regRow (0x780100 + 0x80 * p + o) = some r → r.rw ≠ 0 →
        Completes (.netCfgWrite (0x780100 + 0x80 * p + o) v) s (fun t =>
          t.reg (0x780100 + 0x80 * p + o) = writeMasked r (s.reg (0x780100 + 0x80 * p + o)) (BitVec.ofNat 32 v)
          ∧ s.onlyWords t [0x780100 + 0x80 * p + o] ∧ t = { s with regs := t.regs })))
    ∧ (s.fld (Fr.NET_PORT_STATE p) = 1 → exec (.ethUp p) s = .next s)
    ∧ (s.fld (Fr.NET_PORT_STATE p) ≠ 1 →
      Completes (.ethUp p) s (fun t => t.fld (Fr.NET_PORT_STATE p) = 1 ∧ t.flag (Fr.NET_PORT_FEC_LOCK p) = true
        ∧ s.oneEvent t 8 0x11 ∧ (6 + p) ∉ t.capOut
        ∧ s.onlyFields t [Fr.NET_PORT_STATE p, Fr.NET_PORT_FEC_LOCK p, Fr.HIF_EVSEQ_NEXT]
        ∧ t = { s with
            regs := t.regs
            capOut := t.capOut
            evq := t.evq }))
    ∧ (∀ onset, s.fld (Fr.NET_PORT_STATE p) ≠ 1 → exec (.ethPortFailure p onset) s = .next s)
    ∧ (∀ onset x, s.fld (Fr.NET_PORT_STATE p) = 1 → s.fld (Fr.NET_PORT_STATE (1 - p)) = 1 → s.fld Fr.NET_MODE = 1 →
        s.fld Fr.NET_ACTIVE = p → s.streams = [x] → x.dest = 0 → x.port = p → x.log = [] → s.fld Fr.FLTJNL_LAST_ID + 1 < 2 ^ 32 →
      Completes (.ethPortFailure p onset) s (fun t => t.fld (Fr.NET_PORT_STATE p) = 2 ∧ t.fld Fr.NET_ACTIVE = 1 - p
        ∧ t.streams = [{ x with port := 1 - p }] ∧ (6 + p) ∈ t.capOut
        ∧ (∃ f, t.faults.getLast? = some f ∧ f.kind = 6 ∧ f.index = p ∧ f.spare = 1 - p ∧ f.beyond = false ∧ f.onset = onset)
        ∧ (∀ id st, s.jobDone id st → t.jobDone id st) ∧ (∀ id, s.jobRuns id → t.jobRuns id)
        ∧ t = { s with
            regs := t.regs
            capOut := t.capOut
            streams := t.streams
            faults := t.faults
            jobs := t.jobs
            evq := t.evq }))

/-- Packets of a stream: data, context pairs, keepalives and host-memory records. A stream whose payload is full and
for which no context pair is due sends one data packet: 44 bytes more than its payload, crust equal to heel, and
the tether counter advances. When CTX_PERIOD has run out it sends a pair of 92 and 60 bytes and counts no data
packet. With nothing sent for ALIVE ms and nothing waiting it sends a data packet without samples. A host-memory
stream writes the record that has waited longest, then WR_OFS, then LOST, where it fits before RD_OFS; else it
waits. No other stream changes. -/
def Obligations.StreamPackets : Prop :=
  ∀ (s : State) (id : Nat) (x : Stream), s.stream id = some x →
    (x.dest = 1 → exec (.dataPacket id) s = .next s ∧ exec (.contextPair id) s = .next s ∧ exec (.keepalive id) s = .next s)
    ∧ (x.dest = 0 → s.maySend = true →
      (x.payload false = none → exec (.dataPacket id) s = .next s)
      ∧ (∀ p, x.payload false = some p → s.pairDue x p = false → s.pairOld x = false →
        Completes (.dataPacket id) s (fun t =>
          (∃ b, t.out = s.out ++ [Out.packet x.port (s.netOf x x.port) b] ∧ b.length = p.bytes.length + 44
            ∧ (b.drop 28).take 4 = (b.drop (b.length - 8)).take 4 ∧ (b.drop 36).take p.bytes.length = p.bytes)
          ∧ ((t.stream id).map (fun y => (y.queue, y.pos, y.sent, y.pkts))) = some (p.queue, p.pos, x.sent + 1, x.pkts + 1)
          ∧ (∀ i, i ≠ id → t.stream i = s.stream i)
          ∧ t = { s with
              out := t.out
              streams := t.streams
              counts := t.counts }))
      ∧ (s.pairOld x = false → x.payload false = none → exec (.contextPair id) s = .next s)
      ∧ (x.payload false = none → s.pairOld x = true →
        Completes (.contextPair id) s (fun t =>
          (∃ a b, t.out = s.out ++ [Out.packet x.port (s.netOf x x.port) a, Out.packet x.port (s.netOf x x.port) b]
            ∧ a.length = 92 ∧ b.length = 60)
          ∧ ((t.stream id).map (fun y => (y.queue, y.sent, y.pkts, y.ctxAt, y.ctxDue, y.ovr)))
              = some (x.queue, x.sent, x.pkts + 2, s.samp, false, 0)
          ∧ (∀ i, i ≠ id → t.stream i = s.stream i)
          ∧ t = { s with
              out := t.out
              streams := t.streams
              counts := t.counts }))
      ∧ (s.samp < x.dataAt + s.samplesOfNs (1000000 * x.alive) → exec (.keepalive id) s = .next s)
      ∧ (x.dataAt + s.samplesOfNs (1000000 * x.alive) ≤ s.samp → x.queue = [] → x.pairs = false ∨ x.ctxDue = false →
        Completes (.keepalive id) s (fun t =>
          (∃ b, t.out = s.out ++ [Out.packet x.port (s.netOf x x.port) b] ∧ b.length = 44)
          ∧ ((t.stream id).map (fun y => (y.sent, y.pkts, y.dataAt))) = some (x.sent + 1, x.pkts + 1, s.samp)
          ∧ (∀ i, i ≠ id → t.stream i = s.stream i)
          ∧ t = { s with
              out := t.out
              streams := t.streams
              counts := t.counts })))
    ∧ (∀ rd, x.dest = 1 → s.flag Fr.HIF_LINK_UP = false ∨ x.queue = [] → exec (.hostStreamRecordWrite id rd) s = .next s)
    ∧ (∀ rd i q, x.dest = 1 → s.flag Fr.HIF_LINK_UP = true → x.queue = i :: q →
        x.wrOfs + ceilDiv i.bytes.length 64 * 64 ≤ x.hostBytes → ceilDiv i.bytes.length 64 * 64 + 64 ≤ x.hostBytes →
      (x.wrOfs ≠ rd → hostRoom x.hostBytes x.wrOfs rd < ceilDiv i.bytes.length 64 * 64 →
        Completes (.hostStreamRecordWrite id rd) s (fun t => t.out = s.out ∧ (t.stream id) = some { x with rdOfs := rd }
          ∧ (∀ k, k ≠ id → t.stream k = s.stream k) ∧ t = { s with streams := t.streams }))
      ∧ (x.wrOfs = rd ∨ ceilDiv i.bytes.length 64 * 64 ≤ hostRoom x.hostBytes x.wrOfs rd →
        Completes (.hostStreamRecordWrite id rd) s (fun t =>
          let w := (x.wrOfs + ceilDiv i.bytes.length 64 * 64) % x.hostBytes
          t.out = s.out ++ [Out.hostWrite (x.hostAddr + 64 + x.wrOfs) (padTo (ceilDiv i.bytes.length 64 * 64) i.bytes),
            Out.hostWrite x.hostAddr (le 8 w), Out.hostWrite (x.hostAddr + 16) (le 8 x.lost)]
          ∧ (t.stream id) = some { x with
              queue := q
              wrOfs := w
              rdOfs := rd
              sent := x.sent + 1 }
          ∧ (∀ k, k ≠ id → t.stream k = s.stream k)
          ∧ t = { s with
              out := t.out
              streams := t.streams })))

/-- Segments, checkpoints and NVMe completions of a recording, and the record port's link. A full data area is closed
by a checkpoint, its index and its footer, then Flush, and the recording goes on in the next segment, or is issued
its end where there is none. A checkpoint that is due is written and flushed, one not due is not. A Write that
succeeds is outstanding no longer and EXTENT follows the durable chunks; a retryable failure is tried again three
times; another failure fails the namespace and ends the recording MEDIA. When the link comes up namespaces show
READY where their format serves; when it is lost every recording is shed. -/
def Obligations.Recordings : Prop :=
  (∀ (s : State) (r : Rec), s.recs = [r] → r.signed = false → r.begun = true → r.ended = none →
    (r.need = 0 → exec (.segmentEnd r.id) s = .next s)
    ∧ (r.need ≠ 0 → s.segEnd r (r.seg + 1) = none →
      Completes (.segmentEnd r.id) s (fun t =>
        (∃ y, t.recs = [y] ∧ y.seg = r.seg + 1 ∧ y.begun = false ∧ y.ofs = 0 ∧ y.need = 0 ∧ y.cseq = r.cseq + 1
          ∧ y.prevH = r.chain ∧ y.chain = r.chain ∧ y.ckpt = s.samp ∧ y.flushes = r.flushes ++ r.spaces
          ∧ y.writes.length = r.writes.length + 3 ∧ y.ended = none)
        ∧ t = { s with
            recs := t.recs
            out := t.out
            counts := t.counts }))
    ∧ (∀ c, r.need ≠ 0 → s.segEnd r (r.seg + 1) = some c →
      Completes (.segmentEnd r.id) s (fun t =>
        (∃ y, t.recs = [y] ∧ y.ended = some (c, stFlagged, 0) ∧ y.cseq = r.cseq + 1)
        ∧ t = { s with
            recs := t.recs
            out := t.out
            counts := t.counts }))
    ∧ (s.samp < r.ckpt + s.samplesOfNs (1000000 * r.ckptMs) → exec (.checkpoint r.id) s = .next s)
    ∧ (r.ckpt + s.samplesOfNs (1000000 * r.ckptMs) ≤ s.samp → r.need = 0 → r.fits (r.ckptLen - 32) = true →
      Completes (.checkpoint r.id) s (fun t =>
        (∃ y, t.recs = [y] ∧ y.cseq = r.cseq + 1 ∧ y.ckpt = s.samp ∧ y.chain = r.chain ∧ y.seg = r.seg
          ∧ y.ofs = r.ofs + r.ckptLen ∧ y.flushes = r.flushes ++ r.spaces)
        ∧ t = { s with
            recs := t.recs
            out := t.out
            counts := t.counts }))
    ∧ (∀ ns q rest, bit r.mask ns = true → r.writes = (ns, some q) :: rest → s.flag (Fr.REC_NS_VWC ns) = false →
      Completes (.nvmeCompletion ns false 0) s (fun t => t.recs = [{ r with
            writes := rest
            tries := r.tries.filter (fun p => p.1 ≠ ns) }]
        ∧ (∀ j, s.job r.job = some j → j.done = none → ∃ k, t.job r.job = some { j with extent := k }
            ∧ k = (rest.filterMap (·.2) ++ r.held.map (·.2)).foldl Nat.min r.cseq)
        ∧ t = { s with
            recs := t.recs
            jobs := t.jobs }))
    ∧ (∀ ns q rest, bit r.mask ns = true → r.writes = (ns, q) :: rest →
        (((r.tries.find? (fun p => p.1 = ns)).map (·.2)).getD 0 < 3 →
          Completes (.nvmeCompletion ns false 1) s (fun t =>
            (∃ y, t.recs = [y] ∧ y.writes = r.writes ∧ y.ended = none
              ∧ y.tries.find? (fun p => p.1 = ns) = some (ns, ((r.tries.find? (fun p => p.1 = ns)).map (·.2)).getD 0 + 1))
            ∧ t.out = s.out ++ [Out.nvmeRetry ns false]
            ∧ t = { s with
                recs := t.recs
                out := t.out
                counts := t.counts }))
        ∧ (∀ j st, 2 ≤ st → ns < 8 → s.streams = [] → s.job r.job = some j → j.done = none → j.ring < 64 → s.fld Fr.FLTJNL_LAST_ID + 1 < 2 ^ 32 →
          Completes (.nvmeCompletion ns false st) s (fun t => t.recs = [] ∧ t.fld (Fr.REC_NS_STATE ns) = 3 ∧ t.flag Fr.REC_NS_FAIL = true
            ∧ t.jobResult r.job = some (stErrMedia, 3, r.durable)
            ∧ (∃ f, t.faults.getLast? = some f ∧ f.kind = 9 ∧ f.index = 1 + ns)
            ∧ t = { s with
                regs := t.regs
                recs := []
                jobs := t.jobs
                faults := t.faults
                evq := t.evq
                counts := t.counts })))
    ∧ (∀ onset j, s.flag Fr.REC_LINK_UP = true → s.streams = [] → s.job r.job = some j → j.done = none → j.ring < 64 → s.fld Fr.FLTJNL_LAST_ID + 1 < 2 ^ 32 →
      Completes (.recDown onset) s (fun t => t.flag Fr.REC_LINK_UP = false ∧ t.recs = [] ∧ t.jobResult r.job = some (stShed, 0, r.durable)
        ∧ (∀ k, k < 8 → t.fld (Fr.REC_NS_STATE k) = 0) ∧ t.fld Fr.REC_OPEN = 0 ∧ t.fld Fr.REC_NS_READY = 0 ∧ 8 ∈ t.capOut
        ∧ (∃ f, t.faults.getLast? = some f ∧ f.kind = 9 ∧ f.index = 0 ∧ f.onset = onset)
        ∧ t = { s with
            regs := t.regs
            recs := []
            jobs := t.jobs
            faults := t.faults
            capOut := t.capOut
            evq := t.evq
            counts := t.counts })))
  ∧ (∀ (s : State) (width speed onset : Nat) (found : List (List Nat)),
    (s.flag Fr.REC_LINK_UP = true ∨ width = 0 → exec (.recordPortLinkUp width speed found) s = .next s)
    ∧ (s.flag Fr.REC_LINK_UP = false → exec (.recDown onset) s = .next s)
    ∧ (s.flag Fr.REC_LINK_UP = false → 0 < width → width < 16 → speed < 8 →
      Completes (.recordPortLinkUp width speed found) s (fun t => t.flag Fr.REC_LINK_UP = true ∧ t.fld Fr.REC_WIDTH = width
        ∧ t.fld Fr.REC_SPEED = speed ∧ 8 ∉ t.capOut
        ∧ (∀ k, k < 8 → t.fld (Fr.REC_NS_STATE k) = match found[k]? with
            | none => 0
            | some l => if ((nsInfo l).lba = 512 ∨ (nsInfo l).lba = 4096) ∧ (nsInfo l).meta_ = false ∧ 16 ≤ (nsInfo l).mdts then 1 else 4)
        ∧ t.evq.length = s.evq.length + 1 + Nat.min 8 found.length
        ∧ t = { s with
            regs := t.regs
            capOut := t.capOut
            evq := t.evq })))

/-- Doorbells, held events and interrupt vectors. A valid submission doorbell moves the tail and starts a halted ring;
any other is discarded with DB_BAD. A valid completion doorbell moves the head and retires the jobs whose entries
it passes, no others; the event doorbell moves the event head. EVENT_POST writes the oldest held event where the
ring has room, else a new event enters the log. A coalescing timeout fires the vector of its ring and restarts
count and timer; merged triggers make one message when the interval ends. -/
def Obligations.RingDoorbells : Prop :=
  ∀ s : State,
    (∀ func i idx, s.globalSq func i = none → exec (.submissionDoorbell func i idx) s = .next s)
    ∧ (∀ func i idx r, s.globalSq func i = some r → idx < 2 ^ 17 →
      (s.sqDoorbellOk r idx = true → Completes (.submissionDoorbell func i idx) s (fun t => t.fld (Fr.SQ_TAIL r) = idx
        ∧ t.fld (Fr.SQ_STATE r) = (if s.fld (Fr.SQ_STATE r) = 2 then 1 else s.fld (Fr.SQ_STATE r))
        ∧ s.onlyFields t [Fr.SQ_TAIL r, Fr.SQ_STATE r] ∧ t = { s with regs := t.regs }))
      ∧ (s.sqDoorbellOk r idx = false → Completes (.submissionDoorbell func i idx) s (fun t => t.flag (Fr.SQ_DB_BAD r) = true
        ∧ t.flag Fr.HIF_DB_BAD = true ∧ s.onlyFields t [Fr.SQ_DB_BAD r, Fr.HIF_DB_BAD] ∧ t = { s with regs := t.regs })))
    ∧ (∀ func i idx, s.globalCq func i = none → exec (.completionDoorbell func i idx) s = .next s)
    ∧ (∀ func i idx q, s.globalCq func i = some q → idx < 2 ^ 17 →
      let k := s.fld (Fr.CQ_LOG2SIZE q)
      let head := s.fld (Fr.CQ_HEAD q)
      let ok := s.flag (Fr.CQ_EN q) && !s.ringBlocked 7 q && headOk k head (s.fld (Fr.CQ_TAIL q)) idx
      let passed (j : Job) : Prop := j.posted = true ∧ j.cq = q ∧ ringDist k head j.cqIdx < ringDist k head idx
      (ok = true → Completes (.completionDoorbell func i idx) s (fun t => t.fld (Fr.CQ_HEAD q) = idx
        ∧ (∀ j, j ∈ t.jobs ↔ j ∈ s.jobs ∧ ¬ passed j)
        ∧ (t.jobs.length < 2 ^ 15 → t.fld Fr.FLTJNL_OPEN_JOBS = t.jobs.length)
        ∧ (∀ r ∈ t.journal, r ∈ s.journal)
        ∧ (∀ r ∈ s.journal, r.kind ≠ 6 → (∀ j ∈ s.jobs, j.id = r.job → ¬ passed j) → r ∈ t.journal)
        ∧ s.onlyFields t [Fr.CQ_HEAD q, Fr.FLTJNL_OPEN_JOBS]
        ∧ t = { s with
            regs := t.regs
            jobs := t.jobs
            journal := t.journal }))
      ∧ (ok = false → Completes (.completionDoorbell func i idx) s (fun t => t.flag Fr.HIF_DB_BAD = true
        ∧ s.onlyFields t [Fr.HIF_DB_BAD] ∧ t = { s with regs := t.regs })))
    ∧ (∀ idx, idx < 2 ^ 17 →
      let ok := s.flag Fr.HIF_EV_EN && !s.ringBlocked 8 0
        && headOk (s.fld Fr.HIF_EV_LOG2SIZE) (s.fld Fr.HIF_EV_HEAD) (s.fld Fr.HIF_EV_TAIL) idx
      (ok = true → Completes (.eventDoorbell idx) s (fun t => t.fld Fr.HIF_EV_HEAD = idx
        ∧ s.onlyFields t [Fr.HIF_EV_HEAD] ∧ t = { s with regs := t.regs }))
      ∧ (ok = false → Completes (.eventDoorbell idx) s (fun t => t.flag Fr.HIF_DB_BAD = true
        ∧ s.onlyFields t [Fr.HIF_DB_BAD] ∧ t = { s with regs := t.regs })))
    ∧ (s.evlog = [] → s.evq = [] → exec .eventPost s = .next s)
    ∧ (∀ e l q, (s.evlog = e :: l ∧ s.evq = q ∨ s.evlog = [] ∧ l = [] ∧ s.evq = e :: q) → (s.mayPost && s.evRoom) = true →
        s.fld Fr.HIF_EV_LOG2SIZE ≤ 16 →
      let size := ringSize (s.fld Fr.HIF_EV_LOG2SIZE)
      let tail := s.fld Fr.HIF_EV_TAIL
      Completes .eventPost s (fun t => (∃ rest, t.out = s.out ++ Out.event (tail % size) e (evBytes e s.evPhase) :: rest)
        ∧ t.fld Fr.HIF_EV_TAIL = (tail + 1) % (2 * size) ∧ t.evlog = l ∧ t.evq = q
        ∧ t.evPhase = (if (tail + 1) % (2 * size) % size = 0 then 1 - s.evPhase else s.evPhase)
        ∧ s.onlyFields t [Fr.HIF_EV_TAIL, Fr.HIF_LOG_HELD, Fr.HIF_HELD]
        ∧ t = { s with
            regs := t.regs
            out := t.out
            evq := t.evq
            evlog := t.evlog
            evPhase := t.evPhase
            msixBusy := t.msixBusy
            msixMerged := t.msixMerged
            msixPend := t.msixPend }))
    ∧ (∀ e q, s.evq = e :: q → (s.mayPost && s.evRoom) = false →
      Completes .eventPost s (fun t => t.evq = q ∧ t.out = s.out
        ∧ (s.evlog.length < 16384 → t.evlog = s.evlog ++ [e])
        ∧ (16384 ≤ s.evlog.length → evLow e.cls = true → t.evlog = s.evlog)
        ∧ s.onlyFields t [Fr.HIF_LOG_HELD, Fr.HIF_HELD]
        ∧ t = { s with
            regs := t.regs
            evq := q
            evlog := t.evlog
            counts := t.counts }))
    ∧ (∀ q, (nth s.cqs q {}).timer = false → exec (.coalescingTimeout q) s = .next s)
    ∧ (∀ q, (nth s.cqs q {}).timer = true →
      let v := s.fld (Fr.CQ_VECTOR q)
      Completes (.coalescingTimeout q) s (fun t => nth t.cqs q {} = {} ∧ (∀ p, p ≠ q → nth t.cqs p {} = nth s.cqs p {})
        ∧ (v ∈ s.msixMasked → v ∈ t.msixPend ∧ t.out = s.out)
        ∧ (v ∉ s.msixMasked → v ∈ s.msixBusy → v ∈ t.msixMerged ∧ t.out = s.out)
        ∧ (v ∉ s.msixMasked → v ∉ s.msixBusy → v ∈ t.msixBusy ∧ t.out = s.out ++ [Out.msix v])
        ∧ t = { s with
            cqs := t.cqs
            out := t.out
            msixBusy := t.msixBusy
            msixMerged := t.msixMerged
            msixPend := t.msixPend }))
    ∧ (∀ v, Completes (.msiXIntervalEnd v) s (fun t => v ∉ t.msixMerged
        ∧ (v ∈ s.msixBusy → v ∈ s.msixMerged → v ∉ s.msixMasked → v ∈ t.msixBusy ∧ t.out = s.out ++ [Out.msix v])
        ∧ (v ∈ s.msixBusy → v ∈ s.msixMerged → v ∈ s.msixMasked → v ∈ t.msixPend ∧ v ∉ t.msixBusy ∧ t.out = s.out)
        ∧ (v ∉ s.msixBusy ∨ v ∉ s.msixMerged → v ∉ t.msixBusy ∧ t.out = s.out)
        ∧ (∀ w, w ≠ v → (w ∈ t.msixBusy ↔ w ∈ s.msixBusy) ∧ (w ∈ t.msixMerged ↔ w ∈ s.msixMerged))
        ∧ t = { s with
            out := t.out
            msixBusy := t.msixBusy
            msixMerged := t.msixMerged
            msixPend := t.msixPend }))

/-- Descriptors fetched, refused, held by a BARRIER, retried; completions posted. Only a descriptor of the ring served
next is fetched; one whose read fails waits for a retry; one that is read is decided as its job row says. A refused
descriptor creates no job: its entry with status and DETAIL fields is posted at once, and SEQ_NEXT advances but for
a failure of step 1. A job with BARRIER waits while an earlier job of its ring is open. The third failed retry
halts the ring with a LINK event. COMPLETION_POST posts the oldest job of its ring that is not posted, if it has
completed, between a COMPLETING and a POSTED record. -/
def Obligations.RingJobs : Prop :=
  ∀ (s : State),
    (∀ d, s.nextRing ≠ some d.ring → exec (.descriptorFetch d) s = .next s)
    ∧ (∀ d e, s.nextRing = some d.ring → d.hostErr = some e → Completes (.descriptorFetch d) s (fun t =>
        t.fetchFail = s.fetchFail ++ [(d.ring, 0, s.fld (Fr.SQ_HEAD d.ring))]
        ∧ s.onlyFields t [Fr.CQ_RESERVED (s.fld (Fr.SQ_CQ d.ring))]
        ∧ t = { s with
            regs := t.regs
            fetchFail := t.fetchFail
            lastRing := d.ring }))
    ∧ (∀ d, s.nextRing = some d.ring → d.hostErr = none →
        exec (.descriptorFetch (asOp d 0x02)) s = exec (.commit d) s
        ∧ exec (.descriptorFetch (asOp d 0x03)) s = exec (.streamOpen d) s
        ∧ exec (.descriptorFetch (asOp d 0x0C)) s = exec (.snapshot d) s
        ∧ exec (.descriptorFetch (asOp d 0x10)) s = exec (.move d) s)
    ∧ (∀ (d : Desc) (r : Refuse), d.ring < 64 → d.opcode = 0x0C → s.fetchFail.all (fun f => f.1 ≠ d.ring) = true →
        ((s.reading d.ring).checkJob d).refuse = some r → ((s.reading d.ring).checkJob d).own3 = false →
        s.fld (Fr.SQ_CQ d.ring) < 64 → s.fld (Fr.CQ_LOG2SIZE (s.fld (Fr.SQ_CQ d.ring))) ≤ 16 →
      let q := s.fld (Fr.SQ_CQ d.ring)
      let size := ringSize (s.fld (Fr.CQ_LOG2SIZE q))
      let tail := s.fld (Fr.CQ_TAIL q)
      let step1 := ((s.reading d.ring).checkJob d).step1
      (d.seq ≠ s.fld (Fr.SQ_SEQ_NEXT d.ring) → r = ⟨0x12, 0xFE, 0⟩ ∧ step1 = true)
      ∧ Completes (.snapshot d) s (fun t => t.jobs = s.jobs
        ∧ (∃ c b rest, t.out = s.out ++ Out.completion q (tail % size) c b :: rest ∧ b = cplBytes c ∧ c.seq = d.seq ∧ c.token = d.token
            ∧ c.opcode = d.opcode ∧ c.status = r.status ∧ c.dword = r.dword ∧ c.dres = r.dres ∧ c.phase = s.fld (Fr.CQ_PHASE q))
        ∧ t.fld (Fr.CQ_TAIL q) = (tail + 1) % (2 * size)
        ∧ t.fld (Fr.SQ_SEQ_NEXT d.ring) = (if step1 then s.fld (Fr.SQ_SEQ_NEXT d.ring) else (s.fld (Fr.SQ_SEQ_NEXT d.ring) + 1) % 2 ^ 32)
        ∧ (step1 = true → t.journal = s.journal)
        ∧ (step1 = false → ∃ x, t.journal = s.journal ++ [x] ∧ x.kind = 6 ∧ x.status = r.status)
        ∧ s.onlyFields t [Fr.SQ_HEAD d.ring, Fr.SQ_SEQ_NEXT d.ring, Fr.CQ_TAIL q, Fr.CQ_PHASE q, Fr.CQ_RESERVED q,
            Fr.FLTJNL_JSEQ_NEXT, Fr.ADM_LAST_REFUSED]
        ∧ t = { (s.asTaken t) with
            nextJob := s.nextJob
            out := t.out
            cqs := t.cqs
            msixBusy := t.msixBusy
            msixMerged := t.msixMerged
            msixPend := t.msixPend }))
    ∧ (∀ (d : Desc) (x : Job), d.ring < 64 → d.opcode = 0x0C → s.fetchFail.all (fun f => f.1 ≠ d.ring) = true → s.passes d →
        bit d.flags 8 = true → x ∈ s.jobs → x.ring = d.ring → (∀ y ∈ s.jobs, y.id < s.nextJob) → x.done = none → x.standing = false →
        (∀ y ∈ s.jobs, y.ring = d.ring → y.waiting = false) →
      Completes (.snapshot d) s (fun t =>
        (∃ j, t.jobs = s.jobs ++ [j] ∧ j.id = s.nextJob ∧ j.d = d ∧ j.done = none ∧ j.waiting = true)
        ∧ (∃ r, t.journal = s.journal ++ [r] ∧ r.kind = 1)
        ∧ s.onlyFields t (s.takenFields d.ring) ∧ t = s.asTaken t))
    ∧ (∀ d, s.fetchFail.find? (fun f => f.1 = d.ring) = none → exec (.fetchRetry d) s = .next s)
    ∧ (∀ d f, s.fetchFail.find? (fun f => f.1 = d.ring) = some f → d.hostErr = none →
        exec (.fetchRetry (asOp d 0x0C)) s = exec (.snapshot d) (s.setFld Fr.HIF_FETCH_ERR 1))
    ∧ (∀ d f e, s.fetchFail.find? (fun f => f.1 = d.ring) = some f → d.hostErr = some e → f.2.1 + 1 < 3 →
      Completes (.fetchRetry d) s (fun t => t.flag Fr.HIF_FETCH_ERR = true
        ∧ t.fetchFail.find? (fun f => f.1 = d.ring) = some (d.ring, f.2.1 + 1, f.2.2)
        ∧ s.onlyFields t [Fr.HIF_FETCH_ERR]
        ∧ t = { s with
            regs := t.regs
            fetchFail := t.fetchFail }))
    ∧ (∀ d f e, d.ring < 64 → s.fetchFail.find? (fun f => f.1 = d.ring) = some f → d.hostErr = some e → 3 ≤ f.2.1 + 1 →
      Completes (.fetchRetry d) s (fun t => t.flag Fr.HIF_FETCH_ERR = true ∧ t.fld (Fr.SQ_STATE d.ring) = 2
        ∧ (∀ f, f ∈ t.fetchFail ↔ f ∈ s.fetchFail ∧ f.1 ≠ d.ring) ∧ s.oneEvent t 8 0x22
        ∧ s.onlyFields t [Fr.HIF_FETCH_ERR, Fr.SQ_STATE d.ring, Fr.CQ_RESERVED (s.fld (Fr.SQ_CQ d.ring)), Fr.HIF_EVSEQ_NEXT]
        ∧ t = { s with
            regs := t.regs
            fetchFail := t.fetchFail
            evq := t.evq }))
    ∧ (∀ (r : Nat) (j : Job), r < 64 → s.quiesces = [] → (∀ x ∈ s.jobs, x.waiting = false) → s.mayPost = true → s.resetDue = 0 →
        s.jobs.find? (fun x => x.ring = r && !x.posted) = some j → j.cq < 64 → s.fld (Fr.CQ_LOG2SIZE j.cq) ≤ 16 →
      let size := ringSize (s.fld (Fr.CQ_LOG2SIZE j.cq))
      let tail := s.fld (Fr.CQ_TAIL j.cq)
      (j.done = none → Completes (.completionPost r) s (fun t => s.onlyFields t [Fr.HIF_LOG_HELD, Fr.HIF_HELD]
        ∧ t = { s with regs := t.regs }))
      ∧ (∀ st, j.done = some st → Completes (.completionPost r) s (fun t =>
        (∃ c b rest, t.out = s.out ++ Out.completion j.cq (tail % size) c b :: rest ∧ b = cplBytes c ∧ c.seq = j.d.seq
            ∧ c.token = j.d.token ∧ c.opcode = j.d.opcode ∧ c.status = st ∧ c.result = j.result ∧ c.extent = j.extent
            ∧ c.flt = j.flt ∧ c.dword = 0xFF ∧ c.phase = s.fld (Fr.CQ_PHASE j.cq))
        ∧ (∃ a b, t.journal = s.journal ++ [a, b] ∧ a.kind = 3 ∧ b.kind = 4 ∧ a.status = st ∧ a.job = j.id ∧ b.job = j.id)
        ∧ (∀ x ∈ s.jobs, x.id ≠ j.id → x ∈ t.jobs) ∧ (∀ x ∈ t.jobs, x.id = j.id → x.posted = true ∧ x.cqIdx = tail)
        ∧ t.fld (Fr.CQ_TAIL j.cq) = (tail + 1) % (2 * size)
        ∧ t.fld (Fr.SQ_OUTSTANDING r) = s.fld (Fr.SQ_OUTSTANDING r) - 1
        ∧ s.onlyFields t [Fr.CQ_TAIL j.cq, Fr.CQ_RESERVED j.cq, Fr.CQ_PHASE j.cq, Fr.SQ_OUTSTANDING r, Fr.FLTJNL_JSEQ_NEXT,
            Fr.HIF_LOG_HELD, Fr.HIF_HELD]
        ∧ t = { s with
            regs := t.regs
            jobs := t.jobs
            journal := t.journal
            everUsed := t.everUsed
            jlast := t.jlast
            counts := t.counts
            out := t.out
            cqs := t.cqs
            msixBusy := t.msixBusy
            msixMerged := t.msixMerged
            msixPend := t.msixPend })))

/-- CONFIGURE of slot sources, tables and rings, and HK_TABLE: what each puts in place. A CONFIGURE that is ready is
taken and completes DONE. It selects link n or the intake for its slot; loads a window, mask, FIR, gain or palette
table of the entries named, with EXTENT in bytes and the CRC of the bytes where one is kept; or gives a ring its
base, size and binding and starts its indices at 0, its PHASE at 1. A mask table that cannot be read is a failed
fetch. A housekeeping table is installed at once, or waits for the conversion in progress. Nothing else changes; a
failed read of host memory completes ERROR_BUS and leaves a window bank with the entries read and none that counts
as loaded (log entry 111). -/
def Obligations.TableJobs : Prop :=
  ∀ (s : State) (d : Desc), (∀ w ∈ d.p, w < 2 ^ 32) → (∀ b ∈ d.data, b < 256) →
    let w (e : Desc) := nth e.p 0 0
    let l := nth (asTarget d 0).p 3 0
    let bytes := padTo (4 * l) d.data
    let tab := wordsOf l bytes
    let old := s.takenFields d.ring
    (let e := asTarget d 1
      let n := bits (w e) 8 8
      let p := nth e.p 1 0
      let o := nth e.p 2 0
      let rest := old ++ [Fr.INTK_SLOT_SOURCE n, Fr.INTK_SLOT_FEEDER n, Fr.INTK_LINK_PARAM n, Fr.INTK_LINK_OFS n,
        Fr.INTK_LINK_STATE n, Fr.INTK_LINK_CDR_LOCK n, Fr.INTK_LINK_SYNC_LOCK n]
      s.Ready e → s.slots.length = 8 →
        (bit p 0 = true → s.fld (Fr.INTK_SLOT_SOURCE n) ≠ 1 → Takes (.configureSlotSource d) s e (some (0, 0, 0)) (fun t =>
          t.fld (Fr.INTK_SLOT_SOURCE n) = 1 ∧ t.fld (Fr.INTK_SLOT_FEEDER n) = 0xF ∧ t.fld (Fr.INTK_LINK_PARAM n) = p
          ∧ t.fld (Fr.INTK_LINK_OFS n) = o ∧ (t.slot n).linkReq = true ∧ (t.slot n).gapSource = true
          ∧ ((s.slot n).linkReq = false → t.fld (Fr.INTK_LINK_STATE n) = 1)
          ∧ (∀ m, m ≠ n → t.slot m = s.slot m) ∧ s.onlyFields t rest ∧ t = { (s.asTaken t) with slots := t.slots }))
        ∧ (bit p 0 = false → bit p 1 = false → s.fld (Fr.INTK_SLOT_SOURCE n) = 1 → (s.slot n).linkReq = true →
          Takes (.configureSlotSource d) s e (some (0, 0, 0)) (fun t =>
          t.fld (Fr.INTK_SLOT_SOURCE n) = 0 ∧ t.fld (Fr.INTK_SLOT_FEEDER n) = (if s.cal.takeover = some n ∨ s.spareCarries n = true then 8 else n)
          ∧ t.fld (Fr.INTK_LINK_STATE n) = 0 ∧ (t.slot n).linkReq = false ∧ (t.slot n).gapSource = true
          ∧ (∀ m, m ≠ n → t.slot m = s.slot m) ∧ s.onlyFields t rest ∧ t = { (s.asTaken t) with slots := t.slots })))
    ∧ (let e := asTarget d 2
      let n := bits (w e) 8 8
      let b := bits (w e) 16 8
      s.Ready e → s.slices.length = 9 → (s.slice n).banks.length = 2 → (s.slice n).bankLen.length = 2 →
        (d.reads (4 * l) → Takes (.configureWindowTable d) s e (some (0, 0, 4 * l)) (fun t =>
          nth (t.slice n).banks b [] = tab.map (fun v => signed 18 v) ++ (nth (s.slice n).banks b []).drop l
          ∧ nth (t.slice n).bankLen b 0 = l ∧ nth (t.slice n).banks (1 - b) [] = nth (s.slice n).banks (1 - b) []
          ∧ t.fld (if b = 0 then Fr.SPX_TCRC0 n else Fr.SPX_TCRC1 n) = crc32c bytes
          ∧ (∀ m, m ≠ n → t.slice m = s.slice m)
          ∧ s.onlyFields t (old ++ [if b = 0 then Fr.SPX_TCRC0 n else Fr.SPX_TCRC1 n])
          ∧ t = { (s.asTaken t) with slices := t.slices }))
        ∧ (∀ x, d.hostErr = some x → x < 4 * l → Takes (.configureWindowTable d) s e (some (0x20, 0, ioExtent x)) (fun t =>
          nth (t.slice n).bankLen b 0 = 0
          ∧ (∀ i, i < ioExtent x / 4 → nth (nth (t.slice n).banks b []) i 0
              = nth ((wordsOf (ioExtent x / 4) (padTo (ioExtent x) d.data)).map (fun v => signed 18 v)) i 0)
          ∧ nth (t.slice n).banks (1 - b) [] = nth (s.slice n).banks (1 - b) []
          ∧ (∀ m, m ≠ n → t.slice m = s.slice m) ∧ s.onlyFields t old
          ∧ t = { (s.asTaken t) with
              slices := t.slices
              freeCtr := s.freeCtr + (l - ioExtent x / 4) })))
    ∧ (let e := asTarget d 3
      let n := bits (w e) 8 8
      let k := bits (w e) 16 2
      (s.Ready e → s.slices.length = 9 → (s.slice n).masks.length = 4 → d.reads (4 * l) →
        Takes (.configureMaskTable d) s e (some (0, 0, 4 * l)) (fun t => nth (t.slice n).masks k [] = tab
          ∧ (∀ i, i ≠ k → nth (t.slice n).masks i [] = nth (s.slice n).masks i []) ∧ (∀ m, m ≠ n → t.slice m = s.slice m)
          ∧ s.onlyFields t old ∧ t = { (s.asTaken t) with slices := t.slices }))
      ∧ (∀ x, d.ring < 64 → s.fetchFail.all (fun f => f.1 ≠ d.ring) = true → d.hostErr = some x → x < 4 * l →
        Completes (.configureMaskTable d) s (fun t => t.fetchFail = s.fetchFail ++ [(d.ring, 0, s.fld (Fr.SQ_HEAD d.ring))]
          ∧ s.onlyFields t [Fr.CQ_RESERVED (s.fld (Fr.SQ_CQ d.ring))]
          ∧ t = { s with
              regs := t.regs
              fetchFail := t.fetchFail
              lastRing := d.ring })))
    ∧ (let e := asTarget d 4
      let n := bits (w e) 8 8
      let m := bits (w e) 17 2
      let b := bits (w e) 16 1
      let crc := if b = 0 then Fr.DDC_BCRC0 n m else Fr.DDC_BCRC1 n m
      let nt := if b = 0 then Fr.DDC_NT_A n m else Fr.DDC_NT_B n m
      s.Ready e → s.tuners.length = 36 → (s.tuner n m).banks.length = 2 → d.reads (4 * l) →
        Takes (.configureFirBank d) s e (some (0, 0, 4 * l)) (fun t =>
          nth (t.tuner n m).banks b [] = tab.map (fun v => signed 20 v)
          ∧ nth (t.tuner n m).banks (1 - b) [] = nth (s.tuner n m).banks (1 - b) []
          ∧ t.fld nt = l ∧ t.fld crc = crc32c bytes ∧ s.onlyFields t (old ++ [nt, crc])
          ∧ t = { (s.asTaken t) with tuners := modNth s.tuners (4 * n + m) (fun x => { x with banks := (t.tuner n m).banks }) }))
    ∧ (let e := asTarget d 5
      let i := bits (w e) 8 8
      let b := bits (w e) 16 1
      let crc := if b = 0 then Fr.XCOR_IN_GCRC0 i else Fr.XCOR_IN_GCRC1 i
      s.Ready e → s.xcor.banks.length = 16 → d.reads (4 * l) →
        Takes (.configureGainBank d) s e (some (0, 0, 4 * l)) (fun t =>
          nth t.xcor.banks (2 * i + b) [] = tab ++ (nth s.xcor.banks (2 * i + b) []).drop l
          ∧ (∀ k, k ≠ 2 * i + b → nth t.xcor.banks k [] = nth s.xcor.banks k []) ∧ t.fld crc = crc32c bytes
          ∧ s.onlyFields t (old ++ [crc])
          ∧ t = { (s.asTaken t) with xcor := { s.xcor with banks := t.xcor.banks } }))
    ∧ (let e := asTarget d 6
      let lg := cfLog2 e
      let func := s.ownerSq d.ring
      ∀ r, s.Ready e → s.globalSq func (cfIndex e) = some r →
        Takes (.configureSubmissionRing d) s e (some (0, 0, 0)) (fun t => r ≠ d.ring ∧ t.fld (Fr.SQ_BASE r) = cfBase e
          ∧ t.fld (Fr.SQ_LOG2SIZE r) = lg ∧ t.flag (Fr.SQ_EN r) = decide (lg ≠ 0) ∧ t.fld (Fr.SQ_HEAD r) = 0
          ∧ t.fld (Fr.SQ_TAIL r) = 0 ∧ t.fld (Fr.SQ_STATE r) = (if lg = 0 then 0 else 1)
          ∧ t.fld (Fr.SQ_PRIO r) = bits (nth e.p 3 0) 16 2 ∧ t.fld (Fr.SQ_SEQ_NEXT r) = s.fld (Fr.SQ_SEQ_NEXT r)
          ∧ (∀ q, lg ≠ 0 → s.globalCq func (bits (nth e.p 3 0) 8 6) = some q → t.fld (Fr.SQ_CQ r) = q)
          ∧ s.onlyFields t (old ++ [Fr.SQ_BASE r, Fr.SQ_LOG2SIZE r, Fr.SQ_CQ r, Fr.SQ_PRIO r, Fr.SQ_EN r, Fr.SQ_HEAD r,
              Fr.SQ_TAIL r, Fr.SQ_STATE r])
          ∧ t = { (s.asTaken t) with fetchFail := s.fetchFail.filter (fun f => f.1 ≠ r) }))
    ∧ (let e := asTarget d 7
      let lg := cfLog2 e
      ∀ q, s.Ready e → s.globalCq (s.ownerSq d.ring) (cfIndex e) = some q →
        Takes (.configureCompletionRing d) s e (some (0, 0, 0)) (fun t => t.fld (Fr.CQ_BASE q) = cfBase e
          ∧ t.fld (Fr.CQ_LOG2SIZE q) = lg ∧ t.flag (Fr.CQ_EN q) = decide (lg ≠ 0) ∧ t.fld (Fr.CQ_HEAD q) = 0
          ∧ t.fld (Fr.CQ_TAIL q) = 0 ∧ t.fld (Fr.CQ_PHASE q) = 1 ∧ t.fld (Fr.CQ_VECTOR q) = bits (nth e.p 3 0) 8 8
          ∧ s.onlyFields t (old ++ [Fr.CQ_BASE q, Fr.CQ_LOG2SIZE q, Fr.CQ_VECTOR q, Fr.CQ_EN q, Fr.CQ_HEAD q, Fr.CQ_TAIL q,
              Fr.CQ_PHASE q])
          ∧ t = { (s.asTaken t) with cqs := modNth s.cqs q (fun _ => {}) }))
    ∧ (let e := asTarget d 8
      s.Ready e → Takes (.configureEventRing d) s e (some (0, 0, 0)) (fun t => t.fld Fr.HIF_EV_BASE = cfBase e
          ∧ t.fld Fr.HIF_EV_LOG2SIZE = cfLog2 e ∧ t.flag Fr.HIF_EV_EN = true ∧ t.fld Fr.HIF_EV_HEAD = 0
          ∧ t.fld Fr.HIF_EV_TAIL = 0 ∧ t.fld Fr.HIF_EV_VECTOR = bits (nth e.p 3 0) 8 8
          ∧ s.onlyFields t (old ++ [Fr.HIF_EV_BASE, Fr.HIF_EV_LOG2SIZE, Fr.HIF_EV_VECTOR, Fr.HIF_EV_EN, Fr.HIF_EV_HEAD,
              Fr.HIF_EV_TAIL])
          ∧ t = { (s.asTaken t) with evPhase := 1 }))
    ∧ (let e := asTarget d 9
      s.Ready e → d.reads (4 * l) → Takes (.configureDisplayPalette d) s e (some (0, 0, 4 * l)) (fun t =>
          (∀ i, i < l → t.vid.shadow.find? (fun x => x.1 = i) = some (i, nth tab i 0 % 2 ^ 30))
          ∧ (∀ x, l ≤ x.1 → (x ∈ t.vid.shadow ↔ x ∈ s.vid.shadow)) ∧ s.onlyFields t old
          ∧ t = { (s.asTaken t) with vid := { s.vid with
              shadow := t.vid.shadow
              loaded := true } }))
    ∧ (let e := asOp d 0x12
      let n := w e
      let table := wordsOf n (padTo (4 * n) d.data)
      s.Ready e → d.reads (4 * n) →
        (s.flag Fr.HK_BUSY = false → Takes (.hkTable d) s e (some (0, 0, 4 * n)) (fun t =>
          (∀ i, i < 64 → t.fld (Fr.HK_TABLE i) = nth table i 0) ∧ t.fld Fr.HK_NENT = n ∧ t.fld Fr.HK_ENTRY = 0
          ∧ t.hk.rep = 0 ∧ t.hk.delay = true
          ∧ s.onlyFields t (old ++ [Fr.HK_NENT, Fr.HK_ENTRY, Fr.HK_BUSY] ++ (List.range 64).map Fr.HK_TABLE)
          ∧ t = { (s.asTaken t) with hk := t.hk }))
        ∧ (s.flag Fr.HK_BUSY = true → s.hk.nextJob = 0 → Takes (.hkTable d) s e none (fun t => s.onlyFields t old
          ∧ t = { (s.asTaken t) with hk := { s.hk with
              next := some table
              nextJob := s.nextJob } })))

/-- COMMIT: the words captured at acceptance wait for their instant, block by block. A COMMIT captures the shadow words
of its groups when it is accepted and its job stays open. The groups of a slice wait for a change instant no
earlier than the target, a multiple of the frame advance; tuner groups for a restart instant; zoom, correlator and
timing groups and attenuations for the target; an epoch COMMIT for its request. A trim or timing COMMIT that is due
takes effect at once and completes; a VIDEO_COMMIT enters the pending register and cancels the one it finds there. -/
def Obligations.CommitJobs : Prop :=
  ∀ (s : State) (d : Desc), (∀ w ∈ d.p, w < 2 ^ 32) → s.waiting = [] → s.slices.length = 9 → s.tuners.length = 36 → s.zooms.length = 9 →
    let e := asOp d 0x02
    let old := s.takenFields d.ring
    let T := if cmImm e then s.samp else cmT e
    (s.Ready e →
      (∀ n, n < 9 → cmBlock e = 5 → cmMask e = 2 ^ n → 0 < cmGroups e → cmGroups e < 16 →
        let v := s.taking (s.capture (cmSliceWords e n)) []
        let m := Nat.max 1 (Nat.max (s.spxH n * s.sliceD n) (v.spxH n * v.sliceD n))
        Takes (.commit d) s e none (fun t =>
          (∃ c, (t.slice n).pend = (s.slice n).pend ++ [c] ∧ c.job = s.nextJob ∧ c.cap = s.capture (cmSliceWords e n) ∧ c.t = T
            ∧ c.spx = cmGroup e 0 ∧ c.trg = b2n (cmGroup e 1) + 2 * b2n (cmGroup e 2) ∧ c.den = cmGroup e 3 ∧ c.xbar = none
            ∧ T ≤ c.at_ ∧ c.at_ % m = 0 ∧ c.at_ < s.unseen n T + m)
          ∧ (∀ k, k ≠ n → t.slice k = s.slice k) ∧ t.fld (Fr.SPX_PENDING n) = 1
          ∧ s.onlyFields t (old ++ [Fr.SPX_PENDING n]) ∧ t = { (s.asTaken t) with slices := t.slices }))
      ∧ (∀ n, n < 9 → cmBlock e = 5 → cmMask e = 2 ^ n → cmGroups e = 0x200 →
        Takes (.commit d) s e none (fun t =>
          (∃ c, (t.slice n).pend = (s.slice n).pend ++ [c] ∧ c.job = s.nextJob ∧ c.cap = [] ∧ c.t = T ∧ c.xbar = some (cmNibble e n)
            ∧ T ≤ c.at_
            ∧ (cmNibble e n ≠ s.sliceInput n → ∀ k, k < 4 → (t.tuner n k).pend = (s.tuner n k).pend ++ [⟨0, [], c.at_⟩]))
          ∧ (cmNibble e n = s.sliceInput n → t.tuners = s.tuners)
          ∧ s.onlyFields t (old ++ [Fr.SPX_PENDING n])
          ∧ t = { (s.asTaken t) with
              slices := t.slices
              tuners := t.tuners }))
      ∧ (∀ n k, n < 9 → k < 4 → cmBlock e = 5 → cmMask e = 2 ^ n → cmGroups e = 2 ^ (4 + k) →
        Takes (.commit d) s e none (fun t =>
          (∃ c, (t.tuner n k).pend = (s.tuner n k).pend ++ [c] ∧ c.job = s.nextJob ∧ c.cap = s.capture (ddcRegs n k) ∧ T ≤ c.at_)
          ∧ s.onlyFields t old
          ∧ t = { (s.asTaken t) with tuners := modNth s.tuners (4 * n + k) (fun x => { x with pend := (t.tuner n k).pend }) }))
      ∧ (∀ n, n < 9 → cmBlock e = 5 → cmMask e = 2 ^ n → cmGroups e = 0x100 →
        Takes (.commit d) s e none (fun t => s.onlyFields t old
          ∧ t = { (s.asTaken t) with
              zooms := modNth s.zooms n (fun z => { z with pend := z.pend ++ [⟨s.nextJob, s.capture (zoomRegs n), T⟩] }) }))
      ∧ (cmBlock e = 2 → Takes (.commit d) s e none (fun t => s.onlyFields t old
          ∧ t = { (s.asTaken t) with
              attens := s.attens ++ (cmCopies e).map (fun n => ⟨s.nextJob, n, s.fld (Fr.INTK_ATTEN n), T⟩) }))
      ∧ (cmBlock e = 6 → (∃ a ∈ xcorRegs, 0x580000 < a ∧ a < 0x580040 ∧ s.reg a ≠ s.forceReg a) →
          (∀ c ∈ s.xcor.pend, c.instant = true) →
        Takes (.commit d) s e none (fun t => (∃ c, t.xcor.pend = s.xcor.pend ++ [c] ∧ c.job = s.nextJob
            ∧ c.cap = s.capture xcorRegs ∧ c.target = T ∧ c.instant = true)
          ∧ t.fld Fr.XCOR_PENDING = 1 ∧ s.onlyFields t (old ++ [Fr.XCOR_PENDING])
          ∧ t = { (s.asTaken t) with xcor := { s.xcor with pend := t.xcor.pend } }))
      ∧ (cmBlock e = 0xC → s.vidWaits = true ∨ s.samp < T → Takes (.commit d) s e none (fun t => s.onlyFields t old
          ∧ t = { (s.asTaken t) with vid := { s.vid with pend := s.vid.pend ++ [⟨s.nextJob, s.capture vidRegs, T⟩] } }))
      ∧ (cmBlock e = 0xC → s.vidWaits = false → T ≤ s.samp → Takes (.commit d) s e (some (0, 0, 0)) (fun t =>
          (∀ a, t.forceReg a = if a ∈ vidRegs then s.reg a else s.forceReg a) ∧ s.onlyFields t (old ++ [Fr.VID_LINK])
          ∧ t = { (s.asTaken t) with
              force := t.force
              vid := t.vid })))
    ∧ (let e := withField (withField (asOp d 0x02) 2 0 8 1) 3 0 2 1
      s.Ready e → Takes (.epochCommit d) s e none (fun t =>
        (∃ q, t.clk.epoch = some q ∧ q.job = s.nextJob ∧ q.cap = s.capture epochRegs ∧ q.target = cmT e ∧ q.immediate = cmImm e
          ∧ q.timed = decide (s.fld Fr.CLK_SYNC_SRC = 0) ∧ q.generated = false)
        ∧ t.fld Fr.CLK_SYNC_PENDING = 1 ∧ s.onlyFields t (old ++ [Fr.CLK_SYNC_PENDING])
        ∧ t = { (s.asTaken t) with clk := { s.clk with epoch := t.clk.epoch } }))
    ∧ (let e := withField (withField (asOp d 0x02) 2 0 8 1) 3 0 2 2
      let x := signed 19 (s.fld Fr.CLK_TRIM_TARGET)
      s.Ready e →
      (cmImm e = true → Takes (.trimCommit d) s e (some (0, 0, 0)) (fun t => t.inf Fr.CLK_TRIM_TARGET = s.fld Fr.CLK_TRIM_TARGET
        ∧ t.clk.target = trimClamp x ∧ t.flag Fr.CLK_WALKING = decide (trimClamp x ≠ signed 19 (s.fld Fr.CLK_TRIM_NOW))
        ∧ t.flag Fr.CLK_CLAMP = decide (trimClamp x ≠ x) ∧ (trimClamp x ≠ x → s.oneEvent t 6 8) ∧ (trimClamp x = x → t.evq = s.evq)
        ∧ s.onlyFields t (old ++ [Fr.CLK_WALKING, Fr.CLK_CLAMP, Fr.HIF_EVSEQ_NEXT])
        ∧ t = { (s.asTaken t) with
            force := t.force
            evq := t.evq
            clk := { s.clk with target := t.clk.target } }))
      ∧ (cmImm e = false → Takes (.trimCommit d) s e none (fun t => s.onlyFields t old
        ∧ t = { (s.asTaken t) with clk := { s.clk with trims := s.clk.trims ++ [(s.nextJob, cmT e, x)] } })))
    ∧ (let e := asOp d 0x11
      let f := (s.nextJob, pAddr e 0, bits (nth e.p 2 0) 0 16)
      s.Ready e →
      (s.vid.frame = none → Takes (.videoCommit d) s e none (fun t => t.flag Fr.VID_PENDING = true
        ∧ s.onlyFields t (old ++ [Fr.VID_PENDING])
        ∧ t = { (s.asTaken t) with vid := { s.vid with frame := some f } }))
      ∧ (∀ g j, s.vid.frame = some g → s.job g.1 = some j → j.done = none → j.ring < 64 →
        Completes (.videoCommit d) s (fun t => t.vid = { s.vid with frame := some f } ∧ t.jobRuns s.nextJob
          ∧ t.jobResult g.1 = some (5, 0, 0) ∧ t = { (s.asTaken t) with vid := t.vid })))

/-- Streams, triggers, extracts, recordings, MOVE and CHECK: what each job opens, closes or queues. STREAM_OPEN adds a
stream and stays open as a standing job; STREAM_CLOSE ends the stream, whose job completes with its counts, and
sends a last context pair where the stream carries pairs. Arming shows ARMED with no fires; a disarm completes the
arming CANCELLED for SINGLE, DONE for REPEAT. EXTRACT and MOVE queue a transfer on their channel; RELEASE lets a
freeze go. RECORD_START takes its namespaces; RECORD_STOP issues the last chunks and waits for them. CHECK gives
its CRC or its verdict. Nothing else changes. -/
def Obligations.StreamTriggerJobs : Prop :=
  ∀ (s : State) (d : Desc), (∀ w ∈ d.p, w < 2 ^ 32) → (∀ b ∈ d.data, b < 256) →
    let old := s.takenFields d.ring
    let frz := [Fr.MEM_HELD_MIB, Fr.MEM_RSVD_MIB, Fr.MEM_FREEZES, Fr.MEM_LOSSES]
    let w (e : Desc) := nth e.p 0 0
    let id := s.nextJob
    let hasXfer (t : State) (c : Nat) (p : Xfer → Prop) : Prop :=
      (∃ x, ((t.chan c).cur = some x ∨ (t.chan c).queue.getLast? = some x) ∧ p x) ∧ (∀ k, k ≠ c → t.chan k = s.chan k)
        ∧ s.onlyFields t (old ++ frz ++ [Fr.DMA_CH_STATE c, Fr.DMA_CH_SHARE c, Fr.DMA_CH_BURST c, Fr.DMA_CH_LENGTH c,
            Fr.DMA_CH_DONE_BYTES c, Fr.DMA_CH_RETRIES c, Fr.DMA_CH_LAST_ERR c, Fr.DMA_CH_SQ c, Fr.DMA_CH_SEQ c, Fr.DMA_BUSY])
    (let e := asOp d 0x03
      let x0 := streamDesc e id
      s.Ready e →
      (x0.dest ≠ 2 → Takes (.streamOpen d) s e none (fun t =>
        (∃ x, t.streams = s.streams ++ [x] ∧ x.job = id ∧ x.p = e.p ∧ x.sent = 0 ∧ x.queue = [] ∧ x.ctxAt = s.samp
          ∧ x.port = (if s.fld Fr.NET_MODE = 1 then s.fld Fr.NET_ACTIVE else bits (nth e.p 1 0) 2 1))
        ∧ t.flag (Fr.SQ_STANDING d.ring) = true ∧ s.onlyFields t (old ++ [Fr.NET_OPEN])
        ∧ t = { (s.asTaken t) with streams := t.streams }))
      ∧ (∀ r, x0.dest = 2 → s.recOf (nth e.p 3 0) = some r → r.begun = false → Takes (.streamOpen d) s e none (fun t =>
        ((t.recOf (nth e.p 3 0)).map (·.map)) = some (r.map ++ [⟨x0.id, x0.tag, x0.kind, r.cseq⟩])
        ∧ t.streams.length = s.streams.length + 1 ∧ s.onlyFields t (old ++ [Fr.NET_OPEN])
        ∧ t = { (s.asTaken t) with
            streams := t.streams
            recs := t.recs })))
    ∧ (let e := asOp d 0x04
      ∀ x j, s.Ready e → s.stream (w e) = some x → s.job x.job = some j → j.done = none → x.kind ≠ 1 →
        (∀ n, n < 9 → ∀ m, m < 2 → (s.trg n m).fired = false) →
      let p (t : State) : Prop := t.jobResult x.job = some (if j.flt ≠ 0 then 1 else 0, x.lost, x.sent)
        ∧ t.jobResult id = some (0, 0, 0) ∧ (∀ k, k ≠ w e → t.stream k = s.stream k) ∧ t.stream (w e) = none
        ∧ s.onlyFields t (old ++ [Fr.NET_OPEN])
        ∧ t = { (s.asTaken t) with
            streams := t.streams
            out := t.out }
      (x.dest = 1 → Completes (.streamClose d) s (fun t => p t ∧ t.out = s.out))
      ∧ (x.dest = 0 → s.maySend = true → x.queue = [] → x.kind = 2 → Completes (.streamClose d) s (fun t => p t
          ∧ ∃ a b, t.out = s.out ++ [Out.packet x.port (s.netOf x x.port) a, Out.packet x.port (s.netOf x x.port) b]
            ∧ a.length = 92 ∧ b.length = 60)))
    ∧ (∀ mode, mode < 2 →
      let e := withField (asOp d 0x05) 0 5 2 mode
      let n := armSlice e
      let m := armTrg e
      s.Ready e → s.slices.length = 9 → (s.slice n).trg.length = 2 →
        Takes (if mode = 0 then .armTriggerSingle d else .armTriggerRepeat d) s e none (fun t =>
          t.flag (Fr.TRG_ARMED n m) = true ∧ t.fld (Fr.TRG_FIRES n m) = 0 ∧ t.flag (Fr.TRG_HOLDING n m) = false
          ∧ t.flag (Fr.TRG_KNOWN n m) = false ∧ t.fld (Fr.TRG_RUN n m) = 0
          ∧ (t.trg n m).job = id ∧ (t.trg n m).fired = false ∧ (t.trg n m).hold = 0
          ∧ (∀ k, k ≠ n → t.slice k = s.slice k) ∧ t.trg n (1 - m) = s.trg n (1 - m)
          ∧ t.flag (Fr.SQ_STANDING d.ring) = true
          ∧ s.onlyFields t (old ++ frz ++ [Fr.TRG_ARMED n m, Fr.TRG_FIRES n m, Fr.TRG_HOLDING n m, Fr.TRG_KNOWN n m, Fr.TRG_RUN n m])
          ∧ t = { (s.asTaken t) with slices := t.slices }))
    ∧ (let e := withField (asOp d 0x05) 0 5 2 0
      s.Ready e → s.slices.length = 9 → (s.slice (armSlice e)).trg.length = 2 →
        Completes (.armTriggerSingle d) s (fun t => (t.trg (armSlice e) (armTrg e)).job = id))
    ∧ (let e := withField (asOp d 0x05) 0 5 2 1
      s.Ready e → s.slices.length = 9 → (s.slice (armSlice e)).trg.length = 2 →
        Completes (.armTriggerRepeat d) s (fun t => (t.trg (armSlice e) (armTrg e)).job = id))
    ∧ (let e := withField (asOp d 0x05) 0 5 2 2
      let n := armSlice e
      let m := armTrg e
      let fires := s.fld (Fr.TRG_FIRES n m)
      ∀ j, s.Ready e → s.slices.length = 9 → (s.slice n).trg.length = 2 → s.job (s.trg n m).job = some j → j.done = none →
        Completes (.disarm d) s (fun t => t.flag (Fr.TRG_ARMED n m) = false ∧ (t.trg n m).job = 0
          ∧ t.jobResult j.id = some (if armMode j.d = 0 then 5 else if j.flt ≠ 0 then 1 else 0, fires, fires)
          ∧ t.jobResult id = some (0, 0, 0) ∧ t.trg n (1 - m) = s.trg n (1 - m)
          ∧ s.onlyFields t (old ++ frz ++ [Fr.TRG_ARMED n m, Fr.TRG_HOLDING n m])
          ∧ t = { (s.asTaken t) with slices := t.slices }))
    ∧ (let e := withField (asOp d 0x06) 0 8 2 0
      s.Ready e → s.chans.length = 32 → exFreeze e ≠ 0 → Takes (.extract d) s e none (fun t =>
        t.extracts = s.extracts ++ [⟨id, exFreeze e, false, s.exPlan e, [], (s.exStream e).map (fun x => x.id), 0⟩]
        ∧ (∃ c, 20 ≤ c ∧ c ≤ 21 ∧ hasXfer t c (fun x => x.owner = .extract id ∧ x.length = s.exBytes e ∧ x.dst = pAddr e 6))
        ∧ t = { (s.asTaken t) with
            extracts := t.extracts
            chans := t.chans }))
    ∧ (let e := withField (asOp d 0x06) 0 8 2 1
      s.Ready e → s.chans.length = 32 → exFreeze e ≠ 0 → Takes (.extractRelease d) s e none (fun t =>
        t.extracts = s.extracts ++ [⟨id, exFreeze e, true, s.exPlan e, [], (s.exStream e).map (fun x => x.id), 0⟩]
        ∧ (∃ c, 20 ≤ c ∧ c ≤ 21 ∧ hasXfer t c (fun x => x.owner = .extract id ∧ x.length = s.exBytes e))
        ∧ t = { (s.asTaken t) with
            extracts := t.extracts
            chans := t.chans }))
    ∧ (let e := withField (asOp d 0x06) 0 8 2 2
      s.Ready e → Takes (.release d) s e (some (0, 0, 0)) (fun t =>
        t.hbm.freezes = s.hbm.freezes.filter (fun f => f.id ≠ exFreeze e)
        ∧ (∀ a, t.cell a = s.cell a)
        ∧ s.onlyFields t (old ++ frz ++ (List.range 8).map Fr.MEM_OLDEST_ST)
        ∧ t = { (s.asTaken t) with hbm := t.hbm }))
    ∧ (let e := asOp d 0x07
      let r0 := recDesc e id
      s.Ready e → Takes (.recordStart d) s e none (fun t =>
        (∃ r, t.recs = s.recs ++ [r] ∧ r.job = id ∧ r.p = e.p ∧ r.cseq = 0 ∧ r.begun = false
          ∧ r.iv = (if r0.enc then ((s.key r0.keyEnc).map (·.ctr)).getD 0 else 0))
        ∧ (∀ k ∈ r0.spaces, t.fld (Fr.REC_NS_STATE k) = 2) ∧ t.flag (Fr.SQ_STANDING d.ring) = true
        ∧ (∀ h, (t.key h).map (·.ctr) = (s.key h).map (fun k => if r0.enc = true ∧ h = r0.keyEnc then k.ctr + 1 else k.ctr))
        ∧ s.onlyFields t (old ++ [Fr.REC_OPEN, Fr.REC_NS_READY] ++ r0.spaces.map Fr.REC_NS_STATE)
        ∧ t = { (s.asTaken t) with
            recs := t.recs
            sec := { s.sec with keys := t.sec.keys } }))
    ∧ (let e := asOp d 0x08
      ∀ r, s.Ready e → s.recOf (w e) = some r → r.signed = false → Takes (.recordStop d) s e none (fun t =>
        ((t.recOf (w e)).map (fun x => (x.ended, x.begun, x.seg))) = some (some (0, 0, id), false, r.seg + 1)
        ∧ (∃ l, t.out = s.out ++ l ∧ l ≠ []) ∧ (∀ k, k ≠ w e → t.recOf k = s.recOf k)
        ∧ s.onlyFields t old
        ∧ t = { (s.asTaken t) with
            recs := t.recs
            out := t.out }))
    ∧ (let e := asOp d 0x10
      s.Ready e → s.chans.length = 32 → Takes (.move d) s e none (fun t =>
        hasXfer t (24 + d.ring % 8) (fun x => x.owner = .move id ∧ x.length = mvLen e ∧ x.src = mvSrc e ∧ x.dst = mvDst e
          ∧ x.srcSpace = mvSrcSp e ∧ x.dstSpace = mvDstSp e ∧ x.issued = 0)
        ∧ t = { (s.asTaken t) with chans := t.chans }))
    ∧ (let e := withField (asOp d 0x15) 0 0 2 0
      let k := bits (w e) 8 6
      let len := nth e.p 3 0
      let run := (padTo len d.data).foldl crcByte (if bit (w e) 14 then 0xFFFFFFFF else s.fld (Fr.REC_RUN k))
      let crc := Nat.xor run 0xFFFFFFFF
      s.Ready e → d.reads len → Takes (.checkBuffer d) s e
          (some (if bit (w e) 15 && crc ≠ nth e.p 4 0 then 0x23 else 0, crc, len)) (fun t => t.fld (Fr.REC_RUN k) = run
        ∧ s.onlyFields t (old ++ [Fr.REC_RUN k]) ∧ t = s.asTaken t))
    ∧ (let e := withField (asOp d 0x15) 0 0 2 1
      let v := s.verifySegs (nth e.p 3 0) d.data {}
      s.Ready e →
      (d.hostErr = none → Takes (.checkVerify d) s e
          (some (if v.bad || 0 < v.suspect then 0x23 else if 0 < v.damaged then 1 else 0,
            Nat.min v.damaged 65535 + 65536 * Nat.min v.suspect 65535, v.bytes))
          (fun t => s.onlyFields t old ∧ t = s.asTaken t))
      ∧ (∀ x, d.hostErr = some x → Takes (.checkVerify d) s e (some (0x22, 0, ioExtent x))
          (fun t => s.onlyFields t old ∧ t = s.asTaken t)))

/-- Core loads and runs, calibration, snapshots, self-tests, restripe, fault acknowledgement, journal reads, shedding
order. CORE_LOAD puts the image into every named core and extends M[1]; START begins a core at its entry with
cleared registers and STOP ends it with its halt result. CALIBRATE makes the named intakes due, SNAPSHOT and BIST
wait for their copy or result, RESTRIPE stops the ring writer. FAULT_ACK marks the record, or tests the failed
unit; JOURNAL_READ writes the records that fit; SHED_ORDER sets the ranks of the jobs it names and no others.
Nothing else changes. -/
def Obligations.CoreAndUpkeepJobs : Prop :=
  ∀ (s : State) (d : Desc), (∀ w ∈ d.p, w < 2 ^ 32) → (∀ b ∈ d.data, b < 256) →
    let old := s.takenFields d.ring
    let w (e : Desc) := nth e.p 0 0
    let id := s.nextJob
    (let e := asOp d 0x09
      let n := clSlice e
      let img := clImage e (padTo (clLen e) d.data)
      ∀ im, s.Ready e → s.cores.length = 144 → d.reads (clLen e) → parseImage img = some im →
        Takes (.coreLoad d) s e (some (0, 0, clLen e)) (fun t =>
          (∀ c, c < 16 → bit (clMask e) c = true →
            t.core n c = { s.core n c with
              im := im.im
              dm := imageDm im
              image := some im }
            ∧ t.fld (Fr.CORE_STATE n c) = 1 ∧ t.fld (Fr.CORE_IMG_CRC n c) = im.crc % 2 ^ 32)
          ∧ (∀ m c, m < 9 → c < 16 → (m = n → bit (clMask e) c = false) → t.core m c = s.core m c)
          ∧ (∀ j, j < 8 → t.fld (Fr.SEC_M (8 + j)) = leAt (sha256 (s.measure 1 ++ sha256 img)) (4 * j) 4 % 2 ^ 32)
          ∧ s.onlyFields t (old ++ (List.range 8).map (fun j => Fr.SEC_M (8 + j)) ++ (List.range 16).map (Fr.CORE_STATE n)
              ++ (List.range 16).map (Fr.CORE_IMG_CRC n))
          ∧ t = { (s.asTaken t) with cores := t.cores }))
    ∧ (let e := withField (asOp d 0x0A) 0 8 2 0
      let n := crSlice e
      let c := crCore e
      s.Ready e → s.cores.length = 144 → Takes (.coreRunStart d) s e none (fun t =>
        (t.core n c).job = id ∧ (t.core n c).pc = s.crEntry e ∧ (t.core n c).d = zeros 16 ∧ (t.core n c).a = [0, 0]
        ∧ (t.core n c).sr = 0 ∧ (t.core n c).ret = [] ∧ (t.core n c).loops = [] ∧ (t.core n c).im = (s.core n c).im
        ∧ (t.core n c).dm = (s.core n c).dm ∧ (t.core n c).msgs = (s.core n c).msgs ∧ (t.core n c).ending = none
        ∧ t.fld (Fr.CORE_STATE n c) = 2 ∧ t.flag (Fr.CORE_RESTARTED n c) = false
        ∧ t.fld (Fr.CORE_BUDGET n c) = bits (nth e.p 1 0) 0 9 ∧ t.fld (Fr.CORE_EV_RATE n c) = bits (nth e.p 1 0) 16 16
        ∧ (∀ k, k ≠ 16 * n + c → nth t.cores k {} = nth s.cores k {}) ∧ t.flag (Fr.SQ_STANDING d.ring) = true
        ∧ s.onlyFields t (old ++ [Fr.CORE_STATE n c, Fr.CORE_RESTARTED n c, Fr.CORE_BUDGET n c, Fr.CORE_EV_RATE n c,
            Fr.CORE_LOST n c, Fr.CORE_DENIED n c, Fr.CORE_BUDGET_SUM n, Fr.CORE_RUN_MASK n])
        ∧ t = { (s.asTaken t) with cores := t.cores }))
    ∧ (let e := withField (asOp d 0x0A) 0 8 2 1
      let n := crSlice e
      let c := crCore e
      let k := s.core n c
      ∀ j, s.Ready e → s.cores.length = 144 → s.job k.job = some j → j.done = none →
        (k.dmaOut = 0 → Completes (.coreRunStop d) s (fun t =>
          t.jobResult j.id = some (if j.flt ≠ 0 then 1 else 0, 1 + 65536 * k.pc, 0) ∧ t.jobResult id = some (0, 0, 0)
          ∧ (t.core n c).job = 0 ∧ t.fld (Fr.CORE_STATE n c) = 4 ∧ (t.core n c).d = k.d ∧ (t.core n c).dm = k.dm
          ∧ (∀ i, i ≠ 16 * n + c → nth t.cores i {} = nth s.cores i {})
          ∧ s.onlyFields t (old ++ [Fr.CORE_STATE n c, Fr.CORE_PC n c, Fr.CORE_SR n c, Fr.CORE_BUDGET n c, Fr.CORE_EV_RATE n c,
              Fr.CORE_BUDGET_SUM n, Fr.CORE_RUN_MASK n])
          ∧ t = { (s.asTaken t) with cores := t.cores }))
        ∧ (k.dmaOut ≠ 0 → Takes (.coreRunStop d) s e none (fun t => s.onlyFields t old
          ∧ t = { (s.asTaken t) with cores := modNth s.cores (16 * n + c) (fun x => { x with ending := some (.stop id) }) })))
    ∧ (let e := asOp d 0x0B
      let m := bits (w e) 9 2
      s.Ready e → s.cal.run = none → s.cal.due.length = 9 → Takes (.calibrate d) s e none (fun t =>
        t.cal.jobs = s.cal.jobs ++ [⟨id, w e % 512, 0, false, 0⟩]
        ∧ (∀ k, k < 9 → bit (w e) k = true → (t.due k).jobs = (s.due k).jobs ++ [id]
            ∧ (t.due k).mode1 = ((s.due k).mode1 || m = 1 && k ≠ 8) ∧ bit (t.fld Fr.CAL_SPARE_PENDING) k = true)
        ∧ (∀ k, k < 9 → bit (w e) k = false → t.due k = s.due k)
        ∧ s.onlyFields t (old ++ [Fr.CAL_SPARE_PENDING])
        ∧ t = { (s.asTaken t) with cal := { s.cal with
            jobs := t.cal.jobs
            due := t.cal.due } }))
    ∧ (let e := asOp d 0x0C
      s.Ready e → Takes (.snapshot d) s e none (fun t => t.snaps = s.snaps ++ [⟨id, snapT e, snapImm e⟩]
        ∧ t.fld Fr.PMC_PENDING = s.snaps.length + 1 ∧ s.onlyFields t (old ++ [Fr.PMC_PENDING])
        ∧ t = { (s.asTaken t) with snaps := t.snaps }))
    ∧ (let e := asOp d 0x0D
      s.Ready e → Takes (.bist d) s e none (fun t => t.bists = s.bists ++ [⟨id, bistKind e, bistIndex e, bistType e, false, 0⟩]
        ∧ (bistKind e = 3 → bistIndex e = 8 → nth s.cal.failed 8 false = false → t.fld Fr.CAL_SPARE_USE = 2)
        ∧ s.onlyFields t (old ++ if bistKind e = 3 ∧ bistIndex e = 8 then [Fr.CAL_SPARE_USE] else [])
        ∧ t = { (s.asTaken t) with bists := t.bists }))
    ∧ (let e := asOp d 0x14
      s.Ready e → Takes (.restripe d) s e none (fun t => s.onlyFields t old
        ∧ t = { (s.asTaken t) with hbm := { s.hbm with
            ringOn := false
            restripe := some (id, e) } }))
    ∧ (let e := withField (asOp d 0x16) 1 0 1 0
      s.Ready e → Takes (.faultAckAck d) s e (some (0, 0, 0)) (fun t =>
        t.faults = s.faults.map (fun f => if f.id = w e then { f with acked := true } else f)
        ∧ t.flag Fr.FLTJNL_BEYOND = t.faults.any (fun f => f.beyond && !f.acked && !f.returned)
        ∧ (t.faults.length < 2 ^ 16 → t.fld Fr.FLTJNL_UNACKED = t.faults.countP (fun f => !f.acked))
        ∧ s.onlyFields t (old ++ [Fr.FLTJNL_UNACKED, Fr.FLTJNL_BEYOND, Fr.FLT_PIN_WHY, Fr.FLT_PIN_STATE])
        ∧ t = { (s.asTaken t) with faults := t.faults }))
    ∧ (let e := withField (asOp d 0x16) 1 0 1 1
      ∀ f, s.Ready e → s.ackFlt e = some f →
        (f.kind ≠ 3 → ∀ k, regionOf f.kind = some k → Takes (.faultAckReturn d) s e none (fun t =>
          (∃ b, t.bists = s.bists ++ [b] ∧ b.job = id ∧ b.kind = k ∧ b.index = f.index ∧ b.ack = true ∧ b.flt = f.id)
          ∧ s.onlyFields t (old ++ [Fr.CAL_SPARE_USE]) ∧ t = { (s.asTaken t) with bists := t.bists }))
        ∧ (f.kind = 3 → f.index < 2 → s.clk.synTry.length = 2 → s.clk.synAck.length = 2 → s.clk.synFlt.length = 2 →
          Takes (.faultAckReturn d) s e none (fun t =>
          t.fld (Fr.CLK_SYN_ROLE f.index) = 2 ∧ nth t.clk.synTry f.index 9 = 0 ∧ nth t.clk.synAck f.index none = some id
          ∧ s.onlyFields t (old ++ [Fr.CLK_SYN_ROLE f.index])
          ∧ t = { (s.asTaken t) with clk := { s.clk with
              synTry := t.clk.synTry
              synFlt := t.clk.synFlt
              synAck := t.clk.synAck } })))
    ∧ (let e := asOp d 0x17
      let func := s.ownerSq d.ring
      s.Ready e → d.hostErr = none → Completes (.journalRead d) s (fun t =>
        let size := if jrWhat e = 0 then 32 else 64
        let l := ((if jrWhat e = 0 then t else s).journalRecs func e).take (jrLen e / size)
        t.out = s.out ++ [Out.hostWrite (pAddr e 2) l.flatten]
        ∧ t.jobResult id = some (0, l.flatten.length / size, l.flatten.length)
        ∧ s.onlyFields t old
        ∧ t = { (s.asTaken t) with
            out := t.out
            freeCtr := s.freeCtr + l.length }))
    ∧ (let e := asOp d 0x18
      ∀ r, s.Ready e → s.globalSq (s.ownerSq d.ring) (shSq e) = some r → s.jobs.Pairwise (fun a b => a.id ≠ b.id) →
          (shPairs e).Pairwise (fun a b => a.1 ≠ b.1) →
        Completes (.shedOrder d) s (fun t => t.jobResult id = some (0, 0, 0)
          ∧ (∀ p ∈ shPairs e, ∃ j, s.standingSeq r p.1 = some j ∧ t.job j.id = some { j with rank := p.2 })
          ∧ (∀ j ∈ s.jobs, (∀ p ∈ shPairs e, s.standingSeq r p.1 ≠ some j) → t.job j.id = some j)
          ∧ s.onlyFields t old ∧ t = s.asTaken t))

/-- Attestation, keys, random numbers and zeroisation. ATTEST writes the quote, its body signed with the identity key,
or the certificates. GENERATE and IMPORT put a key into their handle, DELETE removes it, EXPORT_PUBLIC writes its
signed record; SET_OWNER fixes the owner hash, SVN_COMMIT raises a rollback counter and posts an event,
REVOKE_VENDOR sets one bit. Zeroisation empties the key store and ends a recording that names a key; when it is
over the module is ZEROISED until a reseed. A failed entropy test makes the module DEGRADED until a start-up test
passes. A failed read or write of host memory is reported in the status. Nothing else changes. -/
def Obligations.KeyJobs : Prop :=
  ∀ (s : State) (d : Desc), (∀ w ∈ d.p, w < 2 ^ 32) → (∀ b ∈ d.data, b < 256) →
    let old := s.takenFields d.ring
    let id := s.nextJob
    let done (i : Instr) (e : Desc) (n : Nat) (l : List FRef) (p : State → Prop) : Prop :=
      Takes i s e (some (0, 0, n)) (fun t => p t ∧ s.onlyFields t (old ++ l))
    (let e := withField (asOp d 0x0E) 0 0 2 0
      let body := s.quoteBody ((List.range 8).flatMap (fun i => le 4 (nth e.p (4 + i) 0)))
      s.Ready e → d.hostErr = none → done (.attestQuote d) e 640 [Fr.SEC_RESEED_CTR] (fun t =>
        t.fld Fr.SEC_RESEED_CTR = s.fld Fr.SEC_RESEED_CTR + 1
        ∧ t = { (s.asTaken t) with
            freeCtr := s.freeCtr + 1
            out := s.out ++ [Out.hostWrite (pAddr e 1) (body ++ padTo 384 (Config.pssSign 0 s.freeCtr body))] }))
    ∧ (let e := withField (asOp d 0x0E) 0 0 2 1
      s.Ready e → d.hostErr = none → done (.attestCertificates d) e certificateBytes.length [] (fun t =>
        t = { (s.asTaken t) with out := s.out ++ [Out.hostWrite (pAddr e 1) certificateBytes] }))
    ∧ (let e := asKeyOp d 0
      s.Ready e → done (.generate d) e 0 [Fr.SEC_KEYS, Fr.SEC_RESEED_CTR] (fun t =>
        t.key (koHandle e) = some ⟨koHandle e, koType e, s.sec.nextMat, 0⟩ ∧ (∀ h, h ≠ koHandle e → t.key h = s.key h)
        ∧ t.fld Fr.SEC_RESEED_CTR = s.fld Fr.SEC_RESEED_CTR + 1
        ∧ t = { (s.asTaken t) with sec := { s.sec with
            keys := t.sec.keys
            nextMat := s.sec.nextMat + 1 } }))
    ∧ (let e := asKeyOp d 1
      s.Ready e →
        (∀ m, d.reads 384 → importKeyOf s e = some m → done (.importKey d) e 0 [Fr.SEC_KEYS] (fun t =>
          t.key (koHandle e) = some ⟨koHandle e, 3, m, 0⟩ ∧ (∀ h, h ≠ koHandle e → t.key h = s.key h)
          ∧ t = { (s.asTaken t) with sec := { s.sec with keys := t.sec.keys } }))
        ∧ (∀ x, d.hostErr = some x → x < 384 → Takes (.importKey d) s e (some (0x21, 0, 0)) (fun t => s.onlyFields t old
          ∧ t = s.asTaken t)))
    ∧ (let e := asKeyOp d 2
      ∀ k, s.Ready e → d.hostErr = none → exportKey s e = some k → done (.exportPublic d) e 1024 [Fr.SEC_RESEED_CTR] (fun t =>
        let msg := le 2 k.handle ++ [k.type, 0] ++ le 8 (s.fld Fr.SEC_SERIAL) ++ padTo 384 (Config.rsaModulus k.mat)
        let sig := padTo 384 (Config.pssSign 0 s.freeCtr msg)
        t = { (s.asTaken t) with
            freeCtr := s.freeCtr + 1
            out := s.out ++ [Out.hostWrite (pAddr e 1)
              (padTo 1024 (Config.publicRecord k.handle k.type (s.fld Fr.SEC_SERIAL) (Config.rsaModulus k.mat) sig))] }))
    ∧ (let e := asKeyOp d 3
      s.Ready e → done (.deleteKey d) e 0 [Fr.SEC_KEYS] (fun t => t.key (koHandle e) = none
        ∧ (∀ h, h ≠ koHandle e → t.key h = s.key h) ∧ t = { (s.asTaken t) with sec := { s.sec with keys := t.sec.keys } }))
    ∧ (let e := asKeyOp d 4
      s.Ready e →
        (d.reads 32 → done (.setOwner d) e 0 [Fr.SEC_OWNER_SET] (fun t => t.flag Fr.SEC_OWNER_SET = true
          ∧ t = { (s.asTaken t) with sec := { s.sec with owner := padTo 32 d.data } }))
        ∧ (∀ x, d.hostErr = some x → x < 32 → Takes (.setOwner d) s e (some (0x21, 0, ioExtent x)) (fun t => s.onlyFields t old
          ∧ t = s.asTaken t)))
    ∧ (let e := asKeyOp d 5
      s.Ready e → done (.svnCommit d) e 0 [svnCounter e, Fr.HIF_EVSEQ_NEXT] (fun t => t.fld (svnCounter e) = koVal e
        ∧ s.oneEvent t 9 9 ∧ t = { (s.asTaken t) with evq := t.evq }))
    ∧ (let e := asKeyOp d 6
      s.Ready e →
        (s.recs = [] → Takes (.zeroise d) s e none (fun t => s.onlyFields t (old ++ [Fr.SEC_KEYS])
          ∧ t = { (s.asTaken t) with sec := { s.sec with
              keys := []
              zeroise := some ((match s.sec.zeroise with | some (a, _) => Nat.max a (koVal e) | none => koVal e), id) } }))
        ∧ (∀ r, s.recs = [r] → r.ended = none → r.begun = true → r.signed = true → (s.key r.keySign).isSome = true → s.streams = [] →
          Takes (.zeroise d) s e none (fun t => t.sec.keys = []
            ∧ ((t.recOf r.id).map (fun x => (x.ended, x.chain))) = some (some (4, 3, 0), r.chain))))
    ∧ (let e := asKeyOp d 7
      s.Ready e → done (.reseed d) e 0 [Fr.SEC_RESEED_CTR, Fr.SEC_STATE] (fun t => t.fld Fr.SEC_RESEED_CTR = 0
        ∧ t.fld Fr.SEC_STATE = (if s.fld Fr.SEC_STATE = 3 then 0 else s.fld Fr.SEC_STATE)
        ∧ t = { (s.asTaken t) with sec := { s.sec with exhausted := false } }))
    ∧ (let e := asKeyOp d 8
      s.Ready e → done (.revokeVendor d) e 0 [Fr.SEC_REVOKED] (fun t => bit (t.fld Fr.SEC_REVOKED) (koVal e) = true
        ∧ (∀ k, k < 4 → k ≠ koVal e → bit (t.fld Fr.SEC_REVOKED) k = bit (s.fld Fr.SEC_REVOKED) k) ∧ t = s.asTaken t))
    ∧ (s.recs = [] → Completes .zeroizeN s (fun t => s.onlyFields t [Fr.SEC_KEYS]
        ∧ t = { s with
            regs := t.regs
            sec := { s.sec with
              keys := []
              zeroise := some ((match s.sec.zeroise with | some (a, _) => a | none => 0), 0) } }))
    ∧ (s.sec.zeroise = none → exec .zeroised s = .next s)
    ∧ (∀ sc j, s.sec.zeroise = some (sc, j) → (∀ x ∈ s.jobs, x.ring < 64) → s.jobs.Pairwise (fun a b => a.id ≠ b.id) → Completes .zeroised s (fun t =>
        t.sec = { s.sec with zeroise := none } ∧ s.oneEvent t 9 6
        ∧ t.fld Fr.SEC_STATE = (if s.fld Fr.SEC_STATE = 2 then 2 else 3) ∧ (sc = 1 → t.flag Fr.SEC_IDENTITY = false)
        ∧ (sc ≠ 1 → t.flag Fr.SEC_IDENTITY = s.flag Fr.SEC_IDENTITY)
        ∧ (∀ x ∈ t.jobs, x.d.opcode = 0x0F → koOp x.d = 6 → x.done.isSome = true)
        ∧ (∀ x ∈ s.jobs, x.d.opcode ≠ 0x0F → x ∈ t.jobs)
        ∧ s.onlyFields t ([Fr.SEC_STATE, Fr.SEC_IDENTITY, Fr.SEC_KEYS, Fr.HIF_EVSEQ_NEXT] ++ (List.range 64).map Fr.SQ_STANDING)
        ∧ t = { s with
            regs := t.regs
            sec := t.sec
            jobs := t.jobs
            evq := t.evq }))
    ∧ (s.sec.entropyBad = true ∨ s.sec.zeroise.isSome = true → exec .drbgReseed s = .next s)
    ∧ (s.sec.entropyBad = false → s.sec.zeroise = none → Completes .drbgReseed s (fun t => t.fld Fr.SEC_RESEED_CTR = 0
        ∧ t.fld Fr.SEC_STATE = (if s.fld Fr.SEC_STATE = 3 then 0 else s.fld Fr.SEC_STATE)
        ∧ s.onlyFields t [Fr.SEC_RESEED_CTR, Fr.SEC_STATE]
        ∧ t = { s with
            regs := t.regs
            sec := { s.sec with exhausted := false } }))
    ∧ (s.sec.entropyBad = true → exec .entropyFail s = .next s)
    ∧ (s.sec.entropyBad = false → Completes .entropyFail s (fun t => s.oneEvent t 9 3
        ∧ t.fld Fr.SEC_STATE = (if s.fld Fr.SEC_STATE = 0 then 1 else s.fld Fr.SEC_STATE)
        ∧ s.onlyFields t [Fr.SEC_STATE, Fr.HIF_EVSEQ_NEXT]
        ∧ t = { s with
            regs := t.regs
            evq := t.evq
            sec := { s.sec with entropyBad := true } }))
    ∧ (∀ pass, s.sec.entropyBad = false ∨ pass = false → exec (.entropyRetest pass) s = .next s)
    ∧ (s.sec.entropyBad = true → s.sec.zeroise = none → Completes (.entropyRetest true) s (fun t => s.oneEvent t 9 4
        ∧ t.fld Fr.SEC_RESEED_CTR = 0
        ∧ t.fld Fr.SEC_STATE = (if s.fld Fr.SEC_STATE = 1 ∨ s.fld Fr.SEC_STATE = 3 then 0 else s.fld Fr.SEC_STATE)
        ∧ s.onlyFields t [Fr.SEC_STATE, Fr.SEC_RESEED_CTR, Fr.HIF_EVSEQ_NEXT]
        ∧ t = { s with
            regs := t.regs
            evq := t.evq
            sec := { s.sec with
              entropyBad := false
              exhausted := false } }))

/-- DRAIN, CLOSE, the two resets of QUIESCE, the drain's timeout and PROGRESS records. DRAIN completes at once with no
other job of the function open, else it waits with its timeout and stops the fetching of the function's rings;
DRAIN_TIMEOUT completes it flagged with the open jobs. CLOSE ends the function's standing stream CANCELLED before
it completes. RESET waits for earlier completions, then resets with CAUSE 7 and completes DONE. SLICE_RESET resets
the named slices, posts one RESUME event with CAUSE 8 and leaves other slices. PROGRESS writes a record of the work
done. -/
def Obligations.QuiesceAndProgress : Prop :=
  ∀ (s : State) (d : Desc), (∀ w ∈ d.p, w < 2 ^ 32) →
    let old := s.takenFields d.ring
    let id := s.nextJob
    let func := s.ownerSq d.ring
    (let e := withField (asOp d 0x13) 0 0 2 0
    s.Ready e → s.quiesces = [] →
        (s.othersOpen func id = 0 → Takes (.quiesceDrain d) s e (some (0, 0, 0)) (fun t =>
          s.onlyFields t old ∧ t = s.asTaken t))
        ∧ (s.othersOpen func id ≠ 0 → Takes (.quiesceDrain d) s e none (fun t =>
          t.quiesces = [⟨id, func, 0, s.samp + s.samplesOfNs (1000000 * quTimeout e)⟩]
          ∧ (∀ r, t.ownerSq r = func → t.mayFetch r = false)
          ∧ s.onlyFields t old ∧ t = { (s.asTaken t) with quiesces := t.quiesces })))
    ∧ (let e := withField (asOp d 0x13) 0 0 2 1
      s.Ready e → s.quiesces = [] →
        (s.openJobs (fun j => j.func = func && j.standing) = [] → Takes (.quiesceClose d) s e (some (0, 0, 0)) (fun t =>
          s.onlyFields t old ∧ t = s.asTaken t))
        ∧ (∀ j x, s.openJobs (fun j => j.func = func && j.standing) = [j] → s.job j.id = some j → j.ring < 64 → j.d.opcode = 3 →
            s.streams.find? (fun x => x.job = j.id) = some x → s.stream x.id = some x →
          Completes (.quiesceClose d) s (fun t => t.jobResult j.id = some (5, x.lost, x.sent) ∧ t.jobResult id = some (0, 0, 0)
            ∧ t.stream x.id = none ∧ (∀ k, k ≠ x.id → t.stream k = s.stream k)
            ∧ s.onlyFields t (old ++ [Fr.SQ_STANDING j.ring, Fr.NET_OPEN])
            ∧ t = { (s.asTaken t) with streams := t.streams })))
    ∧ (let e := withField (asOp d 0x13) 0 0 2 2
      s.Ready e → 0 < id →
        ((∃ j ∈ s.jobs, j.posted = false) → Takes (.quiesceReset d) s e none (fun t => t.resetDue = id
          ∧ (∀ r, t.mayFetch r = false) ∧ s.onlyFields t old ∧ t = { (s.asTaken t) with resetDue := id }))
        ∧ ((∀ j ∈ s.jobs, j.posted = true) → Completes (.quiesceReset d) s (fun t => t.jobDone id 0
          ∧ t.fld Fr.FLTJNL_LAST_RESET = 7 ∧ t.flag Fr.FLTJNL_RESUME_PENDING = true ∧ t.resumeHold = 7 ∧ t.mayPost = false
          ∧ t.clk.internalDue = true ∧ t.chans = List.replicate 32 {} ∧ t.extracts = [] ∧ t.pulses = [0, 0, 0, 0])))
    ∧ (let e := withField (asOp d 0x13) 0 0 2 3
      s.Ready e → s.jobs = [] → s.slices.length = 9 → s.tuners.length = 36 → s.cores.length = 144 →
        (∀ x ∈ s.slices, x.pend = []) → (∀ x ∈ s.zooms, x.pend = []) → (∀ x ∈ s.tuners, x.pend = [] ∧ x.queued = none) →
        Takes (.sliceReset d) s e (some (0, 0, 0)) (fun t =>
          (∀ n, n < 9 → bit (quSlices e) n = true →
            t.slice n = { phys := (s.slice n).phys, failed := (s.slice n).failed }
            ∧ (∀ k, k < 4 → t.tuner n k = {}) ∧ (∀ c, c < 16 → t.core n c = {})
            ∧ (∀ a, 0x80000 * (n + 1) ≤ a → a < 0x80000 * (n + 2) → rwsMask a = 0 → t.reg a = regReset a))
          ∧ (∀ n, n < 9 → bit (quSlices e) n = false →
            t.slice n = s.slice n ∧ (∀ k, k < 4 → t.tuner n k = s.tuner n k) ∧ (∀ c, c < 16 → t.core n c = s.core n c))
          ∧ s.oneEvent t 0xA 8 ∧ t.fld Fr.FLTJNL_LAST_RESET = 8 ∧ t.flag Fr.FLTJNL_RESUME_PENDING = s.flag Fr.FLTJNL_RESUME_PENDING
          ∧ t = { (s.asTaken t) with
              slices := t.slices
              tuners := t.tuners
              zooms := t.zooms
              cores := t.cores
              chans := t.chans
              cal := t.cal
              evq := t.evq
              out := t.out
              pins := t.pins
              force := t.force
              rlLatch := t.rlLatch
              rlPend := t.rlPend }))
    ∧ (∀ job, (∀ x, s.job job = some x → x.running = true →
          Completes (.progress job) s (fun t => (∃ r, t.journal = s.journal ++ [r] ∧ r.kind = 2 ∧ r.job = x.id
            ∧ r.extent = s.workDone x ∧ r.jseq = s.fld Fr.FLTJNL_JSEQ_NEXT ∧ r.st = s.samp ∧ r.seq = x.d.seq ∧ r.token = x.d.token)
            ∧ t.fld Fr.FLTJNL_JSEQ_NEXT = (s.fld Fr.FLTJNL_JSEQ_NEXT + 1) % 2 ^ 32 ∧ s.onlyFields t [Fr.FLTJNL_JSEQ_NEXT]
            ∧ t = { s with
                regs := t.regs
                journal := t.journal
                everUsed := true
                jlast := t.jlast
                counts := t.counts }))
        ∧ ((∀ x, s.job job = some x → x.running = false) → exec (.progress job) s = .next s))
    ∧ (∀ job, (∀ q j, s.quiesces.find? (fun q => q.job = job && q.mode = 0) = some q → s.job job = some j → j.done = none →
          j.ring < 64 → q.stop ≤ s.samp →
          Completes (.drainTimeout job) s (fun t => t.jobResult job = some (1, s.othersOpen q.func job, 0)
            ∧ (∀ i, i ≠ job → t.job i = s.job i) ∧ t.quiesces = s.quiesces.filter (fun x => x.job ≠ job)
            ∧ s.onlyFields t [Fr.SQ_STANDING j.ring]
            ∧ t = { s with
                regs := t.regs
                jobs := t.jobs
                quiesces := t.quiesces }))
        ∧ ((∀ q, s.quiesces.find? (fun q => q.job = job && q.mode = 0) = some q → s.samp < q.stop) →
          exec (.drainTimeout job) s = .next s))

/-- Slice faults, the ends of self-tests, the rotation over the slices and the changeover of the control pairs. A
failed slice that serves a logical slice is taken over by slice 8 with FAULT and TAKEOVER, or, where slice 8 is not
free, has no replacement; one that serves nothing only fails. A self-test ends with its signatures compared: a pass
completes DONE, a failure marks the region failed with a FAULT; a passed RETURN returns the unit. A rotation step
begins or is skipped, and ends after 60 s. A failed control pair hands over to the standby, or lies beyond the
assumptions. -/
def Obligations.SliceFaultsAndTests : Prop :=
  ∀ (s : State),
    let noTest := s.bists = [] ∧ s.rot = none ∧ s.slices.length = 9 ∧ s.fld Fr.FLTJNL_LAST_ID + 1 < 2 ^ 32
    let lastTwo (t : State) (k : Nat) : Prop := ∃ l, t.evq.map (fun e => (e.cls, e.cause)) = l ++ [(4, k), (5, k)]
    let faultOf (t : State) (p : Flt → Prop) : Prop := ∃ f, t.faults.getLast? = some f ∧ p f
    let spareUsed := s.slices.any (fun x => x.phys = 8 && !x.failed) && (s.slice 8).failed
    let last := [Fr.BIST_LAST_KIND, Fr.BIST_LAST_INDEX, Fr.BIST_LAST_RESULT, Fr.BIST_SIG_LOGIC, Fr.BIST_SIG_MEM]
    let flt := [Fr.FLTJNL_LAST_ID, Fr.FLTJNL_UNACKED, Fr.FLTJNL_BEYOND, Fr.FLT_PIN_WHY, Fr.FLT_PIN_STATE, Fr.HIF_EVSEQ_NEXT]
    (∀ k onset rel,
      (9 ≤ k ∨ s.powered k = false ∨ s.sliceFailed.contains k = true → exec (.sliceFault k onset rel) s = .next s)
      ∧ (noTest → k < 9 → s.powered k = true → s.sliceFailed.contains k = false →
        (s.servedBy k = none → Completes (.sliceFault k onset rel) s (fun t => t.sliceFailed = k :: s.sliceFailed ∧ s.oneEvent t 4 2
          ∧ faultOf t (fun f => f.kind = 2 ∧ f.index = k ∧ f.spare = 0xFF ∧ f.beyond = false ∧ f.onset = onset ∧ f.affected = 0)
          ∧ s.onlyFields t flt
          ∧ t = { s with
              regs := t.regs
              sliceFailed := t.sliceFailed
              faults := t.faults
              evq := t.evq }))
        ∧ (∀ m, s.servedBy k = some m → m < 8 → k < 8 → s.sliceFailed.contains 8 = false → spareUsed = false →
          Completes (.sliceFault k onset rel) s (fun t => (t.slice m).phys = 8 ∧ (t.slice m).failed = false
            ∧ (t.slice 8).failed = true ∧ (∀ n, n ≠ m → n ≠ 8 → t.slice n = s.slice n) ∧ t.sliceFailed = k :: s.sliceFailed
            ∧ lastTwo t 2
            ∧ faultOf t (fun f => f.kind = 2 ∧ f.index = k ∧ f.spare = 8 ∧ f.takeover = true ∧ f.beyond = false
                ∧ f.onset = onset ∧ f.restored = Nat.max s.samp (Nat.min rel (onset + s.samplesOfNs 240000)))))
        ∧ (∀ m, s.servedBy k = some m → m < 8 → s.sliceFailed.contains 8 = true ∨ spareUsed = true →
          Completes (.sliceFault k onset rel) s (fun t => (t.slice m).failed = true ∧ (∀ n, n ≠ m → t.slice n = s.slice n)
            ∧ (t.evq.getLast?).map (fun e => (e.cls, e.cause)) = some (4, 2)
            ∧ faultOf t (fun f => f.kind = 2 ∧ f.index = k ∧ f.spare = 0xFF ∧ f.takeover = false ∧ f.beyond = true
                ∧ f.onset = onset)))))
    ∧ (∀ kind index a b,
      (s.bists.find? (fun b => b.kind = kind && b.index = index) = none → exec (.bistDone kind index a b) s = .next s)
      ∧ (∀ x j, kind < 256 → index < 256 → s.bists.find? (fun b => b.kind = kind && b.index = index) = some x → s.rot = none →
          s.job x.job = some j → j.done = none → j.flt = 0 → j.ring < 64 → s.fld Fr.FLTJNL_LAST_ID + 1 < 2 ^ 32 →
        let ends (t : State) (st res : Nat) : Prop := t.jobResult x.job = some (st, res, 0)
          ∧ (∀ i, i ≠ x.job → t.job i = s.job i) ∧ t.bists = s.bists.filter (fun y => y.kind ≠ kind || y.index ≠ index)
          ∧ t.fld Fr.BIST_LAST_KIND = kind ∧ t.fld Fr.BIST_LAST_INDEX = index ∧ t.fld Fr.BIST_LAST_RESULT = res
        (x.ack = false → x.type = 1 → a % 2 ^ 64 = s.bistExp kind 1 → Completes (.bistDone kind index a b) s (fun t => ends t 0 1
          ∧ t.fld Fr.BIST_SIG_LOGIC = a % 2 ^ 64 ∧ t.fld Fr.BIST_SIG_MEM = s.fld Fr.BIST_SIG_MEM
          ∧ s.onlyFields t (last ++ [Fr.CAL_SPARE_USE, Fr.SQ_STANDING j.ring])
          ∧ t = { s with
              regs := t.regs
              bists := t.bists
              jobs := t.jobs }))
        ∧ (x.ack = false → x.type = 1 → a % 2 ^ 64 ≠ s.bistExp kind 1 → kind = 1 → index < 9 → s.sliceFailed.contains index = false →
          Completes (.bistDone kind index a b) s (fun t => ends t 1 0 ∧ t.sliceFailed = index :: s.sliceFailed ∧ s.oneEvent t 4 2
            ∧ faultOf t (fun f => f.kind = 2 ∧ f.index = index ∧ f.spare = 0xFF ∧ f.beyond = false)
            ∧ s.onlyFields t (last ++ flt ++ [Fr.SQ_STANDING j.ring])
            ∧ t = { s with
                regs := t.regs
                bists := t.bists
                jobs := t.jobs
                sliceFailed := t.sliceFailed
                faults := t.faults
                evq := t.evq }))
        ∧ (x.ack = true → x.type = 3 → kind = 7 → a % 2 ^ 64 = s.bistExp 7 1 → b % 2 ^ 64 = s.bistExp 7 2 →
          Completes (.bistDone kind index a b) s (fun t => ends t 0 3 ∧ t.ctlFailed = s.ctlFailed.filter (· ≠ index)
            ∧ t.faults = s.faults.map (fun f => if f.id = x.flt then { f with returned := true } else f)
            ∧ t.fld Fr.BIST_SIG_LOGIC = a % 2 ^ 64 ∧ t.fld Fr.BIST_SIG_MEM = b % 2 ^ 64
            ∧ s.onlyFields t (last ++ flt ++ [Fr.SQ_STANDING j.ring])
            ∧ t = { s with
                regs := t.regs
                bists := t.bists
                jobs := t.jobs
                ctlFailed := t.ctlFailed
                faults := t.faults }))
        ∧ (x.ack = true → x.type = 3 → a % 2 ^ 64 ≠ s.bistExp kind 1 → b % 2 ^ 64 ≠ s.bistExp kind 2 →
          Completes (.bistDone kind index a b) s (fun t => ends t 1 0
            ∧ s.onlyFields t (last ++ [Fr.CAL_SPARE_USE, Fr.SQ_STANDING j.ring])
            ∧ t = { s with
                regs := t.regs
                bists := t.bists
                jobs := t.jobs }))))
    ∧ (∀ r x a b, s.rot = some r → r.phase = 1 → r.m < 8 → r.from_ < 9 → s.sliceBack = [] → x.type = 3 → x.job = 0 → x.ack = false →
        s.bists.find? (fun b => b.kind = 1 && b.index = r.from_) = some x → s.fld Fr.FLTJNL_LAST_ID + 1 < 2 ^ 32 →
      (a % 2 ^ 64 = s.bistExp 1 1 → b % 2 ^ 64 = s.bistExp 1 2 → Completes (.bistDone 1 r.from_ a b) s (fun t =>
        t.rot = some ⟨r.m, 2, 8, r.from_, ceilDiv s.samp 16384 * 16384, false⟩ ∧ t.fld Fr.BIST_STATE = 3
        ∧ bit (t.fld Fr.BIST_PASS) r.m = true ∧ (∀ n, n < 9 → n ≠ r.m → bit (t.fld Fr.BIST_PASS) n = bit (s.fld Fr.BIST_PASS) n)
        ∧ s.onlyFields t (last ++ [Fr.BIST_STATE, Fr.BIST_PASS])
        ∧ t = { s with
            regs := t.regs
            bists := t.bists
            rot := t.rot }))
      ∧ (a % 2 ^ 64 ≠ s.bistExp 1 1 → Completes (.bistDone 1 r.from_ a b) s (fun t => t.rot = none ∧ t.fld Fr.BIST_STATE = 0
        ∧ bit (t.fld Fr.BIST_PASS) r.m = false ∧ t.sliceFailed = r.from_ :: s.sliceFailed ∧ lastTwo t 2 ∧ t.slices = s.slices
        ∧ faultOf t (fun f => f.kind = 2 ∧ f.index = r.from_ ∧ f.spare = 8 ∧ f.takeover = true ∧ f.restored = s.samp))))
    ∧ (let m := s.rotNext
      let skips := s.powered m = false ∨ s.spareSliceIdle = false ∨ 2 ≤ s.fedBy (s.sliceInput m)
        ∨ ((List.range 16).any (fun c => (s.core m c).job ≠ 0) = true ∧ s.flag Fr.BIST_CORES = false) ∨ (s.slice m).failed = true
      (s.fld Fr.BIST_PERIOD = 0 ∨ s.rot.isSome = true → exec .rotationStep s = .next s)
      ∧ (s.fld Fr.BIST_PERIOD ≠ 0 → s.rot = none → m < 8 → ¬ skips → Completes .rotationStep s (fun t =>
          t.rot = some ⟨m, 0, m, 8, ceilDiv s.samp 16384 * 16384, false⟩ ∧ t.fld Fr.BIST_STATE = 1 ∧ t.fld Fr.BIST_SLICE = m
          ∧ t.rotNext = m + 1 ∧ s.onlyFields t [Fr.BIST_STATE, Fr.BIST_SLICE]
          ∧ t = { s with
              regs := t.regs
              rot := t.rot
              rotNext := t.rotNext }))
      ∧ (s.fld Fr.BIST_PERIOD ≠ 0 → s.rot = none → (m < 8 ∧ skips ∨ m = 8 ∧ s.spareSliceIdle = false) →
        Completes .rotationStep s (fun t => t.fld Fr.BIST_SKIPPED = Nat.min (2 ^ 32 - 1) (s.fld Fr.BIST_SKIPPED + 1)
          ∧ t.rotNext = (m + 1) % 9 ∧ s.onlyFields t [Fr.BIST_SKIPPED]
          ∧ t = { s with
              regs := t.regs
              rotNext := t.rotNext }))
      ∧ (s.fld Fr.BIST_PERIOD ≠ 0 → s.rot = none → m = 8 → s.spareSliceIdle = true → Completes .rotationStep s (fun t =>
          t.rot = some ⟨8, 1, 8, 8, s.samp, false⟩ ∧ t.bists = s.bists ++ [⟨0, 1, 8, 3, false, 0⟩] ∧ t.rotNext = 0
          ∧ t.fld Fr.BIST_STATE = 2 ∧ t.fld Fr.BIST_SLICE = 8 ∧ s.onlyFields t [Fr.BIST_STATE, Fr.BIST_SLICE]
          ∧ t = { s with
              regs := t.regs
              rot := t.rot
              rotNext := t.rotNext
              bists := t.bists })))
    ∧ ((∀ r, s.rot = some r → r.phase = 0 → s.sliceBack = [] → r.a + s.samplesOfNs (60 * 10 ^ 9) ≤ s.samp →
        Completes .rotationTimeout s (fun t => t.rot = none ∧ t.fld Fr.BIST_STATE = 0 ∧ t.fld Fr.BIST_SLICE = 0xF
          ∧ t.fld Fr.BIST_SKIPPED = Nat.min (2 ^ 32 - 1) (s.fld Fr.BIST_SKIPPED + 1)
          ∧ s.onlyFields t [Fr.BIST_STATE, Fr.BIST_SLICE, Fr.BIST_SKIPPED]
          ∧ t = { s with
              regs := t.regs
              rot := none }))
      ∧ ((∀ r, s.rot = some r → r.phase ≠ 0 ∨ s.samp < r.a + s.samplesOfNs (60 * 10 ^ 9)) → exec .rotationTimeout s = .next s))
    ∧ (∀ onset, s.ctlPair < 2 → s.fld Fr.FLTJNL_LAST_ID + 1 < 2 ^ 32 →
      (s.ctlPair ∈ s.ctlFailed → exec (.controlPairFailure onset) s = .next s)
      ∧ (s.ctlFailed = [] → Completes (.controlPairFailure onset) s (fun t => t.ctlPair = 1 - s.ctlPair ∧ t.ctlFailed = [s.ctlPair]
          ∧ lastTwo t 7
          ∧ faultOf t (fun f => f.kind = 7 ∧ f.index = s.ctlPair ∧ f.spare = 1 - s.ctlPair ∧ f.beyond = false ∧ f.onset = onset)
          ∧ s.onlyFields t flt
          ∧ t = { s with
              regs := t.regs
              ctlPair := t.ctlPair
              ctlFailed := t.ctlFailed
              faults := t.faults
              evq := t.evq }))
      ∧ (s.ctlFailed = [1 - s.ctlPair] → Completes (.controlPairFailure onset) s (fun t => t.ctlPair = s.ctlPair
          ∧ t.ctlFailed = [s.ctlPair, 1 - s.ctlPair] ∧ s.oneEvent t 4 7
          ∧ faultOf t (fun f => f.kind = 7 ∧ f.spare = 0xFF ∧ f.beyond = true ∧ f.onset = onset)
          ∧ s.onlyFields t flt
          ∧ t = { s with
              regs := t.regs
              ctlFailed := t.ctlFailed
              faults := t.faults
              evq := t.evq })))

/-- Power-on, RESET_N, watchdog, PERST_N, VF FLR, power-fail warning and the rail monitors. Every reset notes its
CAUSE, holds posting until RESUME and ends the open jobs INTERRUPTED with the EXTENT of their latest record, a
QUIESCE RESET DONE. RESET_N under 1 us does nothing; between 1 and 10 us its effect is undefined and the model
stops; RESET_N and power-on latch the straps, the watchdog does not. A power-on without a PARK record is UNWARNED;
one that finds a journal never written leaves the rings disabled. PERST_N brings the link down and BOOT_DONE back;
a VF FLR disables that VF's rings only. A PFAIL_N fall writes PROGRESS records and a PARK record and stops
fetching. A rail out of range resets the device, fails the converter dies, retrains the stacks or takes the links
down. -/
def Obligations.ResetsAndPower : Prop :=
  ∀ (s : State),
    let ended (t : State) : Prop := t.jobs.map (fun j => (j.id, j.done, j.extent))
      = s.jobs.map (fun j => if j.done.isNone then (j.id, some j.resetStatus, s.lastExtent j.id) else (j.id, j.done, j.extent))
    let held (t : State) (cause : Nat) : Prop := t.fld Fr.FLTJNL_LAST_RESET = cause ∧ t.flag Fr.FLTJNL_RESUME_PENDING = true
      ∧ t.resumeHold = cause ∧ t.mayPost = false ∧ ∀ r, t.mayFetch r = false
    let strapped (t : State) (x : Nat) (b : Boot) : Prop := t.straps = x
      ∧ t.reg 4 = BitVec.ofNat 32 (x + if 5 ≤ bits x 0 3 then 4096 else 0)
      ∧ t.fld Fr.CLK_REF_SRC = bits x 3 2 ∧ t.fld Fr.HK_MODE = bits x 7 1 ∧ t.fld Fr.NET_DEV_INDEX = bits x 10 2
      ∧ t.flag Fr.FLTJNL_PFAIL_NOW = b.pfail ∧ t.parked = false ∧ t.samp = 0
      ∧ (bits x 0 3 = 4 → t.flag Fr.ID_RECOV_WAIT = true ∧ t.flag Fr.HIF_BOOT_DONE = false ∧ t.fld Fr.ID_SOURCE = 3)
      ∧ (t.flag Fr.HIF_BOOT_DONE = true ↔ t.fld Fr.ID_SOURCE ≠ 3)
    let bare (t : State) : Prop := t.streams = [] ∧ t.recs = [] ∧ t.extracts = [] ∧ t.snaps = [] ∧ t.bists = [] ∧ t.quiesces = []
      ∧ t.rot = none ∧ t.tuners = State.reset.tuners ∧ t.cores = State.reset.cores ∧ t.attens = [] ∧ t.smp = State.reset.smp
    (∀ ns b,
      (ns < 1000 → exec (.resetN ns b) s = .next s)
      ∧ (1000 ≤ ns → ns < 10000 → exec (.resetN ns b) s = .fault (.resetPulseUndefined ns))
      ∧ (10000 ≤ ns → s.parked = false → Completes (.resetN ns b) s (fun t => held t 3 ∧ ended t ∧ strapped t (b.straps % 4096) b
          ∧ bare t ∧ t.rails = s.rails ∧ t.sliceFailed = s.sliceFailed ∧ t.ctlFailed = s.ctlFailed)))
    ∧ (∀ b, s.parked = false → Completes (.watchdog b) s (fun t => held t 4 ∧ ended t ∧ strapped t s.straps b
        ∧ bare t ∧ t.sliceFailed = s.sliceFailed))
    ∧ (∀ b, s.jobs = [] →
      let warned := s.parked || !s.everUsed
      Completes (.powerOn b) s (fun t => held t (if warned then 1 else 2) ∧ strapped t (b.straps % 4096) b ∧ bare t
        ∧ t.flag Fr.FLTJNL_UNWARNED = !warned ∧ t.rails = [] ∧ t.hbm.cells = [] ∧ t.hbm.freezes = [] ∧ t.counts = []
        ∧ t.sliceFailed = [] ∧ t.ctlPair = 0 ∧ t.ctlFailed = [] ∧ t.sec.vendor = s.sec.vendor ∧ t.sec.owner = s.sec.owner
        ∧ (warned = true → s.journal.any (fun r => r.kind ≠ 5) = true → ∀ r, r < 64 → t.flag (Fr.SQ_EN r) = s.flag (Fr.SQ_EN r)
            ∧ t.fld (Fr.SQ_BASE r) = s.fld (Fr.SQ_BASE r))
        ∧ (s.everUsed = false → s.journal = [] → s.flag Fr.FLTJNL_RESUME_PENDING = false → s.jlast = (0, 0, 0) → s.intr = 0 →
            s.unknown = 0 → t.resumeFlags = 0 ∧ t.oldEpoch = 0 ∧ t.jseqLast = 0 ∧ t.oldSt = 0 ∧ t.oldTod = 0 ∧ t.intr = 0
            ∧ t.unknown = 0 ∧ ∀ r, r < 64 → t.flag (Fr.SQ_EN r) = false ∧ t.flag (Fr.CQ_EN r) = false)))
    ∧ Completes .perstN s (fun t => held t 5 ∧ ended t ∧ t.flag Fr.HIF_LINK_UP = false ∧ t.flag Fr.HIF_FETCH_EN = false
        ∧ t.flag Fr.HIF_BOOT_DONE = s.booted ∧ t.clk.internalDue = true ∧ t.chans = List.replicate 32 {} ∧ t.extracts = []
        ∧ t.linkLost = false ∧ t.straps = s.straps ∧ t.samp = s.samp
        ∧ ∀ r, r < 64 → t.flag (Fr.SQ_EN r) = s.flag (Fr.SQ_EN r) ∧ t.flag (Fr.CQ_EN r) = s.flag (Fr.CQ_EN r))
    ∧ (∀ f, (f = 0 ∨ 16 ≤ f → exec (.vfFlr f) s = .next s)
      ∧ (0 < f → f < 16 → Completes (.vfFlr f) s (fun t => held t 6 ∧ t.resumeFunc = f
          ∧ (∀ j ∈ t.jobs, j.func = f → j.done.isSome = true ∧ j.posted = true)
          ∧ (∀ r, r < 64 → t.flag (Fr.SQ_EN r) = (s.flag (Fr.SQ_EN r) && s.ownerSq r ≠ f)
              ∧ t.flag (Fr.CQ_EN r) = (s.flag (Fr.CQ_EN r) && s.ownerCq r ≠ f))
          ∧ t.flag Fr.HIF_BOOT_DONE = s.flag Fr.HIF_BOOT_DONE ∧ t.flag Fr.HIF_LINK_UP = s.flag Fr.HIF_LINK_UP
          ∧ t.samp = s.samp ∧ t.straps = s.straps)))
    ∧ (s.flag Fr.FLTJNL_PFAIL_NOW = true → exec .pfailNFall s = .next s)
    ∧ (s.flag Fr.FLTJNL_PFAIL_NOW = false → s.flag Fr.HIF_BOOT_DONE = false → Completes .pfailNFall s (fun t =>
        t.flag Fr.FLTJNL_PFAIL_NOW = true ∧ (∀ r, t.mayFetch r = false) ∧ s.onlyFields t [Fr.FLTJNL_PFAIL_NOW]
        ∧ t = { s with
            regs := t.regs
            counts := t.counts }))
    ∧ (s.flag Fr.FLTJNL_PFAIL_NOW = false → s.flag Fr.HIF_BOOT_DONE = true → Completes .pfailNFall s (fun t =>
        t.flag Fr.FLTJNL_PFAIL_NOW = true ∧ (∀ r, t.mayFetch r = false) ∧ t.parked = true ∧ t.everUsed = true
        ∧ (∃ l, t.journal = s.journal ++ l ∧ l.map (fun r => (r.kind, r.job, r.extent))
            = (s.jobs.filter Job.running).map (fun j => (2, j.id, s.workDone j)) ++ [(5, 0, 0)])
        ∧ s.onlyFields t [Fr.FLTJNL_PFAIL_NOW, Fr.FLTJNL_JSEQ_NEXT]
        ∧ t = { s with
            regs := t.regs
            journal := t.journal
            everUsed := true
            jlast := t.jlast
            counts := t.counts
            parked := true }))
    ∧ Completes .pfailNRise s (fun t => t.flag Fr.FLTJNL_PFAIL_NOW = false ∧ s.onlyFields t [Fr.FLTJNL_PFAIL_NOW]
        ∧ t = { s with
            regs := t.regs
            parked := false })
    ∧ (∀ g onset, (4 ≤ g ∨ g ∈ s.rails → exec (.railMonitorTrip g onset) s = .next s)
      ∧ (g < 4 → g ∉ s.rails → Completes (.railMonitorTrip g onset) s (fun t => t.rails = (g :: s.rails).eraseDups
          ∧ (g = 0 → t.inReset = true ∧ held t 3 ∧ bare t)
          ∧ (g = 1 → t.cal.started = List.replicate 9 false
              ∧ (t.faults.drop (t.faults.length - 3)).map (fun f => (f.kind, f.index, f.beyond, f.onset))
                = [(0xC, 0, true, onset), (0xC, 1, true, onset), (0xC, 2, true, onset)])
          ∧ (g = 2 → (∀ k, k < 4 → k ∈ t.hbm.recovering) ∧ t.hbm.cells = s.hbm.cells
              ∧ t = { s with
                  regs := t.regs
                  hbm := t.hbm
                  rails := t.rails })
          ∧ (g = 3 → t.flag Fr.HIF_LINK_UP = false ∧ t.fld (Fr.NET_PORT_STATE 0) ≠ 1 ∧ t.fld (Fr.NET_PORT_STATE 1) ≠ 1
              ∧ t.flag Fr.VID_HPD = false ∧ ∀ r, t.mayFetch r = false))))
    ∧ (∀ g b, (4 ≤ g ∨ g ∉ s.rails → exec (.railRecovery g b) s = .next s)
      ∧ (g = 0 → 0 ∈ s.rails → Completes (.railRecovery 0 b) s (fun t => t.inReset = false ∧ t.straps = b.straps % 4096
          ∧ t.flag Fr.FLTJNL_PFAIL_NOW = b.pfail ∧ t.rails = s.rails.filter (· ≠ 0)))
      ∧ (g = 1 → 1 ∈ s.rails → Completes (.railRecovery 1 b) s (fun t => 4 ∈ t.rails ∧ 1 ∉ t.rails
          ∧ (s.cal.due.length = 9 → ∀ k, k < 9 → s.powered k = true → nth s.cal.failed k false = false → (t.due k).startUp = true)
          ∧ s.onlyFields t [Fr.CAL_SPARE_PENDING]
          ∧ t = { s with
              regs := t.regs
              rails := t.rails
              cal := { s.cal with due := t.cal.due } }))
      ∧ (1 < g → g < 4 → g ∈ s.rails → exec (.railRecovery g b) s = .next { s with rails := s.rails.filter (· ≠ g) }))

/-- Loss and return of the host link, RESUME, ABANDON and an image for recovery. A lost link pauses channels that name
host memory, raises HOST_DOWN and holds fetching and posting; its return raises HOST_UP after a loss and writes the
ring entries of the last 10 us again, unchanged. RESUME, once FETCH_EN is set, posts the RESUME event first and
then every outcome not yet posted. ABANDON, before FETCH_EN, disables every restored ring and keeps the outcomes;
after a VF FLR it disables none. RECOV_GO runs the image the host names where it passes every check of R368, and
measures it; else CAUSE names the check that failed and the ROM waits again. -/
def Obligations.HostLinkAndResume : Prop :=
  ∀ (s : State),
    let paused (t : State) (a b : Nat) : Prop := ∀ c, c < 32 → t.fld (Fr.DMA_CH_STATE c)
      = if (s.chan c).cur.any (fun x => x.hostSide) && s.fld (Fr.DMA_CH_STATE c) = a then b else s.fld (Fr.DMA_CH_STATE c)
    let chans := (List.range 32).map Fr.DMA_CH_STATE
    let shown := [Fr.HIF_HELD, Fr.HIF_LOG_HELD]
    (∀ n, (s.flag Fr.HIF_LINK_UP = false → exec (.hostDown n) s = .next s)
      ∧ (s.flag Fr.HIF_LINK_UP = true → Completes (.hostDown n) s (fun t => t.flag Fr.HIF_LINK_UP = false ∧ t.linkLost = true
          ∧ t.recent = n ∧ s.oneEvent t 8 0x20 ∧ paused t chRunning chPaused ∧ t.mayPost = false ∧ (∀ r, t.mayFetch r = false)
          ∧ s.onlyFields t (chans ++ shown ++ [Fr.HIF_LINK_UP, Fr.HIF_EVSEQ_NEXT])
          ∧ t = { s with
              regs := t.regs
              evq := t.evq
              linkLost := true
              recent := n })))
    ∧ (∀ w v, (s.flag Fr.HIF_LINK_UP = true ∨ s.inReset = true → exec (.hostUp w v) s = .next s)
      ∧ (s.flag Fr.HIF_LINK_UP = false → s.inReset = false → v < 16 → Completes (.hostUp w v) s (fun t =>
          let sent := s.out.filter Out.ringEntry
          t.flag Fr.HIF_LINK_UP = true ∧ t.fld Fr.HIF_WIDTH = Nat.min w (if bit s.straps 5 then 8 else 16)
          ∧ t.fld Fr.HIF_SPEED = v ∧ paused t chPaused chRunning
          ∧ (s.linkLost = false → t.out = s.out ∧ t.evq = s.evq)
          ∧ (s.linkLost = true → t.out = s.out ++ sent.drop (sent.length - s.recent) ∧ s.oneEvent t 8 0x21
              ∧ t.linkLost = false ∧ t.recent = 0)
          ∧ s.onlyFields t (chans ++ shown ++ [Fr.HIF_LINK_UP, Fr.HIF_WIDTH, Fr.HIF_SPEED, Fr.HIF_EVSEQ_NEXT])
          ∧ t = { s with
              regs := t.regs
              out := t.out
              evq := t.evq
              linkLost := t.linkLost
              recent := t.recent })))
    ∧ (let due := s.flag Fr.FLTJNL_RESUME_PENDING && s.flag Fr.HIF_FETCH_EN && s.flag Fr.HIF_LINK_UP && s.flag Fr.HIF_BOOT_DONE
        && (!s.abandoned || s.flag Fr.HIF_EV_EN)
      (due = false → exec .resume s = .next s)
      ∧ (due = true → Completes .resume s (fun t => t.flag Fr.FLTJNL_RESUME_PENDING = false ∧ t.mayPost = true
          ∧ t.fld Fr.HIF_EVSEQ_NEXT = (s.fld Fr.HIF_EVSEQ_NEXT + 1) % 2 ^ 32
          ∧ s.resumeEv.cls = 0xA ∧ s.resumeEv.cause = s.resumeHold ∧ s.resumeEv.evseq = s.fld Fr.HIF_EVSEQ_NEXT
          ∧ (s.evRoom = true → (∃ rest, t.out = s.out
              ++ Out.event (s.fld Fr.HIF_EV_TAIL % ringSize (s.fld Fr.HIF_EV_LOG2SIZE)) s.resumeEv (evBytes s.resumeEv s.evPhase) :: rest)
              ∧ t.evlog = s.evlog)
          ∧ (s.evRoom = false → t.evlog = s.resumeEv :: s.evlog)
          ∧ t.jobs.map (fun j => (j.id, j.done, j.result, j.extent)) = s.jobs.map (fun j => (j.id, j.done, j.result, j.extent))
          ∧ (s.jobs.Pairwise (fun a b => a.id ≠ b.id) → (∀ j ∈ s.jobs, j.done.isSome = true ∧ j.ring < 64) →
              ∀ j ∈ t.jobs, j.posted = true)
          ∧ t.evq = s.evq ∧ t.resumeHold = 0 ∧ t.intr = 0 ∧ t.unknown = 0 ∧ t.abandoned = false)))
    ∧ (∀ v, let due := bit v 0 && s.flag Fr.FLTJNL_RESUME_PENDING && !s.flag Fr.HIF_FETCH_EN
      (due = false → exec (.abandon v) s = .next s)
      ∧ (due = true → s.resumeHold = 6 → exec (.abandon v) s = .next { s with abandoned := true })
      ∧ (due = true → s.resumeHold ≠ 6 → Completes (.abandon v) s (fun t => t.abandoned = true
          ∧ t.flag Fr.FLTJNL_RESUME_PENDING = true ∧ t.flag Fr.HIF_EV_EN = false ∧ t.fetchFail = []
          ∧ (∀ r, r < 64 → t.flag (Fr.SQ_EN r) = false ∧ t.fld (Fr.SQ_OUTSTANDING r) = 0 ∧ t.flag (Fr.CQ_EN r) = false
              ∧ t.fld (Fr.CQ_RESERVED r) = 0)
          ∧ (∀ j ∈ t.jobs, j.done.isSome = true → j.posted = true)
          ∧ t.jobs.map (fun j => (j.id, j.done, j.result, j.extent)) = s.jobs.map (fun j => (j.id, j.done, j.result, j.extent))
          ∧ (∀ r ∈ s.journal, r ∈ t.journal) ∧ t.out = s.out ∧ t.evq = s.evq)))
    ∧ (∀ v image,
      let img := image.take (s.fld Fr.ID_RECOV_LEN)
      let fail := s.bootTests % 8192
      (bit v 0 = false ∨ s.flag Fr.ID_RECOV_WAIT = false → exec (.recovGo v image) s = .next s)
      ∧ (bit v 0 = true → s.flag Fr.ID_RECOV_WAIT = true → s.kuver 1 img ≠ 0 → Completes (.recovGo v image) s (fun t =>
          t.fld Fr.SEC_CAUSE = s.kuver 1 img ∧ t.flag Fr.ID_RECOV_FAIL = true ∧ t.flag Fr.ID_RECOV_WAIT = true
          ∧ s.onlyFields t [Fr.SEC_CAUSE, Fr.ID_RECOV_FAIL] ∧ t = { s with regs := t.regs }))
      ∧ (bit v 0 = true → s.flag Fr.ID_RECOV_WAIT = true → s.kuver 1 img = 0 → Completes (.recovGo v image) s (fun t =>
          t.fld Fr.SEC_CAUSE = 0 ∧ t.flag Fr.ID_RECOV_WAIT = false ∧ t.fld Fr.ID_SOURCE = 2 ∧ t.flag Fr.HIF_BOOT_DONE = true
          ∧ t.booted = true ∧ t.sec.fwSvn = kvSvn img ∧ t.fld Fr.SEC_TESTS = 8191 - fail
          ∧ (∀ j, j < 8 → t.fld (Fr.SEC_M j) = leAt (sha256 (s.measure 0 ++ sha256 (img.take 64 ++ kvPayload img))) (4 * j) 4 % 2 ^ 32)
          ∧ (fail = 0 → t.fld Fr.SEC_STATE = 0 ∧ t.evq = s.evq)
          ∧ (fail ≠ 0 → t.fld Fr.SEC_STATE = 2 ∧ s.oneEvent t 9 2)
          ∧ t = { s with
              regs := t.regs
              evq := t.evq
              sec := t.sec
              booted := true })))

/-- Register and immediate instructions of a core: results, flags, what stays. Every F1 and F2 instruction that is next
on a running core writes the result of Table 9.5 to its destination, with Z and N from the result, C and V from the
last add, subtract or compare, AOV and ESAT sticky; no other register, flag, memory or core changes and the core
goes on at the next instruction. With OVT set, an accumulator result out of range traps AOV instead. -/
def Obligations.CoreArithmetic : Prop :=
  ∀ (s : State) (n c : Nat),
    let k := s.core n c
    let dr (i : Nat) : Nat := nth k.d i 0 % 2 ^ 16
    let int (v : Nat) : Int := if 2 ^ 15 ≤ v then (v : Int) - 2 ^ 16 else (v : Int)
    let word (z : Int) : Nat := (z % 2 ^ 16).toNat
    let clip (z : Int) : Int := max (-(2 ^ 15)) (min (2 ^ 15 - 1) z)
    let out (z : Int) : Prop := z < -(2 ^ 15) ∨ 2 ^ 15 ≤ z
    let zn (v : Nat) : Nat := (if v = 0 then 1 else 0) + if 2 ^ 15 ≤ v then 2 else 0
    let cv (carry : Prop) [Decidable carry] (wide : Int) : Nat :=
      (if carry then 4 else 0) + if wide < -(2 ^ 15) ∨ 2 ^ 15 ≤ wide then 8 else 0
    let kept : Nat := k.sr % 16 / 4 * 4
    let flagged (q : Core) (v f : Nat) : Core := { q with sr := k.sr / 16 * 16 + zn v + f }
    let put (dst v : Nat) : Core := { k with d := k.d.set dst v }
    let does (i : Instr) (q : Core) : Prop := s.runs n c i → Retires i s n c (Core.same q.next)
    let half (z : Int) (sh t : Nat) : Int := if t = 1 then z / 2 ^ sh else (2 * z + 2 ^ sh) / 2 ^ (sh + 1)
    let accOut (z : Int) : Prop := z < -(2 ^ 39) ∨ 2 ^ 39 ≤ z
    let accPut (i : Nat) (z : Int) : Core := { k with
      a := k.a.set i (if z < -(2 ^ 39) then (if bit k.sr 7 then -(2 ^ 39) else (z + 2 ^ 39) % 2 ^ 40 - 2 ^ 39)
        else if 2 ^ 39 ≤ z then (if bit k.sr 7 then 2 ^ 39 - 1 else (z + 2 ^ 39) % 2 ^ 40 - 2 ^ 39) else z)
      sr := if z < -(2 ^ 39) ∨ 2 ^ 39 ≤ z then k.sr ||| 2 ^ (4 + i) else k.sr }
    let accDoes (i : Instr) (dst : Nat) (z : Int) : Prop :=
      (bit k.sr 8 = false ∨ ¬ accOut z → does i (accPut dst z))
      ∧ (bit k.sr 8 = true → accOut z → s.runs n c i → Traps i s n c 1 (k.next.pc % 2 ^ 13))
    let file (q : Core) (f : Nat) : List Nat := nth [q.d, q.p, q.m, q.b, q.l] f []
    let fileDoes (i : Instr) (f r v : Nat) : Prop := s.runs n c i → Retires i s n c (fun q =>
      file q f = (file k f).set r v ∧ (∀ g, g ≠ f → file q g = file k g)
      ∧ Core.same { k.next with
          d := q.d
          p := q.p
          m := q.m
          b := q.b
          l := q.l } q)
    (∀ x : F1,
      let a := dr x.sa
      let b := dr x.sb
      let az := nth k.a (x.sa % 2) 0
      let dz := nth k.a (x.dst % 2) 0
      let oz := nth k.a (1 - x.dst % 2) 0
      let logic (v : Nat) : Core := flagged (put x.dst v) v kept
      does (.add n c x) (flagged (put x.dst ((a + b) % 2 ^ 16)) ((a + b) % 2 ^ 16) (cv (2 ^ 16 ≤ a + b) (int a + int b)))
      ∧ does (.sub n c x) (flagged (put x.dst ((a + 2 ^ 16 - b) % 2 ^ 16)) ((a + 2 ^ 16 - b) % 2 ^ 16) (cv (b ≤ a) (int a - int b)))
      ∧ does (.adds n c x) (flagged (put x.dst (word (clip (int a + int b)))) (word (clip (int a + int b)))
          (cv (2 ^ 16 ≤ a + b) (int a + int b)))
      ∧ does (.subs n c x) (flagged (put x.dst (word (clip (int a - int b)))) (word (clip (int a - int b)))
          (cv (b ≤ a) (int a - int b)))
      ∧ does (.and n c x) (logic (a &&& b)) ∧ does (.or n c x) (logic (a ||| b)) ∧ does (.xor n c x) (logic (a ^^^ b))
      ∧ does (.not n c x) (logic (2 ^ 16 - 1 - a))
      ∧ does (.shl n c x) (logic (a * 2 ^ x.sh % 2 ^ 16)) ∧ does (.shr n c x) (logic (a / 2 ^ x.sh))
      ∧ does (.asr n c x) (logic (word (half (int a) x.sh x.t)))
      ∧ does (.min n c x) (logic (if int a ≤ int b then a else b)) ∧ does (.max n c x) (logic (if int a ≤ int b then b else a))
      ∧ does (.abs n c x) (logic (min (2 ^ 15 - 1) (int a).natAbs))
      ∧ does (.neg n c x) (flagged (put x.dst (word (clip (-int a)))) (word (clip (-int a))) (cv (a = 0) (-int a)))
      ∧ does (.cmp n c x) (flagged k ((a + 2 ^ 16 - b) % 2 ^ 16) (cv (b ≤ a) (int a - int b)))
      ∧ does (.mov n c x) (put x.dst a)
      ∧ (let z := half az x.sh x.t
        (¬ out z → does (.ext n c x) (put x.dst (word z)))
        ∧ (out z → does (.ext n c x) { put x.dst (word (clip z)) with sr := k.sr ||| 2 ^ 6 }))
      ∧ does (.aclr n c x) { k with a := k.a.set (x.dst % 2) 0 }
      ∧ does (.ald n c x) { k with a := k.a.set (x.dst % 2) (int a * 2 ^ 16 + b) }
      ∧ accDoes (.aadd n c x) (x.dst % 2) (dz + oz) ∧ accDoes (.asub n c x) (x.dst % 2) (dz - oz)
      ∧ accDoes (.ashl n c x) (x.dst % 2) (dz * 2 ^ x.sh)
      ∧ does (.aasr n c x) { k with a := k.a.set (x.dst % 2) (half dz x.sh x.t) }
      ∧ (let v := (az % 2 ^ 40).toNat
        (x.sh = 0 → does (.aget n c x) (put x.dst (v % 2 ^ 16)))
        ∧ (x.sh = 1 → does (.aget n c x) (put x.dst (v / 2 ^ 16 % 2 ^ 16)))
        ∧ (x.sh = 2 → does (.aget n c x) (put x.dst (v / 2 ^ 32 + if 2 ^ 39 ≤ v then 2 ^ 16 - 2 ^ 8 else 0))))
      ∧ fileDoes (.mvx n c x) (x.sh / 8) x.dst (nth (file k (x.sh % 8)) x.sa 0 % 2 ^ 16))
    ∧ (∀ x : F2, x.imm < 2 ^ 16 →
      let a := dr x.idx
      let sum := (a + x.imm) % 2 ^ 16
      let logic (v : Nat) : Core := flagged (put x.idx v) v kept
      fileDoes (.ldi n c x) x.file x.idx x.imm
      ∧ (x.file = 0 → does (.addi n c x) (flagged (put x.idx sum) sum (cv (2 ^ 16 ≤ a + x.imm) (int a + int x.imm))))
      ∧ (x.file ≠ 0 → fileDoes (.addi n c x) x.file x.idx ((nth (file k x.file) x.idx 0 + x.imm) % 2 ^ 16))
      ∧ does (.andi n c x) (logic (a &&& x.imm)) ∧ does (.ori n c x) (logic (a ||| x.imm))
      ∧ does (.cmpi n c x) (flagged k ((a + 2 ^ 16 - x.imm) % 2 ^ 16) (cv (x.imm ≤ a) (int a - int x.imm))))

/-- Loads, stores and multiply-accumulate of a core: post-modify, addresses, results, traps. Every load, store and F0
instruction uses the address its pointer held before the post-modify; a post-modify by m gives (Pi + m) mod 2^16
where Li is 0, else Bi + ((Pi + m − Bi) mod Li), as 16 bits, with m the register Mi in F0 and the signed immediate
in F3 with PM = 1. Data memory answers with its word, a store changes that word alone, MAC, MSU and MPY use the
operands as they stood, and a word the window refuses traps WINDOW. Two loads into one register leave it open
(assumption log). Nothing else changes. -/
def Obligations.CoreLoadsStores : Prop :=
  ∀ (s : State) (n c : Nat),
    let k := s.core n c
    let dr (i : Nat) : Nat := nth k.d i 0 % 2 ^ 16
    let int (v : Nat) : Int := if 2 ^ 15 ≤ v % 2 ^ 16 then (v % 2 ^ 16 : Nat) - 2 ^ 16 else (v % 2 ^ 16 : Nat)
    let modified (p i : Nat) (m : Int) : Nat :=
      if nth k.l i 0 = 0 then (((p : Int) + m) % 2 ^ 16).toNat
      else
        let b : Int := ((nth k.b i 0 : Nat) : Int)
        ((b + ((p : Int) + m - b) % ((nth k.l i 0 : Nat) : Int)) % 2 ^ 16).toNat
    let rest (q : Core) : Prop := q.m = k.m ∧ q.b = k.b ∧ q.l = k.l ∧ q.ret = k.ret ∧ q.pc = k.next.pc ∧ q.loops = k.next.loops
      ∧ q.im = k.im ∧ q.job = k.job ∧ q.msgs = k.msgs ∧ q.dmaOut = k.dmaOut
    (∀ x : F0,
      let ax := nth k.p x.px 0
      let ay := nth k.p x.py 0
      let prod := int (nth k.d x.sa 0) * int (nth k.d x.sb 0)
      let acc := nth k.a x.acc 0
      let p1 := if x.lx = 1 ∧ x.modx = 1 then k.p.set x.px (modified ax x.px (int (nth k.m x.px 0))) else k.p
      let p2 := if x.ly = 1 ∧ x.mody = 1 then p1.set x.py (modified (nth p1 x.py 0) x.py (int (nth k.m x.py 0))) else p1
      let loads (q : Core) (l : F0Loads) : Prop := q.p = p2 ∧ q.dm = k.dm ∧ rest q
        ∧ (¬ (x.lx = 1 ∧ x.ly = 1 ∧ x.dx = x.dy) →
            let d1 := if x.lx = 1 then k.d.set x.dx (l.dx.getD 0 % 2 ^ 16) else k.d
            q.d = if x.ly = 1 then d1.set x.dy (l.dy.getD 0 % 2 ^ 16) else d1)
        ∧ (x.lx = 1 ∧ x.ly = 1 ∧ x.dx = x.dy → ∃ v, v < 2 ^ 16 ∧ q.d = k.d.set x.dx v)
      let out (z : Int) : Prop := z < -(2 ^ 39) ∨ 2 ^ 39 ≤ z
      let does (i : Instr) (z : Int) : Prop := s.runs n c i →
        (s.f0Reads n c x = none → Traps i s n c 5 ((k.pc + 1) % 2 ^ 13))
        ∧ ∀ l, s.f0Reads n c x = some l →
          (¬ out z → Retires i s n c (fun q => loads q l ∧ q.a = k.a.set x.acc z ∧ q.sr = k.sr))
          ∧ (out z → bit k.sr 8 = false → Retires i s n c (fun q => loads q l ∧ q.sr = k.sr ||| 2 ^ (4 + x.acc)
              ∧ q.a = k.a.set x.acc (if bit k.sr 7 then (if z < 0 then -(2 ^ 39) else 2 ^ 39 - 1) else (z + 2 ^ 39) % 2 ^ 40 - 2 ^ 39)))
          ∧ (out z → bit k.sr 8 = true → Traps i s n c 1 (k.next.pc % 2 ^ 13))
      does (.mac n c x) (acc + prod) ∧ does (.msu n c x) (acc - prod)
      ∧ (s.runs n c (.mpy n c x) →
        (s.f0Reads n c x = none → Traps (.mpy n c x) s n c 5 ((k.pc + 1) % 2 ^ 13))
        ∧ ∀ l, s.f0Reads n c x = some l →
          Retires (.mpy n c x) s n c (fun q => loads q l ∧ q.a = k.a.set x.acc prod ∧ q.sr = k.sr))
      ∧ (s.runs n c (.parallelLoad n c x) →
        (s.f0Reads n c x = none → Traps (.parallelLoad n c x) s n c 5 ((k.pc + 1) % 2 ^ 13))
        ∧ ∀ l, s.f0Reads n c x = some l →
          Retires (.parallelLoad n c x) s n c (fun q => loads q l ∧ q.a = k.a ∧ q.sr = k.sr))
      ∧ ((x.lx = 1 → ax < 2 ^ 15) → (x.ly = 1 → ay < 2 ^ 15) → ∃ l, s.f0Reads n c x = some l
          ∧ (x.lx = 1 → l.dx = some (dmGet k.dm ax)) ∧ (x.ly = 1 → l.dy = some (dmGet k.dm ay)))
      ∧ (x.lx = 1 → 2 ^ 15 ≤ ax → s.winRead n c ax = none → s.f0Reads n c x = none))
    ∧ (∀ x : F3,
      let p := nth k.p x.p 0
      let a := if x.pm = 1 then p else (((p : Int) + int x.ofs) % 2 ^ 16).toNat
      let ptr (q : Core) : Prop := q.p = if x.pm = 1 then k.p.set x.p (modified p x.p (int x.ofs)) else k.p
      (s.runs n c (.load n c x) →
        (∀ r, s.dataRead n c a = some r → Retires (.load n c x) s n c (fun q =>
          q.d = k.d.set x.d (r.v % 2 ^ 16) ∧ ptr q ∧ q.a = k.a ∧ q.sr = k.sr ∧ q.dm = k.dm ∧ rest q))
        ∧ (a < 2 ^ 15 → (s.dataRead n c a).map (·.v) = some (dmGet k.dm a))
        ∧ (2 ^ 15 ≤ a → (s.dataRead n c a).map (·.v) = (s.winRead n c a).map (·.1))
        ∧ (s.dataRead n c a = none → Traps (.load n c x) s n c 5 ((k.pc + 1) % 2 ^ 13)))
      ∧ (s.runs n c (.store n c x) → a < 2 ^ 15 → Retires (.store n c x) s n c (fun q =>
          (∀ b, dmGet q.dm b = if b = a then dr x.d else dmGet k.dm b)
          ∧ ptr q ∧ q.d = k.d ∧ q.a = k.a ∧ q.sr = k.sr ∧ rest q))
      ∧ (s.runs n c (.store n c x) → 2 ^ 15 ≤ a →
        (s.winWrite n c a (dr x.d) = .trap → Traps (.store n c x) s n c 5 ((k.pc + 1) % 2 ^ 13))
        ∧ (∀ why, s.winWrite n c a (dr x.d) = .stall why → Completes (.store n c x) s (fun t => (t.core n c).pc = k.pc
            ∧ (t.core n c).d = k.d ∧ (t.core n c).p = k.p
            ∧ t = { s with
                cores := t.cores
                counts := t.counts }))
        ∧ (∀ u, s.winWrite n c a (dr x.d) = .done u → Completes (.store n c x) s (fun t => ptr (t.core n c)
            ∧ (t.core n c).pc = k.next.pc ∧ (t.core n c).d = k.d ∧ (t.core n c).a = k.a ∧ (t.core n c).dm = k.dm))))

/-- Branches, calls, loops, system instructions and window operations of a core, illegal words and the new tick. A
taken branch goes to its target and ends the loops whose bodies it leaves; CALL and RET use the return stack and
trap STACK at its ends; LOOP opens a level, skips at count 0 and traps on a bad END or a fifth level. HALT ends the
run with its code; WAIT and FENCE stall until their condition; MFS and MTS move SR and LCNT. The window stores swap
masks, send, post, request DMA or discard the head message. An illegal word traps ILLEGAL. A new tick starts every
cap afresh. -/
def Obligations.CoreControlAndWindow : Prop :=
  ∀ (s : State) (n c : Nat),
    let k := s.core n c
    let dr (i : Nat) : Nat := nth k.d i 0 % 2 ^ 16
    let does (i : Instr) (q : Core) : Prop := Retires i s n c (Core.same q)
    let after : Nat := (k.pc + 1) % 2 ^ 13
    let waits (i : Instr) (regs : List FRef) : Prop := Completes i s (fun t =>
      Core.same k { (t.core n c) with waitCause := 0 } ∧ s.onlyFields t regs
      ∧ t = { s with
          regs := t.regs
          cores := t.cores
          counts := t.counts })
    (k.loops = [] → k.next.pc = after ∧ k.next.loops = [])
    ∧ (∀ l t, k.loops = l :: t →
      (l.stop ≠ k.pc → k.next.pc = after ∧ k.next.loops = k.loops)
      ∧ (l.stop = k.pc → 1 < l.count → k.next.pc = l.start ∧ k.next.loops = { l with count := l.count - 1 } :: t)
      ∧ (l.stop = k.pc → l.count ≤ 1 → k.next = { k with loops := t }.next))
    ∧ (∀ x : F4,
      let inside (l : Loop) : Prop := l.start ≤ x.target ∧ x.target ≤ l.stop
      let taken (i : Instr) : Prop := Retires i s n c (fun q => q.pc = x.target % 2 ^ 13 ∧ (∀ l ∈ q.loops, inside l)
        ∧ (∃ e, k.loops = e ++ q.loops ∧ ∀ l, e.getLast? = some l → ¬ inside l)
        ∧ Core.same { k with
            pc := q.pc
            loops := q.loops } q)
      let branch (i : Instr) (p : Prop) : Prop := s.runs n c i → (p → taken i) ∧ (¬ p → does i k.next)
      let z := bit k.sr 0
      let lt := bit k.sr 1 != bit k.sr 3
      branch (.br n c x) True ∧ branch (.beq n c x) (z = true) ∧ branch (.bne n c x) (z = false)
      ∧ branch (.blt n c x) (lt = true) ∧ branch (.bge n c x) (lt = false)
      ∧ (s.runs n c (.call n c x) →
        (k.ret.length < 8 → does (.call n c x) { k with
          pc := x.target % 2 ^ 13
          ret := after :: k.ret })
        ∧ (8 ≤ k.ret.length → Traps (.call n c x) s n c 3 after))
      ∧ (s.runs n c (.ret n c x) →
        (∀ a t, k.ret = a :: t → does (.ret n c x) { k with
          pc := a % 2 ^ 13
          ret := t })
        ∧ (k.ret = [] → Traps (.ret n c x) s n c 3 after))
      ∧ (let count := if x.src = 1 then dr (x.count % 16) else x.count
        s.runs n c (.loop n c x) →
        (x.target ≤ k.pc → Traps (.loop n c x) s n c 2 after)
        ∧ (k.pc < x.target → count = 0 → does (.loop n c x) { k with pc := (x.target + 1) % 2 ^ 13 })
        ∧ (k.pc < x.target → count ≠ 0 → k.loops.length < 4 → does (.loop n c x) { k with
            pc := after
            loops := ⟨k.pc + 1, x.target, count⟩ :: k.loops })
        ∧ (k.pc < x.target → count ≠ 0 → 4 ≤ k.loops.length → Traps (.loop n c x) s n c 4 after)))
    ∧ (∀ x : F5,
      (s.runs n c (.nop n c x) → does (.nop n c x) k.next)
      ∧ (∀ j, s.runs n c (.halt n c x) → s.job k.job = some j → j.done = none → j.ring < 64 →
        Completes (.halt n c x) s (fun t => t.jobResult j.id = some (if j.flt ≠ 0 then 1 else 0, 65536 * x.code, 0)
          ∧ t.fld (Fr.CORE_STATE n c) = 4 ∧ t.fld (Fr.CORE_PC n c) = k.next.pc % 2 ^ 13 ∧ (t.core n c).job = 0
          ∧ (t.core n c).d = k.d ∧ (t.core n c).dm = k.dm ∧ (∀ i, i ≠ 16 * n + c → nth t.cores i {} = nth s.cores i {})
          ∧ (∀ i, i ≠ j.id → t.job i = s.job i) ∧ t.evq = s.evq))
      ∧ (s.runs n c (.wait n c x) →
        let holds := x.code % 4 = 0 ∨ (bit x.code 0 = true ∧ k.msgs ≠ []) ∨ (bit x.code 1 = true ∧ k.dmaDone = true)
        (holds → does (.wait n c x) { k.next with dmaDone := k.dmaDone && !bit x.code 1 })
        ∧ (¬ holds → waits (.wait n c x) [Fr.CORE_STATE n c]
            ∧ Completes (.wait n c x) s (fun t => t.fld (Fr.CORE_STATE n c) = 3)))
      ∧ (s.runs n c (.mfs n c x) →
        (x.sreg = 0 → does (.mfs n c x) { k.next with d := k.d.set x.d (k.sr % 2 ^ 16) })
        ∧ (∀ l t, x.sreg = 1 → k.loops = l :: t → does (.mfs n c x) { k.next with d := k.d.set x.d (l.count % 2 ^ 16) })
        ∧ (x.sreg = 1 → k.loops = [] → ∃ v, v < 2 ^ 16 ∧ does (.mfs n c x) { k.next with d := k.d.set x.d v }))
      ∧ (s.runs n c (.mts n c x) →
        let v := dr x.d
        (x.sreg = 0 → Retires (.mts n c x) s n c (fun q => Core.same { k.next with sr := q.sr } q ∧ q.sr < 2 ^ 10
          ∧ (∀ i, i < 4 ∨ i = 7 ∨ i = 8 → bit q.sr i = bit v i) ∧ (∀ i, 4 ≤ i → i ≤ 6 → bit q.sr i = (bit k.sr i && bit v i))
          ∧ bit q.sr 9 = bit k.sr 9))
        ∧ (∀ l t, x.sreg = 1 → k.loops = l :: t → does (.mts n c x) { k with loops := { l with count := v } :: t }.next)
        ∧ (x.sreg = 1 → k.loops = [] → does (.mts n c x) k.next))
      ∧ (s.runs n c (.fence n c x) → (k.dmaOut = 0 → does (.fence n c x) k.next) ∧ (k.dmaOut ≠ 0 → waits (.fence n c x) [])))
    ∧ (let next := n < 9 ∧ c < 16 ∧ s.coreRuns n c = true ∧ k.capped = false ∧ k.ending = none
        ∧ decodeCore n c (nth k.im k.pc 0) = none
      (next → s.cores.length = 144 → Traps (.illegalInstruction n c) s n c 2 after)
      ∧ (¬ next → exec (.illegalInstruction n c) s = .next s))
    ∧ (s.cores.length = 144 → Completes .coreBudgetTick s (fun t => (∀ i, nth t.cores i {} = { nth s.cores i {} with
          used := 0
          capped := false
          waitCause := if (nth s.cores i {}).capped ∧ (nth s.cores i {}).waitCause = 0 then 9 else (nth s.cores i {}).waitCause })
        ∧ t = { s with
            cores := t.cores
            counts := t.counts }))
    ∧ (let at_ (a : Nat) : Prop := ∃ x, s.coreReady n c (.store n c x) = true ∧ k.f3Addr x = a
      (¬ at_ 0xC001 → ¬ at_ 0xC003 → exec (.coreMaskSwap n c) s = .next s) ∧ (¬ at_ 0xC040 → exec (.coreSend n c) s = .next s)
      ∧ (¬ at_ 0xC05C → exec (.corePost n c) s = .next s) ∧ (¬ at_ 0xC065 → exec (.coreDmaGo n c) s = .next s)
      ∧ (¬ at_ 0xC021 → exec (.coreMsgPop n c) s = .next s))
    ∧ (∀ x : F3, s.runs n c (.store n c x) → s.slices.length = 9 →
      let a := k.f3Addr x
      let v := dr x.d
      let done (i : Instr) (regs : List FRef) (p : State → Prop) : Prop := Completes i s (fun t =>
        (t.core n c).pc = k.next.pc ∧ (t.core n c).p = (k.f3Post x).p ∧ (t.core n c).d = k.d ∧ (t.core n c).dm = k.dm
        ∧ t.fld (Fr.CORE_STATE n c) = 2 ∧ s.onlyFields t (Fr.CORE_STATE n c :: regs) ∧ p t)
      (∀ m, m < 2 → a = 0xC001 + 2 * m →
        (s.maskOwner n m c = false → Traps (.coreMaskSwap n c) s n c 5 after)
        ∧ (s.maskOwner n m c = true → v = 1 → (s.slice n).trg.length = 2 →
          done (.coreMaskSwap n c) [Fr.TRG_SWAP_PENDING n m] (fun t => (t.trg n m).swapReq = true
            ∧ t.flag (Fr.TRG_SWAP_PENDING n m) = true ∧ t.trg n (1 - m) = s.trg n (1 - m) ∧ ∀ i, i ≠ n → t.slice i = s.slice i)))
      ∧ (a = 0xC040 →
        let e := v % 16
        done (.coreSend n c) [Fr.CORE_DEPTH n e] (fun t =>
          (t.core n c).sendFull = decide (16 ≤ (s.core n e).msgs.length)
          ∧ ((s.core n e).msgs.length < 16 → (t.core n e).msgs = (s.core n e).msgs ++ [⟨2, c, k.sendData.flatMap (le 2)⟩]
              ∧ t.fld (Fr.CORE_DEPTH n e) = (s.core n e).msgs.length + 1)
          ∧ (16 ≤ (s.core n e).msgs.length → (t.core n e).msgs = (s.core n e).msgs)))
      ∧ (a = 0xC05C →
        let may := 0x80 ≤ v ∧ v ≤ 0xFF ∧ (k.posts.filter (fun t => s.samp < t + s.samplesOfNs (10 ^ 9))).length < s.fld (Fr.CORE_EV_RATE n c)
        (may → done (.corePost n c) [Fr.HIF_EVSEQ_NEXT] (fun t => (t.core n c).postDenied = false
          ∧ ∃ e, t.evq = s.evq ++ [e] ∧ e.cls = 0xD ∧ e.cause = v ∧ e.st = s.coreTime n ∧ e.evseq = s.fld Fr.HIF_EVSEQ_NEXT))
        ∧ (¬ may → done (.corePost n c) [Fr.CORE_DENIED n c] (fun t => (t.core n c).postDenied = true ∧ t.evq = s.evq)))
      ∧ (a = 0xC065 → (s.slice n).phys < s.chans.length →
        let tag := v / 2 % 8
        let len := 16 * k.dmaLen
        let addr := nth k.dmaHbm 0 0 + 65536 * nth k.dmaHbm 1 0 + 2 ^ 32 * (nth k.dmaHbm 2 0 % 16)
        let bad := nth k.tags tag 0 = 1 ∨ s.coreDmaBad n c (bit v 0) addr k.dmaLocal len = true
        let ch := (s.slice n).phys
        (2 ≤ k.dmaOut → waits (.coreDmaGo n c) [])
        ∧ (k.dmaOut < 2 → bad → done (.coreDmaGo n c) [] (fun t => (t.core n c).tags = k.tags.set tag 3 ∧ (t.core n c).dmaOut = k.dmaOut
            ∧ t.chans = s.chans))
        ∧ (k.dmaOut < 2 → ¬ bad → done (.coreDmaGo n c) [Fr.CORE_DMA_OUT n c, Fr.DMA_CH_STATE ch, Fr.DMA_CH_SHARE ch, Fr.DMA_CH_BURST ch,
              Fr.DMA_CH_LENGTH ch, Fr.DMA_CH_DONE_BYTES ch, Fr.DMA_CH_RETRIES ch, Fr.DMA_CH_LAST_ERR ch, Fr.DMA_BUSY] (fun t =>
            (t.core n c).tags = k.tags.set tag 1 ∧ (t.core n c).dmaOut = k.dmaOut + 1 ∧ (∀ i, i ≠ ch → t.chan i = s.chan i)
            ∧ ∃ y, ((t.chan ch).cur = some y ∨ (t.chan ch).queue.getLast? = some y) ∧ y.owner = .core n c tag ∧ y.length = len)))
      ∧ (a = 0xC021 → done (.coreMsgPop n c) [Fr.CORE_DEPTH n c] (fun t => (t.core n c).msgs = k.msgs.drop 1)))

/-- Every step keeps the number of entries of every table and the distinctness of job numbers. From every state whose
tables have their numbers of entries and whose jobs bear distinct numbers below the next one, every step that
answers a next state leaves such a state: no command loses or adds an input slot, a slice, a trigger, a mask table,
a tuner, a core, a channel. Other statements take parts of this as a premise. -/
def Obligations.StepKeepsShape : Prop :=
  ∀ s t : State, s.Inv → s.Shaped → step s = .next t → t.Shaped
end

