-- ==== Sys2Proof/Laws/Cells.lean ====
section
/-! SUPPORT. The frame of every shared operation towards the HBM: one lemma per operation that stores nothing there,
saying that the list of written cells stays as it is. -/

set_option linter.unusedSimpArgs false
set_option linter.unusedVariables false

namespace Sys2Proof.Machine
theorem cells_ite (c : Prop) [Decidable c] (a b : State) : (if c then a else b).hbm.cells = if c then a.hbm.cells else b.hbm.cells := by
  split <;> rfl
theorem hbm_cells_ite (c : Prop) [Decidable c] (a b : Hbm) : (if c then a else b).cells = if c then a.cells else b.cells := by split <;> rfl
theorem cells_foldl {α : Type} (l : List α) (f : State → α → State) (h : ∀ t a, (f t a).hbm.cells = t.hbm.cells) (s : State) :
    (l.foldl f s).hbm.cells = s.hbm.cells := by
  induction l generalizing s with
  | nil => rfl
  | cons a t ih => rw [List.foldl_cons, ih, h]

theorem State.setReg_cells (s : State) (x1 : Nat) (x2 : Word) : (State.setReg s x1 x2).hbm.cells = s.hbm.cells := by
  unfold State.setReg
  simp only [↓cells_ite, ↓hbm_cells_ite, ↓cells_foldl, ite_self]
theorem State.setForceReg_cells (s : State) (x1 : Nat) (x2 : Word) : (State.setForceReg s x1 x2).hbm.cells = s.hbm.cells := by
  unfold State.setForceReg
  simp only [↓cells_ite, ↓hbm_cells_ite, ↓cells_foldl, ite_self]
theorem State.setFld_cells (s : State) (x1 : FRef) (x2 : Nat) : (State.setFld s x1 x2).hbm.cells = s.hbm.cells := by
  unfold State.setFld
  simp only [↓State.setReg_cells, ↓cells_ite, ↓hbm_cells_ite, ↓cells_foldl, ite_self]
theorem State.setInf_cells (s : State) (x1 : FRef) (x2 : Nat) : (State.setInf s x1 x2).hbm.cells = s.hbm.cells := by
  unfold State.setInf
  simp only [↓State.setForceReg_cells, ↓cells_ite, ↓hbm_cells_ite, ↓cells_foldl, ite_self]
theorem State.apply_cells (s : State) (x1 : RegFile) : (State.apply s x1).hbm.cells = s.hbm.cells := by
  unfold State.apply
  simp only [↓cells_ite, ↓hbm_cells_ite, ↓cells_foldl, ite_self]
theorem State.incSat_cells (s : State) (x1 : FRef) : (State.incSat s x1).hbm.cells = s.hbm.cells := by
  unfold State.incSat
  simp only [↓State.setFld_cells, ↓cells_ite, ↓hbm_cells_ite, ↓cells_foldl, ite_self]
theorem State.incWrap_cells (s : State) (x1 : FRef) : (State.incWrap s x1).hbm.cells = s.hbm.cells := by
  unfold State.incWrap
  simp only [↓State.setFld_cells, ↓cells_ite, ↓hbm_cells_ite, ↓cells_foldl, ite_self]
theorem State.resetRegs_cells (s : State) (x1 : Nat) (x2 : Nat) : (State.resetRegs s x1 x2).hbm.cells = s.hbm.cells := by
  unfold State.resetRegs
  simp only [↓cells_ite, ↓hbm_cells_ite, ↓cells_foldl, ite_self]
theorem State.useFree_cells (s : State) : (State.useFree s).hbm.cells = s.hbm.cells := by
  unfold State.useFree
  simp only [↓cells_ite, ↓hbm_cells_ite, ↓cells_foldl, ite_self]
theorem State.useFrees_cells (s : State) (n : Nat) : (State.useFrees s n).hbm.cells = s.hbm.cells := rfl
theorem State.emit_cells (s : State) (x1 : Out) : (State.emit s x1).hbm.cells = s.hbm.cells := by
  unfold State.emit
  simp only [↓cells_ite, ↓hbm_cells_ite, ↓cells_foldl, ite_self]
theorem State.count_cells (s : State) (x1 : Nat) (x2 : Config.Count) (x3 : Nat) : (State.count s x1 x2 x3).hbm.cells = s.hbm.cells := by
  unfold State.count
  simp only [↓cells_ite, ↓hbm_cells_ite, ↓cells_foldl, ite_self]
theorem State.raiseAt_cells (s : State) (x1 : Nat) (x2 : Nat) (x3 : Nat) (x4 : Nat) (x5 : List Nat) : (State.raiseAt s x1 x2 x3 x4 x5).hbm.cells = s.hbm.cells := by
  unfold State.raiseAt
  simp only [↓State.incWrap_cells, ↓cells_ite, ↓hbm_cells_ite, ↓cells_foldl, ite_self]
theorem State.raise_cells (s : State) (x1 : Nat) (x2 : Nat) (x3 : Nat) (x4 : List Nat) : (State.raise s x1 x2 x3 x4).hbm.cells = s.hbm.cells := by
  unfold State.raise
  simp only [↓State.raiseAt_cells, ↓cells_ite, ↓hbm_cells_ite, ↓cells_foldl, ite_self]
theorem State.clockEv_cells (s : State) (x1 : Nat) (x2 : Nat) : (State.clockEv s x1 x2).hbm.cells = s.hbm.cells := by
  unfold State.clockEv
  simp only [↓State.raise_cells, ↓cells_ite, ↓hbm_cells_ite, ↓cells_foldl, ite_self]
theorem State.linkEv_cells (s : State) (x1 : Nat) (x2 : Nat) (x3 : Nat) (x4 : Nat) : (State.linkEv s x1 x2 x3 x4).hbm.cells = s.hbm.cells := by
  unfold State.linkEv
  simp only [↓State.raise_cells, ↓cells_ite, ↓hbm_cells_ite, ↓cells_foldl, ite_self]
theorem State.memEv_cells (s : State) (x1 : Nat) (x2 : Nat) (x3 : Nat) : (State.memEv s x1 x2 x3).hbm.cells = s.hbm.cells := by
  unfold State.memEv
  simp only [↓State.raise_cells, ↓cells_ite, ↓hbm_cells_ite, ↓cells_foldl, ite_self]
theorem State.calEv_cells (s : State) (x1 : Nat) (x2 : Nat) (x3 : Nat) : (State.calEv s x1 x2 x3).hbm.cells = s.hbm.cells := by
  unfold State.calEv
  simp only [↓State.raise_cells, ↓cells_ite, ↓hbm_cells_ite, ↓cells_foldl, ite_self]
theorem State.fireVector_cells (s : State) (x1 : Nat) : (State.fireVector s x1).hbm.cells = s.hbm.cells := by
  unfold State.fireVector
  simp only [↓State.emit_cells, ↓cells_ite, ↓hbm_cells_ite, ↓cells_foldl, ite_self]
theorem State.updatePin_cells (s : State) : (State.updatePin s).hbm.cells = s.hbm.cells := by
  unfold State.updatePin
  simp only [↓State.setFld_cells, ↓cells_ite, ↓hbm_cells_ite, ↓cells_foldl, ite_self]
theorem State.updateFlt_cells (s : State) : (State.updateFlt s).hbm.cells = s.hbm.cells := by
  unfold State.updateFlt
  simp only [↓State.setFld_cells, ↓State.updatePin_cells, ↓cells_ite, ↓hbm_cells_ite, ↓cells_foldl, ite_self]
theorem State.modFlt_cells (s : State) (x1 : Nat) (x2 : Flt → Flt) : (State.modFlt s x1 x2).hbm.cells = s.hbm.cells := by
  unfold State.modFlt
  simp only [↓State.updateFlt_cells, ↓cells_ite, ↓hbm_cells_ite, ↓cells_foldl, ite_self]
theorem State.fault_cells (s : State) (x1 : Nat) (x2 : Nat) (x3 : Option Nat) (x4 : Bool) (x5 : Nat) (x6 : Nat) (x7 : Nat) (x8 : Job → Bool) : (State.fault s x1 x2 x3 x4 x5 x6 x7 x8).hbm.cells = s.hbm.cells := by
  unfold State.fault
  simp only [↓State.setFld_cells, ↓State.updateFlt_cells, ↓State.raise_cells, ↓cells_ite, ↓hbm_cells_ite, ↓cells_foldl, ite_self]
theorem State.restoredAt_cells (s : State) (x1 : Nat) (x2 : Nat) : (State.restoredAt s x1 x2).hbm.cells = s.hbm.cells := by
  unfold State.restoredAt
  simp only [↓State.modFlt_cells, ↓cells_ite, ↓hbm_cells_ite, ↓cells_foldl, ite_self]
theorem State.jrec_cells (s : State) (x1 : Nat) (x2 : Nat) (x3 : Nat) (x4 : Desc) (x5 : Nat) (x6 : Nat) (x7 : Nat) (x8 : Nat) (x9 : Nat) : (State.jrec s x1 x2 x3 x4 x5 x6 x7 x8 x9).hbm.cells = s.hbm.cells := by
  unfold State.jrec
  simp only [↓State.incWrap_cells, ↓State.count_cells, ↓cells_ite, ↓hbm_cells_ite, ↓cells_foldl, ite_self]
theorem State.jrecJob_cells (s : State) (x1 : Nat) (x2 : Job) (x3 : Nat) : (State.jrecJob s x1 x2 x3).hbm.cells = s.hbm.cells := by
  unfold State.jrecJob
  simp only [↓State.jrec_cells, ↓cells_ite, ↓hbm_cells_ite, ↓cells_foldl, ite_self]
theorem State.updateJnl_cells (s : State) : (State.updateJnl s).hbm.cells = s.hbm.cells := by
  unfold State.updateJnl
  simp only [↓State.setFld_cells, ↓cells_ite, ↓hbm_cells_ite, ↓cells_foldl, ite_self]
theorem State.coalesce_cells (s : State) (x1 : Nat) : (State.coalesce s x1).hbm.cells = s.hbm.cells := by
  unfold State.coalesce
  simp only [↓State.fireVector_cells, ↓cells_ite, ↓hbm_cells_ite, ↓cells_foldl, ite_self]
theorem State.postEntry_cells (s : State) (x1 : Nat) (x2 : Cpl) (x3 : Bool) : (State.postEntry s x1 x2 x3).hbm.cells = s.hbm.cells := by
  unfold State.postEntry
  simp only [↓State.setFld_cells, ↓State.coalesce_cells, ↓State.emit_cells, ↓cells_ite, ↓hbm_cells_ite, ↓cells_foldl, ite_self]
theorem State.modJob_cells (s : State) (x1 : Nat) (x2 : Job → Job) : (State.modJob s x1 x2).hbm.cells = s.hbm.cells := by
  unfold State.modJob
  simp only [↓cells_ite, ↓hbm_cells_ite, ↓cells_foldl, ite_self]
theorem State.updateStanding_cells (s : State) (x1 : Nat) : (State.updateStanding s x1).hbm.cells = s.hbm.cells := by
  unfold State.updateStanding
  simp only [↓State.setFld_cells, ↓cells_ite, ↓hbm_cells_ite, ↓cells_foldl, ite_self]
theorem State.complete_cells (s : State) (x1 : Nat) (x2 : Nat) (x3 : Nat) (x4 : Nat) : (State.complete s x1 x2 x3 x4).hbm.cells = s.hbm.cells := by
  unfold State.complete
  (try simp only [↓State.updateStanding_cells, ↓State.modJob_cells, ↓cells_ite, ↓hbm_cells_ite, ↓cells_foldl, ite_self]) <;> (repeat' (split <;> (try simp only [↓State.updateStanding_cells, ↓State.modJob_cells, ↓cells_ite, ↓hbm_cells_ite, ↓cells_foldl, ite_self])))
theorem State.setExtent_cells (s : State) (x1 : Nat) (x2 : Nat) : (State.setExtent s x1 x2).hbm.cells = s.hbm.cells := by
  unfold State.setExtent
  simp only [↓State.modJob_cells, ↓cells_ite, ↓hbm_cells_ite, ↓cells_foldl, ite_self]
theorem State.postHead_cells (s : State) (x1 : Nat) : (State.postHead s x1).hbm.cells = s.hbm.cells := by
  unfold State.postHead
  (try simp only [↓State.setFld_cells, ↓State.modJob_cells, ↓State.postEntry_cells, ↓State.jrecJob_cells, ↓cells_ite, ↓hbm_cells_ite, ↓cells_foldl, ite_self]) <;> (repeat' (split <;> (try simp only [↓State.setFld_cells, ↓State.modJob_cells, ↓State.postEntry_cells, ↓State.jrecJob_cells, ↓cells_ite, ↓hbm_cells_ite, ↓cells_foldl, ite_self])))
theorem State.updateHeld_cells (s : State) : (State.updateHeld s).hbm.cells = s.hbm.cells := by
  unfold State.updateHeld
  simp only [↓State.setFld_cells, ↓cells_ite, ↓hbm_cells_ite, ↓cells_foldl, ite_self]
theorem State.updateCaps_cells (s : State) : (State.updateCaps s).hbm.cells = s.hbm.cells := by
  unfold State.updateCaps
  (try simp (disch := (first | (intros; rfl) | (intros; (try simp only [↓State.setFld_cells, ↓cells_ite, ↓hbm_cells_ite, ↓cells_foldl, ite_self]) <;> repeat' (split <;> (try rfl) <;> (try simp only [↓State.setFld_cells, ↓cells_ite, ↓hbm_cells_ite, ↓cells_foldl, ite_self]))))) only [↓State.setFld_cells, ↓cells_ite, ↓hbm_cells_ite, ↓cells_foldl, ite_self]) <;> (repeat' (split <;> (try simp (disch := (first | (intros; rfl) | (intros; (try simp only [↓State.setFld_cells, ↓cells_ite, ↓hbm_cells_ite, ↓cells_foldl, ite_self]) <;> repeat' (split <;> (try rfl) <;> (try simp only [↓State.setFld_cells, ↓cells_ite, ↓hbm_cells_ite, ↓cells_foldl, ite_self]))))) only [↓State.setFld_cells, ↓cells_ite, ↓hbm_cells_ite, ↓cells_foldl, ite_self])))
theorem State.setFill_cells (s : State) (x1 : Nat) : (State.setFill s x1).hbm.cells = s.hbm.cells := by
  unfold State.setFill
  simp only [↓State.setFld_cells, ↓cells_ite, ↓hbm_cells_ite, ↓cells_foldl, ite_self]
theorem State.unstall_cells (s : State) (x1 : List Nat) : (State.unstall s x1).hbm.cells = s.hbm.cells := by
  unfold State.unstall
  simp only [↓State.setFill_cells, ↓cells_ite, ↓hbm_cells_ite, ↓cells_foldl, ite_self]
theorem State.stall_cells (s : State) (x1 : List Nat) : (State.stall s x1).hbm.cells = s.hbm.cells := by
  unfold State.stall
  simp only [↓cells_ite, ↓hbm_cells_ite, ↓cells_foldl, ite_self]
theorem State.updateOldest_cells (s : State) (x1 : Nat) : (State.updateOldest s x1).hbm.cells = s.hbm.cells := by
  unfold State.updateOldest
  simp only [↓State.setFld_cells, ↓cells_ite, ↓hbm_cells_ite, ↓cells_foldl, ite_self]
theorem State.updateFreezeRegs_cells (s : State) : (State.updateFreezeRegs s).hbm.cells = s.hbm.cells := by
  unfold State.updateFreezeRegs
  simp only [↓State.setFld_cells, ↓cells_ite, ↓hbm_cells_ite, ↓cells_foldl, ite_self]
theorem Hbm.lapse_cells (h : Hbm) : h.lapse.cells = h.cells := rfl
theorem Hbm.modGran_cells (h : Hbm) (j : Nat) (f : Gran → Gran) : (h.modGran j f).cells = h.cells := rfl
theorem State.takeGran_cells (s : State) (slot first d : Nat) : (s.takeGran slot first d).hbm.cells = s.hbm.cells := by
  unfold State.takeGran
  rw [State.updateOldest_cells, Hbm.lapse_cells]
theorem State.completeFreezes_cells (s : State) : (State.completeFreezes s).hbm.cells = s.hbm.cells := by
  unfold State.completeFreezes
  simp only [↓cells_ite, ↓hbm_cells_ite, ↓cells_foldl, ite_self]
theorem State.newFreeze_cells (s : State) (x1 : Nat) (x2 : Nat) (x3 : Nat) (x4 : Nat) (x5 : Nat) : (State.newFreeze s x1 x2 x3 x4 x5).hbm.cells = s.hbm.cells := by
  unfold State.newFreeze
  (try simp (disch := (first | (intros; rfl) | (intros; (try simp only [↓State.updateOldest_cells, ↓State.updateFreezeRegs_cells, ↓State.completeFreezes_cells, ↓cells_ite, ↓hbm_cells_ite, ↓cells_foldl, ite_self]) <;> repeat' (split <;> (try rfl) <;> (try simp only [↓State.updateOldest_cells, ↓State.updateFreezeRegs_cells, ↓State.completeFreezes_cells, ↓cells_ite, ↓hbm_cells_ite, ↓cells_foldl, ite_self]))))) only [↓State.updateOldest_cells, ↓State.updateFreezeRegs_cells, ↓State.completeFreezes_cells, ↓cells_ite, ↓hbm_cells_ite, ↓cells_foldl, ite_self]) <;> (repeat' (split <;> (try simp (disch := (first | (intros; rfl) | (intros; (try simp only [↓State.updateOldest_cells, ↓State.updateFreezeRegs_cells, ↓State.completeFreezes_cells, ↓cells_ite, ↓hbm_cells_ite, ↓cells_foldl, ite_self]) <;> repeat' (split <;> (try rfl) <;> (try simp only [↓State.updateOldest_cells, ↓State.updateFreezeRegs_cells, ↓State.completeFreezes_cells, ↓cells_ite, ↓hbm_cells_ite, ↓cells_foldl, ite_self]))))) only [↓State.updateOldest_cells, ↓State.updateFreezeRegs_cells, ↓State.completeFreezes_cells, ↓cells_ite, ↓hbm_cells_ite, ↓cells_foldl, ite_self])))
theorem State.unhold_cells (s : State) (js : List Nat) : (s.unhold js).hbm.cells = s.hbm.cells := by
  unfold State.unhold
  rw [cells_foldl _ _ (fun t n => State.updateOldest_cells t n), Hbm.lapse_cells]
theorem State.hold_cells (s : State) (x1 : List Nat) : (State.hold s x1).hbm.cells = s.hbm.cells := by
  unfold State.hold
  (try simp (disch := (first | (intros; rfl) | (intros; (try simp only [↓State.updateOldest_cells, ↓cells_ite, ↓hbm_cells_ite, ↓cells_foldl, ite_self]) <;> repeat' (split <;> (try rfl) <;> (try simp only [↓State.updateOldest_cells, ↓cells_ite, ↓hbm_cells_ite, ↓cells_foldl, ite_self]))))) only [↓State.updateOldest_cells, ↓cells_ite, ↓hbm_cells_ite, ↓cells_foldl, ite_self]) <;> (repeat' (split <;> (try simp (disch := (first | (intros; rfl) | (intros; (try simp only [↓State.updateOldest_cells, ↓cells_ite, ↓hbm_cells_ite, ↓cells_foldl, ite_self]) <;> repeat' (split <;> (try rfl) <;> (try simp only [↓State.updateOldest_cells, ↓cells_ite, ↓hbm_cells_ite, ↓cells_foldl, ite_self]))))) only [↓State.updateOldest_cells, ↓cells_ite, ↓hbm_cells_ite, ↓cells_foldl, ite_self])))
theorem State.releaseFreeze_cells (s : State) (x1 : Nat) : (State.releaseFreeze s x1).hbm.cells = s.hbm.cells := by
  unfold State.releaseFreeze
  (try simp only [↓State.updateFreezeRegs_cells, ↓State.unhold_cells, ↓cells_ite, ↓hbm_cells_ite, ↓cells_foldl, ite_self]) <;> (repeat' (split <;> (try simp only [↓State.updateFreezeRegs_cells, ↓State.unhold_cells, ↓cells_ite, ↓hbm_cells_ite, ↓cells_foldl, ite_self])))
theorem State.dropGranules_cells (s : State) : s.dropGranules.hbm.cells = s.hbm.cells := by
  unfold State.dropGranules
  rw [cells_foldl _ _ (fun t n => State.updateOldest_cells t n), Hbm.lapse_cells]
theorem State.modSlot_cells (s : State) (x1 : Nat) (x2 : SlotSt → SlotSt) : (State.modSlot s x1 x2).hbm.cells = s.hbm.cells := by
  unfold State.modSlot
  simp only [↓cells_ite, ↓hbm_cells_ite, ↓cells_foldl, ite_self]
theorem State.demandSysref_cells (s : State) : (State.demandSysref s).hbm.cells = s.hbm.cells := by
  unfold State.demandSysref
  simp only [↓cells_ite, ↓hbm_cells_ite, ↓cells_foldl, ite_self]
theorem State.linkStart_cells (s : State) (x1 : Nat) : (State.linkStart s x1).hbm.cells = s.hbm.cells := by
  unfold State.linkStart
  simp only [↓State.setFld_cells, ↓State.modSlot_cells, ↓cells_ite, ↓hbm_cells_ite, ↓cells_foldl, ite_self]
theorem State.linkOff_cells (s : State) (x1 : Nat) : (State.linkOff s x1).hbm.cells = s.hbm.cells := by
  unfold State.linkOff
  simp only [↓State.setFld_cells, ↓State.modSlot_cells, ↓cells_ite, ↓hbm_cells_ite, ↓cells_foldl, ite_self]
theorem State.jesdEv_cells (s : State) (x1 : Nat) (x2 : Nat) : (State.jesdEv s x1 x2).hbm.cells = s.hbm.cells := by
  unfold State.jesdEv
  simp only [↓State.linkEv_cells, ↓cells_ite, ↓hbm_cells_ite, ↓cells_foldl, ite_self]
theorem State.linkRestart_cells (s : State) (x1 : Nat) : (State.linkRestart s x1).hbm.cells = s.hbm.cells := by
  unfold State.linkRestart
  simp only [↓State.modSlot_cells, ↓State.linkStart_cells, ↓cells_ite, ↓hbm_cells_ite, ↓cells_foldl, ite_self]
theorem State.sysrefAlign_cells (s : State) (x1 : Nat × Nat × Nat) : (State.sysrefAlign s x1).hbm.cells = s.hbm.cells := by
  unfold State.sysrefAlign
  simp only [↓State.setFld_cells, ↓State.modSlot_cells, ↓State.jesdEv_cells, ↓State.linkStart_cells, ↓cells_ite, ↓hbm_cells_ite, ↓cells_foldl, ite_self]
theorem slotSourceApply_cells (s : State) (x1 : Desc) : (slotSourceApply s x1).hbm.cells = s.hbm.cells := by
  unfold slotSourceApply
  simp only [↓State.linkOff_cells, ↓State.setFld_cells, ↓State.modSlot_cells, ↓State.linkStart_cells, ↓cells_ite, ↓hbm_cells_ite, ↓cells_foldl, ite_self]
theorem State.landAtten_cells (s : State) (x1 : AttenReq) : (State.landAtten s x1).hbm.cells = s.hbm.cells := by
  unfold State.landAtten
  simp only [↓State.setFld_cells, ↓State.modSlot_cells, ↓State.setInf_cells, ↓cells_ite, ↓hbm_cells_ite, ↓cells_foldl, ite_self]
theorem State.landAttens_cells (s : State) (x1 : Nat) : (State.landAttens s x1).hbm.cells = s.hbm.cells := by
  unfold State.landAttens
  (try simp (disch := (first | (intros; rfl) | (intros; (try simp only [↓State.landAtten_cells, ↓cells_ite, ↓hbm_cells_ite, ↓cells_foldl, ite_self]) <;> repeat' (split <;> (try rfl) <;> (try simp only [↓State.landAtten_cells, ↓cells_ite, ↓hbm_cells_ite, ↓cells_foldl, ite_self]))))) only [↓State.landAtten_cells, ↓cells_ite, ↓hbm_cells_ite, ↓cells_foldl, ite_self]) <;> (repeat' (split <;> (try simp (disch := (first | (intros; rfl) | (intros; (try simp only [↓State.landAtten_cells, ↓cells_ite, ↓hbm_cells_ite, ↓cells_foldl, ite_self]) <;> repeat' (split <;> (try rfl) <;> (try simp only [↓State.landAtten_cells, ↓cells_ite, ↓hbm_cells_ite, ↓cells_foldl, ite_self]))))) only [↓State.landAtten_cells, ↓cells_ite, ↓hbm_cells_ite, ↓cells_foldl, ite_self])))
theorem State.updatePins_cells (s : State) : (State.updatePins s).hbm.cells = s.hbm.cells := by
  unfold State.updatePins
  (try simp (disch := (first | (intros; rfl) | (intros; (try simp only [↓State.emit_cells, ↓cells_ite, ↓hbm_cells_ite, ↓cells_foldl, ite_self]) <;> repeat' (split <;> (try rfl) <;> (try simp only [↓State.emit_cells, ↓cells_ite, ↓hbm_cells_ite, ↓cells_foldl, ite_self]))))) only [↓State.emit_cells, ↓cells_ite, ↓hbm_cells_ite, ↓cells_foldl, ite_self]) <;> (repeat' (split <;> (try simp (disch := (first | (intros; rfl) | (intros; (try simp only [↓State.emit_cells, ↓cells_ite, ↓hbm_cells_ite, ↓cells_foldl, ite_self]) <;> repeat' (split <;> (try rfl) <;> (try simp only [↓State.emit_cells, ↓cells_ite, ↓hbm_cells_ite, ↓cells_foldl, ite_self]))))) only [↓State.emit_cells, ↓cells_ite, ↓hbm_cells_ite, ↓cells_foldl, ite_self])))
theorem State.fastOvr_cells (s : State) (x1 : Nat) (x2 : Bool) : (State.fastOvr s x1 x2).hbm.cells = s.hbm.cells := by
  unfold State.fastOvr
  simp only [↓State.setFld_cells, ↓State.modSlot_cells, ↓State.updatePins_cells, ↓cells_ite, ↓hbm_cells_ite, ↓cells_foldl, ite_self]
theorem State.slotBeat_cells (s : State) (x1 : Nat) (x2 : Beat) : (State.slotBeat s x1 x2).hbm.cells = s.hbm.cells := by
  unfold State.slotBeat
  simp only [↓State.restoredAt_cells, ↓State.setFld_cells, ↓State.modSlot_cells, ↓State.jesdEv_cells, ↓State.fastOvr_cells, ↓State.count_cells, ↓cells_ite, ↓hbm_cells_ite, ↓cells_foldl, ite_self]
theorem State.modStreams_cells (s : State) (x1 : Stream → Bool) (x2 : Stream → Stream) : (State.modStreams s x1 x2).hbm.cells = s.hbm.cells := by
  unfold State.modStreams
  simp only [↓cells_ite, ↓hbm_cells_ite, ↓cells_foldl, ite_self]
theorem State.modStream_cells (s : State) (x1 : Nat) (x2 : Stream → Stream) : (State.modStream s x1 x2).hbm.cells = s.hbm.cells := by
  unfold State.modStream
  simp only [↓State.modStreams_cells, ↓cells_ite, ↓hbm_cells_ite, ↓cells_foldl, ite_self]
theorem State.streamItem_cells (s : State) (x1 : Nat) (x2 : Nat) (x3 : Nat) (x4 : Item) : (State.streamItem s x1 x2 x3 x4).hbm.cells = s.hbm.cells := by
  unfold State.streamItem
  simp only [↓State.modStreams_cells, ↓cells_ite, ↓hbm_cells_ite, ↓cells_foldl, ite_self]
theorem State.streamGone_cells (s : State) (x1 : Nat) (x2 : Nat) (x3 : Nat) (x4 : List Nat) : (State.streamGone s x1 x2 x3 x4).hbm.cells = s.hbm.cells := by
  unfold State.streamGone
  simp only [↓State.modStreams_cells, ↓cells_ite, ↓hbm_cells_ite, ↓cells_foldl, ite_self]
theorem State.endStream_cells (s : State) (x1 : Nat) (x2 : Nat) : (State.endStream s x1 x2).hbm.cells = s.hbm.cells := by
  unfold State.endStream
  (try simp only [↓State.setFld_cells, ↓State.complete_cells, ↓cells_ite, ↓hbm_cells_ite, ↓cells_foldl, ite_self]) <;> (repeat' (split <;> (try simp only [↓State.setFld_cells, ↓State.complete_cells, ↓cells_ite, ↓hbm_cells_ite, ↓cells_foldl, ite_self])))
theorem State.noteShed_cells (s : State) (x1 : Nat) (x2 : Nat) : (State.noteShed s x1 x2).hbm.cells = s.hbm.cells := by
  unfold State.noteShed
  simp only [↓State.modFlt_cells, ↓cells_ite, ↓hbm_cells_ite, ↓cells_foldl, ite_self]
theorem State.blame_cells (s : State) (x1 : Nat) (x2 : Nat) : (State.blame s x1 x2).hbm.cells = s.hbm.cells := by
  unfold State.blame
  simp only [↓State.modJob_cells, ↓cells_ite, ↓hbm_cells_ite, ↓cells_foldl, ite_self]
theorem State.shedStreams_cells (s : State) (x1 : Nat) (x2 : Stream → Bool) : (State.shedStreams s x1 x2).hbm.cells = s.hbm.cells := by
  unfold State.shedStreams
  (try simp (disch := (first | (intros; rfl) | (intros; (try simp only [↓State.endStream_cells, ↓State.noteShed_cells, ↓State.count_cells, ↓State.blame_cells, ↓cells_ite, ↓hbm_cells_ite, ↓cells_foldl, ite_self]) <;> repeat' (split <;> (try rfl) <;> (try simp only [↓State.endStream_cells, ↓State.noteShed_cells, ↓State.count_cells, ↓State.blame_cells, ↓cells_ite, ↓hbm_cells_ite, ↓cells_foldl, ite_self]))))) only [↓State.endStream_cells, ↓State.noteShed_cells, ↓State.count_cells, ↓State.blame_cells, ↓cells_ite, ↓hbm_cells_ite, ↓cells_foldl, ite_self]) <;> (repeat' (split <;> (try simp (disch := (first | (intros; rfl) | (intros; (try simp only [↓State.endStream_cells, ↓State.noteShed_cells, ↓State.count_cells, ↓State.blame_cells, ↓cells_ite, ↓hbm_cells_ite, ↓cells_foldl, ite_self]) <;> repeat' (split <;> (try rfl) <;> (try simp only [↓State.endStream_cells, ↓State.noteShed_cells, ↓State.count_cells, ↓State.blame_cells, ↓cells_ite, ↓hbm_cells_ite, ↓cells_foldl, ite_self]))))) only [↓State.endStream_cells, ↓State.noteShed_cells, ↓State.count_cells, ↓State.blame_cells, ↓cells_ite, ↓hbm_cells_ite, ↓cells_foldl, ite_self])))
theorem State.modCore_cells (s : State) (x1 : Nat) (x2 : Nat) (x3 : Core → Core) : (State.modCore s x1 x2 x3).hbm.cells = s.hbm.cells := by
  unfold State.modCore
  simp only [↓cells_ite, ↓hbm_cells_ite, ↓cells_foldl, ite_self]
theorem State.queueMsg_cells (s : State) (x1 : Nat) (x2 : Nat) (x3 : Msg) : (State.queueMsg s x1 x2 x3).hbm.cells = s.hbm.cells := by
  unfold State.queueMsg
  simp only [↓State.incSat_cells, ↓State.modCore_cells, ↓State.setFld_cells, ↓State.count_cells, ↓cells_ite, ↓hbm_cells_ite, ↓cells_foldl, ite_self]
theorem State.notify_cells (s : State) (x1 : Nat) (x2 : Nat) (x3 : Nat) (x4 : Nat) (x5 : Nat) (x6 : Nat) : (State.notify s x1 x2 x3 x4 x5 x6).hbm.cells = s.hbm.cells := by
  unfold State.notify
  (try simp (disch := (first | (intros; rfl) | (intros; (try simp only [↓State.queueMsg_cells, ↓cells_ite, ↓hbm_cells_ite, ↓cells_foldl, ite_self]) <;> repeat' (split <;> (try rfl) <;> (try simp only [↓State.queueMsg_cells, ↓cells_ite, ↓hbm_cells_ite, ↓cells_foldl, ite_self]))))) only [↓State.queueMsg_cells, ↓cells_ite, ↓hbm_cells_ite, ↓cells_foldl, ite_self]) <;> (repeat' (split <;> (try simp (disch := (first | (intros; rfl) | (intros; (try simp only [↓State.queueMsg_cells, ↓cells_ite, ↓hbm_cells_ite, ↓cells_foldl, ite_self]) <;> repeat' (split <;> (try rfl) <;> (try simp only [↓State.queueMsg_cells, ↓cells_ite, ↓hbm_cells_ite, ↓cells_foldl, ite_self]))))) only [↓State.queueMsg_cells, ↓cells_ite, ↓hbm_cells_ite, ↓cells_foldl, ite_self])))
theorem State.trigMsg_cells (s : State) (x1 : Nat) (x2 : Nat) (x3 : List Nat) : (State.trigMsg s x1 x2 x3).hbm.cells = s.hbm.cells := by
  unfold State.trigMsg
  simp only [↓State.queueMsg_cells, ↓cells_ite, ↓hbm_cells_ite, ↓cells_foldl, ite_self]
theorem State.ddcFire_cells (s : State) (x1 : Nat) (x2 : Nat) (x3 : Nat) : (State.ddcFire s x1 x2 x3).1.hbm.cells = s.hbm.cells := by
  unfold State.ddcFire
  (try simp only [↓State.modStream_cells, ↓cells_ite, ↓hbm_cells_ite, ↓cells_foldl, ite_self]) <;> (repeat' (split <;> (try simp only [↓State.modStream_cells, ↓cells_ite, ↓hbm_cells_ite, ↓cells_foldl, ite_self])))
theorem State.modDue_cells (s : State) (x1 : Nat) (x2 : CalDue → CalDue) : (State.modDue s x1 x2).hbm.cells = s.hbm.cells := by
  unfold State.modDue
  simp only [↓cells_ite, ↓hbm_cells_ite, ↓cells_foldl, ite_self]
theorem State.updatePending_cells (s : State) : (State.updatePending s).hbm.cells = s.hbm.cells := by
  unfold State.updatePending
  simp only [↓State.setFld_cells, ↓cells_ite, ↓hbm_cells_ite, ↓cells_foldl, ite_self]
theorem State.steer8_cells (s : State) (x1 : Nat) : (State.steer8 s x1).hbm.cells = s.hbm.cells := by
  unfold State.steer8
  simp only [↓State.setFld_cells, ↓cells_ite, ↓hbm_cells_ite, ↓cells_foldl, ite_self]
theorem State.abortBist_cells (s : State) (x1 : Nat) (x2 : Nat) : (State.abortBist s x1 x2).hbm.cells = s.hbm.cells := by
  unfold State.abortBist
  (try simp only [↓State.setFld_cells, ↓State.complete_cells, ↓cells_ite, ↓hbm_cells_ite, ↓cells_foldl, ite_self]) <;> (repeat' (split <;> (try simp only [↓State.setFld_cells, ↓State.complete_cells, ↓cells_ite, ↓hbm_cells_ite, ↓cells_foldl, ite_self])))
theorem State.lendSpare_cells (s : State) (x1 : Nat) (x2 : Nat) : (State.lendSpare s x1 x2).hbm.cells = s.hbm.cells := by
  unfold State.lendSpare
  simp only [↓State.steer8_cells, ↓State.setFld_cells, ↓State.abortBist_cells, ↓cells_ite, ↓hbm_cells_ite, ↓cells_foldl, ite_self]
theorem State.freeSpare_cells (s : State) : (State.freeSpare s).hbm.cells = s.hbm.cells := by
  unfold State.freeSpare
  simp only [↓State.setFld_cells, ↓cells_ite, ↓hbm_cells_ite, ↓cells_foldl, ite_self]
theorem State.calReport_cells (s : State) (x1 : Nat) (x2 : Nat) (x3 : Nat) : (State.calReport s x1 x2 x3).hbm.cells = s.hbm.cells := by
  unfold State.calReport
  (try simp only [↓State.complete_cells, ↓State.setExtent_cells, ↓cells_ite, ↓hbm_cells_ite, ↓cells_foldl, ite_self]) <;> (repeat' (split <;> (try simp only [↓State.complete_cells, ↓State.setExtent_cells, ↓cells_ite, ↓hbm_cells_ite, ↓cells_foldl, ite_self])))
theorem State.calReports_cells (s : State) (x1 : Nat) (x2 : Nat) (x3 : List Nat) : (State.calReports s x1 x2 x3).hbm.cells = s.hbm.cells := by
  unfold State.calReports
  (try simp (disch := (first | (intros; rfl) | (intros; (try simp only [↓State.calReport_cells, ↓cells_ite, ↓hbm_cells_ite, ↓cells_foldl, ite_self]) <;> repeat' (split <;> (try rfl) <;> (try simp only [↓State.calReport_cells, ↓cells_ite, ↓hbm_cells_ite, ↓cells_foldl, ite_self]))))) only [↓State.calReport_cells, ↓cells_ite, ↓hbm_cells_ite, ↓cells_foldl, ite_self]) <;> (repeat' (split <;> (try simp (disch := (first | (intros; rfl) | (intros; (try simp only [↓State.calReport_cells, ↓cells_ite, ↓hbm_cells_ite, ↓cells_foldl, ite_self]) <;> repeat' (split <;> (try rfl) <;> (try simp only [↓State.calReport_cells, ↓cells_ite, ↓hbm_cells_ite, ↓cells_foldl, ite_self]))))) only [↓State.calReport_cells, ↓cells_ite, ↓hbm_cells_ite, ↓cells_foldl, ite_self])))
theorem State.calSuccess_cells (s : State) (x1 : CalRun) : (State.calSuccess s x1).hbm.cells = s.hbm.cells := by
  unfold State.calSuccess
  simp only [↓State.incWrap_cells, ↓State.updatePending_cells, ↓State.modDue_cells, ↓State.setFld_cells, ↓State.freeSpare_cells, ↓State.calReports_cells, ↓cells_ite, ↓hbm_cells_ite, ↓cells_foldl, ite_self]
theorem State.calRejected_cells (s : State) (x1 : CalRun) (x2 : Nat) : (State.calRejected s x1 x2).hbm.cells = s.hbm.cells := by
  unfold State.calRejected
  simp only [↓State.incWrap_cells, ↓State.calEv_cells, ↓State.updatePending_cells, ↓State.modDue_cells, ↓State.setFld_cells, ↓State.calReports_cells, ↓cells_ite, ↓hbm_cells_ite, ↓cells_foldl, ite_self]
theorem State.calAborted_cells (s : State) (x1 : CalRun) : (State.calAborted s x1).hbm.cells = s.hbm.cells := by
  unfold State.calAborted
  simp only [↓State.incWrap_cells, ↓State.calEv_cells, ↓State.updatePending_cells, ↓State.modDue_cells, ↓State.setFld_cells, ↓State.calReports_cells, ↓cells_ite, ↓hbm_cells_ite, ↓cells_foldl, ite_self]
theorem State.calResiduals_cells (s : State) (x1 : Nat) (x2 : Int) (x3 : Int) : (State.calResiduals s x1 x2 x3).hbm.cells = s.hbm.cells := by
  unfold State.calResiduals
  simp only [↓State.setFld_cells, ↓cells_ite, ↓hbm_cells_ite, ↓cells_foldl, ite_self]
theorem State.setRun_cells (s : State) (x1 : Option CalRun) : (State.setRun s x1).hbm.cells = s.hbm.cells := by
  unfold State.setRun
  simp only [↓cells_ite, ↓hbm_cells_ite, ↓cells_foldl, ite_self]
theorem State.calPendReports_cells (s : State) : (State.calPendReports s).hbm.cells = s.hbm.cells := by
  unfold State.calPendReports
  (try simp (disch := (first | (intros; rfl) | (intros; (try simp only [↓State.modDue_cells, ↓State.calReports_cells, ↓cells_ite, ↓hbm_cells_ite, ↓cells_foldl, ite_self]) <;> repeat' (split <;> (try rfl) <;> (try simp only [↓State.modDue_cells, ↓State.calReports_cells, ↓cells_ite, ↓hbm_cells_ite, ↓cells_foldl, ite_self]))))) only [↓State.modDue_cells, ↓State.calReports_cells, ↓cells_ite, ↓hbm_cells_ite, ↓cells_foldl, ite_self]) <;> (repeat' (split <;> (try simp (disch := (first | (intros; rfl) | (intros; (try simp only [↓State.modDue_cells, ↓State.calReports_cells, ↓cells_ite, ↓hbm_cells_ite, ↓cells_foldl, ite_self]) <;> repeat' (split <;> (try rfl) <;> (try simp only [↓State.modDue_cells, ↓State.calReports_cells, ↓cells_ite, ↓hbm_cells_ite, ↓cells_foldl, ite_self]))))) only [↓State.modDue_cells, ↓State.calReports_cells, ↓cells_ite, ↓hbm_cells_ite, ↓cells_foldl, ite_self])))
theorem State.endBist_cells (s : State) : (State.endBist s).hbm.cells = s.hbm.cells := by
  unfold State.endBist
  (try simp only [↓State.setFld_cells, ↓State.modSlot_cells, ↓State.freeSpare_cells, ↓State.setRun_cells, ↓cells_ite, ↓hbm_cells_ite, ↓cells_foldl, ite_self]) <;> (repeat' (split <;> (try simp only [↓State.setFld_cells, ↓State.modSlot_cells, ↓State.freeSpare_cells, ↓State.setRun_cells, ↓cells_ite, ↓hbm_cells_ite, ↓cells_foldl, ite_self])))
theorem State.lateTakeover_cells (s : State) (x1 : Nat) (x2 : Nat) (x3 : Nat) : (State.lateTakeover s x1 x2 x3).hbm.cells = s.hbm.cells := by
  unfold State.lateTakeover
  (try simp only [↓State.raise_cells, ↓State.modFlt_cells, ↓cells_ite, ↓hbm_cells_ite, ↓cells_foldl, ite_self]) <;> (repeat' (split <;> (try simp only [↓State.raise_cells, ↓State.modFlt_cells, ↓cells_ite, ↓hbm_cells_ite, ↓cells_foldl, ite_self])))
theorem State.coverFailed_cells (s : State) : (State.coverFailed s).hbm.cells = s.hbm.cells := by
  unfold State.coverFailed
  (try simp only [↓State.lendSpare_cells, ↓State.modSlot_cells, ↓State.lateTakeover_cells, ↓cells_ite, ↓hbm_cells_ite, ↓cells_foldl, ite_self]) <;> (repeat' (split <;> (try simp only [↓State.lendSpare_cells, ↓State.modSlot_cells, ↓State.lateTakeover_cells, ↓cells_ite, ↓hbm_cells_ite, ↓cells_foldl, ite_self])))
theorem State.handBack_cells (s : State) (x1 : Nat) : (State.handBack s x1).hbm.cells = s.hbm.cells := by
  unfold State.handBack
  simp only [↓State.modSlot_cells, ↓State.setRun_cells, ↓cells_ite, ↓hbm_cells_ite, ↓cells_foldl, ite_self]
theorem State.abandonHandover_cells (s : State) (x1 : CalRun) : (State.abandonHandover s x1).hbm.cells = s.hbm.cells := by
  unfold State.abandonHandover
  simp only [↓State.steer8_cells, ↓State.modSlot_cells, ↓State.freeSpare_cells, ↓State.setRun_cells, ↓cells_ite, ↓hbm_cells_ite, ↓cells_foldl, ite_self]
theorem State.setFeeder_cells (s : State) (x1 x2 : Nat) : (State.setFeeder s x1 x2).hbm.cells = s.hbm.cells := by
  unfold State.setFeeder
  (try simp only [↓State.setFld_cells, ↓cells_ite, ↓hbm_cells_ite, ↓cells_foldl, ite_self]) <;> (repeat' (split <;> (try simp only [↓State.setFld_cells, ↓cells_ite, ↓hbm_cells_ite, ↓cells_foldl, ite_self])))
theorem State.switchToSpare_cells (s : State) (x1 : CalRun) : (State.switchToSpare s x1).hbm.cells = s.hbm.cells := by
  unfold State.switchToSpare
  simp only [↓State.setFeeder_cells, ↓State.setFld_cells, ↓State.setRun_cells, ↓cells_ite, ↓hbm_cells_ite, ↓cells_foldl, ite_self]
theorem State.switchBack_cells (s : State) (x1 : CalRun) : (State.switchBack s x1).hbm.cells = s.hbm.cells := by
  unfold State.switchBack
  simp only [↓State.steer8_cells, ↓State.setFeeder_cells, ↓State.setFld_cells, ↓State.setRun_cells, ↓cells_ite, ↓hbm_cells_ite, ↓cells_foldl, ite_self]
theorem State.endCover_cells (s : State) : (State.endCover s).hbm.cells = s.hbm.cells := by
  unfold State.endCover
  (try simp only [↓State.updatePending_cells, ↓State.modDue_cells, ↓State.setFld_cells, ↓State.modSlot_cells, ↓State.freeSpare_cells, ↓State.calAborted_cells, ↓State.setRun_cells, ↓cells_ite, ↓hbm_cells_ite, ↓cells_foldl, ite_self]) <;> (repeat' (split <;> (try simp only [↓State.updatePending_cells, ↓State.modDue_cells, ↓State.setFld_cells, ↓State.modSlot_cells, ↓State.freeSpare_cells, ↓State.calAborted_cells, ↓State.setRun_cells, ↓cells_ite, ↓hbm_cells_ite, ↓cells_foldl, ite_self])))
theorem calibrateApply_cells (s : State) (x1 : Desc) (x2 : Nat) : (calibrateApply s x1 x2).hbm.cells = s.hbm.cells := by
  unfold calibrateApply
  (try simp (disch := (first | (intros; rfl) | (intros; (try simp only [↓State.updatePending_cells, ↓State.modDue_cells, ↓State.setRun_cells, ↓cells_ite, ↓hbm_cells_ite, ↓cells_foldl, ite_self]) <;> repeat' (split <;> (try rfl) <;> (try simp only [↓State.updatePending_cells, ↓State.modDue_cells, ↓State.setRun_cells, ↓cells_ite, ↓hbm_cells_ite, ↓cells_foldl, ite_self]))))) only [↓State.updatePending_cells, ↓State.modDue_cells, ↓State.setRun_cells, ↓cells_ite, ↓hbm_cells_ite, ↓cells_foldl, ite_self]) <;> (repeat' (split <;> (try simp (disch := (first | (intros; rfl) | (intros; (try simp only [↓State.updatePending_cells, ↓State.modDue_cells, ↓State.setRun_cells, ↓cells_ite, ↓hbm_cells_ite, ↓cells_foldl, ite_self]) <;> repeat' (split <;> (try rfl) <;> (try simp only [↓State.updatePending_cells, ↓State.modDue_cells, ↓State.setRun_cells, ↓cells_ite, ↓hbm_cells_ite, ↓cells_foldl, ite_self]))))) only [↓State.updatePending_cells, ↓State.modDue_cells, ↓State.setRun_cells, ↓cells_ite, ↓hbm_cells_ite, ↓cells_foldl, ite_self])))
theorem State.modClk_cells (s : State) (x1 : ClkSt → ClkSt) : (State.modClk s x1).hbm.cells = s.hbm.cells := by
  unfold State.modClk
  simp only [↓cells_ite, ↓hbm_cells_ite, ↓cells_foldl, ite_self]
theorem State.loadSeed_cells (s : State) (x1 : Nat) : (State.loadSeed s x1).hbm.cells = s.hbm.cells := by
  unfold State.loadSeed
  simp only [↓State.modClk_cells, ↓cells_ite, ↓hbm_cells_ite, ↓cells_foldl, ite_self]
theorem State.synRelock_cells (s : State) (x1 : Nat) : (State.synRelock s x1).hbm.cells = s.hbm.cells := by
  unfold State.synRelock
  simp only [↓State.loadSeed_cells, ↓State.setFld_cells, ↓cells_ite, ↓hbm_cells_ite, ↓cells_foldl, ite_self]
theorem State.synLost_cells (s : State) (x1 : Nat) : (State.synLost s x1).hbm.cells = s.hbm.cells := by
  unfold State.synLost
  simp only [↓State.incWrap_cells, ↓State.modClk_cells, ↓State.synRelock_cells, ↓cells_ite, ↓hbm_cells_ite, ↓cells_foldl, ite_self]
theorem State.gateDp_cells (s : State) : (State.gateDp s).hbm.cells = s.hbm.cells := by
  unfold State.gateDp
  simp only [↓State.modClk_cells, ↓State.setFld_cells, ↓cells_ite, ↓hbm_cells_ite, ↓cells_foldl, ite_self]
theorem State.synAckEnd_cells (s : State) (x1 : Nat) (x2 : Bool) : (State.synAckEnd s x1 x2).hbm.cells = s.hbm.cells := by
  unfold State.synAckEnd
  (try simp only [↓State.modClk_cells, ↓State.complete_cells, ↓State.modFlt_cells, ↓cells_ite, ↓hbm_cells_ite, ↓cells_foldl, ite_self]) <;> (repeat' (split <;> (try simp only [↓State.modClk_cells, ↓State.complete_cells, ↓State.modFlt_cells, ↓cells_ite, ↓hbm_cells_ite, ↓cells_foldl, ite_self])))
theorem State.setTrim_cells (s : State) (x1 : Int) : (State.setTrim s x1).hbm.cells = s.hbm.cells := by
  unfold State.setTrim
  simp only [↓State.modClk_cells, ↓State.clockEv_cells, ↓State.setFld_cells, ↓State.setInf_cells, ↓cells_ite, ↓hbm_cells_ite, ↓cells_foldl, ite_self]
theorem State.latchPair_cells (s : State) (x1 : Nat) (x2 : Nat) : (State.latchPair s x1 x2).hbm.cells = s.hbm.cells := by
  unfold State.latchPair
  simp only [↓State.modClk_cells, ↓State.setFld_cells, ↓cells_ite, ↓hbm_cells_ite, ↓cells_foldl, ite_self]
theorem State.modSlice_cells (s : State) (x1 : Nat) (x2 : Slice → Slice) : (State.modSlice s x1 x2).hbm.cells = s.hbm.cells := by
  unfold State.modSlice
  simp only [↓cells_ite, ↓hbm_cells_ite, ↓cells_foldl, ite_self]
theorem State.spxPrepare_cells (s : State) (x1 : Nat) : (State.spxPrepare s x1).hbm.cells = s.hbm.cells := by
  unfold State.spxPrepare
  simp only [↓State.setFld_cells, ↓State.modSlice_cells, ↓cells_ite, ↓hbm_cells_ite, ↓cells_foldl, ite_self]
theorem State.takeSeq_cells (s : State) (x1 : Nat) (x2 : Nat) : (State.takeSeq s x1 x2).2.hbm.cells = s.hbm.cells := by
  unfold State.takeSeq
  simp only [↓State.modSlice_cells, ↓cells_ite, ↓hbm_cells_ite, ↓cells_foldl, ite_self]
theorem windowTableFail_cells (s : State) (x1 : Desc) (x2 : Nat) : (windowTableFail s x1 x2).hbm.cells = s.hbm.cells := by
  unfold windowTableFail
  (try simp only [↓State.modSlice_cells, ↓State.useFrees_cells, ↓cells_ite, ↓hbm_cells_ite, ↓cells_foldl, ite_self]) <;> (repeat' (split <;> (try simp only [↓State.modSlice_cells, ↓State.useFrees_cells, ↓cells_ite, ↓hbm_cells_ite, ↓cells_foldl, ite_self])))
theorem windowTableLoad_cells (s : State) (x1 : Desc) : (windowTableLoad s x1).hbm.cells = s.hbm.cells := by
  unfold windowTableLoad
  simp only [↓State.setFld_cells, ↓State.modSlice_cells, ↓cells_ite, ↓hbm_cells_ite, ↓cells_foldl, ite_self]
theorem State.modTrg_cells (s : State) (x1 : Nat) (x2 : Nat) (x3 : TrgSt → TrgSt) : (State.modTrg s x1 x2 x3).hbm.cells = s.hbm.cells := by
  unfold State.modTrg
  simp only [↓State.modSlice_cells, ↓cells_ite, ↓hbm_cells_ite, ↓cells_foldl, ite_self]
theorem fireFreeze_cells (s : State) (n m : Nat) (j : Job) (a b : Nat) : (s.fireFreeze n m j a b).st.hbm.cells = s.hbm.cells := by
  unfold State.fireFreeze
  simp only
  repeat' split
  all_goals simp (disch := (intros; rfl)) only [↓State.updateFreezeRegs_cells, ↓State.completeFreezes_cells, ↓State.newFreeze_cells, ↓State.modJob_cells, ↓State.hold_cells]
theorem State.fire_cells (s : State) (n m : Nat) (f : Frame) (a b c d : Nat) : (s.fire n m f a b c d).hbm.cells = s.hbm.cells := by
  unfold State.fire
  simp only
  split
  · rfl
  · rename_i j _
    generalize h0 : (if bit (nth j.d.p 0 0) 11 = true then _ else _ : State) = s1
    have e0 : s1.hbm.cells = s.hbm.cells := by
      rw [← h0]
      simp only [↓cells_ite, ↓State.updatePins_cells, ↓State.setFld_cells, ite_self]
    generalize hr : (if bit (nth j.d.p 0 0) 8 = true then _ else _ : FrzRes) = r
    have er : r.st.hbm.cells = s.hbm.cells := by
      rw [← hr]
      split
      · rw [fireFreeze_cells, e0]
      · exact e0
    generalize h3 : (if (r.cut && bit (nth j.d.p 0 0) 8) = true then _ else _ : State) = s3
    have e3 : s3.hbm.cells = s.hbm.cells := by
      rw [← h3]
      simp only [↓cells_ite, ↓State.setFld_cells, ↓State.count_cells, er, ite_self]
    generalize hd : (if bit (nth j.d.p 0 0) 9 = true then _ else _ : State × Bool) = dd
    have ed : dd.1.hbm.cells = s.hbm.cells := by
      rw [← hd]
      split
      · rw [State.ddcFire_cells, e3]
      · exact e3
    simp only [↓State.setExtent_cells, ↓State.setFld_cells, ↓State.modTrg_cells, ↓cells_ite, ↓State.raise_cells, ↓State.trigMsg_cells, ed, ite_self]
theorem State.coreSwap_cells (s : State) (x1 : Nat) (x2 : Nat) : (State.coreSwap s x1 x2).hbm.cells = s.hbm.cells := by
  unfold State.coreSwap
  simp only [↓State.setFld_cells, ↓State.modTrg_cells, ↓State.raise_cells, ↓cells_ite, ↓hbm_cells_ite, ↓cells_foldl, ite_self]
theorem State.trgFrame_cells (s : State) (x1 : Nat) (x2 : Nat) (x3 : Nat) (x4 : Frame) : (State.trgFrame s x1 x2 x3 x4).hbm.cells = s.hbm.cells := by
  unfold State.trgFrame
  simp only [↓State.fire_cells, ↓State.coreSwap_cells, ↓State.setFld_cells, ↓State.modTrg_cells, ↓State.count_cells, ↓cells_ite, ↓hbm_cells_ite, ↓cells_foldl, ite_self]
theorem State.trgUnknown_cells (s : State) (x1 : Nat) (x2 : Nat) : (State.trgUnknown s x1 x2).hbm.cells = s.hbm.cells := by
  unfold State.trgUnknown
  simp only [↓State.setFld_cells, ↓cells_ite, ↓hbm_cells_ite, ↓cells_foldl, ite_self]
theorem State.trgSettle1_cells (s : State) (x1 : Nat) (x2 : Nat) : (State.trgSettle1 s x1 x2).hbm.cells = s.hbm.cells := by
  unfold State.trgSettle1
  simp only [↓State.setFld_cells, ↓State.complete_cells, ↓State.modTrg_cells, ↓cells_ite, ↓hbm_cells_ite, ↓cells_foldl, ite_self]
theorem State.trgSettle_cells (s : State) : (State.trgSettle s).hbm.cells = s.hbm.cells := by
  unfold State.trgSettle
  (try simp (disch := (first | (intros; rfl) | (intros; (try simp only [↓State.trgSettle1_cells, ↓cells_ite, ↓hbm_cells_ite, ↓cells_foldl, ite_self]) <;> repeat' (split <;> (try rfl) <;> (try simp only [↓State.trgSettle1_cells, ↓cells_ite, ↓hbm_cells_ite, ↓cells_foldl, ite_self]))))) only [↓State.trgSettle1_cells, ↓cells_ite, ↓hbm_cells_ite, ↓cells_foldl, ite_self]) <;> (repeat' (split <;> (try simp (disch := (first | (intros; rfl) | (intros; (try simp only [↓State.trgSettle1_cells, ↓cells_ite, ↓hbm_cells_ite, ↓cells_foldl, ite_self]) <;> repeat' (split <;> (try rfl) <;> (try simp only [↓State.trgSettle1_cells, ↓cells_ite, ↓hbm_cells_ite, ↓cells_foldl, ite_self]))))) only [↓State.trgSettle1_cells, ↓cells_ite, ↓hbm_cells_ite, ↓cells_foldl, ite_self])))
theorem armApply_cells (s : State) (x1 : Desc) (x2 : Nat) : (armApply s x1 x2).hbm.cells = s.hbm.cells := by
  unfold armApply
  simp only [↓State.setFld_cells, ↓State.complete_cells, ↓State.modTrg_cells, ↓State.updateFreezeRegs_cells, ↓State.trgUnknown_cells, ↓cells_ite, ↓hbm_cells_ite, ↓cells_foldl, ite_self]
theorem maskTableLoad_cells (s : State) (x1 : Desc) : (maskTableLoad s x1).hbm.cells = s.hbm.cells := by
  unfold maskTableLoad
  simp only [↓State.modSlice_cells, ↓cells_ite, ↓hbm_cells_ite, ↓cells_foldl, ite_self]
theorem State.modDen_cells (s : State) (x1 : Nat) (x2 : DenSt → DenSt) : (State.modDen s x1 x2).hbm.cells = s.hbm.cells := by
  unfold State.modDen
  simp only [↓State.modSlice_cells, ↓cells_ite, ↓hbm_cells_ite, ↓cells_foldl, ite_self]
theorem State.closePeriod_cells (s : State) (x1 : Nat) : (State.closePeriod s x1).hbm.cells = s.hbm.cells := by
  unfold State.closePeriod
  (try simp (disch := (first | (intros; rfl) | (intros; (try simp only [↓State.setFld_cells, ↓State.modTrg_cells, ↓State.modDen_cells, ↓cells_ite, ↓hbm_cells_ite, ↓cells_foldl, ite_self]) <;> repeat' (split <;> (try rfl) <;> (try simp only [↓State.setFld_cells, ↓State.modTrg_cells, ↓State.modDen_cells, ↓cells_ite, ↓hbm_cells_ite, ↓cells_foldl, ite_self]))))) only [↓State.setFld_cells, ↓State.modTrg_cells, ↓State.modDen_cells, ↓cells_ite, ↓hbm_cells_ite, ↓cells_foldl, ite_self]) <;> (repeat' (split <;> (try simp (disch := (first | (intros; rfl) | (intros; (try simp only [↓State.setFld_cells, ↓State.modTrg_cells, ↓State.modDen_cells, ↓cells_ite, ↓hbm_cells_ite, ↓cells_foldl, ite_self]) <;> repeat' (split <;> (try rfl) <;> (try simp only [↓State.setFld_cells, ↓State.modTrg_cells, ↓State.modDen_cells, ↓cells_ite, ↓hbm_cells_ite, ↓cells_foldl, ite_self]))))) only [↓State.setFld_cells, ↓State.modTrg_cells, ↓State.modDen_cells, ↓cells_ite, ↓hbm_cells_ite, ↓cells_foldl, ite_self])))
theorem State.densityInput_cells (s : State) (x1 : Nat) (x2 : Nat) (x3 : List Int) (x4 : Frame) : (State.densityInput s x1 x2 x3 x4).hbm.cells = s.hbm.cells := by
  unfold State.densityInput
  (try simp (disch := (first | (intros; rfl) | (intros; (try simp only [↓State.fire_cells, ↓State.modTrg_cells, ↓State.count_cells, ↓State.modDen_cells, ↓cells_ite, ↓hbm_cells_ite, ↓cells_foldl, ite_self]) <;> repeat' (split <;> (try rfl) <;> (try simp only [↓State.fire_cells, ↓State.modTrg_cells, ↓State.count_cells, ↓State.modDen_cells, ↓cells_ite, ↓hbm_cells_ite, ↓cells_foldl, ite_self]))))) only [↓State.fire_cells, ↓State.modTrg_cells, ↓State.count_cells, ↓State.modDen_cells, ↓cells_ite, ↓hbm_cells_ite, ↓cells_foldl, ite_self]) <;> (repeat' (split <;> (try simp (disch := (first | (intros; rfl) | (intros; (try simp only [↓State.fire_cells, ↓State.modTrg_cells, ↓State.count_cells, ↓State.modDen_cells, ↓cells_ite, ↓hbm_cells_ite, ↓cells_foldl, ite_self]) <;> repeat' (split <;> (try rfl) <;> (try simp only [↓State.fire_cells, ↓State.modTrg_cells, ↓State.count_cells, ↓State.modDen_cells, ↓cells_ite, ↓hbm_cells_ite, ↓cells_foldl, ite_self]))))) only [↓State.fire_cells, ↓State.modTrg_cells, ↓State.count_cells, ↓State.modDen_cells, ↓cells_ite, ↓hbm_cells_ite, ↓cells_foldl, ite_self])))
theorem State.denFrame_cells (s : State) (x1 : Nat) (x2 : Nat) (x3 : Frame) : (State.denFrame s x1 x2 x3).hbm.cells = s.hbm.cells := by
  unfold State.denFrame
  simp only [↓State.densityInput_cells, ↓State.closePeriod_cells, ↓State.modDen_cells, ↓cells_ite, ↓hbm_cells_ite, ↓cells_foldl, ite_self]
theorem State.modTuner_cells (s : State) (x1 : Nat) (x2 : Nat) (x3 : Tuner → Tuner) : (State.modTuner s x1 x2 x3).hbm.cells = s.hbm.cells := by
  unfold State.modTuner
  simp only [↓cells_ite, ↓hbm_cells_ite, ↓cells_foldl, ite_self]
theorem State.settleCommit_cells (s : State) (x1 : Nat) : (State.settleCommit s x1).hbm.cells = s.hbm.cells := by
  unfold State.settleCommit
  (try simp only [↓State.complete_cells, ↓cells_ite, ↓hbm_cells_ite, ↓cells_foldl, ite_self]) <;> (repeat' (split <;> (try simp only [↓State.complete_cells, ↓cells_ite, ↓hbm_cells_ite, ↓cells_foldl, ite_self])))
theorem State.modZoom_cells (s : State) (x1 : Nat) (x2 : Zoom → Zoom) : (State.modZoom s x1 x2).hbm.cells = s.hbm.cells := by
  unfold State.modZoom
  simp only [↓cells_ite, ↓hbm_cells_ite, ↓cells_foldl, ite_self]
theorem State.modZoomTun_cells (s : State) (x1 : Nat) (x2 : Nat) (x3 : ZoomSt → ZoomSt) : (State.modZoomTun s x1 x2 x3).hbm.cells = s.hbm.cells := by
  unfold State.modZoomTun
  simp only [↓State.modZoom_cells, ↓cells_ite, ↓hbm_cells_ite, ↓cells_foldl, ite_self]
theorem State.zoomFrame_cells (s : State) (x1 : Nat) (x2 : Nat) (x3 : Nat) (x4 : List (Nat × Int × Int × Nat)) : (State.zoomFrame s x1 x2 x3 x4).hbm.cells = s.hbm.cells := by
  unfold State.zoomFrame
  simp only [↓State.modZoomTun_cells, ↓cells_ite, ↓hbm_cells_ite, ↓cells_foldl, ite_self]
theorem State.zoomFeed_cells (s : State) (x1 : Nat) (x2 : Nat) (x3 : Nat) (x4 : Nat) (x5 : Int × Int) (x6 : Nat) : (State.zoomFeed s x1 x2 x3 x4 x5 x6).hbm.cells = s.hbm.cells := by
  unfold State.zoomFeed
  simp only [↓State.modZoomTun_cells, ↓State.zoomFrame_cells, ↓cells_ite, ↓hbm_cells_ite, ↓cells_foldl, ite_self]
theorem State.zoomStat_cells (s : State) (x1 : Nat) : (State.zoomStat s x1).hbm.cells = s.hbm.cells := by
  unfold State.zoomStat
  simp only [↓State.setFld_cells, ↓cells_ite, ↓hbm_cells_ite, ↓cells_foldl, ite_self]
theorem State.thrEvent_cells (s : State) (x1 : Nat) (x2 : Nat) (x3 : Nat) (x4 : Bool) (x5 : Nat) (x6 : Nat) (x7 : ThrSt) : (State.thrEvent s x1 x2 x3 x4 x5 x6 x7).hbm.cells = s.hbm.cells := by
  unfold State.thrEvent
  simp only [↓State.raise_cells, ↓State.count_cells, ↓cells_ite, ↓hbm_cells_ite, ↓cells_foldl, ite_self]
theorem State.ddcStat_cells (s : State) (x1 : Nat) (x2 : Nat) : (State.ddcStat s x1 x2).hbm.cells = s.hbm.cells := by
  unfold State.ddcStat
  simp only [↓State.setFld_cells, ↓cells_ite, ↓hbm_cells_ite, ↓cells_foldl, ite_self]
theorem State.ddcSwap_cells (s : State) (x1 : Nat) (x2 : Nat) (x3 : TunChange) (x4 : Nat) (x5 : Nat) : (State.ddcSwap s x1 x2 x3 x4 x5).hbm.cells = s.hbm.cells := by
  unfold State.ddcSwap
  (try simp only [↓State.complete_cells, ↓State.ddcStat_cells, ↓State.modTuner_cells, ↓cells_ite, ↓hbm_cells_ite, ↓cells_foldl, ite_self]) <;> (repeat' (split <;> (try simp only [↓State.complete_cells, ↓State.ddcStat_cells, ↓State.modTuner_cells, ↓cells_ite, ↓hbm_cells_ite, ↓cells_foldl, ite_self])))
theorem State.thrSample_cells (s : State) (x1 : Nat) (x2 : Nat) (x3 : Nat) (x4 : Nat) (x5 : Nat) : (State.thrSample s x1 x2 x3 x4 x5).hbm.cells = s.hbm.cells := by
  unfold State.thrSample
  simp only [↓State.thrEvent_cells, ↓State.setFld_cells, ↓State.modTuner_cells, ↓cells_ite, ↓hbm_cells_ite, ↓cells_foldl, ite_self]
theorem firBankFail_cells (s : State) (x1 : Desc) (x2 : Nat) : (firBankFail s x1 x2).hbm.cells = s.hbm.cells := by
  unfold firBankFail
  (try simp only [↓State.modTuner_cells, ↓State.useFrees_cells, ↓cells_ite, ↓hbm_cells_ite, ↓cells_foldl, ite_self]) <;> (repeat' (split <;> (try simp only [↓State.modTuner_cells, ↓State.useFrees_cells, ↓cells_ite, ↓hbm_cells_ite, ↓cells_foldl, ite_self])))
theorem firBankLoad_cells (s : State) (x1 : Desc) : (firBankLoad s x1).hbm.cells = s.hbm.cells := by
  unfold firBankLoad
  simp only [↓State.setFld_cells, ↓State.modTuner_cells, ↓cells_ite, ↓hbm_cells_ite, ↓cells_foldl, ite_self]
theorem State.modXcor_cells (s : State) (x1 : Xcor → Xcor) : (State.modXcor s x1).hbm.cells = s.hbm.cells := by
  unfold State.modXcor
  simp only [↓cells_ite, ↓hbm_cells_ite, ↓cells_foldl, ite_self]
theorem State.xcorClose_cells (s : State) (x1 : Bool) : (State.xcorClose s x1).hbm.cells = s.hbm.cells := by
  unfold State.xcorClose
  simp only [↓State.setFld_cells, ↓State.modXcor_cells, ↓cells_ite, ↓hbm_cells_ite, ↓cells_foldl, ite_self]
theorem State.xcorBegin_cells (s : State) (x1 : Nat) (x2 : Bool) : (State.xcorBegin s x1 x2).hbm.cells = s.hbm.cells := by
  unfold State.xcorBegin
  simp only [↓State.setFld_cells, ↓State.modXcor_cells, ↓cells_ite, ↓hbm_cells_ite, ↓cells_foldl, ite_self]
theorem State.fengFrame_cells (s : State) (f : XFrame) : (s.fengFrame f).hbm.cells = s.hbm.cells := by
  unfold State.fengFrame
  split
  · rfl
  · refine cells_foldl _ _ (fun t x => cells_foldl _ _ (fun u k => ?_) _) _
    simp only
    split <;> exact State.modXcor_cells _ _
theorem State.xcorFrame_cells (s : State) (x1 : XFrame) (x2 : Nat) : (State.xcorFrame s x1 x2).hbm.cells = s.hbm.cells := by
  unfold State.xcorFrame
  (try simp (disch := (first | (intros; rfl) | (intros; (try simp only [↓State.fengFrame_cells, ↓State.setFld_cells, ↓State.modXcor_cells, ↓State.count_cells, ↓cells_ite, ↓hbm_cells_ite, ↓cells_foldl, ite_self]) <;> repeat' (split <;> (try rfl) <;> (try simp only [↓State.fengFrame_cells, ↓State.setFld_cells, ↓State.modXcor_cells, ↓State.count_cells, ↓cells_ite, ↓hbm_cells_ite, ↓cells_foldl, ite_self]))))) only [↓State.fengFrame_cells, ↓State.setFld_cells, ↓State.modXcor_cells, ↓State.count_cells, ↓cells_ite, ↓hbm_cells_ite, ↓cells_foldl, ite_self]) <;> (repeat' (split <;> (try simp (disch := (first | (intros; rfl) | (intros; (try simp only [↓State.fengFrame_cells, ↓State.setFld_cells, ↓State.modXcor_cells, ↓State.count_cells, ↓cells_ite, ↓hbm_cells_ite, ↓cells_foldl, ite_self]) <;> repeat' (split <;> (try rfl) <;> (try simp only [↓State.fengFrame_cells, ↓State.setFld_cells, ↓State.modXcor_cells, ↓State.count_cells, ↓cells_ite, ↓hbm_cells_ite, ↓cells_foldl, ite_self]))))) only [↓State.fengFrame_cells, ↓State.setFld_cells, ↓State.modXcor_cells, ↓State.count_cells, ↓cells_ite, ↓hbm_cells_ite, ↓cells_foldl, ite_self])))
theorem State.xcorFeed_cells (s : State) (x1 : Nat) (x2 : Frame) (x3 : Nat) : (State.xcorFeed s x1 x2 x3).hbm.cells = s.hbm.cells := by
  unfold State.xcorFeed
  (try simp (disch := (first | (intros; rfl) | (intros; (try simp only [↓State.setFld_cells, ↓State.modXcor_cells, ↓State.xcorFrame_cells, ↓State.count_cells, ↓cells_ite, ↓hbm_cells_ite, ↓cells_foldl, ite_self]) <;> repeat' (split <;> (try rfl) <;> (try simp only [↓State.setFld_cells, ↓State.modXcor_cells, ↓State.xcorFrame_cells, ↓State.count_cells, ↓cells_ite, ↓hbm_cells_ite, ↓cells_foldl, ite_self]))))) only [↓State.setFld_cells, ↓State.modXcor_cells, ↓State.xcorFrame_cells, ↓State.count_cells, ↓cells_ite, ↓hbm_cells_ite, ↓cells_foldl, ite_self]) <;> (repeat' (split <;> (try simp (disch := (first | (intros; rfl) | (intros; (try simp only [↓State.setFld_cells, ↓State.modXcor_cells, ↓State.xcorFrame_cells, ↓State.count_cells, ↓cells_ite, ↓hbm_cells_ite, ↓cells_foldl, ite_self]) <;> repeat' (split <;> (try rfl) <;> (try simp only [↓State.setFld_cells, ↓State.modXcor_cells, ↓State.xcorFrame_cells, ↓State.count_cells, ↓cells_ite, ↓hbm_cells_ite, ↓cells_foldl, ite_self]))))) only [↓State.setFld_cells, ↓State.modXcor_cells, ↓State.xcorFrame_cells, ↓State.count_cells, ↓cells_ite, ↓hbm_cells_ite, ↓cells_foldl, ite_self])))
theorem State.xcorPending_cells (s : State) : (State.xcorPending s).hbm.cells = s.hbm.cells := by
  unfold State.xcorPending
  simp only [↓State.setFld_cells, ↓cells_ite, ↓hbm_cells_ite, ↓cells_foldl, ite_self]
theorem State.xcorTakeGains_cells (s : State) (x1 : RegFile) : (State.xcorTakeGains s x1).hbm.cells = s.hbm.cells := by
  unfold State.xcorTakeGains
  simp only [↓State.apply_cells, ↓State.setFld_cells, ↓State.setInf_cells, ↓cells_ite, ↓hbm_cells_ite, ↓cells_foldl, ite_self]
theorem State.xcorSettle_cells (s : State) : (State.xcorSettle s).hbm.cells = s.hbm.cells := by
  unfold State.xcorSettle
  (try simp (disch := (first | (intros; rfl) | (intros; (try simp only [↓State.xcorPending_cells, ↓State.complete_cells, ↓State.modXcor_cells, ↓cells_ite, ↓hbm_cells_ite, ↓cells_foldl, ite_self]) <;> repeat' (split <;> (try rfl) <;> (try simp only [↓State.xcorPending_cells, ↓State.complete_cells, ↓State.modXcor_cells, ↓cells_ite, ↓hbm_cells_ite, ↓cells_foldl, ite_self]))))) only [↓State.xcorPending_cells, ↓State.complete_cells, ↓State.modXcor_cells, ↓cells_ite, ↓hbm_cells_ite, ↓cells_foldl, ite_self]) <;> (repeat' (split <;> (try simp (disch := (first | (intros; rfl) | (intros; (try simp only [↓State.xcorPending_cells, ↓State.complete_cells, ↓State.modXcor_cells, ↓cells_ite, ↓hbm_cells_ite, ↓cells_foldl, ite_self]) <;> repeat' (split <;> (try rfl) <;> (try simp only [↓State.xcorPending_cells, ↓State.complete_cells, ↓State.modXcor_cells, ↓cells_ite, ↓hbm_cells_ite, ↓cells_foldl, ite_self]))))) only [↓State.xcorPending_cells, ↓State.complete_cells, ↓State.modXcor_cells, ↓cells_ite, ↓hbm_cells_ite, ↓cells_foldl, ite_self])))
theorem State.xcorReturn_cells (s : State) : (State.xcorReturn s).hbm.cells = s.hbm.cells := by
  unfold State.xcorReturn
  simp only [↓State.setFld_cells, ↓State.modXcor_cells, ↓cells_ite, ↓hbm_cells_ite, ↓cells_foldl, ite_self]
theorem State.xcorEpoch_cells (s : State) : (State.xcorEpoch s).hbm.cells = s.hbm.cells := by
  unfold State.xcorEpoch
  simp only [↓State.xcorBegin_cells, ↓State.xcorClose_cells, ↓State.modXcor_cells, ↓cells_ite, ↓hbm_cells_ite, ↓cells_foldl, ite_self]
theorem xcorApply_cells (s : State) (x1 : RegFile) (x2 : Nat) (x3 : Nat) : (xcorApply s x1 x2 x3).hbm.cells = s.hbm.cells := by
  unfold xcorApply
  simp only [↓State.modXcor_cells, ↓State.xcorSettle_cells, ↓cells_ite, ↓hbm_cells_ite, ↓cells_foldl, ite_self]
theorem gainBankFail_cells (s : State) (x1 : Desc) (x2 : Nat) : (gainBankFail s x1 x2).hbm.cells = s.hbm.cells := by
  unfold gainBankFail
  (try simp only [↓State.modXcor_cells, ↓State.useFrees_cells, ↓cells_ite, ↓hbm_cells_ite, ↓cells_foldl, ite_self]) <;> (repeat' (split <;> (try simp only [↓State.modXcor_cells, ↓State.useFrees_cells, ↓cells_ite, ↓hbm_cells_ite, ↓cells_foldl, ite_self])))
theorem gainBankLoad_cells (s : State) (x1 : Desc) : (gainBankLoad s x1).hbm.cells = s.hbm.cells := by
  unfold gainBankLoad
  simp only [↓State.setFld_cells, ↓State.modXcor_cells, ↓cells_ite, ↓hbm_cells_ite, ↓cells_foldl, ite_self]
theorem State.modSec_cells (s : State) (x1 : SecSt → SecSt) : (State.modSec s x1).hbm.cells = s.hbm.cells := by
  unfold State.modSec
  simp only [↓cells_ite, ↓hbm_cells_ite, ↓cells_foldl, ite_self]
theorem State.secEv_cells (s : State) (x1 : Nat) (x2 : Nat) : (State.secEv s x1 x2).hbm.cells = s.hbm.cells := by
  unfold State.secEv
  simp only [↓State.raise_cells, ↓cells_ite, ↓hbm_cells_ite, ↓cells_foldl, ite_self]
theorem State.drbg_cells (s : State) : (State.drbg s).1.hbm.cells = s.hbm.cells := by
  unfold State.drbg
  (try simp only [↓State.secEv_cells, ↓State.modSec_cells, ↓State.setFld_cells, ↓cells_ite, ↓hbm_cells_ite, ↓cells_foldl, ite_self]) <;> (repeat' (split <;> (try simp only [↓State.secEv_cells, ↓State.modSec_cells, ↓State.setFld_cells, ↓cells_ite, ↓hbm_cells_ite, ↓cells_foldl, ite_self])))
theorem State.signBy_cells (s : State) (x1 : Nat) (x2 : List Nat) : (State.signBy s x1 x2).1.hbm.cells = s.hbm.cells := by
  unfold State.signBy
  (try simp only [↓State.drbg_cells, ↓State.useFree_cells, ↓cells_ite, ↓hbm_cells_ite, ↓cells_foldl, ite_self]) <;> (repeat' (split <;> (try simp only [↓State.drbg_cells, ↓State.useFree_cells, ↓cells_ite, ↓hbm_cells_ite, ↓cells_foldl, ite_self])))
theorem State.sign_cells (s : State) (x1 : Nat) (x2 : List Nat) : (State.sign s x1 x2).1.hbm.cells = s.hbm.cells := by
  unfold State.sign
  (try simp only [↓State.signBy_cells, ↓cells_ite, ↓hbm_cells_ite, ↓cells_foldl, ite_self]) <;> (repeat' (split <;> (try simp only [↓State.signBy_cells, ↓cells_ite, ↓hbm_cells_ite, ↓cells_foldl, ite_self])))
theorem State.modRec_cells (s : State) (x1 : Nat) (x2 : Rec → Rec) : (State.modRec s x1 x2).hbm.cells = s.hbm.cells := by
  unfold State.modRec
  simp only [↓cells_ite, ↓hbm_cells_ite, ↓cells_foldl, ite_self]
theorem State.recExtent_cells (s : State) (x1 : Nat) : (State.recExtent s x1).hbm.cells = s.hbm.cells := by
  unfold State.recExtent
  (try simp only [↓State.setExtent_cells, ↓cells_ite, ↓hbm_cells_ite, ↓cells_foldl, ite_self]) <;> (repeat' (split <;> (try simp only [↓State.setExtent_cells, ↓cells_ite, ↓hbm_cells_ite, ↓cells_foldl, ite_self])))
theorem State.recWrite_cells (s : State) (x1 : Nat) (x2 : Nat) (x3 : Nat) (x4 : List Nat) (x5 : Option Nat) : (State.recWrite s x1 x2 x3 x4 x5).hbm.cells = s.hbm.cells := by
  unfold State.recWrite
  simp only [↓State.modRec_cells, ↓State.emit_cells, ↓State.count_cells, ↓cells_ite, ↓hbm_cells_ite, ↓cells_foldl, ite_self]
theorem State.recFlush_cells (s : State) (x1 : Nat) : (State.recFlush s x1).hbm.cells = s.hbm.cells := by
  unfold State.recFlush
  (try simp (disch := (first | (intros; rfl) | (intros; (try simp only [↓State.modRec_cells, ↓State.emit_cells, ↓cells_ite, ↓hbm_cells_ite, ↓cells_foldl, ite_self]) <;> repeat' (split <;> (try rfl) <;> (try simp only [↓State.modRec_cells, ↓State.emit_cells, ↓cells_ite, ↓hbm_cells_ite, ↓cells_foldl, ite_self]))))) only [↓State.modRec_cells, ↓State.emit_cells, ↓cells_ite, ↓hbm_cells_ite, ↓cells_foldl, ite_self]) <;> (repeat' (split <;> (try simp (disch := (first | (intros; rfl) | (intros; (try simp only [↓State.modRec_cells, ↓State.emit_cells, ↓cells_ite, ↓hbm_cells_ite, ↓cells_foldl, ite_self]) <;> repeat' (split <;> (try rfl) <;> (try simp only [↓State.modRec_cells, ↓State.emit_cells, ↓cells_ite, ↓hbm_cells_ite, ↓cells_foldl, ite_self]))))) only [↓State.modRec_cells, ↓State.emit_cells, ↓cells_ite, ↓hbm_cells_ite, ↓cells_foldl, ite_self])))
theorem State.recBegin_cells (s : State) (x1 : Nat) (x2 : Nat) : (State.recBegin s x1 x2).hbm.cells = s.hbm.cells := by
  unfold State.recBegin
  (try simp only [↓State.recWrite_cells, ↓State.modRec_cells, ↓cells_ite, ↓hbm_cells_ite, ↓cells_foldl, ite_self]) <;> (repeat' (split <;> (try simp only [↓State.recWrite_cells, ↓State.modRec_cells, ↓cells_ite, ↓hbm_cells_ite, ↓cells_foldl, ite_self])))
theorem State.putChunk_cells (s : State) (x1 : Nat) (x2 : Nat) (x3 : Nat) (x4 : List Nat) (x5 : Nat) : (State.putChunk s x1 x2 x3 x4 x5).hbm.cells = s.hbm.cells := by
  unfold State.putChunk
  (try simp only [↓State.recWrite_cells, ↓State.modRec_cells, ↓State.recBegin_cells, ↓cells_ite, ↓hbm_cells_ite, ↓cells_foldl, ite_self]) <;> (repeat' (split <;> (try simp only [↓State.recWrite_cells, ↓State.modRec_cells, ↓State.recBegin_cells, ↓cells_ite, ↓hbm_cells_ite, ↓cells_foldl, ite_self])))
theorem State.putCkpt_cells (s : State) (x1 : Nat) (x2 : Bool) : (State.putCkpt s x1 x2).hbm.cells = s.hbm.cells := by
  unfold State.putCkpt
  (try simp only [↓State.sign_cells, ↓State.putChunk_cells, ↓State.modRec_cells, ↓State.recBegin_cells, ↓cells_ite, ↓hbm_cells_ite, ↓cells_foldl, ite_self]) <;> (repeat' (split <;> (try simp only [↓State.sign_cells, ↓State.putChunk_cells, ↓State.modRec_cells, ↓State.recBegin_cells, ↓cells_ite, ↓hbm_cells_ite, ↓cells_foldl, ite_self])))
theorem State.closeSeg_cells (s : State) (x1 : Nat) (x2 : Bool) (x3 : Bool) : (State.closeSeg s x1 x2 x3).hbm.cells = s.hbm.cells := by
  unfold State.closeSeg
  (try simp only [↓State.recWrite_cells, ↓State.putCkpt_cells, ↓State.modRec_cells, ↓State.recFlush_cells, ↓State.recBegin_cells, ↓cells_ite, ↓hbm_cells_ite, ↓cells_foldl, ite_self]) <;> (repeat' (split <;> (try simp only [↓State.recWrite_cells, ↓State.putCkpt_cells, ↓State.modRec_cells, ↓State.recFlush_cells, ↓State.recBegin_cells, ↓cells_ite, ↓hbm_cells_ite, ↓cells_foldl, ite_self])))
theorem State.updateReady_cells (s : State) : (State.updateReady s).hbm.cells = s.hbm.cells := by
  unfold State.updateReady
  simp only [↓State.setFld_cells, ↓cells_ite, ↓hbm_cells_ite, ↓cells_foldl, ite_self]
theorem State.recOver_cells (s : State) (x1 : Nat) (x2 : Nat) (x3 : Nat) (x4 : Nat) (x5 : Nat) (x6 : Nat) : (State.recOver s x1 x2 x3 x4 x5 x6).hbm.cells = s.hbm.cells := by
  unfold State.recOver
  (try simp (disch := (first | (intros; rfl) | (intros; (try simp only [↓State.endStream_cells, ↓State.setFld_cells, ↓State.complete_cells, ↓State.updateReady_cells, ↓cells_ite, ↓hbm_cells_ite, ↓cells_foldl, ite_self]) <;> repeat' (split <;> (try rfl) <;> (try simp only [↓State.endStream_cells, ↓State.setFld_cells, ↓State.complete_cells, ↓State.updateReady_cells, ↓cells_ite, ↓hbm_cells_ite, ↓cells_foldl, ite_self]))))) only [↓State.endStream_cells, ↓State.setFld_cells, ↓State.complete_cells, ↓State.updateReady_cells, ↓cells_ite, ↓hbm_cells_ite, ↓cells_foldl, ite_self]) <;> (repeat' (split <;> (try simp (disch := (first | (intros; rfl) | (intros; (try simp only [↓State.endStream_cells, ↓State.setFld_cells, ↓State.complete_cells, ↓State.updateReady_cells, ↓cells_ite, ↓hbm_cells_ite, ↓cells_foldl, ite_self]) <;> repeat' (split <;> (try rfl) <;> (try simp only [↓State.endStream_cells, ↓State.setFld_cells, ↓State.complete_cells, ↓State.updateReady_cells, ↓cells_ite, ↓hbm_cells_ite, ↓cells_foldl, ite_self]))))) only [↓State.endStream_cells, ↓State.setFld_cells, ↓State.complete_cells, ↓State.updateReady_cells, ↓cells_ite, ↓hbm_cells_ite, ↓cells_foldl, ite_self])))
theorem State.recSettle_cells (s : State) (x1 : Nat) : (State.recSettle s x1).hbm.cells = s.hbm.cells := by
  unfold State.recSettle
  (try simp only [↓State.recOver_cells, ↓cells_ite, ↓hbm_cells_ite, ↓cells_foldl, ite_self]) <;> (repeat' (split <;> (try simp only [↓State.recOver_cells, ↓cells_ite, ↓hbm_cells_ite, ↓cells_foldl, ite_self])))
theorem State.recFinish_cells (s : State) (x1 : Nat) (x2 : Nat) (x3 : Nat) (x4 : Nat) : (State.recFinish s x1 x2 x3 x4).hbm.cells = s.hbm.cells := by
  unfold State.recFinish
  simp only [↓State.recSettle_cells, ↓State.modRec_cells, ↓State.closeSeg_cells, ↓cells_ite, ↓hbm_cells_ite, ↓cells_foldl, ite_self]
theorem State.nsFail_cells (s : State) (k : Nat) : (s.nsFail k).hbm.cells = s.hbm.cells := by
  unfold State.nsFail
  refine (cells_foldl _ _ (fun t r => ?_) _).trans ?_
  · refine (State.recOver_cells ..).trans (cells_foldl _ _ (fun t x => State.blame_cells ..) _)
  · simp only [↓State.fault_cells, ↓State.linkEv_cells, ↓State.updateReady_cells, ↓State.setFld_cells]
theorem recSecEv_cells (s : State) (x1 : Desc) : (recSecEv s x1).hbm.cells = s.hbm.cells := by
  unfold recSecEv
  simp only [↓State.secEv_cells, ↓cells_ite, ↓hbm_cells_ite, ↓cells_foldl, ite_self]
theorem recApply_cells (s : State) (x1 : Desc) (x2 : Nat) : (recApply s x1 x2).hbm.cells = s.hbm.cells := by
  unfold recApply
  (try simp (disch := (first | (intros; rfl) | (intros; (try simp only [↓State.modSec_cells, ↓State.setFld_cells, ↓State.updateReady_cells, ↓cells_ite, ↓hbm_cells_ite, ↓cells_foldl, ite_self]) <;> repeat' (split <;> (try rfl) <;> (try simp only [↓State.modSec_cells, ↓State.setFld_cells, ↓State.updateReady_cells, ↓cells_ite, ↓hbm_cells_ite, ↓cells_foldl, ite_self]))))) only [↓State.modSec_cells, ↓State.setFld_cells, ↓State.updateReady_cells, ↓cells_ite, ↓hbm_cells_ite, ↓cells_foldl, ite_self]) <;> (repeat' (split <;> (try simp (disch := (first | (intros; rfl) | (intros; (try simp only [↓State.modSec_cells, ↓State.setFld_cells, ↓State.updateReady_cells, ↓cells_ite, ↓hbm_cells_ite, ↓cells_foldl, ite_self]) <;> repeat' (split <;> (try rfl) <;> (try simp only [↓State.modSec_cells, ↓State.setFld_cells, ↓State.updateReady_cells, ↓cells_ite, ↓hbm_cells_ite, ↓cells_foldl, ite_self]))))) only [↓State.modSec_cells, ↓State.setFld_cells, ↓State.updateReady_cells, ↓cells_ite, ↓hbm_cells_ite, ↓cells_foldl, ite_self])))
theorem recStopApply_cells (s : State) (x1 : Desc) (x2 : Nat) : (recStopApply s x1 x2).hbm.cells = s.hbm.cells := by
  unfold recStopApply
  simp only [↓State.recFinish_cells, ↓cells_ite, ↓hbm_cells_ite, ↓cells_foldl, ite_self]
theorem State.updateCoreSum_cells (s : State) (x1 : Nat) : (State.updateCoreSum s x1).hbm.cells = s.hbm.cells := by
  unfold State.updateCoreSum
  simp only [↓State.setFld_cells, ↓cells_ite, ↓hbm_cells_ite, ↓cells_foldl, ite_self]
theorem State.coreEnd_cells (s : State) (x1 : Nat) (x2 : Nat) (x3 : Nat) (x4 : Nat) (x5 : Nat) (x6 : Nat) : (State.coreEnd s x1 x2 x3 x4 x5 x6).hbm.cells = s.hbm.cells := by
  unfold State.coreEnd
  simp only [↓State.updateCoreSum_cells, ↓State.modCore_cells, ↓State.setFld_cells, ↓State.complete_cells, ↓State.raise_cells, ↓cells_ite, ↓hbm_cells_ite, ↓cells_foldl, ite_self]
theorem State.coreSettle_cells (s : State) (x1 : Nat) (x2 : Nat) : (State.coreSettle s x1 x2).hbm.cells = s.hbm.cells := by
  unfold State.coreSettle
  (try simp only [↓State.coreEnd_cells, ↓State.complete_cells, ↓cells_ite, ↓hbm_cells_ite, ↓cells_foldl, ite_self]) <;> (repeat' (split <;> (try simp only [↓State.coreEnd_cells, ↓State.complete_cells, ↓cells_ite, ↓hbm_cells_ite, ↓cells_foldl, ite_self])))
theorem State.coreTrap_cells (s : State) (x1 : Nat) (x2 : Nat) (x3 : Nat) (x4 : Nat) : (State.coreTrap s x1 x2 x3 x4).hbm.cells = s.hbm.cells := by
  unfold State.coreTrap
  simp only [↓State.coreSettle_cells, ↓State.modCore_cells, ↓cells_ite, ↓hbm_cells_ite, ↓cells_foldl, ite_self]
theorem State.coreUse_cells (s : State) (x1 : Nat) (x2 : Nat) (x3 : Nat) : (State.coreUse s x1 x2 x3).hbm.cells = s.hbm.cells := by
  unfold State.coreUse
  simp only [↓State.modCore_cells, ↓cells_ite, ↓hbm_cells_ite, ↓cells_foldl, ite_self]
theorem State.sample_cells (s : State) (x1 : Nat) (x2 : Nat) (x3 : Nat) (x4 : Nat) (x5 : Nat) (x6 : Nat) : (State.sample s x1 x2 x3 x4 x5 x6).hbm.cells = s.hbm.cells := by
  unfold State.sample
  simp only [↓cells_ite, ↓hbm_cells_ite, ↓cells_foldl, ite_self]
theorem State.coreRetire_cells (s : State) (x1 : Nat) (x2 : Nat) (x3 : Fx) : (State.coreRetire s x1 x2 x3).hbm.cells = s.hbm.cells := by
  unfold State.coreRetire
  simp only [↓State.sample_cells, ↓State.modCore_cells, ↓State.setFld_cells, ↓State.coreUse_cells, ↓State.coreTrap_cells, ↓State.useFree_cells, ↓State.count_cells, ↓cells_ite, ↓hbm_cells_ite, ↓cells_foldl, ite_self]
theorem State.coreStall_cells (s : State) (x1 : Nat) (x2 : Nat) (x3 : Nat) : (State.coreStall s x1 x2 x3).hbm.cells = s.hbm.cells := by
  unfold State.coreStall
  simp only [↓State.modCore_cells, ↓State.coreUse_cells, ↓State.count_cells, ↓cells_ite, ↓hbm_cells_ite, ↓cells_foldl, ite_self]
theorem State.coreDo_cells (s : State) (x1 : Nat) (x2 : Nat) (x3 : Instr) (x4 : Core → Fx) : (State.coreDo s x1 x2 x3 x4).hbm.cells = s.hbm.cells := by
  unfold State.coreDo
  simp only [↓State.coreRetire_cells, ↓cells_ite, ↓hbm_cells_ite, ↓cells_foldl, ite_self]
theorem State.modHbm_cells (s : State) (f : Hbm → Hbm) (h : (f s.hbm).cells = s.hbm.cells) : (s.modHbm f).hbm.cells = s.hbm.cells := h
theorem State.setPc_cells (s : State) (x1 : Nat) (x2 : Nat) (x3 : Nat) : (State.setPc s x1 x2 x3).hbm.cells = s.hbm.cells := by
  unfold State.setPc
  simp only [↓State.setFld_cells, ↓cells_ite, ↓hbm_cells_ite, ↓cells_foldl, ite_self]
theorem Hbm.addLoss_cells (h : Hbm) (l : Loss) : (h.addLoss l).cells = h.cells := by
  unfold Hbm.addLoss
  split <;> rfl
theorem State.retire_cells (s : State) (p : Nat) : (s.retire p).hbm.cells = s.hbm.cells := by
  unfold State.retire
  simp only
  split
  · rw [State.updateFreezeRegs_cells, State.unstall_cells, State.fault_cells, State.memEv_cells, State.setFld_cells, State.setFld_cells]
    refine (State.modHbm_cells _ _ ?_).trans ?_
    · exact Hbm.addLoss_cells ..
    · rw [State.setPc_cells, State.setPc_cells]
  · rw [State.updateFreezeRegs_cells, State.unstall_cells, State.fault_cells, State.memEv_cells, State.setFld_cells]
    refine (State.modHbm_cells _ _ ?_).trans ?_
    · exact Hbm.addLoss_cells ..
    · rw [State.setPc_cells]
theorem State.trainedAt_cells (s : State) (x1 : Nat) (x2 : Int) : (State.trainedAt s x1 x2).hbm.cells = s.hbm.cells := by
  unfold State.trainedAt
  simp only [↓State.setFld_cells, ↓State.modHbm_cells, ↓cells_ite, ↓hbm_cells_ite, ↓cells_foldl, ite_self]
theorem State.setPcs_cells (s : State) (x1 : List Nat) (x2 : Nat) : (State.setPcs s x1 x2).hbm.cells = s.hbm.cells := by
  unfold State.setPcs
  (try simp (disch := (first | (intros; rfl) | (intros; (try simp only [↓State.setFld_cells, ↓cells_ite, ↓hbm_cells_ite, ↓cells_foldl, ite_self]) <;> repeat' (split <;> (try rfl) <;> (try simp only [↓State.setFld_cells, ↓cells_ite, ↓hbm_cells_ite, ↓cells_foldl, ite_self]))))) only [↓State.setFld_cells, ↓cells_ite, ↓hbm_cells_ite, ↓cells_foldl, ite_self]) <;> (repeat' (split <;> (try simp (disch := (first | (intros; rfl) | (intros; (try simp only [↓State.setFld_cells, ↓cells_ite, ↓hbm_cells_ite, ↓cells_foldl, ite_self]) <;> repeat' (split <;> (try rfl) <;> (try simp only [↓State.setFld_cells, ↓cells_ite, ↓hbm_cells_ite, ↓cells_foldl, ite_self]))))) only [↓State.setFld_cells, ↓cells_ite, ↓hbm_cells_ite, ↓cells_foldl, ite_self])))
theorem State.uncorrectable_cells (s : State) (x1 : Nat) : (State.uncorrectable s x1).hbm.cells = s.hbm.cells := by
  unfold State.uncorrectable
  (try simp only [↓State.setFld_cells, ↓State.memEv_cells, ↓State.modHbm_cells, ↓State.count_cells, ↓cells_ite, ↓hbm_cells_ite, ↓cells_foldl, ite_self]) <;> (repeat' (split <;> (try simp only [↓State.setFld_cells, ↓State.memEv_cells, ↓State.modHbm_cells, ↓State.count_cells, ↓cells_ite, ↓hbm_cells_ite, ↓cells_foldl, ite_self])))
theorem State.corrected_cells (s : State) (x1 : Nat) (x2 : Nat) : (State.corrected s x1 x2).hbm.cells = s.hbm.cells := by
  unfold State.corrected
  simp only [↓State.retire_cells, ↓State.count_cells, ↓cells_ite, ↓hbm_cells_ite, ↓cells_foldl, ite_self]
theorem restripeApply_cells (s : State) (x1 : Desc) (x2 : Nat) : (restripeApply s x1 x2).hbm.cells = s.hbm.cells := by
  unfold restripeApply
  simp only [↓State.modHbm_cells, ↓cells_ite, ↓hbm_cells_ite, ↓cells_foldl, ite_self]
theorem State.restartWriters_cells (s : State) : (State.restartWriters s).hbm.cells = s.hbm.cells := by
  unfold State.restartWriters
  (try simp (disch := (first | (intros; rfl) | (intros; (try simp only [↓State.setFld_cells, ↓State.modSlice_cells, ↓State.modXcor_cells, ↓State.modTuner_cells, ↓cells_ite, ↓hbm_cells_ite, ↓cells_foldl, ite_self]) <;> repeat' (split <;> (try rfl) <;> (try simp only [↓State.setFld_cells, ↓State.modSlice_cells, ↓State.modXcor_cells, ↓State.modTuner_cells, ↓cells_ite, ↓hbm_cells_ite, ↓cells_foldl, ite_self]))))) only [↓State.setFld_cells, ↓State.modSlice_cells, ↓State.modXcor_cells, ↓State.modTuner_cells, ↓cells_ite, ↓hbm_cells_ite, ↓cells_foldl, ite_self]) <;> (repeat' (split <;> (try simp (disch := (first | (intros; rfl) | (intros; (try simp only [↓State.setFld_cells, ↓State.modSlice_cells, ↓State.modXcor_cells, ↓State.modTuner_cells, ↓cells_ite, ↓hbm_cells_ite, ↓cells_foldl, ite_self]) <;> repeat' (split <;> (try rfl) <;> (try simp only [↓State.setFld_cells, ↓State.modSlice_cells, ↓State.modXcor_cells, ↓State.modTuner_cells, ↓cells_ite, ↓hbm_cells_ite, ↓cells_foldl, ite_self]))))) only [↓State.setFld_cells, ↓State.modSlice_cells, ↓State.modXcor_cells, ↓State.modTuner_cells, ↓cells_ite, ↓hbm_cells_ite, ↓cells_foldl, ite_self])))
theorem State.modChan_cells (s : State) (x1 : Nat) (x2 : Chan → Chan) : (State.modChan s x1 x2).hbm.cells = s.hbm.cells := by
  unfold State.modChan
  simp only [↓cells_ite, ↓hbm_cells_ite, ↓cells_foldl, ite_self]
theorem State.modXfer_cells (s : State) (x1 : Nat) (x2 : Xfer → Xfer) : (State.modXfer s x1 x2).hbm.cells = s.hbm.cells := by
  unfold State.modXfer
  simp only [↓State.modChan_cells, ↓cells_ite, ↓hbm_cells_ite, ↓cells_foldl, ite_self]
theorem State.chanTake_cells (s : State) (x1 : Nat) : (State.chanTake s x1).hbm.cells = s.hbm.cells := by
  unfold State.chanTake
  (try simp only [↓State.modChan_cells, ↓State.setFld_cells, ↓cells_ite, ↓hbm_cells_ite, ↓cells_foldl, ite_self]) <;> (repeat' (split <;> (try simp only [↓State.modChan_cells, ↓State.setFld_cells, ↓cells_ite, ↓hbm_cells_ite, ↓cells_foldl, ite_self])))
theorem State.enqueue_cells (s : State) (x1 : Nat) (x2 : Xfer) : (State.enqueue s x1 x2).hbm.cells = s.hbm.cells := by
  unfold State.enqueue
  simp only [↓State.chanTake_cells, ↓State.modChan_cells, ↓cells_ite, ↓hbm_cells_ite, ↓cells_foldl, ite_self]
theorem State.modExtract_cells (s : State) (x1 : Nat) (x2 : ExtractSt → ExtractSt) : (State.modExtract s x1 x2).hbm.cells = s.hbm.cells := by
  unfold State.modExtract
  simp only [↓cells_ite, ↓hbm_cells_ite, ↓cells_foldl, ite_self]
theorem markUe_cells (l : List Nat) (h : Hbm) : (l.foldl (fun (h : Hbm) (j : Nat) => h.modGran j (fun g => { g with ue := true })) h).cells = h.cells := by
  induction l generalizing h with
  | nil => rfl
  | cons a t ih => exact (ih _).trans (Hbm.modGran_cells ..)
theorem State.extractNext_cells (s : State) (ch job : Nat) : (s.extractNext ch job).hbm.cells = s.hbm.cells := by
  unfold State.extractNext
  split
  · rfl
  · split
    · rfl
    · simp only
      split
      · rw [State.modXfer_cells, State.modHbm_cells _ _ (markUe_cells ..), State.modExtract_cells]
      · rw [State.modStream_cells, State.modXfer_cells, State.modHbm_cells _ _ (markUe_cells ..), State.modExtract_cells]
theorem State.extractFill_cells (s : State) (ch job need n : Nat) : (s.extractFill ch job need n).hbm.cells = s.hbm.cells := by
  induction n generalizing s with
  | zero => rfl
  | succ n ih =>
    rw [State.extractFill]
    split
    · split
      · rw [ih, State.extractNext_cells]
      · rfl
    · rfl
theorem State.extractEnd_cells (s : State) (x1 : Nat) (x2 : Nat) (x3 : Nat) : (State.extractEnd s x1 x2 x3).hbm.cells = s.hbm.cells := by
  unfold State.extractEnd
  (try simp only [↓State.complete_cells, ↓State.updateFreezeRegs_cells, ↓State.unhold_cells, ↓State.releaseFreeze_cells, ↓cells_ite, ↓hbm_cells_ite, ↓cells_foldl, ite_self]) <;> (repeat' (split <;> (try simp only [↓State.complete_cells, ↓State.updateFreezeRegs_cells, ↓State.unhold_cells, ↓State.releaseFreeze_cells, ↓cells_ite, ↓hbm_cells_ite, ↓cells_foldl, ite_self])))
theorem State.xferEnd_cells (s : State) (x1 : Nat) (x2 : Xfer) (x3 : Nat) (x4 : Nat) : (State.xferEnd s x1 x2 x3 x4).hbm.cells = s.hbm.cells := by
  unfold State.xferEnd
  (try simp only [↓State.chanTake_cells, ↓State.modChan_cells, ↓State.coreSettle_cells, ↓State.modCore_cells, ↓State.setFld_cells, ↓State.complete_cells, ↓State.fireVector_cells, ↓State.extractEnd_cells, ↓cells_ite, ↓hbm_cells_ite, ↓cells_foldl, ite_self]) <;> (repeat' (split <;> (try simp only [↓State.chanTake_cells, ↓State.modChan_cells, ↓State.coreSettle_cells, ↓State.modCore_cells, ↓State.setFld_cells, ↓State.complete_cells, ↓State.fireVector_cells, ↓State.extractEnd_cells, ↓cells_ite, ↓hbm_cells_ite, ↓cells_foldl, ite_self])))
theorem State.haltSettle_cells (s : State) (x1 : Nat) : (State.haltSettle s x1).hbm.cells = s.hbm.cells := by
  unfold State.haltSettle
  (try simp only [↓State.xferEnd_cells, ↓cells_ite, ↓hbm_cells_ite, ↓cells_foldl, ite_self]) <;> (repeat' (split <;> (try simp only [↓State.xferEnd_cells, ↓cells_ite, ↓hbm_cells_ite, ↓cells_foldl, ite_self])))
theorem moveApply_cells (s : State) (x1 : Desc) (x2 : Nat) : (moveApply s x1 x2).hbm.cells = s.hbm.cells := by
  unfold moveApply
  simp only [↓State.enqueue_cells, ↓cells_ite, ↓hbm_cells_ite, ↓cells_foldl, ite_self]
theorem State.noteNeed_cells (s : State) (x1 : Stream) (x2 : Nat) : (State.noteNeed s x1 x2).hbm.cells = s.hbm.cells := by
  unfold State.noteNeed
  simp only [↓State.modRec_cells, ↓cells_ite, ↓hbm_cells_ite, ↓cells_foldl, ite_self]
theorem State.sendPacket_cells (s : State) (x1 : Stream) (x2 : Nat) (x3 : List Nat) : (State.sendPacket s x1 x2 x3).hbm.cells = s.hbm.cells := by
  unfold State.sendPacket
  simp only [↓State.putChunk_cells, ↓State.modStream_cells, ↓State.count_cells, ↓State.emit_cells, ↓cells_ite, ↓hbm_cells_ite, ↓cells_foldl, ite_self]
theorem State.sendPair_cells (s : State) (x1 : Stream) (x2 : Option Item) (x3 : Nat) (x4 : Nat) (x5 : Bool) (x6 : Bool) : (State.sendPair s x1 x2 x3 x4 x5 x6).hbm.cells = s.hbm.cells := by
  unfold State.sendPair
  (try simp (disch := (first | (intros; rfl) | (intros; (try simp only [↓State.sendPacket_cells, ↓State.modStream_cells, ↓cells_ite, ↓hbm_cells_ite, ↓cells_foldl, ite_self]) <;> repeat' (split <;> (try rfl) <;> (try simp only [↓State.sendPacket_cells, ↓State.modStream_cells, ↓cells_ite, ↓hbm_cells_ite, ↓cells_foldl, ite_self]))))) only [↓State.sendPacket_cells, ↓State.modStream_cells, ↓cells_ite, ↓hbm_cells_ite, ↓cells_foldl, ite_self]) <;> (repeat' (split <;> (try simp (disch := (first | (intros; rfl) | (intros; (try simp only [↓State.sendPacket_cells, ↓State.modStream_cells, ↓cells_ite, ↓hbm_cells_ite, ↓cells_foldl, ite_self]) <;> repeat' (split <;> (try rfl) <;> (try simp only [↓State.sendPacket_cells, ↓State.modStream_cells, ↓cells_ite, ↓hbm_cells_ite, ↓cells_foldl, ite_self]))))) only [↓State.sendPacket_cells, ↓State.modStream_cells, ↓cells_ite, ↓hbm_cells_ite, ↓cells_foldl, ite_self])))
theorem State.sendData_cells (s : State) (x1 : Stream) (x2 : Payload) : (State.sendData s x1 x2).hbm.cells = s.hbm.cells := by
  unfold State.sendData
  simp only [↓State.sendPacket_cells, ↓State.modStream_cells, ↓cells_ite, ↓hbm_cells_ite, ↓cells_foldl, ite_self]
theorem State.flushStream_cells (s : State) (x1 : Stream) : (State.flushStream s x1).hbm.cells = s.hbm.cells := by
  unfold State.flushStream
  (try simp only [↓State.sendPair_cells, ↓State.sendData_cells, ↓cells_ite, ↓hbm_cells_ite, ↓cells_foldl, ite_self]) <;> (repeat' (split <;> (try simp only [↓State.sendPair_cells, ↓State.sendData_cells, ↓cells_ite, ↓hbm_cells_ite, ↓cells_foldl, ite_self])))
theorem streamApply_cells (s : State) (x1 : Desc) (x2 : Nat) : (streamApply s x1 x2).hbm.cells = s.hbm.cells := by
  unfold streamApply
  (try simp only [↓State.putChunk_cells, ↓State.setFld_cells, ↓State.modRec_cells, ↓cells_ite, ↓hbm_cells_ite, ↓cells_foldl, ite_self]) <;> (repeat' (split <;> (try simp only [↓State.putChunk_cells, ↓State.setFld_cells, ↓State.modRec_cells, ↓cells_ite, ↓hbm_cells_ite, ↓cells_foldl, ite_self])))
theorem streamCloseApply_cells (s : State) (x1 : Desc) (x2 : Nat) : (streamCloseApply s x1 x2).hbm.cells = s.hbm.cells := by
  unfold streamCloseApply
  (try simp (disch := (first | (intros; rfl) | (intros; (try simp only [↓State.endStream_cells, ↓State.flushStream_cells, ↓State.sendPair_cells, ↓State.trgSettle_cells, ↓State.complete_cells, ↓State.modTrg_cells, ↓cells_ite, ↓hbm_cells_ite, ↓cells_foldl, ite_self]) <;> repeat' (split <;> (try rfl) <;> (try simp only [↓State.endStream_cells, ↓State.flushStream_cells, ↓State.sendPair_cells, ↓State.trgSettle_cells, ↓State.complete_cells, ↓State.modTrg_cells, ↓cells_ite, ↓hbm_cells_ite, ↓cells_foldl, ite_self]))))) only [↓State.endStream_cells, ↓State.flushStream_cells, ↓State.sendPair_cells, ↓State.trgSettle_cells, ↓State.complete_cells, ↓State.modTrg_cells, ↓cells_ite, ↓hbm_cells_ite, ↓cells_foldl, ite_self]) <;> (repeat' (split <;> (try simp (disch := (first | (intros; rfl) | (intros; (try simp only [↓State.endStream_cells, ↓State.flushStream_cells, ↓State.sendPair_cells, ↓State.trgSettle_cells, ↓State.complete_cells, ↓State.modTrg_cells, ↓cells_ite, ↓hbm_cells_ite, ↓cells_foldl, ite_self]) <;> repeat' (split <;> (try rfl) <;> (try simp only [↓State.endStream_cells, ↓State.flushStream_cells, ↓State.sendPair_cells, ↓State.trgSettle_cells, ↓State.complete_cells, ↓State.modTrg_cells, ↓cells_ite, ↓hbm_cells_ite, ↓cells_foldl, ite_self]))))) only [↓State.endStream_cells, ↓State.flushStream_cells, ↓State.sendPair_cells, ↓State.trgSettle_cells, ↓State.complete_cells, ↓State.modTrg_cells, ↓cells_ite, ↓hbm_cells_ite, ↓cells_foldl, ite_self])))
theorem State.endExtract_cells (s : State) (x1 : Nat) (x2 : Nat) : (State.endExtract s x1 x2).hbm.cells = s.hbm.cells := by
  unfold State.endExtract
  (try simp only [↓State.extractEnd_cells, ↓State.xferEnd_cells, ↓cells_ite, ↓hbm_cells_ite, ↓cells_foldl, ite_self]) <;> (repeat' (split <;> (try simp only [↓State.extractEnd_cells, ↓State.xferEnd_cells, ↓cells_ite, ↓hbm_cells_ite, ↓cells_foldl, ite_self])))
theorem State.shedNet_cells (s : State) (x1 : Job) (x2 : Nat) : (State.shedNet s x1 x2).hbm.cells = s.hbm.cells := by
  unfold State.shedNet
  (try simp only [↓State.endStream_cells, ↓State.noteShed_cells, ↓State.count_cells, ↓State.endExtract_cells, ↓State.blame_cells, ↓cells_ite, ↓hbm_cells_ite, ↓cells_foldl, ite_self]) <;> (repeat' (split <;> (try simp only [↓State.endStream_cells, ↓State.noteShed_cells, ↓State.count_cells, ↓State.endExtract_cells, ↓State.blame_cells, ↓cells_ite, ↓hbm_cells_ite, ↓cells_foldl, ite_self])))
theorem State.shedUntil_cells (s : State) (c flt : Nat) (hold : Job → Bool) (n : Nat) : (s.shedUntil c flt hold n).hbm.cells = s.hbm.cells := by
  induction n generalizing s with
  | zero => rfl
  | succ n ih =>
    rw [State.shedUntil]
    split
    · rfl
    · simp only
      split
      · rfl
      · rw [ih, State.shedNet_cells]
theorem State.hostIo_cells (s : State) (x1 : Desc) (x2 : Nat) (x3 : List Nat) : (State.hostIo s x1 x2 x3).1.hbm.cells = s.hbm.cells := by
  unfold State.hostIo
  (try simp only [↓State.emit_cells, ↓cells_ite, ↓hbm_cells_ite, ↓cells_foldl, ite_self]) <;> (repeat' (split <;> (try simp only [↓State.emit_cells, ↓cells_ite, ↓hbm_cells_ite, ↓cells_foldl, ite_self])))
theorem checkBufApply_cells (s : State) (x1 : Desc) (x2 : Nat) : (checkBufApply s x1 x2).hbm.cells = s.hbm.cells := by
  unfold checkBufApply
  (try simp only [↓State.setFld_cells, ↓State.complete_cells, ↓cells_ite, ↓hbm_cells_ite, ↓cells_foldl, ite_self]) <;> (repeat' (split <;> (try simp only [↓State.setFld_cells, ↓State.complete_cells, ↓cells_ite, ↓hbm_cells_ite, ↓cells_foldl, ite_self])))
theorem checkVerApply_cells (s : State) (x1 : Desc) (x2 : Nat) : (checkVerApply s x1 x2).hbm.cells = s.hbm.cells := by
  unfold checkVerApply
  (try simp only [↓State.complete_cells, ↓cells_ite, ↓hbm_cells_ite, ↓cells_foldl, ite_self]) <;> (repeat' (split <;> (try simp only [↓State.complete_cells, ↓cells_ite, ↓hbm_cells_ite, ↓cells_foldl, ite_self])))
theorem State.modVid_cells (s : State) (x1 : VidSt → VidSt) : (State.modVid s x1).hbm.cells = s.hbm.cells := by
  unfold State.modVid
  simp only [↓cells_ite, ↓hbm_cells_ite, ↓cells_foldl, ite_self]
theorem State.vidEv_cells (s : State) (x1 : Nat) : (State.vidEv s x1).hbm.cells = s.hbm.cells := by
  unfold State.vidEv
  simp only [↓State.raise_cells, ↓cells_ite, ↓hbm_cells_ite, ↓cells_foldl, ite_self]
theorem State.vidEvEn_cells (s : State) (x1 : Nat) : (State.vidEvEn s x1).hbm.cells = s.hbm.cells := by
  unfold State.vidEvEn
  simp only [↓State.vidEv_cells, ↓cells_ite, ↓hbm_cells_ite, ↓cells_foldl, ite_self]
theorem State.vidApply_cells (s : State) (x1 : VidChange) : (State.vidApply s x1).hbm.cells = s.hbm.cells := by
  unfold State.vidApply
  simp only [↓State.apply_cells, ↓State.setFld_cells, ↓State.modVid_cells, ↓cells_ite, ↓hbm_cells_ite, ↓cells_foldl, ite_self]
theorem videoApply_cells (s : State) (x1 : Desc) (x2 : Nat) : (videoApply s x1 x2).hbm.cells = s.hbm.cells := by
  unfold videoApply
  (try simp only [↓State.setFld_cells, ↓State.complete_cells, ↓State.modVid_cells, ↓cells_ite, ↓hbm_cells_ite, ↓cells_foldl, ite_self]) <;> (repeat' (split <;> (try simp only [↓State.setFld_cells, ↓State.complete_cells, ↓State.modVid_cells, ↓cells_ite, ↓hbm_cells_ite, ↓cells_foldl, ite_self])))
theorem paletteFail_cells (s : State) (x1 : Desc) (x2 : Nat) : (paletteFail s x1 x2).hbm.cells = s.hbm.cells := by
  unfold paletteFail
  (try simp only [↓State.modVid_cells, ↓State.useFrees_cells, ↓cells_ite, ↓hbm_cells_ite, ↓cells_foldl, ite_self]) <;> (repeat' (split <;> (try simp only [↓State.modVid_cells, ↓State.useFrees_cells, ↓cells_ite, ↓hbm_cells_ite, ↓cells_foldl, ite_self])))
theorem paletteLoad_cells (s : State) (x1 : Desc) : (paletteLoad s x1).hbm.cells = s.hbm.cells := by
  unfold paletteLoad
  simp only [↓State.modVid_cells, ↓cells_ite, ↓hbm_cells_ite, ↓cells_foldl, ite_self]
theorem State.setTab_cells (s : State) (x1 : Nat) (x2 : Nat) (x3 : Nat) (x4 : List Nat) : (State.setTab s x1 x2 x3 x4).hbm.cells = s.hbm.cells := by
  unfold State.setTab
  simp only [↓State.modSlice_cells, ↓cells_ite, ↓hbm_cells_ite, ↓cells_foldl, ite_self]
theorem State.corePost_cells (s : State) (x1 : Nat) (x2 : Nat) (x3 : Nat) : (State.corePost s x1 x2 x3).hbm.cells = s.hbm.cells := by
  unfold State.corePost
  simp only [↓State.incSat_cells, ↓State.raiseAt_cells, ↓State.modCore_cells, ↓cells_ite, ↓hbm_cells_ite, ↓cells_foldl, ite_self]
theorem State.coreSend_cells (s : State) (x1 : Nat) (x2 : Nat) (x3 : Nat) : (State.coreSend s x1 x2 x3).hbm.cells = s.hbm.cells := by
  unfold State.coreSend
  simp only [↓State.modCore_cells, ↓State.queueMsg_cells, ↓cells_ite, ↓hbm_cells_ite, ↓cells_foldl, ite_self]
theorem itec_of {α : Sort _} {P : α → Prop} {c : Prop} [Decidable c] {a b : α} (ha : P a) (hb : P b) : P (if c then a else b) := by
  split <;> assumption
theorem winRead_cells {s : State} {n c a : Nat} {r : Nat × State} (h : s.winRead n c a = some r) : r.2.hbm.cells = s.hbm.cells := by
  revert h
  unfold State.winRead
  simp only
  repeat' refine itec_of (P := fun o => o = some r → _) ?_ ?_
  all_goals first
    | (intro h; cases h; done)
    | (intro h; cases h; first | rfl | exact State.modCore_cells .. | exact State.useFree_cells ..)
    | (split <;> (intro h; cases h; first | rfl | exact State.modCore_cells .. | exact State.useFree_cells ..))
theorem dataRead_cells {s : State} {n c a : Nat} {r : DataRead} (h : s.dataRead n c a = some r) : r.s.hbm.cells = s.hbm.cells := by
  unfold State.dataRead at h
  split at h
  · cases h; rfl
  · split at h
    · cases h
    · rename_i h'
      cases h
      exact (State.useFree_cells _).trans (winRead_cells h')
theorem f0Reads_cells {s : State} {n c : Nat} {x : F0} {l : F0Loads} (h : s.f0Reads n c x = some l) : l.s.hbm.cells = s.hbm.cells := by
  unfold State.f0Reads at h
  simp only [Option.bind_eq_some_iff] at h
  obtain ⟨y, hy, h⟩ := h
  have e : y.s.hbm.cells = s.hbm.cells := by
    split at hy
    · obtain ⟨r, hr, rfl⟩ := Option.map_eq_some_iff.mp hy
      exact dataRead_cells hr
    · cases hy; rfl
  split at h
  · obtain ⟨r, hr, rfl⟩ := Option.map_eq_some_iff.mp h
    exact (dataRead_cells hr).trans e
  · cases h; exact e
theorem State.f0_cells (s : State) (n c : Nat) (i : Instr) (x : F0) (op : Option (Int → Int → Int)) (reads : Bool) : (s.f0 n c i x op reads).hbm.cells = s.hbm.cells := by
  unfold State.f0
  split
  · split
    · exact State.coreTrap_cells ..
    · rename_i l hl
      simp only
      rw [State.coreRetire_cells, cells_ite, State.useFree_cells, ite_self]
      exact f0Reads_cells hl
  · rfl
theorem coreDmaGo_cells {s t : State} {n c v : Nat} (h : s.coreDmaGo n c v = .done t) : t.hbm.cells = s.hbm.cells := by
  unfold State.coreDmaGo at h
  simp only at h
  repeat' split at h
  all_goals cases h
  all_goals simp only [↓State.modCore_cells, ↓State.enqueue_cells, ↓State.setFld_cells]
theorem winWrite_cells {s t : State} {n c a v : Nat} (h : s.winWrite n c a v = .done t) : t.hbm.cells = s.hbm.cells := by
  revert h
  unfold State.winWrite
  simp only
  repeat' first | (intro h; exact coreDmaGo_cells h) | refine itec_of (P := fun o => o = WinRes.done t → _) ?_ ?_
  all_goals first
    | (intro h; cases h; done)
    | (intro h; cases h; simp (disch := fail) only [↓State.modCore_cells, ↓State.setTab_cells, ↓State.setFld_cells, ↓State.modTrg_cells, ↓State.coreSend_cells, ↓State.corePost_cells]; done)
theorem State.coreStore_cells (s : State) (n c : Nat) (x : F3) : (s.coreStore n c x).hbm.cells = s.hbm.cells := by
  unfold State.coreStore
  simp only
  split
  · exact State.coreRetire_cells ..
  · split
    · exact State.coreTrap_cells ..
    · exact State.coreStall_cells ..
    · rename_i h
      exact (State.coreRetire_cells ..).trans (winWrite_cells h)
theorem State.coreWindow_cells (s : State) (x1 : Nat) (x2 : Nat) (x3 : Nat → Bool) : (State.coreWindow s x1 x2 x3).hbm.cells = s.hbm.cells := by
  unfold State.coreWindow
  (try simp only [↓State.coreStore_cells, ↓cells_ite, ↓hbm_cells_ite, ↓cells_foldl, ite_self]) <;> (repeat' (split <;> (try simp only [↓State.coreStore_cells, ↓cells_ite, ↓hbm_cells_ite, ↓cells_foldl, ite_self])))
theorem State.coreLoad_cells (s : State) (x1 : Nat) (x2 : Nat) (x3 : Image) : (State.coreLoad s x1 x2 x3).hbm.cells = s.hbm.cells := by
  unfold State.coreLoad
  simp only [↓State.modCore_cells, ↓State.setFld_cells, ↓cells_ite, ↓hbm_cells_ite, ↓cells_foldl, ite_self]
theorem coreLoadApply_cells (s : State) (x1 : Desc) (x2 : Image) : (coreLoadApply s x1 x2).hbm.cells = s.hbm.cells := by
  unfold coreLoadApply
  (try simp (disch := (first | (intros; rfl) | (intros; (try simp only [↓State.coreLoad_cells, ↓cells_ite, ↓hbm_cells_ite, ↓cells_foldl, ite_self]) <;> repeat' (split <;> (try rfl) <;> (try simp only [↓State.coreLoad_cells, ↓cells_ite, ↓hbm_cells_ite, ↓cells_foldl, ite_self]))))) only [↓State.coreLoad_cells, ↓cells_ite, ↓hbm_cells_ite, ↓cells_foldl, ite_self]) <;> (repeat' (split <;> (try simp (disch := (first | (intros; rfl) | (intros; (try simp only [↓State.coreLoad_cells, ↓cells_ite, ↓hbm_cells_ite, ↓cells_foldl, ite_self]) <;> repeat' (split <;> (try rfl) <;> (try simp only [↓State.coreLoad_cells, ↓cells_ite, ↓hbm_cells_ite, ↓cells_foldl, ite_self]))))) only [↓State.coreLoad_cells, ↓cells_ite, ↓hbm_cells_ite, ↓cells_foldl, ite_self])))
theorem State.coreStart_cells (s : State) (x1 : Nat) (x2 : Nat) (x3 : Nat) (x4 : Nat) (x5 : Nat) (x6 : Nat) (x7 : Nat) (x8 : Nat) (x9 : Nat) (x10 : Bool) : (State.coreStart s x1 x2 x3 x4 x5 x6 x7 x8 x9 x10).hbm.cells = s.hbm.cells := by
  unfold State.coreStart
  simp only [↓State.updateCoreSum_cells, ↓State.modCore_cells, ↓State.setFld_cells, ↓cells_ite, ↓hbm_cells_ite, ↓cells_foldl, ite_self]
theorem coreRunApply_cells (s : State) (x1 : Desc) (x2 : Nat) : (coreRunApply s x1 x2).hbm.cells = s.hbm.cells := by
  unfold coreRunApply
  simp only [↓State.coreSettle_cells, ↓State.modCore_cells, ↓State.coreStart_cells, ↓cells_ite, ↓hbm_cells_ite, ↓cells_foldl, ite_self]
theorem State.dropCoreXfers_cells (s : State) (x1 : Nat) : (State.dropCoreXfers s x1).hbm.cells = s.hbm.cells := by
  unfold State.dropCoreXfers
  (try simp (disch := (first | (intros; rfl) | (intros; (try simp only [↓State.chanTake_cells, ↓State.modChan_cells, ↓cells_ite, ↓hbm_cells_ite, ↓cells_foldl, ite_self]) <;> repeat' (split <;> (try rfl) <;> (try simp only [↓State.chanTake_cells, ↓State.modChan_cells, ↓cells_ite, ↓hbm_cells_ite, ↓cells_foldl, ite_self]))))) only [↓State.chanTake_cells, ↓State.modChan_cells, ↓cells_ite, ↓hbm_cells_ite, ↓cells_foldl, ite_self]) <;> (repeat' (split <;> (try simp (disch := (first | (intros; rfl) | (intros; (try simp only [↓State.chanTake_cells, ↓State.modChan_cells, ↓cells_ite, ↓hbm_cells_ite, ↓cells_foldl, ite_self]) <;> repeat' (split <;> (try rfl) <;> (try simp only [↓State.chanTake_cells, ↓State.modChan_cells, ↓cells_ite, ↓hbm_cells_ite, ↓cells_foldl, ite_self]))))) only [↓State.chanTake_cells, ↓State.modChan_cells, ↓cells_ite, ↓hbm_cells_ite, ↓cells_foldl, ite_self])))
theorem State.coresRestart_cells (s : State) (x1 : Nat) : (State.coresRestart s x1).hbm.cells = s.hbm.cells := by
  unfold State.coresRestart
  (try simp (disch := (first | (intros; rfl) | (intros; (try simp only [↓State.coreEnd_cells, ↓State.modCore_cells, ↓State.setFld_cells, ↓State.complete_cells, ↓State.raise_cells, ↓State.coreStart_cells, ↓State.dropCoreXfers_cells, ↓cells_ite, ↓hbm_cells_ite, ↓cells_foldl, ite_self]) <;> repeat' (split <;> (try rfl) <;> (try simp only [↓State.coreEnd_cells, ↓State.modCore_cells, ↓State.setFld_cells, ↓State.complete_cells, ↓State.raise_cells, ↓State.coreStart_cells, ↓State.dropCoreXfers_cells, ↓cells_ite, ↓hbm_cells_ite, ↓cells_foldl, ite_self]))))) only [↓State.coreEnd_cells, ↓State.modCore_cells, ↓State.setFld_cells, ↓State.complete_cells, ↓State.raise_cells, ↓State.coreStart_cells, ↓State.dropCoreXfers_cells, ↓cells_ite, ↓hbm_cells_ite, ↓cells_foldl, ite_self]) <;> (repeat' (split <;> (try simp (disch := (first | (intros; rfl) | (intros; (try simp only [↓State.coreEnd_cells, ↓State.modCore_cells, ↓State.setFld_cells, ↓State.complete_cells, ↓State.raise_cells, ↓State.coreStart_cells, ↓State.dropCoreXfers_cells, ↓cells_ite, ↓hbm_cells_ite, ↓cells_foldl, ite_self]) <;> repeat' (split <;> (try rfl) <;> (try simp only [↓State.coreEnd_cells, ↓State.modCore_cells, ↓State.setFld_cells, ↓State.complete_cells, ↓State.raise_cells, ↓State.coreStart_cells, ↓State.dropCoreXfers_cells, ↓cells_ite, ↓hbm_cells_ite, ↓cells_foldl, ite_self]))))) only [↓State.coreEnd_cells, ↓State.modCore_cells, ↓State.setFld_cells, ↓State.complete_cells, ↓State.raise_cells, ↓State.coreStart_cells, ↓State.dropCoreXfers_cells, ↓cells_ite, ↓hbm_cells_ite, ↓cells_foldl, ite_self])))
theorem State.extend_cells (s : State) (x1 : Nat) (x2 : List Nat) : (State.extend s x1 x2).hbm.cells = s.hbm.cells := by
  unfold State.extend
  (try simp (disch := (first | (intros; rfl) | (intros; (try simp only [↓State.setFld_cells, ↓cells_ite, ↓hbm_cells_ite, ↓cells_foldl, ite_self]) <;> repeat' (split <;> (try rfl) <;> (try simp only [↓State.setFld_cells, ↓cells_ite, ↓hbm_cells_ite, ↓cells_foldl, ite_self]))))) only [↓State.setFld_cells, ↓cells_ite, ↓hbm_cells_ite, ↓cells_foldl, ite_self]) <;> (repeat' (split <;> (try simp (disch := (first | (intros; rfl) | (intros; (try simp only [↓State.setFld_cells, ↓cells_ite, ↓hbm_cells_ite, ↓cells_foldl, ite_self]) <;> repeat' (split <;> (try rfl) <;> (try simp only [↓State.setFld_cells, ↓cells_ite, ↓hbm_cells_ite, ↓cells_foldl, ite_self]))))) only [↓State.setFld_cells, ↓cells_ite, ↓hbm_cells_ite, ↓cells_foldl, ite_self])))
theorem coreLoadSecEv_cells (s : State) (x1 : Desc) : (coreLoadSecEv s x1).hbm.cells = s.hbm.cells := by
  unfold coreLoadSecEv
  (try simp only [↓State.secEv_cells, ↓cells_ite, ↓hbm_cells_ite, ↓cells_foldl, ite_self]) <;> (repeat' (split <;> (try simp only [↓State.secEv_cells, ↓cells_ite, ↓hbm_cells_ite, ↓cells_foldl, ite_self])))
theorem coreLoadDo_cells (s : State) (x1 : Desc) (x2 : Nat) : (coreLoadDo s x1 x2).hbm.cells = s.hbm.cells := by
  unfold coreLoadDo
  (try simp only [↓State.complete_cells, ↓coreLoadApply_cells, ↓State.extend_cells, ↓cells_ite, ↓hbm_cells_ite, ↓cells_foldl, ite_self]) <;> (repeat' (split <;> (try simp only [↓State.complete_cells, ↓coreLoadApply_cells, ↓State.extend_cells, ↓cells_ite, ↓hbm_cells_ite, ↓cells_foldl, ite_self])))
theorem attestApply_cells (s : State) (x1 : Desc) (x2 : Nat) : (attestApply s x1 x2).hbm.cells = s.hbm.cells := by
  unfold attestApply
  (try simp only [↓State.hostIo_cells, ↓State.complete_cells, ↓State.signBy_cells, ↓cells_ite, ↓hbm_cells_ite, ↓cells_foldl, ite_self]) <;> (repeat' (split <;> (try simp only [↓State.hostIo_cells, ↓State.complete_cells, ↓State.signBy_cells, ↓cells_ite, ↓hbm_cells_ite, ↓cells_foldl, ite_self])))
theorem State.updateKeys_cells (s : State) : (State.updateKeys s).hbm.cells = s.hbm.cells := by
  unfold State.updateKeys
  simp only [↓State.setFld_cells, ↓cells_ite, ↓hbm_cells_ite, ↓cells_foldl, ite_self]
theorem State.putKey_cells (s : State) (x1 : Key) : (State.putKey s x1).hbm.cells = s.hbm.cells := by
  unfold State.putKey
  simp only [↓State.modSec_cells, ↓State.updateKeys_cells, ↓cells_ite, ↓hbm_cells_ite, ↓cells_foldl, ite_self]
theorem generateApply_cells (s : State) (x1 : Desc) (x2 : Nat) : (generateApply s x1 x2).hbm.cells = s.hbm.cells := by
  unfold generateApply
  simp only [↓State.drbg_cells, ↓State.putKey_cells, ↓State.modSec_cells, ↓State.complete_cells, ↓cells_ite, ↓hbm_cells_ite, ↓cells_foldl, ite_self]
theorem importApply_cells (s : State) (x1 : Desc) (x2 : Nat) : (importApply s x1 x2).hbm.cells = s.hbm.cells := by
  unfold importApply
  (try simp only [↓State.putKey_cells, ↓State.complete_cells, ↓cells_ite, ↓hbm_cells_ite, ↓cells_foldl, ite_self]) <;> (repeat' (split <;> (try simp only [↓State.putKey_cells, ↓State.complete_cells, ↓cells_ite, ↓hbm_cells_ite, ↓cells_foldl, ite_self])))
theorem exportApply_cells (s : State) (x1 : Desc) (x2 : Nat) : (exportApply s x1 x2).hbm.cells = s.hbm.cells := by
  unfold exportApply
  (try simp only [↓State.hostIo_cells, ↓State.complete_cells, ↓State.signBy_cells, ↓cells_ite, ↓hbm_cells_ite, ↓cells_foldl, ite_self]) <;> (repeat' (split <;> (try simp only [↓State.hostIo_cells, ↓State.complete_cells, ↓State.signBy_cells, ↓cells_ite, ↓hbm_cells_ite, ↓cells_foldl, ite_self])))
theorem deleteApply_cells (s : State) (x1 : Desc) (x2 : Nat) : (deleteApply s x1 x2).hbm.cells = s.hbm.cells := by
  unfold deleteApply
  simp only [↓State.modSec_cells, ↓State.complete_cells, ↓State.updateKeys_cells, ↓cells_ite, ↓hbm_cells_ite, ↓cells_foldl, ite_self]
theorem ownerApply_cells (s : State) (x1 : Desc) (x2 : Nat) : (ownerApply s x1 x2).hbm.cells = s.hbm.cells := by
  unfold ownerApply
  (try simp only [↓State.modSec_cells, ↓State.setFld_cells, ↓State.complete_cells, ↓cells_ite, ↓hbm_cells_ite, ↓cells_foldl, ite_self]) <;> (repeat' (split <;> (try simp only [↓State.modSec_cells, ↓State.setFld_cells, ↓State.complete_cells, ↓cells_ite, ↓hbm_cells_ite, ↓cells_foldl, ite_self])))
theorem svnApply_cells (s : State) (x1 : Desc) (x2 : Nat) : (svnApply s x1 x2).hbm.cells = s.hbm.cells := by
  unfold svnApply
  simp only [↓State.secEv_cells, ↓State.setFld_cells, ↓State.complete_cells, ↓cells_ite, ↓hbm_cells_ite, ↓cells_foldl, ite_self]
theorem State.reseed_cells (s : State) : (State.reseed s).hbm.cells = s.hbm.cells := by
  unfold State.reseed
  simp only [↓State.modSec_cells, ↓State.setFld_cells, ↓cells_ite, ↓hbm_cells_ite, ↓cells_foldl, ite_self]
theorem reseedApply_cells (s : State) (x1 : Desc) (x2 : Nat) : (reseedApply s x1 x2).hbm.cells = s.hbm.cells := by
  unfold reseedApply
  simp only [↓State.reseed_cells, ↓State.complete_cells, ↓cells_ite, ↓hbm_cells_ite, ↓cells_foldl, ite_self]
theorem revokeApply_cells (s : State) (x1 : Desc) (x2 : Nat) : (revokeApply s x1 x2).hbm.cells = s.hbm.cells := by
  unfold revokeApply
  simp only [↓State.setFld_cells, ↓State.complete_cells, ↓cells_ite, ↓hbm_cells_ite, ↓cells_foldl, ite_self]
theorem State.zeroiseRec_cells (s : State) (x1 : Nat) : (State.zeroiseRec s x1).hbm.cells = s.hbm.cells := by
  unfold State.zeroiseRec
  (try simp (disch := (first | (intros; rfl) | (intros; (try simp only [↓State.endStream_cells, ↓State.recSettle_cells, ↓State.modRec_cells, ↓State.closeSeg_cells, ↓cells_ite, ↓hbm_cells_ite, ↓cells_foldl, ite_self]) <;> repeat' (split <;> (try rfl) <;> (try simp only [↓State.endStream_cells, ↓State.recSettle_cells, ↓State.modRec_cells, ↓State.closeSeg_cells, ↓cells_ite, ↓hbm_cells_ite, ↓cells_foldl, ite_self]))))) only [↓State.endStream_cells, ↓State.recSettle_cells, ↓State.modRec_cells, ↓State.closeSeg_cells, ↓cells_ite, ↓hbm_cells_ite, ↓cells_foldl, ite_self]) <;> (repeat' (split <;> (try simp (disch := (first | (intros; rfl) | (intros; (try simp only [↓State.endStream_cells, ↓State.recSettle_cells, ↓State.modRec_cells, ↓State.closeSeg_cells, ↓cells_ite, ↓hbm_cells_ite, ↓cells_foldl, ite_self]) <;> repeat' (split <;> (try rfl) <;> (try simp only [↓State.endStream_cells, ↓State.recSettle_cells, ↓State.modRec_cells, ↓State.closeSeg_cells, ↓cells_ite, ↓hbm_cells_ite, ↓cells_foldl, ite_self]))))) only [↓State.endStream_cells, ↓State.recSettle_cells, ↓State.modRec_cells, ↓State.closeSeg_cells, ↓cells_ite, ↓hbm_cells_ite, ↓cells_foldl, ite_self])))
theorem State.zeroise_cells (s : State) (x1 : Nat) (x2 : Nat) : (State.zeroise s x1 x2).hbm.cells = s.hbm.cells := by
  unfold State.zeroise
  (try simp (disch := (first | (intros; rfl) | (intros; (try simp only [↓State.modSec_cells, ↓State.zeroiseRec_cells, ↓State.updateKeys_cells, ↓cells_ite, ↓hbm_cells_ite, ↓cells_foldl, ite_self]) <;> repeat' (split <;> (try rfl) <;> (try simp only [↓State.modSec_cells, ↓State.zeroiseRec_cells, ↓State.updateKeys_cells, ↓cells_ite, ↓hbm_cells_ite, ↓cells_foldl, ite_self]))))) only [↓State.modSec_cells, ↓State.zeroiseRec_cells, ↓State.updateKeys_cells, ↓cells_ite, ↓hbm_cells_ite, ↓cells_foldl, ite_self]) <;> (repeat' (split <;> (try simp (disch := (first | (intros; rfl) | (intros; (try simp only [↓State.modSec_cells, ↓State.zeroiseRec_cells, ↓State.updateKeys_cells, ↓cells_ite, ↓hbm_cells_ite, ↓cells_foldl, ite_self]) <;> repeat' (split <;> (try rfl) <;> (try simp only [↓State.modSec_cells, ↓State.zeroiseRec_cells, ↓State.updateKeys_cells, ↓cells_ite, ↓hbm_cells_ite, ↓cells_foldl, ite_self]))))) only [↓State.modSec_cells, ↓State.zeroiseRec_cells, ↓State.updateKeys_cells, ↓cells_ite, ↓hbm_cells_ite, ↓cells_foldl, ite_self])))
theorem zeroiseApply_cells (s : State) (x1 : Desc) (x2 : Nat) : (zeroiseApply s x1 x2).hbm.cells = s.hbm.cells := by
  unfold zeroiseApply
  simp only [↓State.zeroise_cells, ↓cells_ite, ↓hbm_cells_ite, ↓cells_foldl, ite_self]
theorem State.zeroised_cells (s : State) : (State.zeroised s).hbm.cells = s.hbm.cells := by
  unfold State.zeroised
  (try simp (disch := (first | (intros; rfl) | (intros; (try simp only [↓State.secEv_cells, ↓State.modSec_cells, ↓State.setFld_cells, ↓State.complete_cells, ↓State.updateKeys_cells, ↓cells_ite, ↓hbm_cells_ite, ↓cells_foldl, ite_self]) <;> repeat' (split <;> (try rfl) <;> (try simp only [↓State.secEv_cells, ↓State.modSec_cells, ↓State.setFld_cells, ↓State.complete_cells, ↓State.updateKeys_cells, ↓cells_ite, ↓hbm_cells_ite, ↓cells_foldl, ite_self]))))) only [↓State.secEv_cells, ↓State.modSec_cells, ↓State.setFld_cells, ↓State.complete_cells, ↓State.updateKeys_cells, ↓cells_ite, ↓hbm_cells_ite, ↓cells_foldl, ite_self]) <;> (repeat' (split <;> (try simp (disch := (first | (intros; rfl) | (intros; (try simp only [↓State.secEv_cells, ↓State.modSec_cells, ↓State.setFld_cells, ↓State.complete_cells, ↓State.updateKeys_cells, ↓cells_ite, ↓hbm_cells_ite, ↓cells_foldl, ite_self]) <;> repeat' (split <;> (try rfl) <;> (try simp only [↓State.secEv_cells, ↓State.modSec_cells, ↓State.setFld_cells, ↓State.complete_cells, ↓State.updateKeys_cells, ↓cells_ite, ↓hbm_cells_ite, ↓cells_foldl, ite_self]))))) only [↓State.secEv_cells, ↓State.modSec_cells, ↓State.setFld_cells, ↓State.complete_cells, ↓State.updateKeys_cells, ↓cells_ite, ↓hbm_cells_ite, ↓cells_foldl, ite_self])))
theorem State.modHk_cells (s : State) (x1 : HkSt → HkSt) : (State.modHk s x1).hbm.cells = s.hbm.cells := by
  unfold State.modHk
  simp only [↓cells_ite, ↓hbm_cells_ite, ↓cells_foldl, ite_self]
theorem State.hkBoundary_cells (s : State) : (State.hkBoundary s).hbm.cells = s.hbm.cells := by
  unfold State.hkBoundary
  simp only [↓State.setFld_cells, ↓State.modHk_cells, ↓cells_ite, ↓hbm_cells_ite, ↓cells_foldl, ite_self]
theorem State.hkEv_cells (s : State) (x1 : Nat) (x2 : Nat) (x3 : Nat) (x4 : Nat) (x5 : Nat) (x6 : Nat) : (State.hkEv s x1 x2 x3 x4 x5 x6).hbm.cells = s.hbm.cells := by
  unfold State.hkEv
  simp only [↓State.raise_cells, ↓cells_ite, ↓hbm_cells_ite, ↓cells_foldl, ite_self]
theorem State.hkLimits_cells (s : State) (x1 : Nat) (x2 : Nat) (x3 : Nat) (x4 : Nat) (x5 : Bool) : (State.hkLimits s x1 x2 x3 x4 x5).hbm.cells = s.hbm.cells := by
  unfold State.hkLimits
  simp only [↓State.hkEv_cells, ↓State.setFld_cells, ↓cells_ite, ↓hbm_cells_ite, ↓cells_foldl, ite_self]
theorem State.hkStore_cells (s : State) (x1 : Nat) (x2 : Nat) (x3 : Int) (x4 : Int) : (State.hkStore s x1 x2 x3 x4).hbm.cells = s.hbm.cells := by
  unfold State.hkStore
  simp only [↓State.incWrap_cells, ↓State.hkLimits_cells, ↓State.setFld_cells, ↓State.modHk_cells, ↓cells_ite, ↓hbm_cells_ite, ↓cells_foldl, ite_self]
theorem State.hkInstall_cells (s : State) (x1 : List Nat) (x2 : Nat) : (State.hkInstall s x1 x2).hbm.cells = s.hbm.cells := by
  unfold State.hkInstall
  (try simp (disch := (first | (intros; rfl) | (intros; (try simp only [↓State.setFld_cells, ↓State.complete_cells, ↓State.modHk_cells, ↓cells_ite, ↓hbm_cells_ite, ↓cells_foldl, ite_self]) <;> repeat' (split <;> (try rfl) <;> (try simp only [↓State.setFld_cells, ↓State.complete_cells, ↓State.modHk_cells, ↓cells_ite, ↓hbm_cells_ite, ↓cells_foldl, ite_self]))))) only [↓State.setFld_cells, ↓State.complete_cells, ↓State.modHk_cells, ↓cells_ite, ↓hbm_cells_ite, ↓cells_foldl, ite_self]) <;> (repeat' (split <;> (try simp (disch := (first | (intros; rfl) | (intros; (try simp only [↓State.setFld_cells, ↓State.complete_cells, ↓State.modHk_cells, ↓cells_ite, ↓hbm_cells_ite, ↓cells_foldl, ite_self]) <;> repeat' (split <;> (try rfl) <;> (try simp only [↓State.setFld_cells, ↓State.complete_cells, ↓State.modHk_cells, ↓cells_ite, ↓hbm_cells_ite, ↓cells_foldl, ite_self]))))) only [↓State.setFld_cells, ↓State.complete_cells, ↓State.modHk_cells, ↓cells_ite, ↓hbm_cells_ite, ↓cells_foldl, ite_self])))
theorem hkTableApply_cells (s : State) (x1 : Desc) (x2 : Nat) : (hkTableApply s x1 x2).hbm.cells = s.hbm.cells := by
  unfold hkTableApply
  (try simp only [↓State.complete_cells, ↓State.hkInstall_cells, ↓State.modHk_cells, ↓cells_ite, ↓hbm_cells_ite, ↓cells_foldl, ite_self]) <;> (repeat' (split <;> (try simp only [↓State.complete_cells, ↓State.hkInstall_cells, ↓State.modHk_cells, ↓cells_ite, ↓hbm_cells_ite, ↓cells_foldl, ite_self])))
theorem State.ownEight_cells (s : State) (x1 : Bool) : (State.ownEight s x1).hbm.cells = s.hbm.cells := by
  unfold State.ownEight
  simp only [↓State.modSlice_cells, ↓cells_ite, ↓hbm_cells_ite, ↓cells_foldl, ite_self]
theorem State.endRot_cells (s : State) : (State.endRot s).hbm.cells = s.hbm.cells := by
  unfold State.endRot
  simp only [↓State.setFld_cells, ↓cells_ite, ↓hbm_cells_ite, ↓cells_foldl, ite_self]
theorem State.nextHandBack_cells (s : State) : (State.nextHandBack s).hbm.cells = s.hbm.cells := by
  unfold State.nextHandBack
  (try simp only [↓State.setFld_cells, ↓cells_ite, ↓hbm_cells_ite, ↓cells_foldl, ite_self]) <;> (repeat' (split <;> (try simp only [↓State.setFld_cells, ↓cells_ite, ↓hbm_cells_ite, ↓cells_foldl, ite_self])))
theorem State.startBist_cells (s : State) (x1 : BistRun) : (State.startBist s x1).hbm.cells = s.hbm.cells := by
  unfold State.startBist
  simp only [↓State.setFld_cells, ↓cells_ite, ↓hbm_cells_ite, ↓cells_foldl, ite_self]
theorem bistApply_cells (s : State) (x1 : Desc) (x2 : Nat) : (bistApply s x1 x2).hbm.cells = s.hbm.cells := by
  unfold bistApply
  simp only [↓State.startBist_cells, ↓cells_ite, ↓hbm_cells_ite, ↓cells_foldl, ite_self]
theorem State.bistFailed_cells (s : State) (x1 : BistRun) : (State.bistFailed s x1).hbm.cells = s.hbm.cells := by
  unfold State.bistFailed
  (try simp only [↓State.fault_cells, ↓State.setFld_cells, ↓State.xcorReturn_cells, ↓State.modXcor_cells, ↓State.setPc_cells, ↓cells_ite, ↓hbm_cells_ite, ↓cells_foldl, ite_self]) <;> (repeat' (split <;> (try simp only [↓State.fault_cells, ↓State.setFld_cells, ↓State.xcorReturn_cells, ↓State.modXcor_cells, ↓State.setPc_cells, ↓cells_ite, ↓hbm_cells_ite, ↓cells_foldl, ite_self])))
theorem State.bistWiped_cells (s : State) (x1 : BistRun) : (State.bistWiped s x1).hbm.cells = s.hbm.cells := by
  unfold State.bistWiped
  (try simp (disch := (first | (intros; rfl) | (intros; (try simp only [↓State.modCore_cells, ↓State.setFld_cells, ↓State.setPc_cells, ↓cells_ite, ↓hbm_cells_ite, ↓cells_foldl, ite_self]) <;> repeat' (split <;> (try rfl) <;> (try simp only [↓State.modCore_cells, ↓State.setFld_cells, ↓State.setPc_cells, ↓cells_ite, ↓hbm_cells_ite, ↓cells_foldl, ite_self]))))) only [↓State.modCore_cells, ↓State.setFld_cells, ↓State.setPc_cells, ↓cells_ite, ↓hbm_cells_ite, ↓cells_foldl, ite_self]) <;> (repeat' (split <;> (try simp (disch := (first | (intros; rfl) | (intros; (try simp only [↓State.modCore_cells, ↓State.setFld_cells, ↓State.setPc_cells, ↓cells_ite, ↓hbm_cells_ite, ↓cells_foldl, ite_self]) <;> repeat' (split <;> (try rfl) <;> (try simp only [↓State.modCore_cells, ↓State.setFld_cells, ↓State.setPc_cells, ↓cells_ite, ↓hbm_cells_ite, ↓cells_foldl, ite_self]))))) only [↓State.modCore_cells, ↓State.setFld_cells, ↓State.setPc_cells, ↓cells_ite, ↓hbm_cells_ite, ↓cells_foldl, ite_self])))
theorem State.rotTested_cells (s : State) (x1 : RotSt) (x2 : Bool) : (State.rotTested s x1 x2).hbm.cells = s.hbm.cells := by
  unfold State.rotTested
  simp only [↓State.fault_cells, ↓State.nextHandBack_cells, ↓State.setFld_cells, ↓State.endRot_cells, ↓cells_ite, ↓hbm_cells_ite, ↓cells_foldl, ite_self]
theorem ackApply_cells (s : State) (x1 : Desc) (x2 : Nat) : (ackApply s x1 x2).hbm.cells = s.hbm.cells := by
  unfold ackApply
  simp only [↓State.complete_cells, ↓State.modFlt_cells, ↓cells_ite, ↓hbm_cells_ite, ↓cells_foldl, ite_self]
theorem returnApply_cells (s : State) (x1 : Desc) (x2 : Nat) : (returnApply s x1 x2).hbm.cells = s.hbm.cells := by
  unfold returnApply
  (try simp only [↓State.modClk_cells, ↓State.setFld_cells, ↓State.complete_cells, ↓State.startBist_cells, ↓cells_ite, ↓hbm_cells_ite, ↓cells_foldl, ite_self]) <;> (repeat' (split <;> (try simp only [↓State.modClk_cells, ↓State.setFld_cells, ↓State.complete_cells, ↓State.startBist_cells, ↓cells_ite, ↓hbm_cells_ite, ↓cells_foldl, ite_self])))
theorem State.taking_cells (s : State) (x1 : RegFile) (x2 : List (Nat × Nat)) : (State.taking s x1 x2).hbm.cells = s.hbm.cells := by
  unfold State.taking
  (try simp (disch := (first | (intros; rfl) | (intros; (try simp only [↓State.apply_cells, ↓State.setFld_cells, ↓cells_ite, ↓hbm_cells_ite, ↓cells_foldl, ite_self]) <;> repeat' (split <;> (try rfl) <;> (try simp only [↓State.apply_cells, ↓State.setFld_cells, ↓cells_ite, ↓hbm_cells_ite, ↓cells_foldl, ite_self]))))) only [↓State.apply_cells, ↓State.setFld_cells, ↓cells_ite, ↓hbm_cells_ite, ↓cells_foldl, ite_self]) <;> (repeat' (split <;> (try simp (disch := (first | (intros; rfl) | (intros; (try simp only [↓State.apply_cells, ↓State.setFld_cells, ↓cells_ite, ↓hbm_cells_ite, ↓cells_foldl, ite_self]) <;> repeat' (split <;> (try rfl) <;> (try simp only [↓State.apply_cells, ↓State.setFld_cells, ↓cells_ite, ↓hbm_cells_ite, ↓cells_foldl, ite_self]))))) only [↓State.apply_cells, ↓State.setFld_cells, ↓cells_ite, ↓hbm_cells_ite, ↓cells_foldl, ite_self])))
theorem State.settled_cells (s : State) : (State.settled s).hbm.cells = s.hbm.cells := by
  unfold State.settled
  (try simp (disch := (first | (intros; rfl) | (intros; (try simp only [↓State.taking_cells, ↓cells_ite, ↓hbm_cells_ite, ↓cells_foldl, ite_self]) <;> repeat' (split <;> (try rfl) <;> (try simp only [↓State.taking_cells, ↓cells_ite, ↓hbm_cells_ite, ↓cells_foldl, ite_self]))))) only [↓State.taking_cells, ↓cells_ite, ↓hbm_cells_ite, ↓cells_foldl, ite_self]) <;> (repeat' (split <;> (try simp (disch := (first | (intros; rfl) | (intros; (try simp only [↓State.taking_cells, ↓cells_ite, ↓hbm_cells_ite, ↓cells_foldl, ite_self]) <;> repeat' (split <;> (try rfl) <;> (try simp only [↓State.taking_cells, ↓cells_ite, ↓hbm_cells_ite, ↓cells_foldl, ite_self]))))) only [↓State.taking_cells, ↓cells_ite, ↓hbm_cells_ite, ↓cells_foldl, ite_self])))
theorem State.cmAfter_cells (s : State) (x1 : Desc) : (State.cmAfter s x1).hbm.cells = s.hbm.cells := by
  unfold State.cmAfter
  simp only [↓State.taking_cells, ↓State.settled_cells, ↓cells_ite, ↓hbm_cells_ite, ↓cells_foldl, ite_self]
theorem State.sliceCommit_cells (s : State) (x1 : Desc) (x2 : RegFile) (x3 : Nat) (x4 : Nat) (x5 : Nat) : (State.sliceCommit s x1 x2 x3 x4 x5).hbm.cells = s.hbm.cells := by
  unfold State.sliceCommit
  (try simp (disch := (first | (intros; rfl) | (intros; (try simp only [↓State.taking_cells, ↓State.settled_cells, ↓State.setFld_cells, ↓State.modSlice_cells, ↓State.modTuner_cells, ↓cells_ite, ↓hbm_cells_ite, ↓cells_foldl, ite_self]) <;> repeat' (split <;> (try rfl) <;> (try simp only [↓State.taking_cells, ↓State.settled_cells, ↓State.setFld_cells, ↓State.modSlice_cells, ↓State.modTuner_cells, ↓cells_ite, ↓hbm_cells_ite, ↓cells_foldl, ite_self]))))) only [↓State.taking_cells, ↓State.settled_cells, ↓State.setFld_cells, ↓State.modSlice_cells, ↓State.modTuner_cells, ↓cells_ite, ↓hbm_cells_ite, ↓cells_foldl, ite_self]) <;> (repeat' (split <;> (try simp (disch := (first | (intros; rfl) | (intros; (try simp only [↓State.taking_cells, ↓State.settled_cells, ↓State.setFld_cells, ↓State.modSlice_cells, ↓State.modTuner_cells, ↓cells_ite, ↓hbm_cells_ite, ↓cells_foldl, ite_self]) <;> repeat' (split <;> (try rfl) <;> (try simp only [↓State.taking_cells, ↓State.settled_cells, ↓State.setFld_cells, ↓State.modSlice_cells, ↓State.modTuner_cells, ↓cells_ite, ↓hbm_cells_ite, ↓cells_foldl, ite_self]))))) only [↓State.taking_cells, ↓State.settled_cells, ↓State.setFld_cells, ↓State.modSlice_cells, ↓State.modTuner_cells, ↓cells_ite, ↓hbm_cells_ite, ↓cells_foldl, ite_self])))
theorem State.tunerCommit_cells (s : State) (x1 : Desc) (x2 : RegFile) (x3 : Nat) (x4 : Nat) (x5 : Nat) : (State.tunerCommit s x1 x2 x3 x4 x5).hbm.cells = s.hbm.cells := by
  unfold State.tunerCommit
  (try simp (disch := (first | (intros; rfl) | (intros; (try simp only [↓State.modTuner_cells, ↓cells_ite, ↓hbm_cells_ite, ↓cells_foldl, ite_self]) <;> repeat' (split <;> (try rfl) <;> (try simp only [↓State.modTuner_cells, ↓cells_ite, ↓hbm_cells_ite, ↓cells_foldl, ite_self]))))) only [↓State.modTuner_cells, ↓cells_ite, ↓hbm_cells_ite, ↓cells_foldl, ite_self]) <;> (repeat' (split <;> (try simp (disch := (first | (intros; rfl) | (intros; (try simp only [↓State.modTuner_cells, ↓cells_ite, ↓hbm_cells_ite, ↓cells_foldl, ite_self]) <;> repeat' (split <;> (try rfl) <;> (try simp only [↓State.modTuner_cells, ↓cells_ite, ↓hbm_cells_ite, ↓cells_foldl, ite_self]))))) only [↓State.modTuner_cells, ↓cells_ite, ↓hbm_cells_ite, ↓cells_foldl, ite_self])))
theorem State.commitSlices_cells (s : State) (x1 : Desc) (x2 : RegFile) (x3 : Nat) : (State.commitSlices s x1 x2 x3).hbm.cells = s.hbm.cells := by
  unfold State.commitSlices
  (try simp (disch := (first | (intros; rfl) | (intros; (try simp only [↓State.sliceCommit_cells, ↓State.tunerCommit_cells, ↓State.modZoom_cells, ↓State.setExtent_cells, ↓cells_ite, ↓hbm_cells_ite, ↓cells_foldl, ite_self]) <;> repeat' (split <;> (try rfl) <;> (try simp only [↓State.sliceCommit_cells, ↓State.tunerCommit_cells, ↓State.modZoom_cells, ↓State.setExtent_cells, ↓cells_ite, ↓hbm_cells_ite, ↓cells_foldl, ite_self]))))) only [↓State.sliceCommit_cells, ↓State.tunerCommit_cells, ↓State.modZoom_cells, ↓State.setExtent_cells, ↓cells_ite, ↓hbm_cells_ite, ↓cells_foldl, ite_self]) <;> (repeat' (split <;> (try simp (disch := (first | (intros; rfl) | (intros; (try simp only [↓State.sliceCommit_cells, ↓State.tunerCommit_cells, ↓State.modZoom_cells, ↓State.setExtent_cells, ↓cells_ite, ↓hbm_cells_ite, ↓cells_foldl, ite_self]) <;> repeat' (split <;> (try rfl) <;> (try simp only [↓State.sliceCommit_cells, ↓State.tunerCommit_cells, ↓State.modZoom_cells, ↓State.setExtent_cells, ↓cells_ite, ↓hbm_cells_ite, ↓cells_foldl, ite_self]))))) only [↓State.sliceCommit_cells, ↓State.tunerCommit_cells, ↓State.modZoom_cells, ↓State.setExtent_cells, ↓cells_ite, ↓hbm_cells_ite, ↓cells_foldl, ite_self])))
theorem State.commitClock_cells (s : State) (x1 : Desc) (x2 : RegFile) (x3 : Nat) : (State.commitClock s x1 x2 x3).hbm.cells = s.hbm.cells := by
  unfold State.commitClock
  simp only [↓State.setTrim_cells, ↓State.modClk_cells, ↓State.setFld_cells, ↓State.complete_cells, ↓cells_ite, ↓hbm_cells_ite, ↓cells_foldl, ite_self]
theorem State.commitAttens_cells (s : State) (x1 : Desc) (x2 : RegFile) (x3 : Nat) : (State.commitAttens s x1 x2 x3).hbm.cells = s.hbm.cells := by
  unfold State.commitAttens
  simp only [↓cells_ite, ↓hbm_cells_ite, ↓cells_foldl, ite_self]
theorem commitApply_cells (s : State) (x1 : Desc) (x2 : RegFile) (x3 : Nat) : (commitApply s x1 x2 x3).hbm.cells = s.hbm.cells := by
  unfold commitApply
  (try simp only [↓State.commitClock_cells, ↓xcorApply_cells, ↓State.vidApply_cells, ↓State.complete_cells, ↓State.commitSlices_cells, ↓State.commitAttens_cells, ↓State.modVid_cells, ↓cells_ite, ↓hbm_cells_ite, ↓cells_foldl, ite_self]) <;> (repeat' (split <;> (try simp only [↓State.commitClock_cells, ↓xcorApply_cells, ↓State.vidApply_cells, ↓State.complete_cells, ↓State.commitSlices_cells, ↓State.commitAttens_cells, ↓State.modVid_cells, ↓cells_ite, ↓hbm_cells_ite, ↓cells_foldl, ite_self])))
theorem State.settleTrims_cells (s : State) : (State.settleTrims s).hbm.cells = s.hbm.cells := by
  unfold State.settleTrims
  (try simp (disch := (first | (intros; rfl) | (intros; (try simp only [↓State.setTrim_cells, ↓State.modClk_cells, ↓State.complete_cells, ↓cells_ite, ↓hbm_cells_ite, ↓cells_foldl, ite_self]) <;> repeat' (split <;> (try rfl) <;> (try simp only [↓State.setTrim_cells, ↓State.modClk_cells, ↓State.complete_cells, ↓cells_ite, ↓hbm_cells_ite, ↓cells_foldl, ite_self]))))) only [↓State.setTrim_cells, ↓State.modClk_cells, ↓State.complete_cells, ↓cells_ite, ↓hbm_cells_ite, ↓cells_foldl, ite_self]) <;> (repeat' (split <;> (try simp (disch := (first | (intros; rfl) | (intros; (try simp only [↓State.setTrim_cells, ↓State.modClk_cells, ↓State.complete_cells, ↓cells_ite, ↓hbm_cells_ite, ↓cells_foldl, ite_self]) <;> repeat' (split <;> (try rfl) <;> (try simp only [↓State.setTrim_cells, ↓State.modClk_cells, ↓State.complete_cells, ↓cells_ite, ↓hbm_cells_ite, ↓cells_foldl, ite_self]))))) only [↓State.setTrim_cells, ↓State.modClk_cells, ↓State.complete_cells, ↓cells_ite, ↓hbm_cells_ite, ↓cells_foldl, ite_self])))
theorem State.settleVid_cells (s : State) : (State.settleVid s).hbm.cells = s.hbm.cells := by
  unfold State.settleVid
  (try simp (disch := (first | (intros; rfl) | (intros; (try simp only [↓State.vidApply_cells, ↓State.complete_cells, ↓cells_ite, ↓hbm_cells_ite, ↓cells_foldl, ite_self]) <;> repeat' (split <;> (try rfl) <;> (try simp only [↓State.vidApply_cells, ↓State.complete_cells, ↓cells_ite, ↓hbm_cells_ite, ↓cells_foldl, ite_self]))))) only [↓State.vidApply_cells, ↓State.complete_cells, ↓cells_ite, ↓hbm_cells_ite, ↓cells_foldl, ite_self]) <;> (repeat' (split <;> (try simp (disch := (first | (intros; rfl) | (intros; (try simp only [↓State.vidApply_cells, ↓State.complete_cells, ↓cells_ite, ↓hbm_cells_ite, ↓cells_foldl, ite_self]) <;> repeat' (split <;> (try rfl) <;> (try simp only [↓State.vidApply_cells, ↓State.complete_cells, ↓cells_ite, ↓hbm_cells_ite, ↓cells_foldl, ite_self]))))) only [↓State.vidApply_cells, ↓State.complete_cells, ↓cells_ite, ↓hbm_cells_ite, ↓cells_foldl, ite_self])))
theorem State.landAll_cells (s : State) (x1 : Nat) : (State.landAll s x1).hbm.cells = s.hbm.cells := by
  unfold State.landAll
  (try simp (disch := (first | (intros; rfl) | (intros; (try simp only [↓State.settleCommit_cells, ↓State.landAttens_cells, ↓cells_ite, ↓hbm_cells_ite, ↓cells_foldl, ite_self]) <;> repeat' (split <;> (try rfl) <;> (try simp only [↓State.settleCommit_cells, ↓State.landAttens_cells, ↓cells_ite, ↓hbm_cells_ite, ↓cells_foldl, ite_self]))))) only [↓State.settleCommit_cells, ↓State.landAttens_cells, ↓cells_ite, ↓hbm_cells_ite, ↓cells_foldl, ite_self]) <;> (repeat' (split <;> (try simp (disch := (first | (intros; rfl) | (intros; (try simp only [↓State.settleCommit_cells, ↓State.landAttens_cells, ↓cells_ite, ↓hbm_cells_ite, ↓cells_foldl, ite_self]) <;> repeat' (split <;> (try rfl) <;> (try simp only [↓State.settleCommit_cells, ↓State.landAttens_cells, ↓cells_ite, ↓hbm_cells_ite, ↓cells_foldl, ite_self]))))) only [↓State.settleCommit_cells, ↓State.landAttens_cells, ↓cells_ite, ↓hbm_cells_ite, ↓cells_foldl, ite_self])))
theorem State.sliceBeat_cells (s : State) (x1 : Nat) (x2 : SBeat) : (State.sliceBeat s x1 x2).hbm.cells = s.hbm.cells := by
  unfold State.sliceBeat
  (try simp (disch := (first | (intros; rfl) | (intros; (try simp only [↓State.modSlice_cells, ↓State.modTuner_cells, ↓cells_ite, ↓hbm_cells_ite, ↓cells_foldl, ite_self]) <;> repeat' (split <;> (try rfl) <;> (try simp only [↓State.modSlice_cells, ↓State.modTuner_cells, ↓cells_ite, ↓hbm_cells_ite, ↓cells_foldl, ite_self]))))) only [↓State.modSlice_cells, ↓State.modTuner_cells, ↓cells_ite, ↓hbm_cells_ite, ↓cells_foldl, ite_self]) <;> (repeat' (split <;> (try simp (disch := (first | (intros; rfl) | (intros; (try simp only [↓State.modSlice_cells, ↓State.modTuner_cells, ↓cells_ite, ↓hbm_cells_ite, ↓cells_foldl, ite_self]) <;> repeat' (split <;> (try rfl) <;> (try simp only [↓State.modSlice_cells, ↓State.modTuner_cells, ↓cells_ite, ↓hbm_cells_ite, ↓cells_foldl, ite_self]))))) only [↓State.modSlice_cells, ↓State.modTuner_cells, ↓cells_ite, ↓hbm_cells_ite, ↓cells_foldl, ite_self])))
theorem State.updateService_cells (s : State) : (State.updateService s).hbm.cells = s.hbm.cells := by
  unfold State.updateService
  simp only [↓State.setFld_cells, ↓cells_ite, ↓hbm_cells_ite, ↓cells_foldl, ite_self]
theorem State.track_cells (s : State) (x1 : Nat) (x2 : Beat) : (State.track s x1 x2).hbm.cells = s.hbm.cells := by
  unfold State.track
  simp only [↓cells_ite, ↓hbm_cells_ite, ↓cells_foldl, ite_self]
theorem State.changed_cells (s : State) (x1 : Nat) (x2 : List SpxChange) : (State.changed s x1 x2).hbm.cells = s.hbm.cells := by
  unfold State.changed
  (try simp (disch := (first | (intros; rfl) | (intros; (try simp only [↓State.taking_cells, ↓cells_ite, ↓hbm_cells_ite, ↓cells_foldl, ite_self]) <;> repeat' (split <;> (try rfl) <;> (try simp only [↓State.taking_cells, ↓cells_ite, ↓hbm_cells_ite, ↓cells_foldl, ite_self]))))) only [↓State.taking_cells, ↓cells_ite, ↓hbm_cells_ite, ↓cells_foldl, ite_self]) <;> (repeat' (split <;> (try simp (disch := (first | (intros; rfl) | (intros; (try simp only [↓State.taking_cells, ↓cells_ite, ↓hbm_cells_ite, ↓cells_foldl, ite_self]) <;> repeat' (split <;> (try rfl) <;> (try simp only [↓State.taking_cells, ↓cells_ite, ↓hbm_cells_ite, ↓cells_foldl, ite_self]))))) only [↓State.taking_cells, ↓cells_ite, ↓hbm_cells_ite, ↓cells_foldl, ite_self])))
theorem State.trgApply_cells (s : State) (x1 : Nat) (x2 : Nat) : (State.trgApply s x1 x2).hbm.cells = s.hbm.cells := by
  unfold State.trgApply
  simp only [↓State.setFld_cells, ↓State.trgUnknown_cells, ↓cells_ite, ↓hbm_cells_ite, ↓cells_foldl, ite_self]
theorem State.histApply_cells (s : State) (x1 : State) (x2 : Nat) : (State.histApply s x1 x2).hbm.cells = s.hbm.cells := by
  unfold State.histApply
  simp only [↓State.setFld_cells, ↓State.modSlice_cells, ↓cells_ite, ↓hbm_cells_ite, ↓cells_foldl, ite_self]
theorem State.sliceStat_cells (s : State) (x1 : Nat) : (State.sliceStat s x1).hbm.cells = s.hbm.cells := by
  unfold State.sliceStat
  simp only [↓State.setFld_cells, ↓cells_ite, ↓hbm_cells_ite, ↓cells_foldl, ite_self]
theorem State.cancelTimed_cells (s : State) (x1 : Nat) : (State.cancelTimed s x1).hbm.cells = s.hbm.cells := by
  unfold State.cancelTimed
  (try simp (disch := (first | (intros; rfl) | (intros; (try simp only [↓State.setFld_cells, ↓State.complete_cells, ↓cells_ite, ↓hbm_cells_ite, ↓cells_foldl, ite_self]) <;> repeat' (split <;> (try rfl) <;> (try simp only [↓State.setFld_cells, ↓State.complete_cells, ↓cells_ite, ↓hbm_cells_ite, ↓cells_foldl, ite_self]))))) only [↓State.setFld_cells, ↓State.complete_cells, ↓cells_ite, ↓hbm_cells_ite, ↓cells_foldl, ite_self]) <;> (repeat' (split <;> (try simp (disch := (first | (intros; rfl) | (intros; (try simp only [↓State.setFld_cells, ↓State.complete_cells, ↓cells_ite, ↓hbm_cells_ite, ↓cells_foldl, ite_self]) <;> repeat' (split <;> (try rfl) <;> (try simp only [↓State.setFld_cells, ↓State.complete_cells, ↓cells_ite, ↓hbm_cells_ite, ↓cells_foldl, ite_self]))))) only [↓State.setFld_cells, ↓State.complete_cells, ↓cells_ite, ↓hbm_cells_ite, ↓cells_foldl, ite_self])))
theorem State.slotEpoch_cells (s : State) (x1 : Nat) : (State.slotEpoch s x1).hbm.cells = s.hbm.cells := by
  unfold State.slotEpoch
  simp only [↓State.setFld_cells, ↓State.modSlot_cells, ↓cells_ite, ↓hbm_cells_ite, ↓cells_foldl, ite_self]
theorem State.timesEpoch_cells (s : State) : (State.timesEpoch s).hbm.cells = s.hbm.cells := by
  unfold State.timesEpoch
  simp only [↓cells_ite, ↓hbm_cells_ite, ↓cells_foldl, ite_self]
theorem State.epochRelock_cells (s : State) : (State.epochRelock s).hbm.cells = s.hbm.cells := by
  unfold State.epochRelock
  simp only [↓State.modClk_cells, ↓State.setFld_cells, ↓State.gateDp_cells, ↓State.synRelock_cells, ↓cells_ite, ↓hbm_cells_ite, ↓cells_foldl, ite_self]
theorem State.epochCal_cells (s : State) : (State.epochCal s).hbm.cells = s.hbm.cells := by
  unfold State.epochCal
  (try simp (disch := (first | (intros; rfl) | (intros; (try simp only [↓State.modDue_cells, ↓cells_ite, ↓hbm_cells_ite, ↓cells_foldl, ite_self]) <;> repeat' (split <;> (try rfl) <;> (try simp only [↓State.modDue_cells, ↓cells_ite, ↓hbm_cells_ite, ↓cells_foldl, ite_self]))))) only [↓State.modDue_cells, ↓cells_ite, ↓hbm_cells_ite, ↓cells_foldl, ite_self]) <;> (repeat' (split <;> (try simp (disch := (first | (intros; rfl) | (intros; (try simp only [↓State.modDue_cells, ↓cells_ite, ↓hbm_cells_ite, ↓cells_foldl, ite_self]) <;> repeat' (split <;> (try rfl) <;> (try simp only [↓State.modDue_cells, ↓cells_ite, ↓hbm_cells_ite, ↓cells_foldl, ite_self]))))) only [↓State.modDue_cells, ↓cells_ite, ↓hbm_cells_ite, ↓cells_foldl, ite_self])))
theorem State.epochTime_cells (s : State) (x1 : Bool) (x2 : Nat) (x3 : Nat) (x4 : EpochRun) : (State.epochTime s x1 x2 x3 x4).hbm.cells = s.hbm.cells := by
  unfold State.epochTime
  simp only [↓State.modClk_cells, ↓State.setFld_cells, ↓State.latchPair_cells, ↓cells_ite, ↓hbm_cells_ite, ↓cells_foldl, ite_self]
theorem State.retire282_cells (s : State) (x1 : Nat) (x2 : Nat) (x3 : Nat) (x4 : Nat) : (State.retire282 s x1 x2 x3 x4).hbm.cells = s.hbm.cells := by
  unfold State.retire282
  simp only [↓State.updateJnl_cells, ↓cells_ite, ↓hbm_cells_ite, ↓cells_foldl, ite_self]
theorem State.sqRestart_cells (s : State) (x1 : Nat) (x2 : Bool) : (State.sqRestart s x1 x2).hbm.cells = s.hbm.cells := by
  unfold State.sqRestart
  simp only [↓State.setFld_cells, ↓cells_ite, ↓hbm_cells_ite, ↓cells_foldl, ite_self]
theorem State.cqRestart_cells (s : State) (x1 : Nat) (x2 : Bool) : (State.cqRestart s x1 x2).hbm.cells = s.hbm.cells := by
  unfold State.cqRestart
  simp only [↓State.setFld_cells, ↓cells_ite, ↓hbm_cells_ite, ↓cells_foldl, ite_self]
theorem State.evRestart_cells (s : State) (x1 : Bool) : (State.evRestart s x1).hbm.cells = s.hbm.cells := by
  unfold State.evRestart
  simp only [↓State.setFld_cells, ↓cells_ite, ↓hbm_cells_ite, ↓cells_foldl, ite_self]
theorem sqRingApply_cells (s : State) (x1 : Nat) (x2 : Desc) : (sqRingApply s x1 x2).hbm.cells = s.hbm.cells := by
  unfold sqRingApply
  simp only [↓State.setFld_cells, ↓State.sqRestart_cells, ↓cells_ite, ↓hbm_cells_ite, ↓cells_foldl, ite_self]
theorem cqRingApply_cells (s : State) (x1 : Nat) (x2 : Desc) : (cqRingApply s x1 x2).hbm.cells = s.hbm.cells := by
  unfold cqRingApply
  simp only [↓State.setFld_cells, ↓State.cqRestart_cells, ↓cells_ite, ↓hbm_cells_ite, ↓cells_foldl, ite_self]
theorem evRingApply_cells (s : State) (x1 : Desc) : (evRingApply s x1).hbm.cells = s.hbm.cells := by
  unfold evRingApply
  simp only [↓State.evRestart_cells, ↓State.setFld_cells, ↓cells_ite, ↓hbm_cells_ite, ↓cells_foldl, ite_self]
theorem State.logEvent_cells (s : State) (x1 : Ev) : (State.logEvent s x1).hbm.cells = s.hbm.cells := by
  unfold State.logEvent
  simp only [↓State.count_cells, ↓cells_ite, ↓hbm_cells_ite, ↓cells_foldl, ite_self]
theorem State.logAll_cells (s : State) : (State.logAll s).hbm.cells = s.hbm.cells := by
  unfold State.logAll
  (try simp (disch := (first | (intros; rfl) | (intros; (try simp only [↓State.logEvent_cells, ↓cells_ite, ↓hbm_cells_ite, ↓cells_foldl, ite_self]) <;> repeat' (split <;> (try rfl) <;> (try simp only [↓State.logEvent_cells, ↓cells_ite, ↓hbm_cells_ite, ↓cells_foldl, ite_self]))))) only [↓State.logEvent_cells, ↓cells_ite, ↓hbm_cells_ite, ↓cells_foldl, ite_self]) <;> (repeat' (split <;> (try simp (disch := (first | (intros; rfl) | (intros; (try simp only [↓State.logEvent_cells, ↓cells_ite, ↓hbm_cells_ite, ↓cells_foldl, ite_self]) <;> repeat' (split <;> (try rfl) <;> (try simp only [↓State.logEvent_cells, ↓cells_ite, ↓hbm_cells_ite, ↓cells_foldl, ite_self]))))) only [↓State.logEvent_cells, ↓cells_ite, ↓hbm_cells_ite, ↓cells_foldl, ite_self])))
theorem State.writeEvent_cells (s : State) (x1 : Ev) : (State.writeEvent s x1).hbm.cells = s.hbm.cells := by
  unfold State.writeEvent
  simp only [↓State.setFld_cells, ↓State.fireVector_cells, ↓State.emit_cells, ↓cells_ite, ↓hbm_cells_ite, ↓cells_foldl, ite_self]
theorem extractApply_cells (s : State) (x1 : Desc) (x2 : Nat) : (extractApply s x1 x2).hbm.cells = s.hbm.cells := by
  unfold extractApply
  simp only [↓State.enqueue_cells, ↓State.complete_cells, ↓State.updateFreezeRegs_cells, ↓State.releaseFreeze_cells, ↓State.hold_cells, ↓cells_ite, ↓hbm_cells_ite, ↓cells_foldl, ite_self]
theorem snapApply_cells (s : State) (x1 : Desc) (x2 : Nat) : (snapApply s x1 x2).hbm.cells = s.hbm.cells := by
  unfold snapApply
  simp only [↓State.setFld_cells, ↓cells_ite, ↓hbm_cells_ite, ↓cells_foldl, ite_self]
theorem State.snapEnd_cells (s : State) (x1 : Bool) (x2 : Nat) : (State.snapEnd s x1 x2).hbm.cells = s.hbm.cells := by
  unfold State.snapEnd
  (try simp only [↓State.hostIo_cells, ↓State.complete_cells, ↓cells_ite, ↓hbm_cells_ite, ↓cells_foldl, ite_self]) <;> (repeat' (split <;> (try simp only [↓State.hostIo_cells, ↓State.complete_cells, ↓cells_ite, ↓hbm_cells_ite, ↓cells_foldl, ite_self])))
theorem State.modSmp_cells (s : State) (x1 : Nat) (x2 : SmpSt → SmpSt) : (State.modSmp s x1 x2).hbm.cells = s.hbm.cells := by
  unfold State.modSmp
  simp only [↓cells_ite, ↓hbm_cells_ite, ↓cells_foldl, ite_self]
theorem State.progress_cells (s : State) (x1 : Job) : (State.progress s x1).hbm.cells = s.hbm.cells := by
  unfold State.progress
  simp only [↓State.jrecJob_cells, ↓cells_ite, ↓hbm_cells_ite, ↓cells_foldl, ite_self]
theorem State.interrupt_cells (s : State) (x1 : Job → Bool) : (State.interrupt s x1).hbm.cells = s.hbm.cells := by
  unfold State.interrupt
  (try simp (disch := (first | (intros; rfl) | (intros; (try simp only [↓State.updateStanding_cells, ↓cells_ite, ↓hbm_cells_ite, ↓cells_foldl, ite_self]) <;> repeat' (split <;> (try rfl) <;> (try simp only [↓State.updateStanding_cells, ↓cells_ite, ↓hbm_cells_ite, ↓cells_foldl, ite_self]))))) only [↓State.updateStanding_cells, ↓cells_ite, ↓hbm_cells_ite, ↓cells_foldl, ite_self]) <;> (repeat' (split <;> (try simp (disch := (first | (intros; rfl) | (intros; (try simp only [↓State.updateStanding_cells, ↓cells_ite, ↓hbm_cells_ite, ↓cells_foldl, ite_self]) <;> repeat' (split <;> (try rfl) <;> (try simp only [↓State.updateStanding_cells, ↓cells_ite, ↓hbm_cells_ite, ↓cells_foldl, ite_self]))))) only [↓State.updateStanding_cells, ↓cells_ite, ↓hbm_cells_ite, ↓cells_foldl, ite_self])))
theorem State.dropMoves_cells (s : State) (x1 : Nat → Bool) : (State.dropMoves s x1).hbm.cells = s.hbm.cells := by
  unfold State.dropMoves
  (try simp (disch := (first | (intros; rfl) | (intros; (try simp only [↓State.xferEnd_cells, ↓cells_ite, ↓hbm_cells_ite, ↓cells_foldl, ite_self]) <;> repeat' (split <;> (try rfl) <;> (try simp only [↓State.xferEnd_cells, ↓cells_ite, ↓hbm_cells_ite, ↓cells_foldl, ite_self]))))) only [↓State.xferEnd_cells, ↓cells_ite, ↓hbm_cells_ite, ↓cells_foldl, ite_self]) <;> (repeat' (split <;> (try simp (disch := (first | (intros; rfl) | (intros; (try simp only [↓State.xferEnd_cells, ↓cells_ite, ↓hbm_cells_ite, ↓cells_foldl, ite_self]) <;> repeat' (split <;> (try rfl) <;> (try simp only [↓State.xferEnd_cells, ↓cells_ite, ↓hbm_cells_ite, ↓cells_foldl, ite_self]))))) only [↓State.xferEnd_cells, ↓cells_ite, ↓hbm_cells_ite, ↓cells_foldl, ite_self])))
theorem State.dropArms_cells (s : State) (x1 : Nat → Bool) : (State.dropArms s x1).hbm.cells = s.hbm.cells := by
  unfold State.dropArms
  (try simp (disch := (first | (intros; rfl) | (intros; (try simp only [↓State.setFld_cells, ↓State.modTrg_cells, ↓cells_ite, ↓hbm_cells_ite, ↓cells_foldl, ite_self]) <;> repeat' (split <;> (try rfl) <;> (try simp only [↓State.setFld_cells, ↓State.modTrg_cells, ↓cells_ite, ↓hbm_cells_ite, ↓cells_foldl, ite_self]))))) only [↓State.setFld_cells, ↓State.modTrg_cells, ↓cells_ite, ↓hbm_cells_ite, ↓cells_foldl, ite_self]) <;> (repeat' (split <;> (try simp (disch := (first | (intros; rfl) | (intros; (try simp only [↓State.setFld_cells, ↓State.modTrg_cells, ↓cells_ite, ↓hbm_cells_ite, ↓cells_foldl, ite_self]) <;> repeat' (split <;> (try rfl) <;> (try simp only [↓State.setFld_cells, ↓State.modTrg_cells, ↓cells_ite, ↓hbm_cells_ite, ↓cells_foldl, ite_self]))))) only [↓State.setFld_cells, ↓State.modTrg_cells, ↓cells_ite, ↓hbm_cells_ite, ↓cells_foldl, ite_self])))
theorem State.dropCores_cells (s : State) (x1 : Nat → Bool) : (State.dropCores s x1).hbm.cells = s.hbm.cells := by
  unfold State.dropCores
  (try simp (disch := (first | (intros; rfl) | (intros; (try simp only [↓State.coreEnd_cells, ↓cells_ite, ↓hbm_cells_ite, ↓cells_foldl, ite_self]) <;> repeat' (split <;> (try rfl) <;> (try simp only [↓State.coreEnd_cells, ↓cells_ite, ↓hbm_cells_ite, ↓cells_foldl, ite_self]))))) only [↓State.coreEnd_cells, ↓cells_ite, ↓hbm_cells_ite, ↓cells_foldl, ite_self]) <;> (repeat' (split <;> (try simp (disch := (first | (intros; rfl) | (intros; (try simp only [↓State.coreEnd_cells, ↓cells_ite, ↓hbm_cells_ite, ↓cells_foldl, ite_self]) <;> repeat' (split <;> (try rfl) <;> (try simp only [↓State.coreEnd_cells, ↓cells_ite, ↓hbm_cells_ite, ↓cells_foldl, ite_self]))))) only [↓State.coreEnd_cells, ↓cells_ite, ↓hbm_cells_ite, ↓cells_foldl, ite_self])))
theorem State.dropCommits_cells (s : State) (x1 : Nat → Bool) : (State.dropCommits s x1).hbm.cells = s.hbm.cells := by
  unfold State.dropCommits
  (try simp (disch := (first | (intros; rfl) | (intros; (try simp only [↓State.xcorPending_cells, ↓State.setFld_cells, ↓State.modXcor_cells, ↓cells_ite, ↓hbm_cells_ite, ↓cells_foldl, ite_self]) <;> repeat' (split <;> (try rfl) <;> (try simp only [↓State.xcorPending_cells, ↓State.setFld_cells, ↓State.modXcor_cells, ↓cells_ite, ↓hbm_cells_ite, ↓cells_foldl, ite_self]))))) only [↓State.xcorPending_cells, ↓State.setFld_cells, ↓State.modXcor_cells, ↓cells_ite, ↓hbm_cells_ite, ↓cells_foldl, ite_self]) <;> (repeat' (split <;> (try simp (disch := (first | (intros; rfl) | (intros; (try simp only [↓State.xcorPending_cells, ↓State.setFld_cells, ↓State.modXcor_cells, ↓cells_ite, ↓hbm_cells_ite, ↓cells_foldl, ite_self]) <;> repeat' (split <;> (try rfl) <;> (try simp only [↓State.xcorPending_cells, ↓State.setFld_cells, ↓State.modXcor_cells, ↓cells_ite, ↓hbm_cells_ite, ↓cells_foldl, ite_self]))))) only [↓State.xcorPending_cells, ↓State.setFld_cells, ↓State.modXcor_cells, ↓cells_ite, ↓hbm_cells_ite, ↓cells_foldl, ite_self])))
theorem State.dropRequests_cells (s : State) (x1 : Nat → Bool) : (State.dropRequests s x1).hbm.cells = s.hbm.cells := by
  unfold State.dropRequests
  simp only [↓State.updatePending_cells, ↓State.setFld_cells, ↓cells_ite, ↓hbm_cells_ite, ↓cells_foldl, ite_self]
theorem State.dropUnits_cells (s : State) (x1 : Nat → Bool) : (State.dropUnits s x1).hbm.cells = s.hbm.cells := by
  unfold State.dropUnits
  (try simp (disch := (first | (intros; rfl) | (intros; (try simp only [↓State.endStream_cells, ↓State.dropRequests_cells, ↓State.updateFreezeRegs_cells, ↓State.dropArms_cells, ↓State.dropCores_cells, ↓State.dropCommits_cells, ↓State.dropMoves_cells, ↓State.recOver_cells, ↓State.endExtract_cells, ↓cells_ite, ↓hbm_cells_ite, ↓cells_foldl, ite_self]) <;> repeat' (split <;> (try rfl) <;> (try simp only [↓State.endStream_cells, ↓State.dropRequests_cells, ↓State.updateFreezeRegs_cells, ↓State.dropArms_cells, ↓State.dropCores_cells, ↓State.dropCommits_cells, ↓State.dropMoves_cells, ↓State.recOver_cells, ↓State.endExtract_cells, ↓cells_ite, ↓hbm_cells_ite, ↓cells_foldl, ite_self]))))) only [↓State.endStream_cells, ↓State.dropRequests_cells, ↓State.updateFreezeRegs_cells, ↓State.dropArms_cells, ↓State.dropCores_cells, ↓State.dropCommits_cells, ↓State.dropMoves_cells, ↓State.recOver_cells, ↓State.endExtract_cells, ↓cells_ite, ↓hbm_cells_ite, ↓cells_foldl, ite_self]) <;> (repeat' (split <;> (try simp (disch := (first | (intros; rfl) | (intros; (try simp only [↓State.endStream_cells, ↓State.dropRequests_cells, ↓State.updateFreezeRegs_cells, ↓State.dropArms_cells, ↓State.dropCores_cells, ↓State.dropCommits_cells, ↓State.dropMoves_cells, ↓State.recOver_cells, ↓State.endExtract_cells, ↓cells_ite, ↓hbm_cells_ite, ↓cells_foldl, ite_self]) <;> repeat' (split <;> (try rfl) <;> (try simp only [↓State.endStream_cells, ↓State.dropRequests_cells, ↓State.updateFreezeRegs_cells, ↓State.dropArms_cells, ↓State.dropCores_cells, ↓State.dropCommits_cells, ↓State.dropMoves_cells, ↓State.recOver_cells, ↓State.endExtract_cells, ↓cells_ite, ↓hbm_cells_ite, ↓cells_foldl, ite_self]))))) only [↓State.endStream_cells, ↓State.dropRequests_cells, ↓State.updateFreezeRegs_cells, ↓State.dropArms_cells, ↓State.dropCores_cells, ↓State.dropCommits_cells, ↓State.dropMoves_cells, ↓State.recOver_cells, ↓State.endExtract_cells, ↓cells_ite, ↓hbm_cells_ite, ↓cells_foldl, ite_self])))
theorem State.endJobs_cells (s : State) (x1 : Job → Bool) : (State.endJobs s x1).hbm.cells = s.hbm.cells := by
  unfold State.endJobs
  simp only [↓State.dropUnits_cells, ↓State.interrupt_cells, ↓cells_ite, ↓hbm_cells_ite, ↓cells_foldl, ite_self]
theorem State.holdOutcome_cells (s : State) (x1 : Job) : (State.holdOutcome s x1).hbm.cells = s.hbm.cells := by
  unfold State.holdOutcome
  (try simp (disch := (first | (intros; rfl) | (intros; (try simp only [↓State.setFld_cells, ↓State.modJob_cells, ↓State.jrecJob_cells, ↓cells_ite, ↓hbm_cells_ite, ↓cells_foldl, ite_self]) <;> repeat' (split <;> (try rfl) <;> (try simp only [↓State.setFld_cells, ↓State.modJob_cells, ↓State.jrecJob_cells, ↓cells_ite, ↓hbm_cells_ite, ↓cells_foldl, ite_self]))))) only [↓State.setFld_cells, ↓State.modJob_cells, ↓State.jrecJob_cells, ↓cells_ite, ↓hbm_cells_ite, ↓cells_foldl, ite_self]) <;> (repeat' (split <;> (try simp (disch := (first | (intros; rfl) | (intros; (try simp only [↓State.setFld_cells, ↓State.modJob_cells, ↓State.jrecJob_cells, ↓cells_ite, ↓hbm_cells_ite, ↓cells_foldl, ite_self]) <;> repeat' (split <;> (try rfl) <;> (try simp only [↓State.setFld_cells, ↓State.modJob_cells, ↓State.jrecJob_cells, ↓cells_ite, ↓hbm_cells_ite, ↓cells_foldl, ite_self]))))) only [↓State.setFld_cells, ↓State.modJob_cells, ↓State.jrecJob_cells, ↓cells_ite, ↓hbm_cells_ite, ↓cells_foldl, ite_self])))
theorem State.holdOutcomes_cells (s : State) (x1 : Job → Bool) : (State.holdOutcomes s x1).hbm.cells = s.hbm.cells := by
  unfold State.holdOutcomes
  (try simp (disch := (first | (intros; rfl) | (intros; (try simp only [↓State.holdOutcome_cells, ↓cells_ite, ↓hbm_cells_ite, ↓cells_foldl, ite_self]) <;> repeat' (split <;> (try rfl) <;> (try simp only [↓State.holdOutcome_cells, ↓cells_ite, ↓hbm_cells_ite, ↓cells_foldl, ite_self]))))) only [↓State.holdOutcome_cells, ↓cells_ite, ↓hbm_cells_ite, ↓cells_foldl, ite_self]) <;> (repeat' (split <;> (try simp (disch := (first | (intros; rfl) | (intros; (try simp only [↓State.holdOutcome_cells, ↓cells_ite, ↓hbm_cells_ite, ↓cells_foldl, ite_self]) <;> repeat' (split <;> (try rfl) <;> (try simp only [↓State.holdOutcome_cells, ↓cells_ite, ↓hbm_cells_ite, ↓cells_foldl, ite_self]))))) only [↓State.holdOutcome_cells, ↓cells_ite, ↓hbm_cells_ite, ↓cells_foldl, ite_self])))
theorem State.disableSq_cells (s : State) (x1 : Nat) : (State.disableSq s x1).hbm.cells = s.hbm.cells := by
  unfold State.disableSq
  simp only [↓State.setFld_cells, ↓State.sqRestart_cells, ↓cells_ite, ↓hbm_cells_ite, ↓cells_foldl, ite_self]
theorem State.disableCq_cells (s : State) (x1 : Nat) : (State.disableCq s x1).hbm.cells = s.hbm.cells := by
  unfold State.disableCq
  simp only [↓State.setFld_cells, ↓State.cqRestart_cells, ↓cells_ite, ↓hbm_cells_ite, ↓cells_foldl, ite_self]
theorem State.dropFetches_cells (s : State) : (State.dropFetches s).hbm.cells = s.hbm.cells := by
  unfold State.dropFetches
  (try simp (disch := (first | (intros; rfl) | (intros; (try simp only [↓State.setFld_cells, ↓cells_ite, ↓hbm_cells_ite, ↓cells_foldl, ite_self]) <;> repeat' (split <;> (try rfl) <;> (try simp only [↓State.setFld_cells, ↓cells_ite, ↓hbm_cells_ite, ↓cells_foldl, ite_self]))))) only [↓State.setFld_cells, ↓cells_ite, ↓hbm_cells_ite, ↓cells_foldl, ite_self]) <;> (repeat' (split <;> (try simp (disch := (first | (intros; rfl) | (intros; (try simp only [↓State.setFld_cells, ↓cells_ite, ↓hbm_cells_ite, ↓cells_foldl, ite_self]) <;> repeat' (split <;> (try rfl) <;> (try simp only [↓State.setFld_cells, ↓cells_ite, ↓hbm_cells_ite, ↓cells_foldl, ite_self]))))) only [↓State.setFld_cells, ↓cells_ite, ↓hbm_cells_ite, ↓cells_foldl, ite_self])))
theorem State.rlRead_cells (s : State) (x1 : Nat) : (State.rlRead s x1).2.hbm.cells = s.hbm.cells := by
  unfold State.rlRead
  (try simp (disch := (first | (intros; rfl) | (intros; (try simp only [↓cells_ite, ↓hbm_cells_ite, ↓cells_foldl, ite_self]) <;> repeat' (split <;> (try rfl) <;> (try simp only [↓cells_ite, ↓hbm_cells_ite, ↓cells_foldl, ite_self]))))) only [↓cells_ite, ↓hbm_cells_ite, ↓cells_foldl, ite_self]) <;> (repeat' (split <;> (try simp (disch := (first | (intros; rfl) | (intros; (try simp only [↓cells_ite, ↓hbm_cells_ite, ↓cells_foldl, ite_self]) <;> repeat' (split <;> (try rfl) <;> (try simp only [↓cells_ite, ↓hbm_cells_ite, ↓cells_foldl, ite_self]))))) only [↓cells_ite, ↓hbm_cells_ite, ↓cells_foldl, ite_self])))
theorem State.wrote_cells (s : State) (x1 : Nat) : (State.wrote s x1).hbm.cells = s.hbm.cells := by
  unfold State.wrote
  simp only [↓State.modClk_cells, ↓State.hkBoundary_cells, ↓State.updatePin_cells, ↓State.modHk_cells, ↓State.updatePins_cells, ↓cells_ite, ↓hbm_cells_ite, ↓cells_foldl, ite_self]
theorem State.collided_cells (s : State) (x1 : Nat) : (State.collided s x1).hbm.cells = s.hbm.cells := by
  unfold State.collided
  simp only [↓State.setFld_cells, ↓cells_ite, ↓hbm_cells_ite, ↓cells_foldl, ite_self]
theorem State.hostWrite_cells (s : State) (x1 : Nat) (x2 : Nat) (x3 : Bool) : (State.hostWrite s x1 x2 x3).hbm.cells = s.hbm.cells := by
  unfold State.hostWrite
  (try simp (disch := (first | (intros; rfl) | (intros; (try simp only [↓State.setReg_cells, ↓State.wrote_cells, ↓State.setFld_cells, ↓State.collided_cells, ↓cells_ite, ↓hbm_cells_ite, ↓cells_foldl, ite_self]) <;> repeat' (split <;> (try rfl) <;> (try simp only [↓State.setReg_cells, ↓State.wrote_cells, ↓State.setFld_cells, ↓State.collided_cells, ↓cells_ite, ↓hbm_cells_ite, ↓cells_foldl, ite_self]))))) only [↓State.setReg_cells, ↓State.wrote_cells, ↓State.setFld_cells, ↓State.collided_cells, ↓cells_ite, ↓hbm_cells_ite, ↓cells_foldl, ite_self]) <;> (repeat' (split <;> (try simp (disch := (first | (intros; rfl) | (intros; (try simp only [↓State.setReg_cells, ↓State.wrote_cells, ↓State.setFld_cells, ↓State.collided_cells, ↓cells_ite, ↓hbm_cells_ite, ↓cells_foldl, ite_self]) <;> repeat' (split <;> (try rfl) <;> (try simp only [↓State.setReg_cells, ↓State.wrote_cells, ↓State.setFld_cells, ↓State.collided_cells, ↓cells_ite, ↓hbm_cells_ite, ↓cells_foldl, ite_self]))))) only [↓State.setReg_cells, ↓State.wrote_cells, ↓State.setFld_cells, ↓State.collided_cells, ↓cells_ite, ↓hbm_cells_ite, ↓cells_foldl, ite_self])))
theorem State.ringEnabled_cells (s : State) (x1 : Nat) : (State.ringEnabled s x1).hbm.cells = s.hbm.cells := by
  unfold State.ringEnabled
  simp only [↓State.evRestart_cells, ↓State.setFld_cells, ↓State.sqRestart_cells, ↓State.cqRestart_cells, ↓cells_ite, ↓hbm_cells_ite, ↓cells_foldl, ite_self]
theorem State.ringWrite263_cells (s : State) (x1 : Nat) (x2 : Nat) (x3 : Nat) : (State.ringWrite263 s x1 x2 x3).hbm.cells = s.hbm.cells := by
  unfold State.ringWrite263
  simp only [↓State.setReg_cells, ↓State.setFld_cells, ↓State.ringEnabled_cells, ↓cells_ite, ↓hbm_cells_ite, ↓cells_foldl, ite_self]
theorem State.sramByte_cells (s : State) (x1 : Nat) : (State.sramByte s x1).2.hbm.cells = s.hbm.cells := by
  unfold State.sramByte
  (try simp (disch := (first | (intros; rfl) | (intros; (try simp only [↓State.useFree_cells, ↓cells_ite, ↓hbm_cells_ite, ↓cells_foldl, ite_self]) <;> repeat' (split <;> (try rfl) <;> (try simp only [↓State.useFree_cells, ↓cells_ite, ↓hbm_cells_ite, ↓cells_foldl, ite_self]))))) only [↓State.useFree_cells, ↓cells_ite, ↓hbm_cells_ite, ↓cells_foldl, ite_self]) <;> (repeat' (split <;> (try simp (disch := (first | (intros; rfl) | (intros; (try simp only [↓State.useFree_cells, ↓cells_ite, ↓hbm_cells_ite, ↓cells_foldl, ite_self]) <;> repeat' (split <;> (try rfl) <;> (try simp only [↓State.useFree_cells, ↓cells_ite, ↓hbm_cells_ite, ↓cells_foldl, ite_self]))))) only [↓State.useFree_cells, ↓cells_ite, ↓hbm_cells_ite, ↓cells_foldl, ite_self])))
theorem State.maskRegs_cells (s : State) (x1 : Nat → Nat) : (State.maskRegs s x1).hbm.cells = s.hbm.cells := by
  unfold State.maskRegs
  simp only [↓cells_ite, ↓hbm_cells_ite, ↓cells_foldl, ite_self]
theorem State.noteReset_cells (s : State) (x1 : Nat) (x2 : Nat) (x3 : Nat) : (State.noteReset s x1 x2 x3).hbm.cells = s.hbm.cells := by
  unfold State.noteReset
  simp only [↓State.setFld_cells, ↓cells_ite, ↓hbm_cells_ite, ↓cells_foldl, ite_self]
theorem State.holdPosting_cells (s : State) : (State.holdPosting s).hbm.cells = s.hbm.cells := by
  unfold State.holdPosting
  simp only [↓State.setFld_cells, ↓cells_ite, ↓hbm_cells_ite, ↓cells_foldl, ite_self]
theorem State.postRing_cells (s : State) (x1 : Nat) : (State.postRing s x1).hbm.cells = s.hbm.cells := by
  unfold State.postRing
  (try simp (disch := (first | (intros; rfl) | (intros; (try simp only [↓State.postHead_cells, ↓cells_ite, ↓hbm_cells_ite, ↓cells_foldl, ite_self]) <;> repeat' (split <;> (try rfl) <;> (try simp only [↓State.postHead_cells, ↓cells_ite, ↓hbm_cells_ite, ↓cells_foldl, ite_self]))))) only [↓State.postHead_cells, ↓cells_ite, ↓hbm_cells_ite, ↓cells_foldl, ite_self]) <;> (repeat' (split <;> (try simp (disch := (first | (intros; rfl) | (intros; (try simp only [↓State.postHead_cells, ↓cells_ite, ↓hbm_cells_ite, ↓cells_foldl, ite_self]) <;> repeat' (split <;> (try rfl) <;> (try simp only [↓State.postHead_cells, ↓cells_ite, ↓hbm_cells_ite, ↓cells_foldl, ite_self]))))) only [↓State.postHead_cells, ↓cells_ite, ↓hbm_cells_ite, ↓cells_foldl, ite_self])))
theorem State.runFirmware_cells (s : State) (x1 : Nat) (x2 : List Nat) : (State.runFirmware s x1 x2).hbm.cells = s.hbm.cells := by
  unfold State.runFirmware
  simp only [↓State.secEv_cells, ↓State.modSec_cells, ↓State.setFld_cells, ↓State.updatePin_cells, ↓State.extend_cells, ↓cells_ite, ↓hbm_cells_ite, ↓cells_foldl, ite_self]
theorem State.strapRegs_cells (s : State) : (State.strapRegs s).hbm.cells = s.hbm.cells := by
  unfold State.strapRegs
  simp only [↓State.setReg_cells, ↓State.setFld_cells, ↓State.modHk_cells, ↓State.setInf_cells, ↓cells_ite, ↓hbm_cells_ite, ↓cells_foldl, ite_self]
theorem State.bootRom_cells (s : State) (x1 : Sys2Proof.Boot) : (State.bootRom s x1).hbm.cells = s.hbm.cells := by
  unfold State.bootRom
  (try simp (disch := (first | (intros; rfl) | (intros; (try simp only [↓State.runFirmware_cells, ↓State.secEv_cells, ↓State.modSec_cells, ↓State.setFld_cells, ↓State.zeroised_cells, ↓State.zeroise_cells, ↓State.extend_cells, ↓cells_ite, ↓hbm_cells_ite, ↓cells_foldl, ite_self]) <;> repeat' (split <;> (try rfl) <;> (try simp only [↓State.runFirmware_cells, ↓State.secEv_cells, ↓State.modSec_cells, ↓State.setFld_cells, ↓State.zeroised_cells, ↓State.zeroise_cells, ↓State.extend_cells, ↓cells_ite, ↓hbm_cells_ite, ↓cells_foldl, ite_self]))))) only [↓State.runFirmware_cells, ↓State.secEv_cells, ↓State.modSec_cells, ↓State.setFld_cells, ↓State.zeroised_cells, ↓State.zeroise_cells, ↓State.extend_cells, ↓cells_ite, ↓hbm_cells_ite, ↓cells_foldl, ite_self]) <;> (repeat' (split <;> (try simp (disch := (first | (intros; rfl) | (intros; (try simp only [↓State.runFirmware_cells, ↓State.secEv_cells, ↓State.modSec_cells, ↓State.setFld_cells, ↓State.zeroised_cells, ↓State.zeroise_cells, ↓State.extend_cells, ↓cells_ite, ↓hbm_cells_ite, ↓cells_foldl, ite_self]) <;> repeat' (split <;> (try rfl) <;> (try simp only [↓State.runFirmware_cells, ↓State.secEv_cells, ↓State.modSec_cells, ↓State.setFld_cells, ↓State.zeroised_cells, ↓State.zeroise_cells, ↓State.extend_cells, ↓cells_ite, ↓hbm_cells_ite, ↓cells_foldl, ite_self]))))) only [↓State.runFirmware_cells, ↓State.secEv_cells, ↓State.modSec_cells, ↓State.setFld_cells, ↓State.zeroised_cells, ↓State.zeroise_cells, ↓State.extend_cells, ↓cells_ite, ↓hbm_cells_ite, ↓cells_foldl, ite_self])))
theorem State.freshPcs_cells (s : State) (x1 : Bool) (x2 : Bool) : (State.freshPcs s x1 x2).hbm.cells = s.hbm.cells := by
  unfold State.freshPcs
  (try simp (disch := (first | (intros; rfl) | (intros; (try simp only [↓State.setFld_cells, ↓State.setPc_cells, ↓cells_ite, ↓hbm_cells_ite, ↓cells_foldl, ite_self]) <;> repeat' (split <;> (try rfl) <;> (try simp only [↓State.setFld_cells, ↓State.setPc_cells, ↓cells_ite, ↓hbm_cells_ite, ↓cells_foldl, ite_self]))))) only [↓State.setFld_cells, ↓State.setPc_cells, ↓cells_ite, ↓hbm_cells_ite, ↓cells_foldl, ite_self]) <;> (repeat' (split <;> (try simp (disch := (first | (intros; rfl) | (intros; (try simp only [↓State.setFld_cells, ↓State.setPc_cells, ↓cells_ite, ↓hbm_cells_ite, ↓cells_foldl, ite_self]) <;> repeat' (split <;> (try rfl) <;> (try simp only [↓State.setFld_cells, ↓State.setPc_cells, ↓cells_ite, ↓hbm_cells_ite, ↓cells_foldl, ite_self]))))) only [↓State.setFld_cells, ↓State.setPc_cells, ↓cells_ite, ↓hbm_cells_ite, ↓cells_foldl, ite_self])))
theorem State.keepFailures_cells (s : State) (x1 : State) : (State.keepFailures s x1).hbm.cells = s.hbm.cells := by
  unfold State.keepFailures
  (try simp (disch := (first | (intros; rfl) | (intros; (try simp only [↓State.setFld_cells, ↓State.xcorReturn_cells, ↓cells_ite, ↓hbm_cells_ite, ↓cells_foldl, ite_self]) <;> repeat' (split <;> (try rfl) <;> (try simp only [↓State.setFld_cells, ↓State.xcorReturn_cells, ↓cells_ite, ↓hbm_cells_ite, ↓cells_foldl, ite_self]))))) only [↓State.setFld_cells, ↓State.xcorReturn_cells, ↓cells_ite, ↓hbm_cells_ite, ↓cells_foldl, ite_self]) <;> (repeat' (split <;> (try simp (disch := (first | (intros; rfl) | (intros; (try simp only [↓State.setFld_cells, ↓State.xcorReturn_cells, ↓cells_ite, ↓hbm_cells_ite, ↓cells_foldl, ite_self]) <;> repeat' (split <;> (try rfl) <;> (try simp only [↓State.setFld_cells, ↓State.xcorReturn_cells, ↓cells_ite, ↓hbm_cells_ite, ↓cells_foldl, ite_self]))))) only [↓State.setFld_cells, ↓State.xcorReturn_cells, ↓cells_ite, ↓hbm_cells_ite, ↓cells_foldl, ite_self])))
theorem State.showKept_cells (s : State) : (State.showKept s).hbm.cells = s.hbm.cells := by
  unfold State.showKept
  (try simp (disch := (first | (intros; rfl) | (intros; (try simp only [↓State.updatePending_cells, ↓State.updateJnl_cells, ↓State.updateOldest_cells, ↓State.updateCaps_cells, ↓State.updateFlt_cells, ↓State.updateFreezeRegs_cells, ↓State.updateHeld_cells, ↓State.updateKeys_cells, ↓cells_ite, ↓hbm_cells_ite, ↓cells_foldl, ite_self]) <;> repeat' (split <;> (try rfl) <;> (try simp only [↓State.updatePending_cells, ↓State.updateJnl_cells, ↓State.updateOldest_cells, ↓State.updateCaps_cells, ↓State.updateFlt_cells, ↓State.updateFreezeRegs_cells, ↓State.updateHeld_cells, ↓State.updateKeys_cells, ↓cells_ite, ↓hbm_cells_ite, ↓cells_foldl, ite_self]))))) only [↓State.updatePending_cells, ↓State.updateJnl_cells, ↓State.updateOldest_cells, ↓State.updateCaps_cells, ↓State.updateFlt_cells, ↓State.updateFreezeRegs_cells, ↓State.updateHeld_cells, ↓State.updateKeys_cells, ↓cells_ite, ↓hbm_cells_ite, ↓cells_foldl, ite_self]) <;> (repeat' (split <;> (try simp (disch := (first | (intros; rfl) | (intros; (try simp only [↓State.updatePending_cells, ↓State.updateJnl_cells, ↓State.updateOldest_cells, ↓State.updateCaps_cells, ↓State.updateFlt_cells, ↓State.updateFreezeRegs_cells, ↓State.updateHeld_cells, ↓State.updateKeys_cells, ↓cells_ite, ↓hbm_cells_ite, ↓cells_foldl, ite_self]) <;> repeat' (split <;> (try rfl) <;> (try simp only [↓State.updatePending_cells, ↓State.updateJnl_cells, ↓State.updateOldest_cells, ↓State.updateCaps_cells, ↓State.updateFlt_cells, ↓State.updateFreezeRegs_cells, ↓State.updateHeld_cells, ↓State.updateKeys_cells, ↓cells_ite, ↓hbm_cells_ite, ↓cells_foldl, ite_self]))))) only [↓State.updatePending_cells, ↓State.updateJnl_cells, ↓State.updateOldest_cells, ↓State.updateCaps_cells, ↓State.updateFlt_cells, ↓State.updateFreezeRegs_cells, ↓State.updateHeld_cells, ↓State.updateKeys_cells, ↓cells_ite, ↓hbm_cells_ite, ↓cells_foldl, ite_self])))
theorem State.leaveReset_cells (s : State) (x1 : Nat) (x2 : Sys2Proof.Boot) : (State.leaveReset s x1 x2).hbm.cells = s.hbm.cells := by
  unfold State.leaveReset
  simp only [↓State.updatePending_cells, ↓State.strapRegs_cells, ↓State.updateCaps_cells, ↓State.setFld_cells, ↓State.bootRom_cells, ↓State.updatePin_cells, ↓cells_ite, ↓hbm_cells_ite, ↓cells_foldl, ite_self]
theorem State.resolveTorn_cells (s : State) (x1 : List Nat) : (State.resolveTorn s x1).hbm.cells = s.hbm.cells := by
  unfold State.resolveTorn
  (try simp (disch := (first | (intros; rfl) | (intros; (try simp only [↓State.fault_cells, ↓State.setFld_cells, ↓State.modJob_cells, ↓State.useFree_cells, ↓cells_ite, ↓hbm_cells_ite, ↓cells_foldl, ite_self]) <;> repeat' (split <;> (try rfl) <;> (try simp only [↓State.fault_cells, ↓State.setFld_cells, ↓State.modJob_cells, ↓State.useFree_cells, ↓cells_ite, ↓hbm_cells_ite, ↓cells_foldl, ite_self]))))) only [↓State.fault_cells, ↓State.setFld_cells, ↓State.modJob_cells, ↓State.useFree_cells, ↓cells_ite, ↓hbm_cells_ite, ↓cells_foldl, ite_self]) <;> (repeat' (split <;> (try simp (disch := (first | (intros; rfl) | (intros; (try simp only [↓State.fault_cells, ↓State.setFld_cells, ↓State.modJob_cells, ↓State.useFree_cells, ↓cells_ite, ↓hbm_cells_ite, ↓cells_foldl, ite_self]) <;> repeat' (split <;> (try rfl) <;> (try simp only [↓State.fault_cells, ↓State.setFld_cells, ↓State.modJob_cells, ↓State.useFree_cells, ↓cells_ite, ↓hbm_cells_ite, ↓cells_foldl, ite_self]))))) only [↓State.fault_cells, ↓State.setFld_cells, ↓State.modJob_cells, ↓State.useFree_cells, ↓cells_ite, ↓hbm_cells_ite, ↓cells_foldl, ite_self])))
theorem State.lastReadable_cells (s : State) (x1 : List Nat) : (State.lastReadable s x1).hbm.cells = s.hbm.cells := by
  unfold State.lastReadable
  (try simp (disch := (first | (intros; rfl) | (intros; (try simp only [↓cells_ite, ↓hbm_cells_ite, ↓cells_foldl, ite_self]) <;> repeat' (split <;> (try rfl) <;> (try simp only [↓cells_ite, ↓hbm_cells_ite, ↓cells_foldl, ite_self]))))) only [↓cells_ite, ↓hbm_cells_ite, ↓cells_foldl, ite_self]) <;> (repeat' (split <;> (try simp (disch := (first | (intros; rfl) | (intros; (try simp only [↓cells_ite, ↓hbm_cells_ite, ↓cells_foldl, ite_self]) <;> repeat' (split <;> (try rfl) <;> (try simp only [↓cells_ite, ↓hbm_cells_ite, ↓cells_foldl, ite_self]))))) only [↓cells_ite, ↓hbm_cells_ite, ↓cells_foldl, ite_self])))
theorem State.sliceReset_cells (s : State) (x1 : Nat) : (State.sliceReset s x1).hbm.cells = s.hbm.cells := by
  unfold State.sliceReset
  simp only [↓State.modSlice_cells, ↓State.dropCoreXfers_cells, ↓cells_ite, ↓hbm_cells_ite, ↓cells_foldl, ite_self]
theorem State.hostReset_cells (s : State) (x1 : Nat) (x2 : Bool) : (State.hostReset s x1 x2).hbm.cells = s.hbm.cells := by
  unfold State.hostReset
  (try simp (disch := (first | (intros; rfl) | (intros; (try simp only [↓State.dropFetches_cells, ↓State.sliceReset_cells, ↓State.updateService_cells, ↓State.logAll_cells, ↓State.setFld_cells, ↓State.xcorReturn_cells, ↓State.holdPosting_cells, ↓State.showKept_cells, ↓State.dropGranules_cells, ↓State.updatePins_cells, ↓State.noteReset_cells, ↓State.maskRegs_cells, ↓State.endJobs_cells, ↓cells_ite, ↓hbm_cells_ite, ↓cells_foldl, ite_self]) <;> repeat' (split <;> (try rfl) <;> (try simp only [↓State.dropFetches_cells, ↓State.sliceReset_cells, ↓State.updateService_cells, ↓State.logAll_cells, ↓State.setFld_cells, ↓State.xcorReturn_cells, ↓State.holdPosting_cells, ↓State.showKept_cells, ↓State.dropGranules_cells, ↓State.updatePins_cells, ↓State.noteReset_cells, ↓State.maskRegs_cells, ↓State.endJobs_cells, ↓cells_ite, ↓hbm_cells_ite, ↓cells_foldl, ite_self]))))) only [↓State.dropFetches_cells, ↓State.sliceReset_cells, ↓State.updateService_cells, ↓State.logAll_cells, ↓State.setFld_cells, ↓State.xcorReturn_cells, ↓State.holdPosting_cells, ↓State.showKept_cells, ↓State.dropGranules_cells, ↓State.updatePins_cells, ↓State.noteReset_cells, ↓State.maskRegs_cells, ↓State.endJobs_cells, ↓cells_ite, ↓hbm_cells_ite, ↓cells_foldl, ite_self]) <;> (repeat' (split <;> (try simp (disch := (first | (intros; rfl) | (intros; (try simp only [↓State.dropFetches_cells, ↓State.sliceReset_cells, ↓State.updateService_cells, ↓State.logAll_cells, ↓State.setFld_cells, ↓State.xcorReturn_cells, ↓State.holdPosting_cells, ↓State.showKept_cells, ↓State.dropGranules_cells, ↓State.updatePins_cells, ↓State.noteReset_cells, ↓State.maskRegs_cells, ↓State.endJobs_cells, ↓cells_ite, ↓hbm_cells_ite, ↓cells_foldl, ite_self]) <;> repeat' (split <;> (try rfl) <;> (try simp only [↓State.dropFetches_cells, ↓State.sliceReset_cells, ↓State.updateService_cells, ↓State.logAll_cells, ↓State.setFld_cells, ↓State.xcorReturn_cells, ↓State.holdPosting_cells, ↓State.showKept_cells, ↓State.dropGranules_cells, ↓State.updatePins_cells, ↓State.noteReset_cells, ↓State.maskRegs_cells, ↓State.endJobs_cells, ↓cells_ite, ↓hbm_cells_ite, ↓cells_foldl, ite_self]))))) only [↓State.dropFetches_cells, ↓State.sliceReset_cells, ↓State.updateService_cells, ↓State.logAll_cells, ↓State.setFld_cells, ↓State.xcorReturn_cells, ↓State.holdPosting_cells, ↓State.showKept_cells, ↓State.dropGranules_cells, ↓State.updatePins_cells, ↓State.noteReset_cells, ↓State.maskRegs_cells, ↓State.endJobs_cells, ↓cells_ite, ↓hbm_cells_ite, ↓cells_foldl, ite_self])))
theorem State.slicesReset_cells (s : State) (x1 : Nat) : (State.slicesReset s x1).hbm.cells = s.hbm.cells := by
  unfold State.slicesReset
  (try simp (disch := (first | (intros; rfl) | (intros; (try simp only [↓State.sliceReset_cells, ↓State.setFld_cells, ↓State.raise_cells, ↓State.updatePins_cells, ↓State.maskRegs_cells, ↓State.endJobs_cells, ↓cells_ite, ↓hbm_cells_ite, ↓cells_foldl, ite_self]) <;> repeat' (split <;> (try rfl) <;> (try simp only [↓State.sliceReset_cells, ↓State.setFld_cells, ↓State.raise_cells, ↓State.updatePins_cells, ↓State.maskRegs_cells, ↓State.endJobs_cells, ↓cells_ite, ↓hbm_cells_ite, ↓cells_foldl, ite_self]))))) only [↓State.sliceReset_cells, ↓State.setFld_cells, ↓State.raise_cells, ↓State.updatePins_cells, ↓State.maskRegs_cells, ↓State.endJobs_cells, ↓cells_ite, ↓hbm_cells_ite, ↓cells_foldl, ite_self]) <;> (repeat' (split <;> (try simp (disch := (first | (intros; rfl) | (intros; (try simp only [↓State.sliceReset_cells, ↓State.setFld_cells, ↓State.raise_cells, ↓State.updatePins_cells, ↓State.maskRegs_cells, ↓State.endJobs_cells, ↓cells_ite, ↓hbm_cells_ite, ↓cells_foldl, ite_self]) <;> repeat' (split <;> (try rfl) <;> (try simp only [↓State.sliceReset_cells, ↓State.setFld_cells, ↓State.raise_cells, ↓State.updatePins_cells, ↓State.maskRegs_cells, ↓State.endJobs_cells, ↓cells_ite, ↓hbm_cells_ite, ↓cells_foldl, ite_self]))))) only [↓State.sliceReset_cells, ↓State.setFld_cells, ↓State.raise_cells, ↓State.updatePins_cells, ↓State.maskRegs_cells, ↓State.endJobs_cells, ↓cells_ite, ↓hbm_cells_ite, ↓cells_foldl, ite_self])))
theorem State.softReset_cells (s : State) : (State.softReset s).hbm.cells = s.hbm.cells := by
  unfold State.softReset
  (try simp (disch := (first | (intros; rfl) | (intros; (try simp only [↓State.hostReset_cells, ↓cells_ite, ↓hbm_cells_ite, ↓cells_foldl, ite_self]) <;> repeat' (split <;> (try rfl) <;> (try simp only [↓State.hostReset_cells, ↓cells_ite, ↓hbm_cells_ite, ↓cells_foldl, ite_self]))))) only [↓State.hostReset_cells, ↓cells_ite, ↓hbm_cells_ite, ↓cells_foldl, ite_self]) <;> (repeat' (split <;> (try simp (disch := (first | (intros; rfl) | (intros; (try simp only [↓State.hostReset_cells, ↓cells_ite, ↓hbm_cells_ite, ↓cells_foldl, ite_self]) <;> repeat' (split <;> (try rfl) <;> (try simp only [↓State.hostReset_cells, ↓cells_ite, ↓hbm_cells_ite, ↓cells_foldl, ite_self]))))) only [↓State.hostReset_cells, ↓cells_ite, ↓hbm_cells_ite, ↓cells_foldl, ite_self])))
theorem State.pfailFall_cells (s : State) : (State.pfailFall s).hbm.cells = s.hbm.cells := by
  unfold State.pfailFall
  (try simp (disch := (first | (intros; rfl) | (intros; (try simp only [↓State.setFld_cells, ↓State.progress_cells, ↓State.count_cells, ↓State.jrec_cells, ↓cells_ite, ↓hbm_cells_ite, ↓cells_foldl, ite_self]) <;> repeat' (split <;> (try rfl) <;> (try simp only [↓State.setFld_cells, ↓State.progress_cells, ↓State.count_cells, ↓State.jrec_cells, ↓cells_ite, ↓hbm_cells_ite, ↓cells_foldl, ite_self]))))) only [↓State.setFld_cells, ↓State.progress_cells, ↓State.count_cells, ↓State.jrec_cells, ↓cells_ite, ↓hbm_cells_ite, ↓cells_foldl, ite_self]) <;> (repeat' (split <;> (try simp (disch := (first | (intros; rfl) | (intros; (try simp only [↓State.setFld_cells, ↓State.progress_cells, ↓State.count_cells, ↓State.jrec_cells, ↓cells_ite, ↓hbm_cells_ite, ↓cells_foldl, ite_self]) <;> repeat' (split <;> (try rfl) <;> (try simp only [↓State.setFld_cells, ↓State.progress_cells, ↓State.count_cells, ↓State.jrec_cells, ↓cells_ite, ↓hbm_cells_ite, ↓cells_foldl, ite_self]))))) only [↓State.setFld_cells, ↓State.progress_cells, ↓State.count_cells, ↓State.jrec_cells, ↓cells_ite, ↓hbm_cells_ite, ↓cells_foldl, ite_self])))
theorem State.pauseHost_cells (s : State) (x1 : Nat) (x2 : Nat) : (State.pauseHost s x1 x2).hbm.cells = s.hbm.cells := by
  unfold State.pauseHost
  (try simp (disch := (first | (intros; rfl) | (intros; (try simp only [↓State.setFld_cells, ↓cells_ite, ↓hbm_cells_ite, ↓cells_foldl, ite_self]) <;> repeat' (split <;> (try rfl) <;> (try simp only [↓State.setFld_cells, ↓cells_ite, ↓hbm_cells_ite, ↓cells_foldl, ite_self]))))) only [↓State.setFld_cells, ↓cells_ite, ↓hbm_cells_ite, ↓cells_foldl, ite_self]) <;> (repeat' (split <;> (try simp (disch := (first | (intros; rfl) | (intros; (try simp only [↓State.setFld_cells, ↓cells_ite, ↓hbm_cells_ite, ↓cells_foldl, ite_self]) <;> repeat' (split <;> (try rfl) <;> (try simp only [↓State.setFld_cells, ↓cells_ite, ↓hbm_cells_ite, ↓cells_foldl, ite_self]))))) only [↓State.setFld_cells, ↓cells_ite, ↓hbm_cells_ite, ↓cells_foldl, ite_self])))
theorem State.hostDown_cells (s : State) (x1 : Nat) : (State.hostDown s x1).hbm.cells = s.hbm.cells := by
  unfold State.hostDown
  simp only [↓State.pauseHost_cells, ↓State.setFld_cells, ↓State.updateHeld_cells, ↓State.linkEv_cells, ↓cells_ite, ↓hbm_cells_ite, ↓cells_foldl, ite_self]
theorem State.closeStanding_cells (s : State) (x1 : Job) : (State.closeStanding s x1).hbm.cells = s.hbm.cells := by
  unfold State.closeStanding
  (try simp (disch := (first | (intros; rfl) | (intros; (try simp only [↓State.endStream_cells, ↓State.coreSettle_cells, ↓State.modCore_cells, ↓State.complete_cells, ↓State.updateFreezeRegs_cells, ↓State.dropArms_cells, ↓State.recFinish_cells, ↓cells_ite, ↓hbm_cells_ite, ↓cells_foldl, ite_self]) <;> repeat' (split <;> (try rfl) <;> (try simp only [↓State.endStream_cells, ↓State.coreSettle_cells, ↓State.modCore_cells, ↓State.complete_cells, ↓State.updateFreezeRegs_cells, ↓State.dropArms_cells, ↓State.recFinish_cells, ↓cells_ite, ↓hbm_cells_ite, ↓cells_foldl, ite_self]))))) only [↓State.endStream_cells, ↓State.coreSettle_cells, ↓State.modCore_cells, ↓State.complete_cells, ↓State.updateFreezeRegs_cells, ↓State.dropArms_cells, ↓State.recFinish_cells, ↓cells_ite, ↓hbm_cells_ite, ↓cells_foldl, ite_self]) <;> (repeat' (split <;> (try simp (disch := (first | (intros; rfl) | (intros; (try simp only [↓State.endStream_cells, ↓State.coreSettle_cells, ↓State.modCore_cells, ↓State.complete_cells, ↓State.updateFreezeRegs_cells, ↓State.dropArms_cells, ↓State.recFinish_cells, ↓cells_ite, ↓hbm_cells_ite, ↓cells_foldl, ite_self]) <;> repeat' (split <;> (try rfl) <;> (try simp only [↓State.endStream_cells, ↓State.coreSettle_cells, ↓State.modCore_cells, ↓State.complete_cells, ↓State.updateFreezeRegs_cells, ↓State.dropArms_cells, ↓State.recFinish_cells, ↓cells_ite, ↓hbm_cells_ite, ↓cells_foldl, ite_self]))))) only [↓State.endStream_cells, ↓State.coreSettle_cells, ↓State.modCore_cells, ↓State.complete_cells, ↓State.updateFreezeRegs_cells, ↓State.dropArms_cells, ↓State.recFinish_cells, ↓cells_ite, ↓hbm_cells_ite, ↓cells_foldl, ite_self])))
theorem State.settleQuiesces_cells (s : State) : (State.settleQuiesces s).hbm.cells = s.hbm.cells := by
  unfold State.settleQuiesces
  (try simp (disch := (first | (intros; rfl) | (intros; (try simp only [↓State.complete_cells, ↓cells_ite, ↓hbm_cells_ite, ↓cells_foldl, ite_self]) <;> repeat' (split <;> (try rfl) <;> (try simp only [↓State.complete_cells, ↓cells_ite, ↓hbm_cells_ite, ↓cells_foldl, ite_self]))))) only [↓State.complete_cells, ↓cells_ite, ↓hbm_cells_ite, ↓cells_foldl, ite_self]) <;> (repeat' (split <;> (try simp (disch := (first | (intros; rfl) | (intros; (try simp only [↓State.complete_cells, ↓cells_ite, ↓hbm_cells_ite, ↓cells_foldl, ite_self]) <;> repeat' (split <;> (try rfl) <;> (try simp only [↓State.complete_cells, ↓cells_ite, ↓hbm_cells_ite, ↓cells_foldl, ite_self]))))) only [↓State.complete_cells, ↓cells_ite, ↓hbm_cells_ite, ↓cells_foldl, ite_self])))
theorem quiesceApply_cells (s : State) (x1 : Nat) (x2 : Desc) (x3 : Nat) : (quiesceApply s x1 x2 x3).hbm.cells = s.hbm.cells := by
  unfold quiesceApply
  (try simp (disch := (first | (intros; rfl) | (intros; (try simp only [↓State.complete_cells, ↓State.slicesReset_cells, ↓State.closeStanding_cells, ↓State.settleQuiesces_cells, ↓State.softReset_cells, ↓cells_ite, ↓hbm_cells_ite, ↓cells_foldl, ite_self]) <;> repeat' (split <;> (try rfl) <;> (try simp only [↓State.complete_cells, ↓State.slicesReset_cells, ↓State.closeStanding_cells, ↓State.settleQuiesces_cells, ↓State.softReset_cells, ↓cells_ite, ↓hbm_cells_ite, ↓cells_foldl, ite_self]))))) only [↓State.complete_cells, ↓State.slicesReset_cells, ↓State.closeStanding_cells, ↓State.settleQuiesces_cells, ↓State.softReset_cells, ↓cells_ite, ↓hbm_cells_ite, ↓cells_foldl, ite_self]) <;> (repeat' (split <;> (try simp (disch := (first | (intros; rfl) | (intros; (try simp only [↓State.complete_cells, ↓State.slicesReset_cells, ↓State.closeStanding_cells, ↓State.settleQuiesces_cells, ↓State.softReset_cells, ↓cells_ite, ↓hbm_cells_ite, ↓cells_foldl, ite_self]) <;> repeat' (split <;> (try rfl) <;> (try simp only [↓State.complete_cells, ↓State.slicesReset_cells, ↓State.closeStanding_cells, ↓State.settleQuiesces_cells, ↓State.softReset_cells, ↓cells_ite, ↓hbm_cells_ite, ↓cells_foldl, ite_self]))))) only [↓State.complete_cells, ↓State.slicesReset_cells, ↓State.closeStanding_cells, ↓State.settleQuiesces_cells, ↓State.softReset_cells, ↓cells_ite, ↓hbm_cells_ite, ↓cells_foldl, ite_self])))
theorem shedApply_cells (s : State) (x1 : Nat) (x2 : Desc) (x3 : Nat) : (shedApply s x1 x2 x3).hbm.cells = s.hbm.cells := by
  unfold shedApply
  (try simp (disch := (first | (intros; rfl) | (intros; (try simp only [↓State.complete_cells, ↓State.modJob_cells, ↓cells_ite, ↓hbm_cells_ite, ↓cells_foldl, ite_self]) <;> repeat' (split <;> (try rfl) <;> (try simp only [↓State.complete_cells, ↓State.modJob_cells, ↓cells_ite, ↓hbm_cells_ite, ↓cells_foldl, ite_self]))))) only [↓State.complete_cells, ↓State.modJob_cells, ↓cells_ite, ↓hbm_cells_ite, ↓cells_foldl, ite_self]) <;> (repeat' (split <;> (try simp (disch := (first | (intros; rfl) | (intros; (try simp only [↓State.complete_cells, ↓State.modJob_cells, ↓cells_ite, ↓hbm_cells_ite, ↓cells_foldl, ite_self]) <;> repeat' (split <;> (try rfl) <;> (try simp only [↓State.complete_cells, ↓State.modJob_cells, ↓cells_ite, ↓hbm_cells_ite, ↓cells_foldl, ite_self]))))) only [↓State.complete_cells, ↓State.modJob_cells, ↓cells_ite, ↓hbm_cells_ite, ↓cells_foldl, ite_self])))
theorem journalApply_cells (s : State) (x1 : Nat) (x2 : Desc) (x3 : Nat) : (journalApply s x1 x2 x3).hbm.cells = s.hbm.cells := by
  unfold journalApply
  simp only [↓State.hostIo_cells, ↓State.complete_cells, ↓State.useFrees_cells, ↓cells_ite, ↓hbm_cells_ite, ↓cells_foldl, ite_self]
theorem State.fetched_cells (s : State) (x1 : Nat) : (State.fetched s x1).hbm.cells = s.hbm.cells := by
  unfold State.fetched
  simp only [↓State.setFld_cells, ↓cells_ite, ↓hbm_cells_ite, ↓cells_foldl, ite_self]
theorem State.refuse_cells (s : State) (x1 : Desc) (x2 : Refuse) (x3 : Bool) : (State.refuse s x1 x2 x3).hbm.cells = s.hbm.cells := by
  unfold State.refuse
  simp only [↓State.incWrap_cells, ↓State.setFld_cells, ↓State.count_cells, ↓State.postEntry_cells, ↓State.jrec_cells, ↓cells_ite, ↓hbm_cells_ite, ↓cells_foldl, ite_self]
theorem State.dropFetch_cells (s : State) (x1 : Nat) : (State.dropFetch s x1).hbm.cells = s.hbm.cells := by
  unfold State.dropFetch
  simp only [↓State.setFld_cells, ↓cells_ite, ↓hbm_cells_ite, ↓cells_foldl, ite_self]
theorem State.fetchFailed_cells (s : State) (x1 : Nat) : (State.fetchFailed s x1).hbm.cells = s.hbm.cells := by
  unfold State.fetchFailed
  simp only [↓State.setFld_cells, ↓cells_ite, ↓hbm_cells_ite, ↓cells_foldl, ite_self]
theorem State.dieFault_cells (s : State) (x1 : Nat) (x2 : Nat) : (State.dieFault s x1 x2).hbm.cells = s.hbm.cells := by
  unfold State.dieFault
  (try simp (disch := (first | (intros; rfl) | (intros; (try simp only [↓State.fault_cells, ↓State.modSlot_cells, ↓cells_ite, ↓hbm_cells_ite, ↓cells_foldl, ite_self]) <;> repeat' (split <;> (try rfl) <;> (try simp only [↓State.fault_cells, ↓State.modSlot_cells, ↓cells_ite, ↓hbm_cells_ite, ↓cells_foldl, ite_self]))))) only [↓State.fault_cells, ↓State.modSlot_cells, ↓cells_ite, ↓hbm_cells_ite, ↓cells_foldl, ite_self]) <;> (repeat' (split <;> (try simp (disch := (first | (intros; rfl) | (intros; (try simp only [↓State.fault_cells, ↓State.modSlot_cells, ↓cells_ite, ↓hbm_cells_ite, ↓cells_foldl, ite_self]) <;> repeat' (split <;> (try rfl) <;> (try simp only [↓State.fault_cells, ↓State.modSlot_cells, ↓cells_ite, ↓hbm_cells_ite, ↓cells_foldl, ite_self]))))) only [↓State.fault_cells, ↓State.modSlot_cells, ↓cells_ite, ↓hbm_cells_ite, ↓cells_foldl, ite_self])))
theorem State.converterTrip_cells (s : State) (x1 : Nat) : (State.converterTrip s x1).hbm.cells = s.hbm.cells := by
  unfold State.converterTrip
  (try simp (disch := (first | (intros; rfl) | (intros; (try simp only [↓State.modDue_cells, ↓State.dieFault_cells, ↓State.setRun_cells, ↓State.endCover_cells, ↓cells_ite, ↓hbm_cells_ite, ↓cells_foldl, ite_self]) <;> repeat' (split <;> (try rfl) <;> (try simp only [↓State.modDue_cells, ↓State.dieFault_cells, ↓State.setRun_cells, ↓State.endCover_cells, ↓cells_ite, ↓hbm_cells_ite, ↓cells_foldl, ite_self]))))) only [↓State.modDue_cells, ↓State.dieFault_cells, ↓State.setRun_cells, ↓State.endCover_cells, ↓cells_ite, ↓hbm_cells_ite, ↓cells_foldl, ite_self]) <;> (repeat' (split <;> (try simp (disch := (first | (intros; rfl) | (intros; (try simp only [↓State.modDue_cells, ↓State.dieFault_cells, ↓State.setRun_cells, ↓State.endCover_cells, ↓cells_ite, ↓hbm_cells_ite, ↓cells_foldl, ite_self]) <;> repeat' (split <;> (try rfl) <;> (try simp only [↓State.modDue_cells, ↓State.dieFault_cells, ↓State.setRun_cells, ↓State.endCover_cells, ↓cells_ite, ↓hbm_cells_ite, ↓cells_foldl, ite_self]))))) only [↓State.modDue_cells, ↓State.dieFault_cells, ↓State.setRun_cells, ↓State.endCover_cells, ↓cells_ite, ↓hbm_cells_ite, ↓cells_foldl, ite_self])))
end Sys2Proof.Machine
end

