-- ==== Sys2Proof/Laws/State.lean ====
section
/-! SUPPORT. What the small updates of the state leave unchanged: one lemma for each field and update. -/

namespace Sys2Proof.Machine

/-! ### setReg -/

@[simp] theorem State.setReg_pending (s : State) (a : Nat) (v : Word) : (s.setReg a v).pending = s.pending := rfl
@[simp] theorem State.setReg_force (s : State) (a : Nat) (v : Word) : (s.setReg a v).force = s.force := rfl
@[simp] theorem State.setReg_rlLatch (s : State) (a : Nat) (v : Word) : (s.setReg a v).rlLatch = s.rlLatch := rfl
@[simp] theorem State.setReg_rlPend (s : State) (a : Nat) (v : Word) : (s.setReg a v).rlPend = s.rlPend := rfl
@[simp] theorem State.setReg_samp (s : State) (a : Nat) (v : Word) : (s.setReg a v).samp = s.samp := rfl
@[simp] theorem State.setReg_freeCtr (s : State) (a : Nat) (v : Word) : (s.setReg a v).freeCtr = s.freeCtr := rfl
@[simp] theorem State.setReg_out (s : State) (a : Nat) (v : Word) : (s.setReg a v).out = s.out := rfl
@[simp] theorem State.setReg_jobs (s : State) (a : Nat) (v : Word) : (s.setReg a v).jobs = s.jobs := rfl
@[simp] theorem State.setReg_nextJob (s : State) (a : Nat) (v : Word) : (s.setReg a v).nextJob = s.nextJob := rfl
@[simp] theorem State.setReg_evq (s : State) (a : Nat) (v : Word) : (s.setReg a v).evq = s.evq := rfl
@[simp] theorem State.setReg_evlog (s : State) (a : Nat) (v : Word) : (s.setReg a v).evlog = s.evlog := rfl
@[simp] theorem State.setReg_evPhase (s : State) (a : Nat) (v : Word) : (s.setReg a v).evPhase = s.evPhase := rfl
@[simp] theorem State.setReg_journal (s : State) (a : Nat) (v : Word) : (s.setReg a v).journal = s.journal := rfl
@[simp] theorem State.setReg_faults (s : State) (a : Nat) (v : Word) : (s.setReg a v).faults = s.faults := rfl
@[simp] theorem State.setReg_parked (s : State) (a : Nat) (v : Word) : (s.setReg a v).parked = s.parked := rfl
@[simp] theorem State.setReg_everUsed (s : State) (a : Nat) (v : Word) : (s.setReg a v).everUsed = s.everUsed := rfl
@[simp] theorem State.setReg_cqs (s : State) (a : Nat) (v : Word) : (s.setReg a v).cqs = s.cqs := rfl
@[simp] theorem State.setReg_msixBusy (s : State) (a : Nat) (v : Word) : (s.setReg a v).msixBusy = s.msixBusy := rfl
@[simp] theorem State.setReg_msixMerged (s : State) (a : Nat) (v : Word) : (s.setReg a v).msixMerged = s.msixMerged := rfl
@[simp] theorem State.setReg_msixMasked (s : State) (a : Nat) (v : Word) : (s.setReg a v).msixMasked = s.msixMasked := rfl
@[simp] theorem State.setReg_msixPend (s : State) (a : Nat) (v : Word) : (s.setReg a v).msixPend = s.msixPend := rfl
@[simp] theorem State.setReg_fetchFail (s : State) (a : Nat) (v : Word) : (s.setReg a v).fetchFail = s.fetchFail := rfl
@[simp] theorem State.setReg_lastRing (s : State) (a : Nat) (v : Word) : (s.setReg a v).lastRing = s.lastRing := rfl
@[simp] theorem State.setReg_recent (s : State) (a : Nat) (v : Word) : (s.setReg a v).recent = s.recent := rfl
@[simp] theorem State.setReg_resumeHold (s : State) (a : Nat) (v : Word) : (s.setReg a v).resumeHold = s.resumeHold := rfl
@[simp] theorem State.setReg_resumeFlags (s : State) (a : Nat) (v : Word) : (s.setReg a v).resumeFlags = s.resumeFlags := rfl
@[simp] theorem State.setReg_resumeFunc (s : State) (a : Nat) (v : Word) : (s.setReg a v).resumeFunc = s.resumeFunc := rfl
@[simp] theorem State.setReg_oldEpoch (s : State) (a : Nat) (v : Word) : (s.setReg a v).oldEpoch = s.oldEpoch := rfl
@[simp] theorem State.setReg_oldSt (s : State) (a : Nat) (v : Word) : (s.setReg a v).oldSt = s.oldSt := rfl
@[simp] theorem State.setReg_oldTod (s : State) (a : Nat) (v : Word) : (s.setReg a v).oldTod = s.oldTod := rfl
@[simp] theorem State.setReg_jseqLast (s : State) (a : Nat) (v : Word) : (s.setReg a v).jseqLast = s.jseqLast := rfl
@[simp] theorem State.setReg_unknown (s : State) (a : Nat) (v : Word) : (s.setReg a v).unknown = s.unknown := rfl
@[simp] theorem State.setReg_abandoned (s : State) (a : Nat) (v : Word) : (s.setReg a v).abandoned = s.abandoned := rfl
@[simp] theorem State.setReg_capOut (s : State) (a : Nat) (v : Word) : (s.setReg a v).capOut = s.capOut := rfl
@[simp] theorem State.setReg_ctlPair (s : State) (a : Nat) (v : Word) : (s.setReg a v).ctlPair = s.ctlPair := rfl
@[simp] theorem State.setReg_ctlFailed (s : State) (a : Nat) (v : Word) : (s.setReg a v).ctlFailed = s.ctlFailed := rfl
@[simp] theorem State.setReg_straps (s : State) (a : Nat) (v : Word) : (s.setReg a v).straps = s.straps := rfl
@[simp] theorem State.setReg_pins (s : State) (a : Nat) (v : Word) : (s.setReg a v).pins = s.pins := rfl
@[simp] theorem State.setReg_pulses (s : State) (a : Nat) (v : Word) : (s.setReg a v).pulses = s.pulses := rfl
@[simp] theorem State.setReg_hbm (s : State) (a : Nat) (v : Word) : (s.setReg a v).hbm = s.hbm := rfl
@[simp] theorem State.setReg_clk (s : State) (a : Nat) (v : Word) : (s.setReg a v).clk = s.clk := rfl
@[simp] theorem State.setReg_slots (s : State) (a : Nat) (v : Word) : (s.setReg a v).slots = s.slots := rfl
@[simp] theorem State.setReg_attens (s : State) (a : Nat) (v : Word) : (s.setReg a v).attens = s.attens := rfl
@[simp] theorem State.setReg_cal (s : State) (a : Nat) (v : Word) : (s.setReg a v).cal = s.cal := rfl
@[simp] theorem State.setReg_slices (s : State) (a : Nat) (v : Word) : (s.setReg a v).slices = s.slices := rfl
@[simp] theorem State.setReg_sliceFailed (s : State) (a : Nat) (v : Word) : (s.setReg a v).sliceFailed = s.sliceFailed := rfl
@[simp] theorem State.setReg_trigIn (s : State) (a : Nat) (v : Word) : (s.setReg a v).trigIn = s.trigIn := rfl
@[simp] theorem State.setReg_counts (s : State) (a : Nat) (v : Word) : (s.setReg a v).counts = s.counts := rfl
@[simp] theorem State.setReg_snapped (s : State) (a : Nat) (v : Word) : (s.setReg a v).snapped = s.snapped := rfl
@[simp] theorem State.setReg_snaps (s : State) (a : Nat) (v : Word) : (s.setReg a v).snaps = s.snaps := rfl
@[simp] theorem State.setReg_smp (s : State) (a : Nat) (v : Word) : (s.setReg a v).smp = s.smp := rfl
@[simp] theorem State.setReg_tuners (s : State) (a : Nat) (v : Word) : (s.setReg a v).tuners = s.tuners := rfl
@[simp] theorem State.setReg_zooms (s : State) (a : Nat) (v : Word) : (s.setReg a v).zooms = s.zooms := rfl
@[simp] theorem State.setReg_streams (s : State) (a : Nat) (v : Word) : (s.setReg a v).streams = s.streams := rfl
@[simp] theorem State.setReg_xcor (s : State) (a : Nat) (v : Word) : (s.setReg a v).xcor = s.xcor := rfl
@[simp] theorem State.setReg_cores (s : State) (a : Nat) (v : Word) : (s.setReg a v).cores = s.cores := rfl
@[simp] theorem State.setReg_chans (s : State) (a : Nat) (v : Word) : (s.setReg a v).chans = s.chans := rfl
@[simp] theorem State.setReg_extracts (s : State) (a : Nat) (v : Word) : (s.setReg a v).extracts = s.extracts := rfl
@[simp] theorem State.setReg_recs (s : State) (a : Nat) (v : Word) : (s.setReg a v).recs = s.recs := rfl
@[simp] theorem State.setReg_sec (s : State) (a : Nat) (v : Word) : (s.setReg a v).sec = s.sec := rfl
@[simp] theorem State.setReg_vid (s : State) (a : Nat) (v : Word) : (s.setReg a v).vid = s.vid := rfl
@[simp] theorem State.setReg_hk (s : State) (a : Nat) (v : Word) : (s.setReg a v).hk = s.hk := rfl
@[simp] theorem State.setReg_bists (s : State) (a : Nat) (v : Word) : (s.setReg a v).bists = s.bists := rfl
@[simp] theorem State.setReg_rot (s : State) (a : Nat) (v : Word) : (s.setReg a v).rot = s.rot := rfl
@[simp] theorem State.setReg_rotNext (s : State) (a : Nat) (v : Word) : (s.setReg a v).rotNext = s.rotNext := rfl
@[simp] theorem State.setReg_sliceBack (s : State) (a : Nat) (v : Word) : (s.setReg a v).sliceBack = s.sliceBack := rfl
@[simp] theorem State.setReg_quiesces (s : State) (a : Nat) (v : Word) : (s.setReg a v).quiesces = s.quiesces := rfl
@[simp] theorem State.setReg_linkLost (s : State) (a : Nat) (v : Word) : (s.setReg a v).linkLost = s.linkLost := rfl
@[simp] theorem State.setReg_intr (s : State) (a : Nat) (v : Word) : (s.setReg a v).intr = s.intr := rfl
@[simp] theorem State.setReg_jlast (s : State) (a : Nat) (v : Word) : (s.setReg a v).jlast = s.jlast := rfl
@[simp] theorem State.setReg_inReset (s : State) (a : Nat) (v : Word) : (s.setReg a v).inReset = s.inReset := rfl
@[simp] theorem State.setReg_rails (s : State) (a : Nat) (v : Word) : (s.setReg a v).rails = s.rails := rfl
@[simp] theorem State.setReg_bootTests (s : State) (a : Nat) (v : Word) : (s.setReg a v).bootTests = s.bootTests := rfl
@[simp] theorem State.setReg_booted (s : State) (a : Nat) (v : Word) : (s.setReg a v).booted = s.booted := rfl
@[simp] theorem State.setReg_resetDue (s : State) (a : Nat) (v : Word) : (s.setReg a v).resetDue = s.resetDue := rfl
@[simp] theorem State.setReg_sram (s : State) (a : Nat) (v : Word) : (s.setReg a v).sram = s.sram := rfl
@[simp] theorem State.setReg_aux (s : State) (a : Nat) (v : Word) : (s.setReg a v).aux = s.aux := rfl

/-! ### setForceReg -/

@[simp] theorem State.setForceReg_pending (s : State) (a : Nat) (v : Word) : (s.setForceReg a v).pending = s.pending := rfl
@[simp] theorem State.setForceReg_regs (s : State) (a : Nat) (v : Word) : (s.setForceReg a v).regs = s.regs := rfl
@[simp] theorem State.setForceReg_rlLatch (s : State) (a : Nat) (v : Word) : (s.setForceReg a v).rlLatch = s.rlLatch := rfl
@[simp] theorem State.setForceReg_rlPend (s : State) (a : Nat) (v : Word) : (s.setForceReg a v).rlPend = s.rlPend := rfl
@[simp] theorem State.setForceReg_samp (s : State) (a : Nat) (v : Word) : (s.setForceReg a v).samp = s.samp := rfl
@[simp] theorem State.setForceReg_freeCtr (s : State) (a : Nat) (v : Word) : (s.setForceReg a v).freeCtr = s.freeCtr := rfl
@[simp] theorem State.setForceReg_out (s : State) (a : Nat) (v : Word) : (s.setForceReg a v).out = s.out := rfl
@[simp] theorem State.setForceReg_jobs (s : State) (a : Nat) (v : Word) : (s.setForceReg a v).jobs = s.jobs := rfl
@[simp] theorem State.setForceReg_nextJob (s : State) (a : Nat) (v : Word) : (s.setForceReg a v).nextJob = s.nextJob := rfl
@[simp] theorem State.setForceReg_evq (s : State) (a : Nat) (v : Word) : (s.setForceReg a v).evq = s.evq := rfl
@[simp] theorem State.setForceReg_evlog (s : State) (a : Nat) (v : Word) : (s.setForceReg a v).evlog = s.evlog := rfl
@[simp] theorem State.setForceReg_evPhase (s : State) (a : Nat) (v : Word) : (s.setForceReg a v).evPhase = s.evPhase := rfl
@[simp] theorem State.setForceReg_journal (s : State) (a : Nat) (v : Word) : (s.setForceReg a v).journal = s.journal := rfl
@[simp] theorem State.setForceReg_faults (s : State) (a : Nat) (v : Word) : (s.setForceReg a v).faults = s.faults := rfl
@[simp] theorem State.setForceReg_parked (s : State) (a : Nat) (v : Word) : (s.setForceReg a v).parked = s.parked := rfl
@[simp] theorem State.setForceReg_everUsed (s : State) (a : Nat) (v : Word) : (s.setForceReg a v).everUsed = s.everUsed := rfl
@[simp] theorem State.setForceReg_cqs (s : State) (a : Nat) (v : Word) : (s.setForceReg a v).cqs = s.cqs := rfl
@[simp] theorem State.setForceReg_msixBusy (s : State) (a : Nat) (v : Word) : (s.setForceReg a v).msixBusy = s.msixBusy := rfl
@[simp] theorem State.setForceReg_msixMerged (s : State) (a : Nat) (v : Word) : (s.setForceReg a v).msixMerged = s.msixMerged := rfl
@[simp] theorem State.setForceReg_msixMasked (s : State) (a : Nat) (v : Word) : (s.setForceReg a v).msixMasked = s.msixMasked := rfl
@[simp] theorem State.setForceReg_msixPend (s : State) (a : Nat) (v : Word) : (s.setForceReg a v).msixPend = s.msixPend := rfl
@[simp] theorem State.setForceReg_fetchFail (s : State) (a : Nat) (v : Word) : (s.setForceReg a v).fetchFail = s.fetchFail := rfl
@[simp] theorem State.setForceReg_lastRing (s : State) (a : Nat) (v : Word) : (s.setForceReg a v).lastRing = s.lastRing := rfl
@[simp] theorem State.setForceReg_recent (s : State) (a : Nat) (v : Word) : (s.setForceReg a v).recent = s.recent := rfl
@[simp] theorem State.setForceReg_resumeHold (s : State) (a : Nat) (v : Word) : (s.setForceReg a v).resumeHold = s.resumeHold := rfl
@[simp] theorem State.setForceReg_resumeFlags (s : State) (a : Nat) (v : Word) : (s.setForceReg a v).resumeFlags = s.resumeFlags := rfl
@[simp] theorem State.setForceReg_resumeFunc (s : State) (a : Nat) (v : Word) : (s.setForceReg a v).resumeFunc = s.resumeFunc := rfl
@[simp] theorem State.setForceReg_oldEpoch (s : State) (a : Nat) (v : Word) : (s.setForceReg a v).oldEpoch = s.oldEpoch := rfl
@[simp] theorem State.setForceReg_oldSt (s : State) (a : Nat) (v : Word) : (s.setForceReg a v).oldSt = s.oldSt := rfl
@[simp] theorem State.setForceReg_oldTod (s : State) (a : Nat) (v : Word) : (s.setForceReg a v).oldTod = s.oldTod := rfl
@[simp] theorem State.setForceReg_jseqLast (s : State) (a : Nat) (v : Word) : (s.setForceReg a v).jseqLast = s.jseqLast := rfl
@[simp] theorem State.setForceReg_unknown (s : State) (a : Nat) (v : Word) : (s.setForceReg a v).unknown = s.unknown := rfl
@[simp] theorem State.setForceReg_abandoned (s : State) (a : Nat) (v : Word) : (s.setForceReg a v).abandoned = s.abandoned := rfl
@[simp] theorem State.setForceReg_capOut (s : State) (a : Nat) (v : Word) : (s.setForceReg a v).capOut = s.capOut := rfl
@[simp] theorem State.setForceReg_ctlPair (s : State) (a : Nat) (v : Word) : (s.setForceReg a v).ctlPair = s.ctlPair := rfl
@[simp] theorem State.setForceReg_ctlFailed (s : State) (a : Nat) (v : Word) : (s.setForceReg a v).ctlFailed = s.ctlFailed := rfl
@[simp] theorem State.setForceReg_straps (s : State) (a : Nat) (v : Word) : (s.setForceReg a v).straps = s.straps := rfl
@[simp] theorem State.setForceReg_pins (s : State) (a : Nat) (v : Word) : (s.setForceReg a v).pins = s.pins := rfl
@[simp] theorem State.setForceReg_pulses (s : State) (a : Nat) (v : Word) : (s.setForceReg a v).pulses = s.pulses := rfl
@[simp] theorem State.setForceReg_hbm (s : State) (a : Nat) (v : Word) : (s.setForceReg a v).hbm = s.hbm := rfl
@[simp] theorem State.setForceReg_clk (s : State) (a : Nat) (v : Word) : (s.setForceReg a v).clk = s.clk := rfl
@[simp] theorem State.setForceReg_slots (s : State) (a : Nat) (v : Word) : (s.setForceReg a v).slots = s.slots := rfl
@[simp] theorem State.setForceReg_attens (s : State) (a : Nat) (v : Word) : (s.setForceReg a v).attens = s.attens := rfl
@[simp] theorem State.setForceReg_cal (s : State) (a : Nat) (v : Word) : (s.setForceReg a v).cal = s.cal := rfl
@[simp] theorem State.setForceReg_slices (s : State) (a : Nat) (v : Word) : (s.setForceReg a v).slices = s.slices := rfl
@[simp] theorem State.setForceReg_sliceFailed (s : State) (a : Nat) (v : Word) : (s.setForceReg a v).sliceFailed = s.sliceFailed := rfl
@[simp] theorem State.setForceReg_trigIn (s : State) (a : Nat) (v : Word) : (s.setForceReg a v).trigIn = s.trigIn := rfl
@[simp] theorem State.setForceReg_counts (s : State) (a : Nat) (v : Word) : (s.setForceReg a v).counts = s.counts := rfl
@[simp] theorem State.setForceReg_snapped (s : State) (a : Nat) (v : Word) : (s.setForceReg a v).snapped = s.snapped := rfl
@[simp] theorem State.setForceReg_snaps (s : State) (a : Nat) (v : Word) : (s.setForceReg a v).snaps = s.snaps := rfl
@[simp] theorem State.setForceReg_smp (s : State) (a : Nat) (v : Word) : (s.setForceReg a v).smp = s.smp := rfl
@[simp] theorem State.setForceReg_tuners (s : State) (a : Nat) (v : Word) : (s.setForceReg a v).tuners = s.tuners := rfl
@[simp] theorem State.setForceReg_zooms (s : State) (a : Nat) (v : Word) : (s.setForceReg a v).zooms = s.zooms := rfl
@[simp] theorem State.setForceReg_streams (s : State) (a : Nat) (v : Word) : (s.setForceReg a v).streams = s.streams := rfl
@[simp] theorem State.setForceReg_xcor (s : State) (a : Nat) (v : Word) : (s.setForceReg a v).xcor = s.xcor := rfl
@[simp] theorem State.setForceReg_cores (s : State) (a : Nat) (v : Word) : (s.setForceReg a v).cores = s.cores := rfl
@[simp] theorem State.setForceReg_chans (s : State) (a : Nat) (v : Word) : (s.setForceReg a v).chans = s.chans := rfl
@[simp] theorem State.setForceReg_extracts (s : State) (a : Nat) (v : Word) : (s.setForceReg a v).extracts = s.extracts := rfl
@[simp] theorem State.setForceReg_recs (s : State) (a : Nat) (v : Word) : (s.setForceReg a v).recs = s.recs := rfl
@[simp] theorem State.setForceReg_sec (s : State) (a : Nat) (v : Word) : (s.setForceReg a v).sec = s.sec := rfl
@[simp] theorem State.setForceReg_vid (s : State) (a : Nat) (v : Word) : (s.setForceReg a v).vid = s.vid := rfl
@[simp] theorem State.setForceReg_hk (s : State) (a : Nat) (v : Word) : (s.setForceReg a v).hk = s.hk := rfl
@[simp] theorem State.setForceReg_bists (s : State) (a : Nat) (v : Word) : (s.setForceReg a v).bists = s.bists := rfl
@[simp] theorem State.setForceReg_rot (s : State) (a : Nat) (v : Word) : (s.setForceReg a v).rot = s.rot := rfl
@[simp] theorem State.setForceReg_rotNext (s : State) (a : Nat) (v : Word) : (s.setForceReg a v).rotNext = s.rotNext := rfl
@[simp] theorem State.setForceReg_sliceBack (s : State) (a : Nat) (v : Word) : (s.setForceReg a v).sliceBack = s.sliceBack := rfl
@[simp] theorem State.setForceReg_quiesces (s : State) (a : Nat) (v : Word) : (s.setForceReg a v).quiesces = s.quiesces := rfl
@[simp] theorem State.setForceReg_linkLost (s : State) (a : Nat) (v : Word) : (s.setForceReg a v).linkLost = s.linkLost := rfl
@[simp] theorem State.setForceReg_intr (s : State) (a : Nat) (v : Word) : (s.setForceReg a v).intr = s.intr := rfl
@[simp] theorem State.setForceReg_jlast (s : State) (a : Nat) (v : Word) : (s.setForceReg a v).jlast = s.jlast := rfl
@[simp] theorem State.setForceReg_inReset (s : State) (a : Nat) (v : Word) : (s.setForceReg a v).inReset = s.inReset := rfl
@[simp] theorem State.setForceReg_rails (s : State) (a : Nat) (v : Word) : (s.setForceReg a v).rails = s.rails := rfl
@[simp] theorem State.setForceReg_bootTests (s : State) (a : Nat) (v : Word) : (s.setForceReg a v).bootTests = s.bootTests := rfl
@[simp] theorem State.setForceReg_booted (s : State) (a : Nat) (v : Word) : (s.setForceReg a v).booted = s.booted := rfl
@[simp] theorem State.setForceReg_resetDue (s : State) (a : Nat) (v : Word) : (s.setForceReg a v).resetDue = s.resetDue := rfl
@[simp] theorem State.setForceReg_sram (s : State) (a : Nat) (v : Word) : (s.setForceReg a v).sram = s.sram := rfl
@[simp] theorem State.setForceReg_aux (s : State) (a : Nat) (v : Word) : (s.setForceReg a v).aux = s.aux := rfl

/-! ### setFld -/

@[simp] theorem State.setFld_pending (s : State) (f : FRef) (v : Nat) : (s.setFld f v).pending = s.pending := by unfold State.setFld; split <;> rfl
@[simp] theorem State.setFld_force (s : State) (f : FRef) (v : Nat) : (s.setFld f v).force = s.force := by unfold State.setFld; split <;> rfl
@[simp] theorem State.setFld_rlLatch (s : State) (f : FRef) (v : Nat) : (s.setFld f v).rlLatch = s.rlLatch := by unfold State.setFld; split <;> rfl
@[simp] theorem State.setFld_rlPend (s : State) (f : FRef) (v : Nat) : (s.setFld f v).rlPend = s.rlPend := by unfold State.setFld; split <;> rfl
@[simp] theorem State.setFld_samp (s : State) (f : FRef) (v : Nat) : (s.setFld f v).samp = s.samp := by unfold State.setFld; split <;> rfl
@[simp] theorem State.setFld_freeCtr (s : State) (f : FRef) (v : Nat) : (s.setFld f v).freeCtr = s.freeCtr := by unfold State.setFld; split <;> rfl
@[simp] theorem State.setFld_out (s : State) (f : FRef) (v : Nat) : (s.setFld f v).out = s.out := by unfold State.setFld; split <;> rfl
@[simp] theorem State.setFld_jobs (s : State) (f : FRef) (v : Nat) : (s.setFld f v).jobs = s.jobs := by unfold State.setFld; split <;> rfl
@[simp] theorem State.setFld_nextJob (s : State) (f : FRef) (v : Nat) : (s.setFld f v).nextJob = s.nextJob := by unfold State.setFld; split <;> rfl
@[simp] theorem State.setFld_evq (s : State) (f : FRef) (v : Nat) : (s.setFld f v).evq = s.evq := by unfold State.setFld; split <;> rfl
@[simp] theorem State.setFld_evlog (s : State) (f : FRef) (v : Nat) : (s.setFld f v).evlog = s.evlog := by unfold State.setFld; split <;> rfl
@[simp] theorem State.setFld_evPhase (s : State) (f : FRef) (v : Nat) : (s.setFld f v).evPhase = s.evPhase := by unfold State.setFld; split <;> rfl
@[simp] theorem State.setFld_journal (s : State) (f : FRef) (v : Nat) : (s.setFld f v).journal = s.journal := by unfold State.setFld; split <;> rfl
@[simp] theorem State.setFld_faults (s : State) (f : FRef) (v : Nat) : (s.setFld f v).faults = s.faults := by unfold State.setFld; split <;> rfl
@[simp] theorem State.setFld_parked (s : State) (f : FRef) (v : Nat) : (s.setFld f v).parked = s.parked := by unfold State.setFld; split <;> rfl
@[simp] theorem State.setFld_everUsed (s : State) (f : FRef) (v : Nat) : (s.setFld f v).everUsed = s.everUsed := by unfold State.setFld; split <;> rfl
@[simp] theorem State.setFld_cqs (s : State) (f : FRef) (v : Nat) : (s.setFld f v).cqs = s.cqs := by unfold State.setFld; split <;> rfl
@[simp] theorem State.setFld_msixBusy (s : State) (f : FRef) (v : Nat) : (s.setFld f v).msixBusy = s.msixBusy := by unfold State.setFld; split <;> rfl
@[simp] theorem State.setFld_msixMerged (s : State) (f : FRef) (v : Nat) : (s.setFld f v).msixMerged = s.msixMerged := by unfold State.setFld; split <;> rfl
@[simp] theorem State.setFld_msixMasked (s : State) (f : FRef) (v : Nat) : (s.setFld f v).msixMasked = s.msixMasked := by unfold State.setFld; split <;> rfl
@[simp] theorem State.setFld_msixPend (s : State) (f : FRef) (v : Nat) : (s.setFld f v).msixPend = s.msixPend := by unfold State.setFld; split <;> rfl
@[simp] theorem State.setFld_fetchFail (s : State) (f : FRef) (v : Nat) : (s.setFld f v).fetchFail = s.fetchFail := by unfold State.setFld; split <;> rfl
@[simp] theorem State.setFld_lastRing (s : State) (f : FRef) (v : Nat) : (s.setFld f v).lastRing = s.lastRing := by unfold State.setFld; split <;> rfl
@[simp] theorem State.setFld_recent (s : State) (f : FRef) (v : Nat) : (s.setFld f v).recent = s.recent := by unfold State.setFld; split <;> rfl
@[simp] theorem State.setFld_resumeHold (s : State) (f : FRef) (v : Nat) : (s.setFld f v).resumeHold = s.resumeHold := by unfold State.setFld; split <;> rfl
@[simp] theorem State.setFld_resumeFlags (s : State) (f : FRef) (v : Nat) : (s.setFld f v).resumeFlags = s.resumeFlags := by unfold State.setFld; split <;> rfl
@[simp] theorem State.setFld_resumeFunc (s : State) (f : FRef) (v : Nat) : (s.setFld f v).resumeFunc = s.resumeFunc := by unfold State.setFld; split <;> rfl
@[simp] theorem State.setFld_oldEpoch (s : State) (f : FRef) (v : Nat) : (s.setFld f v).oldEpoch = s.oldEpoch := by unfold State.setFld; split <;> rfl
@[simp] theorem State.setFld_oldSt (s : State) (f : FRef) (v : Nat) : (s.setFld f v).oldSt = s.oldSt := by unfold State.setFld; split <;> rfl
@[simp] theorem State.setFld_oldTod (s : State) (f : FRef) (v : Nat) : (s.setFld f v).oldTod = s.oldTod := by unfold State.setFld; split <;> rfl
@[simp] theorem State.setFld_jseqLast (s : State) (f : FRef) (v : Nat) : (s.setFld f v).jseqLast = s.jseqLast := by unfold State.setFld; split <;> rfl
@[simp] theorem State.setFld_unknown (s : State) (f : FRef) (v : Nat) : (s.setFld f v).unknown = s.unknown := by unfold State.setFld; split <;> rfl
@[simp] theorem State.setFld_abandoned (s : State) (f : FRef) (v : Nat) : (s.setFld f v).abandoned = s.abandoned := by unfold State.setFld; split <;> rfl
@[simp] theorem State.setFld_capOut (s : State) (f : FRef) (v : Nat) : (s.setFld f v).capOut = s.capOut := by unfold State.setFld; split <;> rfl
@[simp] theorem State.setFld_ctlPair (s : State) (f : FRef) (v : Nat) : (s.setFld f v).ctlPair = s.ctlPair := by unfold State.setFld; split <;> rfl
@[simp] theorem State.setFld_ctlFailed (s : State) (f : FRef) (v : Nat) : (s.setFld f v).ctlFailed = s.ctlFailed := by unfold State.setFld; split <;> rfl
@[simp] theorem State.setFld_straps (s : State) (f : FRef) (v : Nat) : (s.setFld f v).straps = s.straps := by unfold State.setFld; split <;> rfl
@[simp] theorem State.setFld_pins (s : State) (f : FRef) (v : Nat) : (s.setFld f v).pins = s.pins := by unfold State.setFld; split <;> rfl
@[simp] theorem State.setFld_pulses (s : State) (f : FRef) (v : Nat) : (s.setFld f v).pulses = s.pulses := by unfold State.setFld; split <;> rfl
@[simp] theorem State.setFld_hbm (s : State) (f : FRef) (v : Nat) : (s.setFld f v).hbm = s.hbm := by unfold State.setFld; split <;> rfl
@[simp] theorem State.setFld_clk (s : State) (f : FRef) (v : Nat) : (s.setFld f v).clk = s.clk := by unfold State.setFld; split <;> rfl
@[simp] theorem State.setFld_slots (s : State) (f : FRef) (v : Nat) : (s.setFld f v).slots = s.slots := by unfold State.setFld; split <;> rfl
@[simp] theorem State.setFld_attens (s : State) (f : FRef) (v : Nat) : (s.setFld f v).attens = s.attens := by unfold State.setFld; split <;> rfl
@[simp] theorem State.setFld_cal (s : State) (f : FRef) (v : Nat) : (s.setFld f v).cal = s.cal := by unfold State.setFld; split <;> rfl
@[simp] theorem State.setFld_slices (s : State) (f : FRef) (v : Nat) : (s.setFld f v).slices = s.slices := by unfold State.setFld; split <;> rfl
@[simp] theorem State.setFld_sliceFailed (s : State) (f : FRef) (v : Nat) : (s.setFld f v).sliceFailed = s.sliceFailed := by unfold State.setFld; split <;> rfl
@[simp] theorem State.setFld_trigIn (s : State) (f : FRef) (v : Nat) : (s.setFld f v).trigIn = s.trigIn := by unfold State.setFld; split <;> rfl
@[simp] theorem State.setFld_counts (s : State) (f : FRef) (v : Nat) : (s.setFld f v).counts = s.counts := by unfold State.setFld; split <;> rfl
@[simp] theorem State.setFld_snapped (s : State) (f : FRef) (v : Nat) : (s.setFld f v).snapped = s.snapped := by unfold State.setFld; split <;> rfl
@[simp] theorem State.setFld_snaps (s : State) (f : FRef) (v : Nat) : (s.setFld f v).snaps = s.snaps := by unfold State.setFld; split <;> rfl
@[simp] theorem State.setFld_smp (s : State) (f : FRef) (v : Nat) : (s.setFld f v).smp = s.smp := by unfold State.setFld; split <;> rfl
@[simp] theorem State.setFld_tuners (s : State) (f : FRef) (v : Nat) : (s.setFld f v).tuners = s.tuners := by unfold State.setFld; split <;> rfl
@[simp] theorem State.setFld_zooms (s : State) (f : FRef) (v : Nat) : (s.setFld f v).zooms = s.zooms := by unfold State.setFld; split <;> rfl
@[simp] theorem State.setFld_streams (s : State) (f : FRef) (v : Nat) : (s.setFld f v).streams = s.streams := by unfold State.setFld; split <;> rfl
@[simp] theorem State.setFld_xcor (s : State) (f : FRef) (v : Nat) : (s.setFld f v).xcor = s.xcor := by unfold State.setFld; split <;> rfl
@[simp] theorem State.setFld_cores (s : State) (f : FRef) (v : Nat) : (s.setFld f v).cores = s.cores := by unfold State.setFld; split <;> rfl
@[simp] theorem State.setFld_chans (s : State) (f : FRef) (v : Nat) : (s.setFld f v).chans = s.chans := by unfold State.setFld; split <;> rfl
@[simp] theorem State.setFld_extracts (s : State) (f : FRef) (v : Nat) : (s.setFld f v).extracts = s.extracts := by unfold State.setFld; split <;> rfl
@[simp] theorem State.setFld_recs (s : State) (f : FRef) (v : Nat) : (s.setFld f v).recs = s.recs := by unfold State.setFld; split <;> rfl
@[simp] theorem State.setFld_sec (s : State) (f : FRef) (v : Nat) : (s.setFld f v).sec = s.sec := by unfold State.setFld; split <;> rfl
@[simp] theorem State.setFld_vid (s : State) (f : FRef) (v : Nat) : (s.setFld f v).vid = s.vid := by unfold State.setFld; split <;> rfl
@[simp] theorem State.setFld_hk (s : State) (f : FRef) (v : Nat) : (s.setFld f v).hk = s.hk := by unfold State.setFld; split <;> rfl
@[simp] theorem State.setFld_bists (s : State) (f : FRef) (v : Nat) : (s.setFld f v).bists = s.bists := by unfold State.setFld; split <;> rfl
@[simp] theorem State.setFld_rot (s : State) (f : FRef) (v : Nat) : (s.setFld f v).rot = s.rot := by unfold State.setFld; split <;> rfl
@[simp] theorem State.setFld_rotNext (s : State) (f : FRef) (v : Nat) : (s.setFld f v).rotNext = s.rotNext := by unfold State.setFld; split <;> rfl
@[simp] theorem State.setFld_sliceBack (s : State) (f : FRef) (v : Nat) : (s.setFld f v).sliceBack = s.sliceBack := by unfold State.setFld; split <;> rfl
@[simp] theorem State.setFld_quiesces (s : State) (f : FRef) (v : Nat) : (s.setFld f v).quiesces = s.quiesces := by unfold State.setFld; split <;> rfl
@[simp] theorem State.setFld_linkLost (s : State) (f : FRef) (v : Nat) : (s.setFld f v).linkLost = s.linkLost := by unfold State.setFld; split <;> rfl
@[simp] theorem State.setFld_intr (s : State) (f : FRef) (v : Nat) : (s.setFld f v).intr = s.intr := by unfold State.setFld; split <;> rfl
@[simp] theorem State.setFld_jlast (s : State) (f : FRef) (v : Nat) : (s.setFld f v).jlast = s.jlast := by unfold State.setFld; split <;> rfl
@[simp] theorem State.setFld_inReset (s : State) (f : FRef) (v : Nat) : (s.setFld f v).inReset = s.inReset := by unfold State.setFld; split <;> rfl
@[simp] theorem State.setFld_rails (s : State) (f : FRef) (v : Nat) : (s.setFld f v).rails = s.rails := by unfold State.setFld; split <;> rfl
@[simp] theorem State.setFld_bootTests (s : State) (f : FRef) (v : Nat) : (s.setFld f v).bootTests = s.bootTests := by unfold State.setFld; split <;> rfl
@[simp] theorem State.setFld_booted (s : State) (f : FRef) (v : Nat) : (s.setFld f v).booted = s.booted := by unfold State.setFld; split <;> rfl
@[simp] theorem State.setFld_resetDue (s : State) (f : FRef) (v : Nat) : (s.setFld f v).resetDue = s.resetDue := by unfold State.setFld; split <;> rfl
@[simp] theorem State.setFld_sram (s : State) (f : FRef) (v : Nat) : (s.setFld f v).sram = s.sram := by unfold State.setFld; split <;> rfl
@[simp] theorem State.setFld_aux (s : State) (f : FRef) (v : Nat) : (s.setFld f v).aux = s.aux := by unfold State.setFld; split <;> rfl

/-! ### setInf -/

@[simp] theorem State.setInf_pending (s : State) (f : FRef) (v : Nat) : (s.setInf f v).pending = s.pending := by unfold State.setInf; split <;> rfl
@[simp] theorem State.setInf_regs (s : State) (f : FRef) (v : Nat) : (s.setInf f v).regs = s.regs := by unfold State.setInf; split <;> rfl
@[simp] theorem State.setInf_rlLatch (s : State) (f : FRef) (v : Nat) : (s.setInf f v).rlLatch = s.rlLatch := by unfold State.setInf; split <;> rfl
@[simp] theorem State.setInf_rlPend (s : State) (f : FRef) (v : Nat) : (s.setInf f v).rlPend = s.rlPend := by unfold State.setInf; split <;> rfl
@[simp] theorem State.setInf_samp (s : State) (f : FRef) (v : Nat) : (s.setInf f v).samp = s.samp := by unfold State.setInf; split <;> rfl
@[simp] theorem State.setInf_freeCtr (s : State) (f : FRef) (v : Nat) : (s.setInf f v).freeCtr = s.freeCtr := by unfold State.setInf; split <;> rfl
@[simp] theorem State.setInf_out (s : State) (f : FRef) (v : Nat) : (s.setInf f v).out = s.out := by unfold State.setInf; split <;> rfl
@[simp] theorem State.setInf_jobs (s : State) (f : FRef) (v : Nat) : (s.setInf f v).jobs = s.jobs := by unfold State.setInf; split <;> rfl
@[simp] theorem State.setInf_nextJob (s : State) (f : FRef) (v : Nat) : (s.setInf f v).nextJob = s.nextJob := by unfold State.setInf; split <;> rfl
@[simp] theorem State.setInf_evq (s : State) (f : FRef) (v : Nat) : (s.setInf f v).evq = s.evq := by unfold State.setInf; split <;> rfl
@[simp] theorem State.setInf_evlog (s : State) (f : FRef) (v : Nat) : (s.setInf f v).evlog = s.evlog := by unfold State.setInf; split <;> rfl
@[simp] theorem State.setInf_evPhase (s : State) (f : FRef) (v : Nat) : (s.setInf f v).evPhase = s.evPhase := by unfold State.setInf; split <;> rfl
@[simp] theorem State.setInf_journal (s : State) (f : FRef) (v : Nat) : (s.setInf f v).journal = s.journal := by unfold State.setInf; split <;> rfl
@[simp] theorem State.setInf_faults (s : State) (f : FRef) (v : Nat) : (s.setInf f v).faults = s.faults := by unfold State.setInf; split <;> rfl
@[simp] theorem State.setInf_parked (s : State) (f : FRef) (v : Nat) : (s.setInf f v).parked = s.parked := by unfold State.setInf; split <;> rfl
@[simp] theorem State.setInf_everUsed (s : State) (f : FRef) (v : Nat) : (s.setInf f v).everUsed = s.everUsed := by unfold State.setInf; split <;> rfl
@[simp] theorem State.setInf_cqs (s : State) (f : FRef) (v : Nat) : (s.setInf f v).cqs = s.cqs := by unfold State.setInf; split <;> rfl
@[simp] theorem State.setInf_msixBusy (s : State) (f : FRef) (v : Nat) : (s.setInf f v).msixBusy = s.msixBusy := by unfold State.setInf; split <;> rfl
@[simp] theorem State.setInf_msixMerged (s : State) (f : FRef) (v : Nat) : (s.setInf f v).msixMerged = s.msixMerged := by unfold State.setInf; split <;> rfl
@[simp] theorem State.setInf_msixMasked (s : State) (f : FRef) (v : Nat) : (s.setInf f v).msixMasked = s.msixMasked := by unfold State.setInf; split <;> rfl
@[simp] theorem State.setInf_msixPend (s : State) (f : FRef) (v : Nat) : (s.setInf f v).msixPend = s.msixPend := by unfold State.setInf; split <;> rfl
@[simp] theorem State.setInf_fetchFail (s : State) (f : FRef) (v : Nat) : (s.setInf f v).fetchFail = s.fetchFail := by unfold State.setInf; split <;> rfl
@[simp] theorem State.setInf_lastRing (s : State) (f : FRef) (v : Nat) : (s.setInf f v).lastRing = s.lastRing := by unfold State.setInf; split <;> rfl
@[simp] theorem State.setInf_recent (s : State) (f : FRef) (v : Nat) : (s.setInf f v).recent = s.recent := by unfold State.setInf; split <;> rfl
@[simp] theorem State.setInf_resumeHold (s : State) (f : FRef) (v : Nat) : (s.setInf f v).resumeHold = s.resumeHold := by unfold State.setInf; split <;> rfl
@[simp] theorem State.setInf_resumeFlags (s : State) (f : FRef) (v : Nat) : (s.setInf f v).resumeFlags = s.resumeFlags := by unfold State.setInf; split <;> rfl
@[simp] theorem State.setInf_resumeFunc (s : State) (f : FRef) (v : Nat) : (s.setInf f v).resumeFunc = s.resumeFunc := by unfold State.setInf; split <;> rfl
@[simp] theorem State.setInf_oldEpoch (s : State) (f : FRef) (v : Nat) : (s.setInf f v).oldEpoch = s.oldEpoch := by unfold State.setInf; split <;> rfl
@[simp] theorem State.setInf_oldSt (s : State) (f : FRef) (v : Nat) : (s.setInf f v).oldSt = s.oldSt := by unfold State.setInf; split <;> rfl
@[simp] theorem State.setInf_oldTod (s : State) (f : FRef) (v : Nat) : (s.setInf f v).oldTod = s.oldTod := by unfold State.setInf; split <;> rfl
@[simp] theorem State.setInf_jseqLast (s : State) (f : FRef) (v : Nat) : (s.setInf f v).jseqLast = s.jseqLast := by unfold State.setInf; split <;> rfl
@[simp] theorem State.setInf_unknown (s : State) (f : FRef) (v : Nat) : (s.setInf f v).unknown = s.unknown := by unfold State.setInf; split <;> rfl
@[simp] theorem State.setInf_abandoned (s : State) (f : FRef) (v : Nat) : (s.setInf f v).abandoned = s.abandoned := by unfold State.setInf; split <;> rfl
@[simp] theorem State.setInf_capOut (s : State) (f : FRef) (v : Nat) : (s.setInf f v).capOut = s.capOut := by unfold State.setInf; split <;> rfl
@[simp] theorem State.setInf_ctlPair (s : State) (f : FRef) (v : Nat) : (s.setInf f v).ctlPair = s.ctlPair := by unfold State.setInf; split <;> rfl
@[simp] theorem State.setInf_ctlFailed (s : State) (f : FRef) (v : Nat) : (s.setInf f v).ctlFailed = s.ctlFailed := by unfold State.setInf; split <;> rfl
@[simp] theorem State.setInf_straps (s : State) (f : FRef) (v : Nat) : (s.setInf f v).straps = s.straps := by unfold State.setInf; split <;> rfl
@[simp] theorem State.setInf_pins (s : State) (f : FRef) (v : Nat) : (s.setInf f v).pins = s.pins := by unfold State.setInf; split <;> rfl
@[simp] theorem State.setInf_pulses (s : State) (f : FRef) (v : Nat) : (s.setInf f v).pulses = s.pulses := by unfold State.setInf; split <;> rfl
@[simp] theorem State.setInf_hbm (s : State) (f : FRef) (v : Nat) : (s.setInf f v).hbm = s.hbm := by unfold State.setInf; split <;> rfl
@[simp] theorem State.setInf_clk (s : State) (f : FRef) (v : Nat) : (s.setInf f v).clk = s.clk := by unfold State.setInf; split <;> rfl
@[simp] theorem State.setInf_slots (s : State) (f : FRef) (v : Nat) : (s.setInf f v).slots = s.slots := by unfold State.setInf; split <;> rfl
@[simp] theorem State.setInf_attens (s : State) (f : FRef) (v : Nat) : (s.setInf f v).attens = s.attens := by unfold State.setInf; split <;> rfl
@[simp] theorem State.setInf_cal (s : State) (f : FRef) (v : Nat) : (s.setInf f v).cal = s.cal := by unfold State.setInf; split <;> rfl
@[simp] theorem State.setInf_slices (s : State) (f : FRef) (v : Nat) : (s.setInf f v).slices = s.slices := by unfold State.setInf; split <;> rfl
@[simp] theorem State.setInf_sliceFailed (s : State) (f : FRef) (v : Nat) : (s.setInf f v).sliceFailed = s.sliceFailed := by unfold State.setInf; split <;> rfl
@[simp] theorem State.setInf_trigIn (s : State) (f : FRef) (v : Nat) : (s.setInf f v).trigIn = s.trigIn := by unfold State.setInf; split <;> rfl
@[simp] theorem State.setInf_counts (s : State) (f : FRef) (v : Nat) : (s.setInf f v).counts = s.counts := by unfold State.setInf; split <;> rfl
@[simp] theorem State.setInf_snapped (s : State) (f : FRef) (v : Nat) : (s.setInf f v).snapped = s.snapped := by unfold State.setInf; split <;> rfl
@[simp] theorem State.setInf_snaps (s : State) (f : FRef) (v : Nat) : (s.setInf f v).snaps = s.snaps := by unfold State.setInf; split <;> rfl
@[simp] theorem State.setInf_smp (s : State) (f : FRef) (v : Nat) : (s.setInf f v).smp = s.smp := by unfold State.setInf; split <;> rfl
@[simp] theorem State.setInf_tuners (s : State) (f : FRef) (v : Nat) : (s.setInf f v).tuners = s.tuners := by unfold State.setInf; split <;> rfl
@[simp] theorem State.setInf_zooms (s : State) (f : FRef) (v : Nat) : (s.setInf f v).zooms = s.zooms := by unfold State.setInf; split <;> rfl
@[simp] theorem State.setInf_streams (s : State) (f : FRef) (v : Nat) : (s.setInf f v).streams = s.streams := by unfold State.setInf; split <;> rfl
@[simp] theorem State.setInf_xcor (s : State) (f : FRef) (v : Nat) : (s.setInf f v).xcor = s.xcor := by unfold State.setInf; split <;> rfl
@[simp] theorem State.setInf_cores (s : State) (f : FRef) (v : Nat) : (s.setInf f v).cores = s.cores := by unfold State.setInf; split <;> rfl
@[simp] theorem State.setInf_chans (s : State) (f : FRef) (v : Nat) : (s.setInf f v).chans = s.chans := by unfold State.setInf; split <;> rfl
@[simp] theorem State.setInf_extracts (s : State) (f : FRef) (v : Nat) : (s.setInf f v).extracts = s.extracts := by unfold State.setInf; split <;> rfl
@[simp] theorem State.setInf_recs (s : State) (f : FRef) (v : Nat) : (s.setInf f v).recs = s.recs := by unfold State.setInf; split <;> rfl
@[simp] theorem State.setInf_sec (s : State) (f : FRef) (v : Nat) : (s.setInf f v).sec = s.sec := by unfold State.setInf; split <;> rfl
@[simp] theorem State.setInf_vid (s : State) (f : FRef) (v : Nat) : (s.setInf f v).vid = s.vid := by unfold State.setInf; split <;> rfl
@[simp] theorem State.setInf_hk (s : State) (f : FRef) (v : Nat) : (s.setInf f v).hk = s.hk := by unfold State.setInf; split <;> rfl
@[simp] theorem State.setInf_bists (s : State) (f : FRef) (v : Nat) : (s.setInf f v).bists = s.bists := by unfold State.setInf; split <;> rfl
@[simp] theorem State.setInf_rot (s : State) (f : FRef) (v : Nat) : (s.setInf f v).rot = s.rot := by unfold State.setInf; split <;> rfl
@[simp] theorem State.setInf_rotNext (s : State) (f : FRef) (v : Nat) : (s.setInf f v).rotNext = s.rotNext := by unfold State.setInf; split <;> rfl
@[simp] theorem State.setInf_sliceBack (s : State) (f : FRef) (v : Nat) : (s.setInf f v).sliceBack = s.sliceBack := by unfold State.setInf; split <;> rfl
@[simp] theorem State.setInf_quiesces (s : State) (f : FRef) (v : Nat) : (s.setInf f v).quiesces = s.quiesces := by unfold State.setInf; split <;> rfl
@[simp] theorem State.setInf_linkLost (s : State) (f : FRef) (v : Nat) : (s.setInf f v).linkLost = s.linkLost := by unfold State.setInf; split <;> rfl
@[simp] theorem State.setInf_intr (s : State) (f : FRef) (v : Nat) : (s.setInf f v).intr = s.intr := by unfold State.setInf; split <;> rfl
@[simp] theorem State.setInf_jlast (s : State) (f : FRef) (v : Nat) : (s.setInf f v).jlast = s.jlast := by unfold State.setInf; split <;> rfl
@[simp] theorem State.setInf_inReset (s : State) (f : FRef) (v : Nat) : (s.setInf f v).inReset = s.inReset := by unfold State.setInf; split <;> rfl
@[simp] theorem State.setInf_rails (s : State) (f : FRef) (v : Nat) : (s.setInf f v).rails = s.rails := by unfold State.setInf; split <;> rfl
@[simp] theorem State.setInf_bootTests (s : State) (f : FRef) (v : Nat) : (s.setInf f v).bootTests = s.bootTests := by unfold State.setInf; split <;> rfl
@[simp] theorem State.setInf_booted (s : State) (f : FRef) (v : Nat) : (s.setInf f v).booted = s.booted := by unfold State.setInf; split <;> rfl
@[simp] theorem State.setInf_resetDue (s : State) (f : FRef) (v : Nat) : (s.setInf f v).resetDue = s.resetDue := by unfold State.setInf; split <;> rfl
@[simp] theorem State.setInf_sram (s : State) (f : FRef) (v : Nat) : (s.setInf f v).sram = s.sram := by unfold State.setInf; split <;> rfl
@[simp] theorem State.setInf_aux (s : State) (f : FRef) (v : Nat) : (s.setInf f v).aux = s.aux := by unfold State.setInf; split <;> rfl

/-! ### emit -/

@[simp] theorem State.emit_pending (s : State) (o : Out) : (s.emit o).pending = s.pending := rfl
@[simp] theorem State.emit_regs (s : State) (o : Out) : (s.emit o).regs = s.regs := rfl
@[simp] theorem State.emit_force (s : State) (o : Out) : (s.emit o).force = s.force := rfl
@[simp] theorem State.emit_rlLatch (s : State) (o : Out) : (s.emit o).rlLatch = s.rlLatch := rfl
@[simp] theorem State.emit_rlPend (s : State) (o : Out) : (s.emit o).rlPend = s.rlPend := rfl
@[simp] theorem State.emit_samp (s : State) (o : Out) : (s.emit o).samp = s.samp := rfl
@[simp] theorem State.emit_freeCtr (s : State) (o : Out) : (s.emit o).freeCtr = s.freeCtr := rfl
@[simp] theorem State.emit_jobs (s : State) (o : Out) : (s.emit o).jobs = s.jobs := rfl
@[simp] theorem State.emit_nextJob (s : State) (o : Out) : (s.emit o).nextJob = s.nextJob := rfl
@[simp] theorem State.emit_evq (s : State) (o : Out) : (s.emit o).evq = s.evq := rfl
@[simp] theorem State.emit_evlog (s : State) (o : Out) : (s.emit o).evlog = s.evlog := rfl
@[simp] theorem State.emit_evPhase (s : State) (o : Out) : (s.emit o).evPhase = s.evPhase := rfl
@[simp] theorem State.emit_journal (s : State) (o : Out) : (s.emit o).journal = s.journal := rfl
@[simp] theorem State.emit_faults (s : State) (o : Out) : (s.emit o).faults = s.faults := rfl
@[simp] theorem State.emit_parked (s : State) (o : Out) : (s.emit o).parked = s.parked := rfl
@[simp] theorem State.emit_everUsed (s : State) (o : Out) : (s.emit o).everUsed = s.everUsed := rfl
@[simp] theorem State.emit_cqs (s : State) (o : Out) : (s.emit o).cqs = s.cqs := rfl
@[simp] theorem State.emit_msixBusy (s : State) (o : Out) : (s.emit o).msixBusy = s.msixBusy := rfl
@[simp] theorem State.emit_msixMerged (s : State) (o : Out) : (s.emit o).msixMerged = s.msixMerged := rfl
@[simp] theorem State.emit_msixMasked (s : State) (o : Out) : (s.emit o).msixMasked = s.msixMasked := rfl
@[simp] theorem State.emit_msixPend (s : State) (o : Out) : (s.emit o).msixPend = s.msixPend := rfl
@[simp] theorem State.emit_fetchFail (s : State) (o : Out) : (s.emit o).fetchFail = s.fetchFail := rfl
@[simp] theorem State.emit_lastRing (s : State) (o : Out) : (s.emit o).lastRing = s.lastRing := rfl
@[simp] theorem State.emit_recent (s : State) (o : Out) : (s.emit o).recent = s.recent := rfl
@[simp] theorem State.emit_resumeHold (s : State) (o : Out) : (s.emit o).resumeHold = s.resumeHold := rfl
@[simp] theorem State.emit_resumeFlags (s : State) (o : Out) : (s.emit o).resumeFlags = s.resumeFlags := rfl
@[simp] theorem State.emit_resumeFunc (s : State) (o : Out) : (s.emit o).resumeFunc = s.resumeFunc := rfl
@[simp] theorem State.emit_oldEpoch (s : State) (o : Out) : (s.emit o).oldEpoch = s.oldEpoch := rfl
@[simp] theorem State.emit_oldSt (s : State) (o : Out) : (s.emit o).oldSt = s.oldSt := rfl
@[simp] theorem State.emit_oldTod (s : State) (o : Out) : (s.emit o).oldTod = s.oldTod := rfl
@[simp] theorem State.emit_jseqLast (s : State) (o : Out) : (s.emit o).jseqLast = s.jseqLast := rfl
@[simp] theorem State.emit_unknown (s : State) (o : Out) : (s.emit o).unknown = s.unknown := rfl
@[simp] theorem State.emit_abandoned (s : State) (o : Out) : (s.emit o).abandoned = s.abandoned := rfl
@[simp] theorem State.emit_capOut (s : State) (o : Out) : (s.emit o).capOut = s.capOut := rfl
@[simp] theorem State.emit_ctlPair (s : State) (o : Out) : (s.emit o).ctlPair = s.ctlPair := rfl
@[simp] theorem State.emit_ctlFailed (s : State) (o : Out) : (s.emit o).ctlFailed = s.ctlFailed := rfl
@[simp] theorem State.emit_straps (s : State) (o : Out) : (s.emit o).straps = s.straps := rfl
@[simp] theorem State.emit_pins (s : State) (o : Out) : (s.emit o).pins = s.pins := rfl
@[simp] theorem State.emit_pulses (s : State) (o : Out) : (s.emit o).pulses = s.pulses := rfl
@[simp] theorem State.emit_hbm (s : State) (o : Out) : (s.emit o).hbm = s.hbm := rfl
@[simp] theorem State.emit_clk (s : State) (o : Out) : (s.emit o).clk = s.clk := rfl
@[simp] theorem State.emit_slots (s : State) (o : Out) : (s.emit o).slots = s.slots := rfl
@[simp] theorem State.emit_attens (s : State) (o : Out) : (s.emit o).attens = s.attens := rfl
@[simp] theorem State.emit_cal (s : State) (o : Out) : (s.emit o).cal = s.cal := rfl
@[simp] theorem State.emit_slices (s : State) (o : Out) : (s.emit o).slices = s.slices := rfl
@[simp] theorem State.emit_sliceFailed (s : State) (o : Out) : (s.emit o).sliceFailed = s.sliceFailed := rfl
@[simp] theorem State.emit_trigIn (s : State) (o : Out) : (s.emit o).trigIn = s.trigIn := rfl
@[simp] theorem State.emit_counts (s : State) (o : Out) : (s.emit o).counts = s.counts := rfl
@[simp] theorem State.emit_snapped (s : State) (o : Out) : (s.emit o).snapped = s.snapped := rfl
@[simp] theorem State.emit_snaps (s : State) (o : Out) : (s.emit o).snaps = s.snaps := rfl
@[simp] theorem State.emit_smp (s : State) (o : Out) : (s.emit o).smp = s.smp := rfl
@[simp] theorem State.emit_tuners (s : State) (o : Out) : (s.emit o).tuners = s.tuners := rfl
@[simp] theorem State.emit_zooms (s : State) (o : Out) : (s.emit o).zooms = s.zooms := rfl
@[simp] theorem State.emit_streams (s : State) (o : Out) : (s.emit o).streams = s.streams := rfl
@[simp] theorem State.emit_xcor (s : State) (o : Out) : (s.emit o).xcor = s.xcor := rfl
@[simp] theorem State.emit_cores (s : State) (o : Out) : (s.emit o).cores = s.cores := rfl
@[simp] theorem State.emit_chans (s : State) (o : Out) : (s.emit o).chans = s.chans := rfl
@[simp] theorem State.emit_extracts (s : State) (o : Out) : (s.emit o).extracts = s.extracts := rfl
@[simp] theorem State.emit_recs (s : State) (o : Out) : (s.emit o).recs = s.recs := rfl
@[simp] theorem State.emit_sec (s : State) (o : Out) : (s.emit o).sec = s.sec := rfl
@[simp] theorem State.emit_vid (s : State) (o : Out) : (s.emit o).vid = s.vid := rfl
@[simp] theorem State.emit_hk (s : State) (o : Out) : (s.emit o).hk = s.hk := rfl
@[simp] theorem State.emit_bists (s : State) (o : Out) : (s.emit o).bists = s.bists := rfl
@[simp] theorem State.emit_rot (s : State) (o : Out) : (s.emit o).rot = s.rot := rfl
@[simp] theorem State.emit_rotNext (s : State) (o : Out) : (s.emit o).rotNext = s.rotNext := rfl
@[simp] theorem State.emit_sliceBack (s : State) (o : Out) : (s.emit o).sliceBack = s.sliceBack := rfl
@[simp] theorem State.emit_quiesces (s : State) (o : Out) : (s.emit o).quiesces = s.quiesces := rfl
@[simp] theorem State.emit_linkLost (s : State) (o : Out) : (s.emit o).linkLost = s.linkLost := rfl
@[simp] theorem State.emit_intr (s : State) (o : Out) : (s.emit o).intr = s.intr := rfl
@[simp] theorem State.emit_jlast (s : State) (o : Out) : (s.emit o).jlast = s.jlast := rfl
@[simp] theorem State.emit_inReset (s : State) (o : Out) : (s.emit o).inReset = s.inReset := rfl
@[simp] theorem State.emit_rails (s : State) (o : Out) : (s.emit o).rails = s.rails := rfl
@[simp] theorem State.emit_bootTests (s : State) (o : Out) : (s.emit o).bootTests = s.bootTests := rfl
@[simp] theorem State.emit_booted (s : State) (o : Out) : (s.emit o).booted = s.booted := rfl
@[simp] theorem State.emit_resetDue (s : State) (o : Out) : (s.emit o).resetDue = s.resetDue := rfl
@[simp] theorem State.emit_sram (s : State) (o : Out) : (s.emit o).sram = s.sram := rfl
@[simp] theorem State.emit_aux (s : State) (o : Out) : (s.emit o).aux = s.aux := rfl

/-! ### useFree -/

@[simp] theorem State.useFree_pending (s : State) : (s.useFree).pending = s.pending := rfl
@[simp] theorem State.useFree_regs (s : State) : (s.useFree).regs = s.regs := rfl
@[simp] theorem State.useFree_force (s : State) : (s.useFree).force = s.force := rfl
@[simp] theorem State.useFree_rlLatch (s : State) : (s.useFree).rlLatch = s.rlLatch := rfl
@[simp] theorem State.useFree_rlPend (s : State) : (s.useFree).rlPend = s.rlPend := rfl
@[simp] theorem State.useFree_samp (s : State) : (s.useFree).samp = s.samp := rfl
@[simp] theorem State.useFree_out (s : State) : (s.useFree).out = s.out := rfl
@[simp] theorem State.useFree_jobs (s : State) : (s.useFree).jobs = s.jobs := rfl
@[simp] theorem State.useFree_nextJob (s : State) : (s.useFree).nextJob = s.nextJob := rfl
@[simp] theorem State.useFree_evq (s : State) : (s.useFree).evq = s.evq := rfl
@[simp] theorem State.useFree_evlog (s : State) : (s.useFree).evlog = s.evlog := rfl
@[simp] theorem State.useFree_evPhase (s : State) : (s.useFree).evPhase = s.evPhase := rfl
@[simp] theorem State.useFree_journal (s : State) : (s.useFree).journal = s.journal := rfl
@[simp] theorem State.useFree_faults (s : State) : (s.useFree).faults = s.faults := rfl
@[simp] theorem State.useFree_parked (s : State) : (s.useFree).parked = s.parked := rfl
@[simp] theorem State.useFree_everUsed (s : State) : (s.useFree).everUsed = s.everUsed := rfl
@[simp] theorem State.useFree_cqs (s : State) : (s.useFree).cqs = s.cqs := rfl
@[simp] theorem State.useFree_msixBusy (s : State) : (s.useFree).msixBusy = s.msixBusy := rfl
@[simp] theorem State.useFree_msixMerged (s : State) : (s.useFree).msixMerged = s.msixMerged := rfl
@[simp] theorem State.useFree_msixMasked (s : State) : (s.useFree).msixMasked = s.msixMasked := rfl
@[simp] theorem State.useFree_msixPend (s : State) : (s.useFree).msixPend = s.msixPend := rfl
@[simp] theorem State.useFree_fetchFail (s : State) : (s.useFree).fetchFail = s.fetchFail := rfl
@[simp] theorem State.useFree_lastRing (s : State) : (s.useFree).lastRing = s.lastRing := rfl
@[simp] theorem State.useFree_recent (s : State) : (s.useFree).recent = s.recent := rfl
@[simp] theorem State.useFree_resumeHold (s : State) : (s.useFree).resumeHold = s.resumeHold := rfl
@[simp] theorem State.useFree_resumeFlags (s : State) : (s.useFree).resumeFlags = s.resumeFlags := rfl
@[simp] theorem State.useFree_resumeFunc (s : State) : (s.useFree).resumeFunc = s.resumeFunc := rfl
@[simp] theorem State.useFree_oldEpoch (s : State) : (s.useFree).oldEpoch = s.oldEpoch := rfl
@[simp] theorem State.useFree_oldSt (s : State) : (s.useFree).oldSt = s.oldSt := rfl
@[simp] theorem State.useFree_oldTod (s : State) : (s.useFree).oldTod = s.oldTod := rfl
@[simp] theorem State.useFree_jseqLast (s : State) : (s.useFree).jseqLast = s.jseqLast := rfl
@[simp] theorem State.useFree_unknown (s : State) : (s.useFree).unknown = s.unknown := rfl
@[simp] theorem State.useFree_abandoned (s : State) : (s.useFree).abandoned = s.abandoned := rfl
@[simp] theorem State.useFree_capOut (s : State) : (s.useFree).capOut = s.capOut := rfl
@[simp] theorem State.useFree_ctlPair (s : State) : (s.useFree).ctlPair = s.ctlPair := rfl
@[simp] theorem State.useFree_ctlFailed (s : State) : (s.useFree).ctlFailed = s.ctlFailed := rfl
@[simp] theorem State.useFree_straps (s : State) : (s.useFree).straps = s.straps := rfl
@[simp] theorem State.useFree_pins (s : State) : (s.useFree).pins = s.pins := rfl
@[simp] theorem State.useFree_pulses (s : State) : (s.useFree).pulses = s.pulses := rfl
@[simp] theorem State.useFree_hbm (s : State) : (s.useFree).hbm = s.hbm := rfl
@[simp] theorem State.useFree_clk (s : State) : (s.useFree).clk = s.clk := rfl
@[simp] theorem State.useFree_slots (s : State) : (s.useFree).slots = s.slots := rfl
@[simp] theorem State.useFree_attens (s : State) : (s.useFree).attens = s.attens := rfl
@[simp] theorem State.useFree_cal (s : State) : (s.useFree).cal = s.cal := rfl
@[simp] theorem State.useFree_slices (s : State) : (s.useFree).slices = s.slices := rfl
@[simp] theorem State.useFree_sliceFailed (s : State) : (s.useFree).sliceFailed = s.sliceFailed := rfl
@[simp] theorem State.useFree_trigIn (s : State) : (s.useFree).trigIn = s.trigIn := rfl
@[simp] theorem State.useFree_counts (s : State) : (s.useFree).counts = s.counts := rfl
@[simp] theorem State.useFree_snapped (s : State) : (s.useFree).snapped = s.snapped := rfl
@[simp] theorem State.useFree_snaps (s : State) : (s.useFree).snaps = s.snaps := rfl
@[simp] theorem State.useFree_smp (s : State) : (s.useFree).smp = s.smp := rfl
@[simp] theorem State.useFree_tuners (s : State) : (s.useFree).tuners = s.tuners := rfl
@[simp] theorem State.useFree_zooms (s : State) : (s.useFree).zooms = s.zooms := rfl
@[simp] theorem State.useFree_streams (s : State) : (s.useFree).streams = s.streams := rfl
@[simp] theorem State.useFree_xcor (s : State) : (s.useFree).xcor = s.xcor := rfl
@[simp] theorem State.useFree_cores (s : State) : (s.useFree).cores = s.cores := rfl
@[simp] theorem State.useFree_chans (s : State) : (s.useFree).chans = s.chans := rfl
@[simp] theorem State.useFree_extracts (s : State) : (s.useFree).extracts = s.extracts := rfl
@[simp] theorem State.useFree_recs (s : State) : (s.useFree).recs = s.recs := rfl
@[simp] theorem State.useFree_sec (s : State) : (s.useFree).sec = s.sec := rfl
@[simp] theorem State.useFree_vid (s : State) : (s.useFree).vid = s.vid := rfl
@[simp] theorem State.useFree_hk (s : State) : (s.useFree).hk = s.hk := rfl
@[simp] theorem State.useFree_bists (s : State) : (s.useFree).bists = s.bists := rfl
@[simp] theorem State.useFree_rot (s : State) : (s.useFree).rot = s.rot := rfl
@[simp] theorem State.useFree_rotNext (s : State) : (s.useFree).rotNext = s.rotNext := rfl
@[simp] theorem State.useFree_sliceBack (s : State) : (s.useFree).sliceBack = s.sliceBack := rfl
@[simp] theorem State.useFree_quiesces (s : State) : (s.useFree).quiesces = s.quiesces := rfl
@[simp] theorem State.useFree_linkLost (s : State) : (s.useFree).linkLost = s.linkLost := rfl
@[simp] theorem State.useFree_intr (s : State) : (s.useFree).intr = s.intr := rfl
@[simp] theorem State.useFree_jlast (s : State) : (s.useFree).jlast = s.jlast := rfl
@[simp] theorem State.useFree_inReset (s : State) : (s.useFree).inReset = s.inReset := rfl
@[simp] theorem State.useFree_rails (s : State) : (s.useFree).rails = s.rails := rfl
@[simp] theorem State.useFree_bootTests (s : State) : (s.useFree).bootTests = s.bootTests := rfl
@[simp] theorem State.useFree_booted (s : State) : (s.useFree).booted = s.booted := rfl
@[simp] theorem State.useFree_resetDue (s : State) : (s.useFree).resetDue = s.resetDue := rfl
@[simp] theorem State.useFree_sram (s : State) : (s.useFree).sram = s.sram := rfl
@[simp] theorem State.useFree_aux (s : State) : (s.useFree).aux = s.aux := rfl

/-! ### apply -/

@[simp] theorem State.apply_pending (s : State) (c : RegFile) : (s.apply c).pending = s.pending := rfl
@[simp] theorem State.apply_regs (s : State) (c : RegFile) : (s.apply c).regs = s.regs := rfl
@[simp] theorem State.apply_rlLatch (s : State) (c : RegFile) : (s.apply c).rlLatch = s.rlLatch := rfl
@[simp] theorem State.apply_rlPend (s : State) (c : RegFile) : (s.apply c).rlPend = s.rlPend := rfl
@[simp] theorem State.apply_samp (s : State) (c : RegFile) : (s.apply c).samp = s.samp := rfl
@[simp] theorem State.apply_freeCtr (s : State) (c : RegFile) : (s.apply c).freeCtr = s.freeCtr := rfl
@[simp] theorem State.apply_out (s : State) (c : RegFile) : (s.apply c).out = s.out := rfl
@[simp] theorem State.apply_jobs (s : State) (c : RegFile) : (s.apply c).jobs = s.jobs := rfl
@[simp] theorem State.apply_nextJob (s : State) (c : RegFile) : (s.apply c).nextJob = s.nextJob := rfl
@[simp] theorem State.apply_evq (s : State) (c : RegFile) : (s.apply c).evq = s.evq := rfl
@[simp] theorem State.apply_evlog (s : State) (c : RegFile) : (s.apply c).evlog = s.evlog := rfl
@[simp] theorem State.apply_evPhase (s : State) (c : RegFile) : (s.apply c).evPhase = s.evPhase := rfl
@[simp] theorem State.apply_journal (s : State) (c : RegFile) : (s.apply c).journal = s.journal := rfl
@[simp] theorem State.apply_faults (s : State) (c : RegFile) : (s.apply c).faults = s.faults := rfl
@[simp] theorem State.apply_parked (s : State) (c : RegFile) : (s.apply c).parked = s.parked := rfl
@[simp] theorem State.apply_everUsed (s : State) (c : RegFile) : (s.apply c).everUsed = s.everUsed := rfl
@[simp] theorem State.apply_cqs (s : State) (c : RegFile) : (s.apply c).cqs = s.cqs := rfl
@[simp] theorem State.apply_msixBusy (s : State) (c : RegFile) : (s.apply c).msixBusy = s.msixBusy := rfl
@[simp] theorem State.apply_msixMerged (s : State) (c : RegFile) : (s.apply c).msixMerged = s.msixMerged := rfl
@[simp] theorem State.apply_msixMasked (s : State) (c : RegFile) : (s.apply c).msixMasked = s.msixMasked := rfl
@[simp] theorem State.apply_msixPend (s : State) (c : RegFile) : (s.apply c).msixPend = s.msixPend := rfl
@[simp] theorem State.apply_fetchFail (s : State) (c : RegFile) : (s.apply c).fetchFail = s.fetchFail := rfl
@[simp] theorem State.apply_lastRing (s : State) (c : RegFile) : (s.apply c).lastRing = s.lastRing := rfl
@[simp] theorem State.apply_recent (s : State) (c : RegFile) : (s.apply c).recent = s.recent := rfl
@[simp] theorem State.apply_resumeHold (s : State) (c : RegFile) : (s.apply c).resumeHold = s.resumeHold := rfl
@[simp] theorem State.apply_resumeFlags (s : State) (c : RegFile) : (s.apply c).resumeFlags = s.resumeFlags := rfl
@[simp] theorem State.apply_resumeFunc (s : State) (c : RegFile) : (s.apply c).resumeFunc = s.resumeFunc := rfl
@[simp] theorem State.apply_oldEpoch (s : State) (c : RegFile) : (s.apply c).oldEpoch = s.oldEpoch := rfl
@[simp] theorem State.apply_oldSt (s : State) (c : RegFile) : (s.apply c).oldSt = s.oldSt := rfl
@[simp] theorem State.apply_oldTod (s : State) (c : RegFile) : (s.apply c).oldTod = s.oldTod := rfl
@[simp] theorem State.apply_jseqLast (s : State) (c : RegFile) : (s.apply c).jseqLast = s.jseqLast := rfl
@[simp] theorem State.apply_unknown (s : State) (c : RegFile) : (s.apply c).unknown = s.unknown := rfl
@[simp] theorem State.apply_abandoned (s : State) (c : RegFile) : (s.apply c).abandoned = s.abandoned := rfl
@[simp] theorem State.apply_capOut (s : State) (c : RegFile) : (s.apply c).capOut = s.capOut := rfl
@[simp] theorem State.apply_ctlPair (s : State) (c : RegFile) : (s.apply c).ctlPair = s.ctlPair := rfl
@[simp] theorem State.apply_ctlFailed (s : State) (c : RegFile) : (s.apply c).ctlFailed = s.ctlFailed := rfl
@[simp] theorem State.apply_straps (s : State) (c : RegFile) : (s.apply c).straps = s.straps := rfl
@[simp] theorem State.apply_pins (s : State) (c : RegFile) : (s.apply c).pins = s.pins := rfl
@[simp] theorem State.apply_pulses (s : State) (c : RegFile) : (s.apply c).pulses = s.pulses := rfl
@[simp] theorem State.apply_hbm (s : State) (c : RegFile) : (s.apply c).hbm = s.hbm := rfl
@[simp] theorem State.apply_clk (s : State) (c : RegFile) : (s.apply c).clk = s.clk := rfl
@[simp] theorem State.apply_slots (s : State) (c : RegFile) : (s.apply c).slots = s.slots := rfl
@[simp] theorem State.apply_attens (s : State) (c : RegFile) : (s.apply c).attens = s.attens := rfl
@[simp] theorem State.apply_cal (s : State) (c : RegFile) : (s.apply c).cal = s.cal := rfl
@[simp] theorem State.apply_slices (s : State) (c : RegFile) : (s.apply c).slices = s.slices := rfl
@[simp] theorem State.apply_sliceFailed (s : State) (c : RegFile) : (s.apply c).sliceFailed = s.sliceFailed := rfl
@[simp] theorem State.apply_trigIn (s : State) (c : RegFile) : (s.apply c).trigIn = s.trigIn := rfl
@[simp] theorem State.apply_counts (s : State) (c : RegFile) : (s.apply c).counts = s.counts := rfl
@[simp] theorem State.apply_snapped (s : State) (c : RegFile) : (s.apply c).snapped = s.snapped := rfl
@[simp] theorem State.apply_snaps (s : State) (c : RegFile) : (s.apply c).snaps = s.snaps := rfl
@[simp] theorem State.apply_smp (s : State) (c : RegFile) : (s.apply c).smp = s.smp := rfl
@[simp] theorem State.apply_tuners (s : State) (c : RegFile) : (s.apply c).tuners = s.tuners := rfl
@[simp] theorem State.apply_zooms (s : State) (c : RegFile) : (s.apply c).zooms = s.zooms := rfl
@[simp] theorem State.apply_streams (s : State) (c : RegFile) : (s.apply c).streams = s.streams := rfl
@[simp] theorem State.apply_xcor (s : State) (c : RegFile) : (s.apply c).xcor = s.xcor := rfl
@[simp] theorem State.apply_cores (s : State) (c : RegFile) : (s.apply c).cores = s.cores := rfl
@[simp] theorem State.apply_chans (s : State) (c : RegFile) : (s.apply c).chans = s.chans := rfl
@[simp] theorem State.apply_extracts (s : State) (c : RegFile) : (s.apply c).extracts = s.extracts := rfl
@[simp] theorem State.apply_recs (s : State) (c : RegFile) : (s.apply c).recs = s.recs := rfl
@[simp] theorem State.apply_sec (s : State) (c : RegFile) : (s.apply c).sec = s.sec := rfl
@[simp] theorem State.apply_vid (s : State) (c : RegFile) : (s.apply c).vid = s.vid := rfl
@[simp] theorem State.apply_hk (s : State) (c : RegFile) : (s.apply c).hk = s.hk := rfl
@[simp] theorem State.apply_bists (s : State) (c : RegFile) : (s.apply c).bists = s.bists := rfl
@[simp] theorem State.apply_rot (s : State) (c : RegFile) : (s.apply c).rot = s.rot := rfl
@[simp] theorem State.apply_rotNext (s : State) (c : RegFile) : (s.apply c).rotNext = s.rotNext := rfl
@[simp] theorem State.apply_sliceBack (s : State) (c : RegFile) : (s.apply c).sliceBack = s.sliceBack := rfl
@[simp] theorem State.apply_quiesces (s : State) (c : RegFile) : (s.apply c).quiesces = s.quiesces := rfl
@[simp] theorem State.apply_linkLost (s : State) (c : RegFile) : (s.apply c).linkLost = s.linkLost := rfl
@[simp] theorem State.apply_intr (s : State) (c : RegFile) : (s.apply c).intr = s.intr := rfl
@[simp] theorem State.apply_jlast (s : State) (c : RegFile) : (s.apply c).jlast = s.jlast := rfl
@[simp] theorem State.apply_inReset (s : State) (c : RegFile) : (s.apply c).inReset = s.inReset := rfl
@[simp] theorem State.apply_rails (s : State) (c : RegFile) : (s.apply c).rails = s.rails := rfl
@[simp] theorem State.apply_bootTests (s : State) (c : RegFile) : (s.apply c).bootTests = s.bootTests := rfl
@[simp] theorem State.apply_booted (s : State) (c : RegFile) : (s.apply c).booted = s.booted := rfl
@[simp] theorem State.apply_resetDue (s : State) (c : RegFile) : (s.apply c).resetDue = s.resetDue := rfl
@[simp] theorem State.apply_sram (s : State) (c : RegFile) : (s.apply c).sram = s.sram := rfl
@[simp] theorem State.apply_aux (s : State) (c : RegFile) : (s.apply c).aux = s.aux := rfl

/-! ### modJob -/

@[simp] theorem State.modJob_pending (s : State) (id : Nat) (f : Job → Job) : (s.modJob id f).pending = s.pending := rfl
@[simp] theorem State.modJob_regs (s : State) (id : Nat) (f : Job → Job) : (s.modJob id f).regs = s.regs := rfl
@[simp] theorem State.modJob_force (s : State) (id : Nat) (f : Job → Job) : (s.modJob id f).force = s.force := rfl
@[simp] theorem State.modJob_rlLatch (s : State) (id : Nat) (f : Job → Job) : (s.modJob id f).rlLatch = s.rlLatch := rfl
@[simp] theorem State.modJob_rlPend (s : State) (id : Nat) (f : Job → Job) : (s.modJob id f).rlPend = s.rlPend := rfl
@[simp] theorem State.modJob_samp (s : State) (id : Nat) (f : Job → Job) : (s.modJob id f).samp = s.samp := rfl
@[simp] theorem State.modJob_freeCtr (s : State) (id : Nat) (f : Job → Job) : (s.modJob id f).freeCtr = s.freeCtr := rfl
@[simp] theorem State.modJob_out (s : State) (id : Nat) (f : Job → Job) : (s.modJob id f).out = s.out := rfl
@[simp] theorem State.modJob_nextJob (s : State) (id : Nat) (f : Job → Job) : (s.modJob id f).nextJob = s.nextJob := rfl
@[simp] theorem State.modJob_evq (s : State) (id : Nat) (f : Job → Job) : (s.modJob id f).evq = s.evq := rfl
@[simp] theorem State.modJob_evlog (s : State) (id : Nat) (f : Job → Job) : (s.modJob id f).evlog = s.evlog := rfl
@[simp] theorem State.modJob_evPhase (s : State) (id : Nat) (f : Job → Job) : (s.modJob id f).evPhase = s.evPhase := rfl
@[simp] theorem State.modJob_journal (s : State) (id : Nat) (f : Job → Job) : (s.modJob id f).journal = s.journal := rfl
@[simp] theorem State.modJob_faults (s : State) (id : Nat) (f : Job → Job) : (s.modJob id f).faults = s.faults := rfl
@[simp] theorem State.modJob_parked (s : State) (id : Nat) (f : Job → Job) : (s.modJob id f).parked = s.parked := rfl
@[simp] theorem State.modJob_everUsed (s : State) (id : Nat) (f : Job → Job) : (s.modJob id f).everUsed = s.everUsed := rfl
@[simp] theorem State.modJob_cqs (s : State) (id : Nat) (f : Job → Job) : (s.modJob id f).cqs = s.cqs := rfl
@[simp] theorem State.modJob_msixBusy (s : State) (id : Nat) (f : Job → Job) : (s.modJob id f).msixBusy = s.msixBusy := rfl
@[simp] theorem State.modJob_msixMerged (s : State) (id : Nat) (f : Job → Job) : (s.modJob id f).msixMerged = s.msixMerged := rfl
@[simp] theorem State.modJob_msixMasked (s : State) (id : Nat) (f : Job → Job) : (s.modJob id f).msixMasked = s.msixMasked := rfl
@[simp] theorem State.modJob_msixPend (s : State) (id : Nat) (f : Job → Job) : (s.modJob id f).msixPend = s.msixPend := rfl
@[simp] theorem State.modJob_fetchFail (s : State) (id : Nat) (f : Job → Job) : (s.modJob id f).fetchFail = s.fetchFail := rfl
@[simp] theorem State.modJob_lastRing (s : State) (id : Nat) (f : Job → Job) : (s.modJob id f).lastRing = s.lastRing := rfl
@[simp] theorem State.modJob_recent (s : State) (id : Nat) (f : Job → Job) : (s.modJob id f).recent = s.recent := rfl
@[simp] theorem State.modJob_resumeHold (s : State) (id : Nat) (f : Job → Job) : (s.modJob id f).resumeHold = s.resumeHold := rfl
@[simp] theorem State.modJob_resumeFlags (s : State) (id : Nat) (f : Job → Job) : (s.modJob id f).resumeFlags = s.resumeFlags := rfl
@[simp] theorem State.modJob_resumeFunc (s : State) (id : Nat) (f : Job → Job) : (s.modJob id f).resumeFunc = s.resumeFunc := rfl
@[simp] theorem State.modJob_oldEpoch (s : State) (id : Nat) (f : Job → Job) : (s.modJob id f).oldEpoch = s.oldEpoch := rfl
@[simp] theorem State.modJob_oldSt (s : State) (id : Nat) (f : Job → Job) : (s.modJob id f).oldSt = s.oldSt := rfl
@[simp] theorem State.modJob_oldTod (s : State) (id : Nat) (f : Job → Job) : (s.modJob id f).oldTod = s.oldTod := rfl
@[simp] theorem State.modJob_jseqLast (s : State) (id : Nat) (f : Job → Job) : (s.modJob id f).jseqLast = s.jseqLast := rfl
@[simp] theorem State.modJob_unknown (s : State) (id : Nat) (f : Job → Job) : (s.modJob id f).unknown = s.unknown := rfl
@[simp] theorem State.modJob_abandoned (s : State) (id : Nat) (f : Job → Job) : (s.modJob id f).abandoned = s.abandoned := rfl
@[simp] theorem State.modJob_capOut (s : State) (id : Nat) (f : Job → Job) : (s.modJob id f).capOut = s.capOut := rfl
@[simp] theorem State.modJob_ctlPair (s : State) (id : Nat) (f : Job → Job) : (s.modJob id f).ctlPair = s.ctlPair := rfl
@[simp] theorem State.modJob_ctlFailed (s : State) (id : Nat) (f : Job → Job) : (s.modJob id f).ctlFailed = s.ctlFailed := rfl
@[simp] theorem State.modJob_straps (s : State) (id : Nat) (f : Job → Job) : (s.modJob id f).straps = s.straps := rfl
@[simp] theorem State.modJob_pins (s : State) (id : Nat) (f : Job → Job) : (s.modJob id f).pins = s.pins := rfl
@[simp] theorem State.modJob_pulses (s : State) (id : Nat) (f : Job → Job) : (s.modJob id f).pulses = s.pulses := rfl
@[simp] theorem State.modJob_hbm (s : State) (id : Nat) (f : Job → Job) : (s.modJob id f).hbm = s.hbm := rfl
@[simp] theorem State.modJob_clk (s : State) (id : Nat) (f : Job → Job) : (s.modJob id f).clk = s.clk := rfl
@[simp] theorem State.modJob_slots (s : State) (id : Nat) (f : Job → Job) : (s.modJob id f).slots = s.slots := rfl
@[simp] theorem State.modJob_attens (s : State) (id : Nat) (f : Job → Job) : (s.modJob id f).attens = s.attens := rfl
@[simp] theorem State.modJob_cal (s : State) (id : Nat) (f : Job → Job) : (s.modJob id f).cal = s.cal := rfl
@[simp] theorem State.modJob_slices (s : State) (id : Nat) (f : Job → Job) : (s.modJob id f).slices = s.slices := rfl
@[simp] theorem State.modJob_sliceFailed (s : State) (id : Nat) (f : Job → Job) : (s.modJob id f).sliceFailed = s.sliceFailed := rfl
@[simp] theorem State.modJob_trigIn (s : State) (id : Nat) (f : Job → Job) : (s.modJob id f).trigIn = s.trigIn := rfl
@[simp] theorem State.modJob_counts (s : State) (id : Nat) (f : Job → Job) : (s.modJob id f).counts = s.counts := rfl
@[simp] theorem State.modJob_snapped (s : State) (id : Nat) (f : Job → Job) : (s.modJob id f).snapped = s.snapped := rfl
@[simp] theorem State.modJob_snaps (s : State) (id : Nat) (f : Job → Job) : (s.modJob id f).snaps = s.snaps := rfl
@[simp] theorem State.modJob_smp (s : State) (id : Nat) (f : Job → Job) : (s.modJob id f).smp = s.smp := rfl
@[simp] theorem State.modJob_tuners (s : State) (id : Nat) (f : Job → Job) : (s.modJob id f).tuners = s.tuners := rfl
@[simp] theorem State.modJob_zooms (s : State) (id : Nat) (f : Job → Job) : (s.modJob id f).zooms = s.zooms := rfl
@[simp] theorem State.modJob_streams (s : State) (id : Nat) (f : Job → Job) : (s.modJob id f).streams = s.streams := rfl
@[simp] theorem State.modJob_xcor (s : State) (id : Nat) (f : Job → Job) : (s.modJob id f).xcor = s.xcor := rfl
@[simp] theorem State.modJob_cores (s : State) (id : Nat) (f : Job → Job) : (s.modJob id f).cores = s.cores := rfl
@[simp] theorem State.modJob_chans (s : State) (id : Nat) (f : Job → Job) : (s.modJob id f).chans = s.chans := rfl
@[simp] theorem State.modJob_extracts (s : State) (id : Nat) (f : Job → Job) : (s.modJob id f).extracts = s.extracts := rfl
@[simp] theorem State.modJob_recs (s : State) (id : Nat) (f : Job → Job) : (s.modJob id f).recs = s.recs := rfl
@[simp] theorem State.modJob_sec (s : State) (id : Nat) (f : Job → Job) : (s.modJob id f).sec = s.sec := rfl
@[simp] theorem State.modJob_vid (s : State) (id : Nat) (f : Job → Job) : (s.modJob id f).vid = s.vid := rfl
@[simp] theorem State.modJob_hk (s : State) (id : Nat) (f : Job → Job) : (s.modJob id f).hk = s.hk := rfl
@[simp] theorem State.modJob_bists (s : State) (id : Nat) (f : Job → Job) : (s.modJob id f).bists = s.bists := rfl
@[simp] theorem State.modJob_rot (s : State) (id : Nat) (f : Job → Job) : (s.modJob id f).rot = s.rot := rfl
@[simp] theorem State.modJob_rotNext (s : State) (id : Nat) (f : Job → Job) : (s.modJob id f).rotNext = s.rotNext := rfl
@[simp] theorem State.modJob_sliceBack (s : State) (id : Nat) (f : Job → Job) : (s.modJob id f).sliceBack = s.sliceBack := rfl
@[simp] theorem State.modJob_quiesces (s : State) (id : Nat) (f : Job → Job) : (s.modJob id f).quiesces = s.quiesces := rfl
@[simp] theorem State.modJob_linkLost (s : State) (id : Nat) (f : Job → Job) : (s.modJob id f).linkLost = s.linkLost := rfl
@[simp] theorem State.modJob_intr (s : State) (id : Nat) (f : Job → Job) : (s.modJob id f).intr = s.intr := rfl
@[simp] theorem State.modJob_jlast (s : State) (id : Nat) (f : Job → Job) : (s.modJob id f).jlast = s.jlast := rfl
@[simp] theorem State.modJob_inReset (s : State) (id : Nat) (f : Job → Job) : (s.modJob id f).inReset = s.inReset := rfl
@[simp] theorem State.modJob_rails (s : State) (id : Nat) (f : Job → Job) : (s.modJob id f).rails = s.rails := rfl
@[simp] theorem State.modJob_bootTests (s : State) (id : Nat) (f : Job → Job) : (s.modJob id f).bootTests = s.bootTests := rfl
@[simp] theorem State.modJob_booted (s : State) (id : Nat) (f : Job → Job) : (s.modJob id f).booted = s.booted := rfl
@[simp] theorem State.modJob_resetDue (s : State) (id : Nat) (f : Job → Job) : (s.modJob id f).resetDue = s.resetDue := rfl
@[simp] theorem State.modJob_sram (s : State) (id : Nat) (f : Job → Job) : (s.modJob id f).sram = s.sram := rfl
@[simp] theorem State.modJob_aux (s : State) (id : Nat) (f : Job → Job) : (s.modJob id f).aux = s.aux := rfl

end Sys2Proof.Machine
end

