-- ==== Sys2Proof/Laws/Regs.lean ====
section
/-! SUPPORT. Reading a register or a field after writing one. -/

namespace Sys2Proof.Machine

/-- A sparse register file reads back what was put. -/
@[simp] theorem rfGet_rfPut_same (l : RegFile) (a : Nat) (v : Word) : rfGet (rfPut l a v) a = some v := by
  induction l with
  | nil => simp [rfPut, rfGet]
  | cons p t ih =>
    obtain ⟨b, w⟩ := p
    simp only [rfPut]
    split
    · simp [rfGet]
    · split
      · simp [rfGet]
      · rename_i h _
        simp [rfGet, h, ih]

/-- Putting a word leaves every other address alone. -/
theorem rfGet_rfPut_other (l : RegFile) {a b : Nat} (v : Word) (h : b ≠ a) : rfGet (rfPut l a v) b = rfGet l b := by
  have h' : a ≠ b := fun e => h e.symm
  induction l with
  | nil => simp [rfPut, rfGet, h']
  | cons p t ih =>
    obtain ⟨c, w⟩ := p
    simp only [rfPut]
    split
    · rename_i e
      subst e
      simp [rfGet, h']
    · split
      · simp [rfGet, h']
      · simp only [rfGet, ih]

@[simp] theorem reg_setReg_same (s : State) (a : Nat) (v : Word) : (s.setReg a v).reg a = v := by
  simp [State.reg, State.setReg]

theorem reg_setReg_other (s : State) {a b : Nat} (v : Word) (h : b ≠ a) : (s.setReg a v).reg b = s.reg b := by
  simp [State.reg, State.setReg, rfGet_rfPut_other s.regs v h]

@[simp] theorem forceReg_setReg (s : State) (a b : Nat) (v : Word) : (s.setReg a v).forceReg b = s.forceReg b := rfl

@[simp] theorem reg_setForceReg (s : State) (a b : Nat) (v : Word) : (s.setForceReg a v).reg b = s.reg b := rfl

/-- A field of `w` bits replaced reads back what was put, cut to `w` bits. -/
theorem bits_setBits_same (v lo w x : Nat) : bits (setBits v lo w x) lo w = x % 2 ^ w := by
  have h0 : (0 : Nat) < 2 ^ lo := Nat.pow_pos (by decide)
  have hlt : v % 2 ^ lo < 2 ^ lo := Nat.mod_lt _ h0
  have e : setBits v lo w x = v % 2 ^ lo + 2 ^ lo * (x % 2 ^ w + 2 ^ w * (v / 2 ^ (lo + w))) := by
    simp only [setBits, Nat.pow_add, Nat.mul_add, Nat.mul_assoc, Nat.add_assoc]
  rw [bits, e, Nat.add_mul_div_left _ _ h0, Nat.div_eq_of_lt hlt, Nat.zero_add, Nat.add_mul_mod_self_left,
    Nat.mod_mod]

/-- A field below 32 bits of a word replaced keeps the word below 2^32. -/
theorem setBits_lt {v lo w x : Nat} (hv : v < 2 ^ 32) (hw : lo + w ≤ 32) : setBits v lo w x < 2 ^ 32 := by
  have h1 : v % 2 ^ lo < 2 ^ lo := Nat.mod_lt _ (Nat.pow_pos (by decide))
  have h2 : x % 2 ^ w < 2 ^ w := Nat.mod_lt _ (Nat.pow_pos (by decide))
  have e32 : (2 : Nat) ^ 32 = 2 ^ (lo + w) * 2 ^ (32 - (lo + w)) := by rw [← Nat.pow_add]; congr 1; omega
  have h3 : v / 2 ^ (lo + w) < 2 ^ (32 - (lo + w)) := by
    rw [Nat.div_lt_iff_lt_mul (Nat.pow_pos (by decide)), Nat.mul_comm, ← e32]; exact hv
  have h4 : v % 2 ^ lo + 2 ^ lo * (x % 2 ^ w) < 2 ^ (lo + w) := by
    rw [Nat.pow_add]
    calc v % 2 ^ lo + 2 ^ lo * (x % 2 ^ w) < 2 ^ lo + 2 ^ lo * (x % 2 ^ w) := by omega
      _ = 2 ^ lo * (x % 2 ^ w + 1) := by rw [Nat.mul_add, Nat.mul_one, Nat.add_comm]
      _ ≤ 2 ^ lo * 2 ^ w := Nat.mul_le_mul_left _ h2
  rw [setBits, e32]
  calc _ < 2 ^ (lo + w) + 2 ^ (lo + w) * (v / 2 ^ (lo + w)) := by omega
    _ = 2 ^ (lo + w) * (v / 2 ^ (lo + w) + 1) := by rw [Nat.mul_add, Nat.mul_one, Nat.add_comm]
    _ ≤ 2 ^ (lo + w) * 2 ^ (32 - (lo + w)) := Nat.mul_le_mul_left _ h3

/-- A field of one word reads back what was stored. -/
theorem fld_setFld_same (s : State) (f : FRef) (v : Nat) (h : f.lo + f.w ≤ 32) : (s.setFld f v).fld f = v % 2 ^ f.w := by
  have hb : setBits (s.reg f.addr).toNat f.lo f.w v < 2 ^ 32 := setBits_lt (s.reg f.addr).isLt h
  simp only [State.fld, State.setFld, h, if_true, reg_setReg_same, BitVec.toNat_ofNat, Nat.mod_eq_of_lt hb,
    bits_setBits_same]

/-- Storing a field of one word leaves every other word alone. -/
theorem reg_setFld_other (s : State) {f : FRef} (v : Nat) {b : Nat} (h : f.lo + f.w ≤ 32) (hb : b ≠ f.addr) :
    (s.setFld f v).reg b = s.reg b := by
  simp only [State.setFld, h, if_true, reg_setReg_other s _ hb]

/-- Storing a field of one word leaves a field of another word alone. -/
theorem fld_setFld_other (s : State) {f g : FRef} (v : Nat) (hf : f.lo + f.w ≤ 32) (h0 : g.addr ≠ f.addr)
    (h1 : g.addr + 4 ≠ f.addr) : (s.setFld f v).fld g = s.fld g := by
  simp only [State.fld, reg_setFld_other s v hf h0, reg_setFld_other s v hf h1]

/-- The bits of a field replaced leave a field above or below it alone. -/
theorem bits_setBits_disjoint (v : Nat) {lo w lo' w' : Nat} (x : Nat) (h : lo' + w' ≤ lo ∨ lo + w ≤ lo') :
    bits (setBits v lo w x) lo' w' = bits v lo' w' := by
  apply Nat.eq_of_testBit_eq
  intro i
  simp only [bits, Nat.testBit_mod_two_pow, Nat.testBit_div_two_pow]
  by_cases hi : i < w'
  · simp only [hi, decide_true, Bool.true_and]
    have hlt : v % 2 ^ lo + 2 ^ lo * (x % 2 ^ w) < 2 ^ (lo + w) := by
      have h1 : v % 2 ^ lo < 2 ^ lo := Nat.mod_lt _ (Nat.pow_pos (by decide))
      have h2 : x % 2 ^ w < 2 ^ w := Nat.mod_lt _ (Nat.pow_pos (by decide))
      rw [Nat.pow_add]
      calc v % 2 ^ lo + 2 ^ lo * (x % 2 ^ w) < 2 ^ lo + 2 ^ lo * (x % 2 ^ w) := by omega
        _ = 2 ^ lo * (x % 2 ^ w + 1) := by rw [Nat.mul_add, Nat.mul_one, Nat.add_comm]
        _ ≤ 2 ^ lo * 2 ^ w := Nat.mul_le_mul_left _ h2
    have e : setBits v lo w x = 2 ^ (lo + w) * (v / 2 ^ (lo + w)) + (v % 2 ^ lo + 2 ^ lo * (x % 2 ^ w)) := by
      simp only [setBits]; omega
    have hm : v % 2 ^ lo < 2 ^ lo := Nat.mod_lt _ (Nat.pow_pos (by decide))
    have e2 : v % 2 ^ lo + 2 ^ lo * (x % 2 ^ w) = 2 ^ lo * (x % 2 ^ w) + v % 2 ^ lo := by omega
    rw [e, Nat.testBit_two_pow_mul_add _ hlt]
    rcases h with h | h
    · have c : lo' + i < lo + w := by omega
      have c2 : lo' + i < lo := by omega
      have c' : i + lo' < lo + w := by omega
      have c2' : i + lo' < lo := by omega
      rw [e2, Nat.testBit_two_pow_mul_add _ hm]
      simp [c, c2, c', c2', Nat.testBit_mod_two_pow]
    · have c : ¬ lo' + i < lo + w := by omega
      have c' : ¬ i + lo' < lo + w := by omega
      simp only [c, c', if_false, Nat.testBit_div_two_pow]
      congr 1
      omega
  · simp [hi]

/-- Storing a field of one word leaves a disjoint field of the same word alone. -/
theorem fld_setFld_disjoint (s : State) {f g : FRef} (v : Nat) (hf : f.lo + f.w ≤ 32) (hg : g.lo + g.w ≤ 32)
    (ha : g.addr = f.addr) (h : g.lo + g.w ≤ f.lo ∨ f.lo + f.w ≤ g.lo) : (s.setFld f v).fld g = s.fld g := by
  have hb : setBits (s.reg f.addr).toNat f.lo f.w v < 2 ^ 32 := setBits_lt (s.reg f.addr).isLt hf
  simp only [State.fld, State.setFld, hf, hg, if_true, ha, reg_setReg_same, BitVec.toNat_ofNat, Nat.mod_eq_of_lt hb,
    bits_setBits_disjoint _ _ h]

end Sys2Proof.Machine
end

