-- ==== Sys2Proof/Laws/Frame.lean ====
section
/-! SUPPORT. How the claims' frames are built up: a field stored, a word stored, an update that touches no register. -/

namespace Sys2Proof.Machine

theorem onlyFields_refl (s : State) (l : List FRef) : s.onlyFields s l := fun _ _ _ => rfl

theorem fld_congr {s t : State} (h : t.regs = s.regs) (f : FRef) : t.fld f = s.fld f := by
  simp only [State.fld, State.reg, h]

/-- An update that leaves the register words as they are. -/
theorem onlyFields_of_regs {s t u : State} {l : List FRef} (hr : u.regs = t.regs) (h : s.onlyFields t l) :
    s.onlyFields u l := fun g hg hl => (fld_congr hr g).trans (h g hg hl)

/-- Storing a field leaves every field apart from it alone. -/
theorem fld_setFld_apart (s : State) {f g : FRef} (v : Nat) (hg : g.lo + g.w ≤ 32) (h : FRef.apart g f) :
    (s.setFld f v).fld g = s.fld g := by
  unfold FRef.apart at h
  by_cases hf : f.lo + f.w ≤ 32
  · rw [if_pos hf] at h
    by_cases ha : g.addr = f.addr
    · exact fld_setFld_disjoint s v hf hg ha (h.resolve_left (fun hn => hn ha))
    · simp only [State.fld, hg, if_true, reg_setFld_other s v hf ha]
  · rw [if_neg hf] at h
    simp only [State.fld, State.setFld, hf, if_false, hg, if_true, reg_setReg_other _ _ h.1, reg_setReg_other _ _ h.2]

/-- A field stored is one of those listed. -/
theorem onlyFields_setFld {s t : State} {l : List FRef} {f : FRef} (v : Nat) (hf : f ∈ l) (h : s.onlyFields t l) :
    s.onlyFields (t.setFld f v) l :=
  fun g hg hl => (fld_setFld_apart t v hg (hl f hf)).trans (h g hg hl)

theorem onlyFields_incWrap {s t : State} {l : List FRef} {f : FRef} (hf : f ∈ l) (h : s.onlyFields t l) :
    s.onlyFields (t.incWrap f) l := onlyFields_setFld _ hf h

theorem onlyFields_incSat {s t : State} {l : List FRef} {f : FRef} (hf : f ∈ l) (h : s.onlyFields t l) :
    s.onlyFields (t.incSat f) l := by
  unfold State.incSat
  split
  · exact onlyFields_setFld _ hf h
  · exact h

theorem onlyFields_ite {s t u : State} {l : List FRef} {c : Prop} [Decidable c] (ht : s.onlyFields t l)
    (hu : s.onlyFields u l) : s.onlyFields (if c then t else u) l := by
  split
  · exact ht
  · exact hu

theorem onlyFields_trans {s t u : State} {l : List FRef} (h : s.onlyFields t l) (h' : t.onlyFields u l) :
    s.onlyFields u l := fun g hg hl => (h' g hg hl).trans (h g hg hl)

theorem onlyFields_mono {s t : State} {l m : List FRef} (hs : ∀ f ∈ l, f ∈ m) (h : s.onlyFields t l) :
    s.onlyFields t m := fun g hg hm => h g hg (fun f hf => hm f (hs f hf))

/-- A field of one word stored reads back where the other field stored over it is apart. -/
theorem fld_setFld_eq (s : State) (f : FRef) (v : Nat) (h : f.lo + f.w ≤ 32) (hv : v < 2 ^ f.w) :
    (s.setFld f v).fld f = v := by rw [fld_setFld_same s f v h, Nat.mod_eq_of_lt hv]

end Sys2Proof.Machine
end

