-- ==== Sys2Proof/Laws/Kept.lean ====
section
/-! SUPPORT. The frame of every shared operation towards the queue of commands, the straps, the debug SRAM, the next
job identifier and the identifiers of the jobs: one lemma per operation, saying that it leaves all five alone. -/

set_option linter.unusedSimpArgs false
set_option linter.unusedVariables false

namespace Sys2Proof.Machine

/-- What only a few operations of the block change: the queue, the straps, the SRAM, the numbering of the jobs. -/
def State.kept (s : State) : List Instr × Nat × List (Nat × Byte) × Nat × List Nat :=
  (s.pending, s.straps, s.sram, s.nextJob, s.jobs.map (fun j => j.id))

theorem kept_mk {a0 a1 a2 a3 a4 a5 a6 a7 a8 a9 a10 a11 a12 a13 a14 a15 a16 a17 a18 a19 a20 a21 a22 a23 a24 a25 a26 a27 a28 a29 a30 a31 a32 a33 a34 a35 a36 a37 a38 a39 a40 a41 a42 a43 a44 a45 a46 a47 a48 a49 a50 a51 a52 a53 a54 a55 a56 a57 a58 a59 a60 a61 a62 a63 a64 a65 a66 a67 a68 a69 a70 a71 a72 a73 a74 a75 a76 a77} : (State.mk a0 a1 a2 a3 a4 a5 a6 a7 a8 a9 a10 a11 a12 a13 a14 a15 a16 a17 a18 a19 a20 a21 a22 a23 a24 a25 a26 a27 a28 a29 a30 a31 a32 a33 a34 a35 a36 a37 a38 a39 a40 a41 a42 a43 a44 a45 a46 a47 a48 a49 a50 a51 a52 a53 a54 a55 a56 a57 a58 a59 a60 a61 a62 a63 a64 a65 a66 a67 a68 a69 a70 a71 a72 a73 a74 a75 a76 a77).kept = (a0, a37, a76, a9, List.map (fun j => j.id) a8) := rfl
theorem kept_fold (s : State) : (s.pending, s.straps, s.sram, s.nextJob, s.jobs.map (fun j => j.id)) = s.kept := rfl
theorem kept_ite (c : Prop) [Decidable c] (a b : State) : (if c then a else b).kept = if c then a.kept else b.kept := by split <;> rfl
theorem kept_foldl {α : Type} (l : List α) (f : State → α → State) (h : ∀ t a, (f t a).kept = t.kept) (s : State) : (l.foldl f s).kept = s.kept := by
  induction l generalizing s with
  | nil => rfl
  | cons a t ih => rw [List.foldl_cons, ih, h]
theorem State.modJob_kept (s : State) (id : Nat) (f : Job → Job) (h : ∀ j, (f j).id = j.id) : (s.modJob id f).kept = s.kept := by
  have e : (fun (j : Job) => j.id) ∘ (fun (j : Job) => if j.id = id then f j else j) = fun j => j.id := by
    funext j
    simp only [Function.comp]
    split
    · exact h j
    · rfl
  simp only [State.kept, State.modJob, List.map_map, e]
theorem State.hbmWrite_kept (s : State) (a : Nat) (l : List Nat) : (s.hbmWrite a l).kept = s.kept := by
  induction l generalizing s a with
  | nil => rfl
  | cons b t ih =>
    simp only [State.hbmWrite]
    rw [ih]
    split <;> rfl
theorem kept_let {s : State} (a : State) (b : State → State) (ha : a.kept = s.kept) (hb : ∀ t, t.kept = s.kept → (b t).kept = s.kept) :
    (b a).kept = s.kept := hb a ha
theorem ids_map (l : List Job) (f : Job → Job) (h : ∀ j, (f j).id = j.id) : (l.map f).map (fun j => j.id) = l.map (fun j => j.id) := by
  rw [List.map_map]
  exact List.map_congr_left (fun j _ => h j)
theorem kept_jobs (s : State) (l : List Job) (h : l.map (fun j => j.id) = s.jobs.map (fun j => j.id)) : ({ s with jobs := l }).kept = s.kept := by
  simp only [State.kept, h]

theorem State.setReg_kept (s : State) (x1 : Nat) (x2 : Word) : (State.setReg s x1 x2).kept = s.kept := by
  unfold State.setReg
  simp only [↓kept_ite, ↓kept_foldl, kept_mk, kept_fold, ite_self]
theorem State.setForceReg_kept (s : State) (x1 : Nat) (x2 : Word) : (State.setForceReg s x1 x2).kept = s.kept := by
  unfold State.setForceReg
  simp only [↓kept_ite, ↓kept_foldl, kept_mk, kept_fold, ite_self]
theorem State.setFld_kept (s : State) (x1 : FRef) (x2 : Nat) : (State.setFld s x1 x2).kept = s.kept := by
  unfold State.setFld
  simp only [↓State.setReg_kept, ↓kept_ite, ↓kept_foldl, kept_mk, kept_fold, ite_self]
theorem State.setInf_kept (s : State) (x1 : FRef) (x2 : Nat) : (State.setInf s x1 x2).kept = s.kept := by
  unfold State.setInf
  simp only [↓State.setForceReg_kept, ↓kept_ite, ↓kept_foldl, kept_mk, kept_fold, ite_self]
theorem State.apply_kept (s : State) (x1 : RegFile) : (State.apply s x1).kept = s.kept := by
  unfold State.apply
  simp only [↓kept_ite, ↓kept_foldl, kept_mk, kept_fold, ite_self]
theorem State.incSat_kept (s : State) (x1 : FRef) : (State.incSat s x1).kept = s.kept := by
  unfold State.incSat
  simp only [↓State.setFld_kept, ↓kept_ite, ↓kept_foldl, kept_mk, kept_fold, ite_self]
theorem State.incWrap_kept (s : State) (x1 : FRef) : (State.incWrap s x1).kept = s.kept := by
  unfold State.incWrap
  simp only [↓State.setFld_kept, ↓kept_ite, ↓kept_foldl, kept_mk, kept_fold, ite_self]
theorem State.resetRegs_kept (s : State) (x1 : Nat) (x2 : Nat) : (State.resetRegs s x1 x2).kept = s.kept := by
  unfold State.resetRegs
  simp only [↓kept_ite, ↓kept_foldl, kept_mk, kept_fold, ite_self]
theorem State.useFree_kept (s : State) : (State.useFree s).kept = s.kept := by
  unfold State.useFree
  simp only [↓kept_ite, ↓kept_foldl, kept_mk, kept_fold, ite_self]
theorem State.useFrees_kept (s : State) (n : Nat) : (State.useFrees s n).kept = s.kept := rfl
theorem State.emit_kept (s : State) (x1 : Out) : (State.emit s x1).kept = s.kept := by
  unfold State.emit
  simp only [↓kept_ite, ↓kept_foldl, kept_mk, kept_fold, ite_self]
theorem State.count_kept (s : State) (x1 : Nat) (x2 : Config.Count) (x3 : Nat) : (State.count s x1 x2 x3).kept = s.kept := by
  unfold State.count
  simp only [↓kept_ite, ↓kept_foldl, kept_mk, kept_fold, ite_self]
theorem State.raiseAt_kept (s : State) (x1 : Nat) (x2 : Nat) (x3 : Nat) (x4 : Nat) (x5 : List Nat) : (State.raiseAt s x1 x2 x3 x4 x5).kept = s.kept := by
  unfold State.raiseAt
  simp only [↓State.incWrap_kept, ↓kept_ite, ↓kept_foldl, kept_mk, kept_fold, ite_self]
theorem State.raise_kept (s : State) (x1 : Nat) (x2 : Nat) (x3 : Nat) (x4 : List Nat) : (State.raise s x1 x2 x3 x4).kept = s.kept := by
  unfold State.raise
  simp only [↓State.raiseAt_kept, ↓kept_ite, ↓kept_foldl, kept_mk, kept_fold, ite_self]
theorem State.clockEv_kept (s : State) (x1 : Nat) (x2 : Nat) : (State.clockEv s x1 x2).kept = s.kept := by
  unfold State.clockEv
  simp only [↓State.raise_kept, ↓kept_ite, ↓kept_foldl, kept_mk, kept_fold, ite_self]
theorem State.linkEv_kept (s : State) (x1 : Nat) (x2 : Nat) (x3 : Nat) (x4 : Nat) : (State.linkEv s x1 x2 x3 x4).kept = s.kept := by
  unfold State.linkEv
  simp only [↓State.raise_kept, ↓kept_ite, ↓kept_foldl, kept_mk, kept_fold, ite_self]
theorem State.memEv_kept (s : State) (x1 : Nat) (x2 : Nat) (x3 : Nat) : (State.memEv s x1 x2 x3).kept = s.kept := by
  unfold State.memEv
  simp only [↓State.raise_kept, ↓kept_ite, ↓kept_foldl, kept_mk, kept_fold, ite_self]
theorem State.calEv_kept (s : State) (x1 : Nat) (x2 : Nat) (x3 : Nat) : (State.calEv s x1 x2 x3).kept = s.kept := by
  unfold State.calEv
  simp only [↓State.raise_kept, ↓kept_ite, ↓kept_foldl, kept_mk, kept_fold, ite_self]
theorem State.fireVector_kept (s : State) (x1 : Nat) : (State.fireVector s x1).kept = s.kept := by
  unfold State.fireVector
  simp only [↓State.emit_kept, ↓kept_ite, ↓kept_foldl, kept_mk, kept_fold, ite_self]
theorem State.updatePin_kept (s : State) : (State.updatePin s).kept = s.kept := by
  unfold State.updatePin
  simp only [↓State.setFld_kept, ↓kept_ite, ↓kept_foldl, kept_mk, kept_fold, ite_self]
theorem State.updateFlt_kept (s : State) : (State.updateFlt s).kept = s.kept := by
  unfold State.updateFlt
  simp only [↓State.setFld_kept, ↓State.updatePin_kept, ↓kept_ite, ↓kept_foldl, kept_mk, kept_fold, ite_self]
theorem State.modFlt_kept (s : State) (x1 : Nat) (x2 : Flt → Flt) : (State.modFlt s x1 x2).kept = s.kept := by
  unfold State.modFlt
  simp only [↓State.updateFlt_kept, ↓kept_ite, ↓kept_foldl, kept_mk, kept_fold, ite_self]
theorem State.fault_kept (s : State) (x1 x2 : Nat) (x3 : Option Nat) (x4 : Bool) (x5 x6 x7 : Nat) (x8 : Job → Bool) : (s.fault x1 x2 x3 x4 x5 x6 x7 x8).kept = s.kept := by
  unfold State.fault
  simp (disch := (intro j; split <;> rfl)) only [↓State.raise_kept, ↓State.updateFlt_kept, ↓kept_ite, ite_self, kept_mk, ids_map]
  exact State.setFld_kept s _ _
theorem State.restoredAt_kept (s : State) (x1 : Nat) (x2 : Nat) : (State.restoredAt s x1 x2).kept = s.kept := by
  unfold State.restoredAt
  simp only [↓State.modFlt_kept, ↓kept_ite, ↓kept_foldl, kept_mk, kept_fold, ite_self]
theorem State.jrec_kept (s : State) (x1 : Nat) (x2 : Nat) (x3 : Nat) (x4 : Desc) (x5 : Nat) (x6 : Nat) (x7 : Nat) (x8 : Nat) (x9 : Nat) : (State.jrec s x1 x2 x3 x4 x5 x6 x7 x8 x9).kept = s.kept := by
  unfold State.jrec
  simp only [↓State.incWrap_kept, ↓State.count_kept, ↓kept_ite, ↓kept_foldl, kept_mk, kept_fold, ite_self]
theorem State.jrecJob_kept (s : State) (x1 : Nat) (x2 : Job) (x3 : Nat) : (State.jrecJob s x1 x2 x3).kept = s.kept := by
  unfold State.jrecJob
  simp only [↓State.jrec_kept, ↓kept_ite, ↓kept_foldl, kept_mk, kept_fold, ite_self]
theorem State.updateJnl_kept (s : State) : (State.updateJnl s).kept = s.kept := by
  unfold State.updateJnl
  simp only [↓State.setFld_kept, ↓kept_ite, ↓kept_foldl, kept_mk, kept_fold, ite_self]
theorem State.coalesce_kept (s : State) (x1 : Nat) : (State.coalesce s x1).kept = s.kept := by
  unfold State.coalesce
  simp only [↓State.fireVector_kept, ↓kept_ite, ↓kept_foldl, kept_mk, kept_fold, ite_self]
theorem State.postEntry_kept (s : State) (x1 : Nat) (x2 : Cpl) (x3 : Bool) : (State.postEntry s x1 x2 x3).kept = s.kept := by
  unfold State.postEntry
  simp only [↓State.setFld_kept, ↓State.coalesce_kept, ↓State.emit_kept, ↓kept_ite, ↓kept_foldl, kept_mk, kept_fold, ite_self]
theorem State.updateStanding_kept (s : State) (x1 : Nat) : (State.updateStanding s x1).kept = s.kept := by
  unfold State.updateStanding
  simp only [↓State.setFld_kept, ↓kept_ite, ↓kept_foldl, kept_mk, kept_fold, ite_self]
theorem State.complete_kept (s : State) (x1 : Nat) (x2 : Nat) (x3 : Nat) (x4 : Nat) : (State.complete s x1 x2 x3 x4).kept = s.kept := by
  unfold State.complete
  (try simp (disch := (first | (intros; rfl) | (intros; (try simp only [↓State.updateStanding_kept, ↓State.modJob_kept, ↓kept_ite, ↓kept_foldl, kept_mk, kept_fold, ite_self]) <;> repeat' (split <;> (try rfl) <;> (try simp only [↓State.updateStanding_kept, ↓State.modJob_kept, ↓kept_ite, ↓kept_foldl, kept_mk, kept_fold, ite_self]))))) only [↓State.updateStanding_kept, ↓State.modJob_kept, ↓kept_ite, ↓kept_foldl, kept_mk, kept_fold, ite_self]) <;> (repeat' (split <;> (try simp (disch := (first | (intros; rfl) | (intros; (try simp only [↓State.updateStanding_kept, ↓State.modJob_kept, ↓kept_ite, ↓kept_foldl, kept_mk, kept_fold, ite_self]) <;> repeat' (split <;> (try rfl) <;> (try simp only [↓State.updateStanding_kept, ↓State.modJob_kept, ↓kept_ite, ↓kept_foldl, kept_mk, kept_fold, ite_self]))))) only [↓State.updateStanding_kept, ↓State.modJob_kept, ↓kept_ite, ↓kept_foldl, kept_mk, kept_fold, ite_self])))
theorem State.setExtent_kept (s : State) (x1 : Nat) (x2 : Nat) : (State.setExtent s x1 x2).kept = s.kept := by
  unfold State.setExtent
  (try simp (disch := (first | (intros; rfl) | (intros; (try simp only [↓State.modJob_kept, ↓kept_ite, ↓kept_foldl, kept_mk, kept_fold, ite_self]) <;> repeat' (split <;> (try rfl) <;> (try simp only [↓State.modJob_kept, ↓kept_ite, ↓kept_foldl, kept_mk, kept_fold, ite_self]))))) only [↓State.modJob_kept, ↓kept_ite, ↓kept_foldl, kept_mk, kept_fold, ite_self]) <;> (repeat' (split <;> (try simp (disch := (first | (intros; rfl) | (intros; (try simp only [↓State.modJob_kept, ↓kept_ite, ↓kept_foldl, kept_mk, kept_fold, ite_self]) <;> repeat' (split <;> (try rfl) <;> (try simp only [↓State.modJob_kept, ↓kept_ite, ↓kept_foldl, kept_mk, kept_fold, ite_self]))))) only [↓State.modJob_kept, ↓kept_ite, ↓kept_foldl, kept_mk, kept_fold, ite_self])))
theorem State.postHead_kept (s : State) (x1 : Nat) : (State.postHead s x1).kept = s.kept := by
  unfold State.postHead
  (try simp (disch := (first | (intros; rfl) | (intros; (try simp only [↓State.setFld_kept, ↓State.modJob_kept, ↓State.postEntry_kept, ↓State.jrecJob_kept, ↓kept_ite, ↓kept_foldl, kept_mk, kept_fold, ite_self]) <;> repeat' (split <;> (try rfl) <;> (try simp only [↓State.setFld_kept, ↓State.modJob_kept, ↓State.postEntry_kept, ↓State.jrecJob_kept, ↓kept_ite, ↓kept_foldl, kept_mk, kept_fold, ite_self]))))) only [↓State.setFld_kept, ↓State.modJob_kept, ↓State.postEntry_kept, ↓State.jrecJob_kept, ↓kept_ite, ↓kept_foldl, kept_mk, kept_fold, ite_self]) <;> (repeat' (split <;> (try simp (disch := (first | (intros; rfl) | (intros; (try simp only [↓State.setFld_kept, ↓State.modJob_kept, ↓State.postEntry_kept, ↓State.jrecJob_kept, ↓kept_ite, ↓kept_foldl, kept_mk, kept_fold, ite_self]) <;> repeat' (split <;> (try rfl) <;> (try simp only [↓State.setFld_kept, ↓State.modJob_kept, ↓State.postEntry_kept, ↓State.jrecJob_kept, ↓kept_ite, ↓kept_foldl, kept_mk, kept_fold, ite_self]))))) only [↓State.setFld_kept, ↓State.modJob_kept, ↓State.postEntry_kept, ↓State.jrecJob_kept, ↓kept_ite, ↓kept_foldl, kept_mk, kept_fold, ite_self])))
theorem State.updateHeld_kept (s : State) : (State.updateHeld s).kept = s.kept := by
  unfold State.updateHeld
  simp only [↓State.setFld_kept, ↓kept_ite, ↓kept_foldl, kept_mk, kept_fold, ite_self]
theorem State.updateCaps_kept (s : State) : (State.updateCaps s).kept = s.kept := by
  unfold State.updateCaps
  (try simp (disch := (first | (intros; rfl) | (intros; (try simp only [↓State.setFld_kept, ↓kept_ite, ↓kept_foldl, kept_mk, kept_fold, ite_self]) <;> repeat' (split <;> (try rfl) <;> (try simp only [↓State.setFld_kept, ↓kept_ite, ↓kept_foldl, kept_mk, kept_fold, ite_self]))))) only [↓State.setFld_kept, ↓kept_ite, ↓kept_foldl, kept_mk, kept_fold, ite_self]) <;> (repeat' (split <;> (try simp (disch := (first | (intros; rfl) | (intros; (try simp only [↓State.setFld_kept, ↓kept_ite, ↓kept_foldl, kept_mk, kept_fold, ite_self]) <;> repeat' (split <;> (try rfl) <;> (try simp only [↓State.setFld_kept, ↓kept_ite, ↓kept_foldl, kept_mk, kept_fold, ite_self]))))) only [↓State.setFld_kept, ↓kept_ite, ↓kept_foldl, kept_mk, kept_fold, ite_self])))
theorem State.setFill_kept (s : State) (x1 : Nat) : (State.setFill s x1).kept = s.kept := by
  unfold State.setFill
  simp only [↓State.setFld_kept, ↓kept_ite, ↓kept_foldl, kept_mk, kept_fold, ite_self]
theorem State.rtWrite_kept (s : State) (x1 : Nat) (x2 : List Nat) : (State.rtWrite s x1 x2).kept = s.kept := by
  unfold State.rtWrite
  simp only [↓State.hbmWrite_kept, ↓State.setFill_kept, ↓kept_ite, ↓kept_foldl, kept_mk, kept_fold, ite_self]
theorem State.unstall_kept (s : State) (x1 : List Nat) : (State.unstall s x1).kept = s.kept := by
  unfold State.unstall
  simp only [↓State.setFill_kept, ↓kept_ite, ↓kept_foldl, kept_mk, kept_fold, ite_self]
theorem State.stall_kept (s : State) (x1 : List Nat) : (State.stall s x1).kept = s.kept := by
  unfold State.stall
  simp only [↓kept_ite, ↓kept_foldl, kept_mk, kept_fold, ite_self]
theorem State.updateOldest_kept (s : State) (x1 : Nat) : (State.updateOldest s x1).kept = s.kept := by
  unfold State.updateOldest
  simp only [↓State.setFld_kept, ↓kept_ite, ↓kept_foldl, kept_mk, kept_fold, ite_self]
theorem State.updateFreezeRegs_kept (s : State) : (State.updateFreezeRegs s).kept = s.kept := by
  unfold State.updateFreezeRegs
  simp only [↓State.setFld_kept, ↓kept_ite, ↓kept_foldl, kept_mk, kept_fold, ite_self]
theorem State.takeGran_kept (s : State) (x1 : Nat) (x2 : Nat) (x3 : Nat) : (State.takeGran s x1 x2 x3).kept = s.kept := by
  unfold State.takeGran
  simp only [↓State.updateOldest_kept, ↓kept_ite, ↓kept_foldl, kept_mk, kept_fold, ite_self]
theorem State.writeBeatAt_kept (s : State) (x1 : Nat) (x2 : Nat) (x3 : List Nat) (x4 : Nat) (x5 : Bool) : (State.writeBeatAt s x1 x2 x3 x4 x5).kept = s.kept := by
  unfold State.writeBeatAt
  simp only [↓State.rtWrite_kept, ↓kept_ite, ↓kept_foldl, kept_mk, kept_fold, ite_self]
theorem State.fillGap_kept (s : State) (j k0 n : Nat) : (s.fillGap j k0 n).kept = s.kept := by
  induction n with
  | zero => rfl
  | succ n ih => rw [State.fillGap, State.writeBeatAt_kept, ih]
theorem State.completeFreezes_kept (s : State) : (State.completeFreezes s).kept = s.kept := by
  unfold State.completeFreezes
  simp only [↓kept_ite, ↓kept_foldl, kept_mk, kept_fold, ite_self]
theorem State.ringWrite_kept (s : State) (x1 : Nat) (x2 : Nat) (x3 : Nat) (x4 : List Nat) (x5 : Nat) : (State.ringWrite s x1 x2 x3 x4 x5).kept = s.kept := by
  unfold State.ringWrite
  (try simp only [↓State.writeBeatAt_kept, ↓State.takeGran_kept, ↓State.setFld_kept, ↓State.memEv_kept, ↓State.fillGap_kept, ↓State.completeFreezes_kept, ↓kept_ite, ↓kept_foldl, kept_mk, kept_fold, ite_self]) <;> (repeat' (split <;> (try simp only [↓State.writeBeatAt_kept, ↓State.takeGran_kept, ↓State.setFld_kept, ↓State.memEv_kept, ↓State.fillGap_kept, ↓State.completeFreezes_kept, ↓kept_ite, ↓kept_foldl, kept_mk, kept_fold, ite_self])))
theorem State.newFreeze_kept (s : State) (x1 : Nat) (x2 : Nat) (x3 : Nat) (x4 : Nat) (x5 : Nat) : (State.newFreeze s x1 x2 x3 x4 x5).kept = s.kept := by
  unfold State.newFreeze
  (try simp (disch := (first | (intros; rfl) | (intros; (try simp only [↓State.updateOldest_kept, ↓State.updateFreezeRegs_kept, ↓State.completeFreezes_kept, ↓kept_ite, ↓kept_foldl, kept_mk, kept_fold, ite_self]) <;> repeat' (split <;> (try rfl) <;> (try simp only [↓State.updateOldest_kept, ↓State.updateFreezeRegs_kept, ↓State.completeFreezes_kept, ↓kept_ite, ↓kept_foldl, kept_mk, kept_fold, ite_self]))))) only [↓State.updateOldest_kept, ↓State.updateFreezeRegs_kept, ↓State.completeFreezes_kept, ↓kept_ite, ↓kept_foldl, kept_mk, kept_fold, ite_self]) <;> (repeat' (split <;> (try simp (disch := (first | (intros; rfl) | (intros; (try simp only [↓State.updateOldest_kept, ↓State.updateFreezeRegs_kept, ↓State.completeFreezes_kept, ↓kept_ite, ↓kept_foldl, kept_mk, kept_fold, ite_self]) <;> repeat' (split <;> (try rfl) <;> (try simp only [↓State.updateOldest_kept, ↓State.updateFreezeRegs_kept, ↓State.completeFreezes_kept, ↓kept_ite, ↓kept_foldl, kept_mk, kept_fold, ite_self]))))) only [↓State.updateOldest_kept, ↓State.updateFreezeRegs_kept, ↓State.completeFreezes_kept, ↓kept_ite, ↓kept_foldl, kept_mk, kept_fold, ite_self])))
theorem State.unhold_kept (s : State) (x1 : List Nat) : (State.unhold s x1).kept = s.kept := by
  unfold State.unhold
  (try simp (disch := (first | (intros; rfl) | (intros; (try simp only [↓State.updateOldest_kept, ↓kept_ite, ↓kept_foldl, kept_mk, kept_fold, ite_self]) <;> repeat' (split <;> (try rfl) <;> (try simp only [↓State.updateOldest_kept, ↓kept_ite, ↓kept_foldl, kept_mk, kept_fold, ite_self]))))) only [↓State.updateOldest_kept, ↓kept_ite, ↓kept_foldl, kept_mk, kept_fold, ite_self]) <;> (repeat' (split <;> (try simp (disch := (first | (intros; rfl) | (intros; (try simp only [↓State.updateOldest_kept, ↓kept_ite, ↓kept_foldl, kept_mk, kept_fold, ite_self]) <;> repeat' (split <;> (try rfl) <;> (try simp only [↓State.updateOldest_kept, ↓kept_ite, ↓kept_foldl, kept_mk, kept_fold, ite_self]))))) only [↓State.updateOldest_kept, ↓kept_ite, ↓kept_foldl, kept_mk, kept_fold, ite_self])))
theorem State.hold_kept (s : State) (x1 : List Nat) : (State.hold s x1).kept = s.kept := by
  unfold State.hold
  (try simp (disch := (first | (intros; rfl) | (intros; (try simp only [↓State.updateOldest_kept, ↓kept_ite, ↓kept_foldl, kept_mk, kept_fold, ite_self]) <;> repeat' (split <;> (try rfl) <;> (try simp only [↓State.updateOldest_kept, ↓kept_ite, ↓kept_foldl, kept_mk, kept_fold, ite_self]))))) only [↓State.updateOldest_kept, ↓kept_ite, ↓kept_foldl, kept_mk, kept_fold, ite_self]) <;> (repeat' (split <;> (try simp (disch := (first | (intros; rfl) | (intros; (try simp only [↓State.updateOldest_kept, ↓kept_ite, ↓kept_foldl, kept_mk, kept_fold, ite_self]) <;> repeat' (split <;> (try rfl) <;> (try simp only [↓State.updateOldest_kept, ↓kept_ite, ↓kept_foldl, kept_mk, kept_fold, ite_self]))))) only [↓State.updateOldest_kept, ↓kept_ite, ↓kept_foldl, kept_mk, kept_fold, ite_self])))
theorem State.releaseFreeze_kept (s : State) (x1 : Nat) : (State.releaseFreeze s x1).kept = s.kept := by
  unfold State.releaseFreeze
  (try simp only [↓State.updateFreezeRegs_kept, ↓State.unhold_kept, ↓kept_ite, ↓kept_foldl, kept_mk, kept_fold, ite_self]) <;> (repeat' (split <;> (try simp only [↓State.updateFreezeRegs_kept, ↓State.unhold_kept, ↓kept_ite, ↓kept_foldl, kept_mk, kept_fold, ite_self])))
theorem State.dropGranules_kept (s : State) : (State.dropGranules s).kept = s.kept := by
  unfold State.dropGranules
  (try simp (disch := (first | (intros; rfl) | (intros; (try simp only [↓State.updateOldest_kept, ↓kept_ite, ↓kept_foldl, kept_mk, kept_fold, ite_self]) <;> repeat' (split <;> (try rfl) <;> (try simp only [↓State.updateOldest_kept, ↓kept_ite, ↓kept_foldl, kept_mk, kept_fold, ite_self]))))) only [↓State.updateOldest_kept, ↓kept_ite, ↓kept_foldl, kept_mk, kept_fold, ite_self]) <;> (repeat' (split <;> (try simp (disch := (first | (intros; rfl) | (intros; (try simp only [↓State.updateOldest_kept, ↓kept_ite, ↓kept_foldl, kept_mk, kept_fold, ite_self]) <;> repeat' (split <;> (try rfl) <;> (try simp only [↓State.updateOldest_kept, ↓kept_ite, ↓kept_foldl, kept_mk, kept_fold, ite_self]))))) only [↓State.updateOldest_kept, ↓kept_ite, ↓kept_foldl, kept_mk, kept_fold, ite_self])))
theorem State.modSlot_kept (s : State) (x1 : Nat) (x2 : SlotSt → SlotSt) : (State.modSlot s x1 x2).kept = s.kept := by
  unfold State.modSlot
  simp only [↓kept_ite, ↓kept_foldl, kept_mk, kept_fold, ite_self]
theorem State.demandSysref_kept (s : State) : (State.demandSysref s).kept = s.kept := by
  unfold State.demandSysref
  simp only [↓kept_ite, ↓kept_foldl, kept_mk, kept_fold, ite_self]
theorem State.linkStart_kept (s : State) (x1 : Nat) : (State.linkStart s x1).kept = s.kept := by
  unfold State.linkStart
  simp only [↓State.setFld_kept, ↓State.modSlot_kept, ↓kept_ite, ↓kept_foldl, kept_mk, kept_fold, ite_self]
theorem State.linkOff_kept (s : State) (x1 : Nat) : (State.linkOff s x1).kept = s.kept := by
  unfold State.linkOff
  simp only [↓State.setFld_kept, ↓State.modSlot_kept, ↓kept_ite, ↓kept_foldl, kept_mk, kept_fold, ite_self]
theorem State.jesdEv_kept (s : State) (x1 : Nat) (x2 : Nat) : (State.jesdEv s x1 x2).kept = s.kept := by
  unfold State.jesdEv
  simp only [↓State.linkEv_kept, ↓kept_ite, ↓kept_foldl, kept_mk, kept_fold, ite_self]
theorem State.linkRestart_kept (s : State) (x1 : Nat) : (State.linkRestart s x1).kept = s.kept := by
  unfold State.linkRestart
  simp only [↓State.modSlot_kept, ↓State.linkStart_kept, ↓kept_ite, ↓kept_foldl, kept_mk, kept_fold, ite_self]
theorem State.sysrefAlign_kept (s : State) (x1 : Nat × Nat × Nat) : (State.sysrefAlign s x1).kept = s.kept := by
  unfold State.sysrefAlign
  simp only [↓State.setFld_kept, ↓State.modSlot_kept, ↓State.jesdEv_kept, ↓State.linkStart_kept, ↓kept_ite, ↓kept_foldl, kept_mk, kept_fold, ite_self]
theorem slotSourceApply_kept (s : State) (x1 : Desc) : (slotSourceApply s x1).kept = s.kept := by
  unfold slotSourceApply
  simp only [↓State.linkOff_kept, ↓State.setFld_kept, ↓State.modSlot_kept, ↓State.linkStart_kept, ↓kept_ite, ↓kept_foldl, kept_mk, kept_fold, ite_self]
theorem State.landAtten_kept (s : State) (x1 : AttenReq) : (State.landAtten s x1).kept = s.kept := by
  unfold State.landAtten
  simp only [↓State.setFld_kept, ↓State.modSlot_kept, ↓State.setInf_kept, ↓kept_ite, ↓kept_foldl, kept_mk, kept_fold, ite_self]
theorem State.landAttens_kept (s : State) (x1 : Nat) : (State.landAttens s x1).kept = s.kept := by
  unfold State.landAttens
  (try simp (disch := (first | (intros; rfl) | (intros; (try simp only [↓State.landAtten_kept, ↓kept_ite, ↓kept_foldl, kept_mk, kept_fold, ite_self]) <;> repeat' (split <;> (try rfl) <;> (try simp only [↓State.landAtten_kept, ↓kept_ite, ↓kept_foldl, kept_mk, kept_fold, ite_self]))))) only [↓State.landAtten_kept, ↓kept_ite, ↓kept_foldl, kept_mk, kept_fold, ite_self]) <;> (repeat' (split <;> (try simp (disch := (first | (intros; rfl) | (intros; (try simp only [↓State.landAtten_kept, ↓kept_ite, ↓kept_foldl, kept_mk, kept_fold, ite_self]) <;> repeat' (split <;> (try rfl) <;> (try simp only [↓State.landAtten_kept, ↓kept_ite, ↓kept_foldl, kept_mk, kept_fold, ite_self]))))) only [↓State.landAtten_kept, ↓kept_ite, ↓kept_foldl, kept_mk, kept_fold, ite_self])))
theorem State.updatePins_kept (s : State) : (State.updatePins s).kept = s.kept := by
  unfold State.updatePins
  (try simp (disch := (first | (intros; rfl) | (intros; (try simp only [↓State.emit_kept, ↓kept_ite, ↓kept_foldl, kept_mk, kept_fold, ite_self]) <;> repeat' (split <;> (try rfl) <;> (try simp only [↓State.emit_kept, ↓kept_ite, ↓kept_foldl, kept_mk, kept_fold, ite_self]))))) only [↓State.emit_kept, ↓kept_ite, ↓kept_foldl, kept_mk, kept_fold, ite_self]) <;> (repeat' (split <;> (try simp (disch := (first | (intros; rfl) | (intros; (try simp only [↓State.emit_kept, ↓kept_ite, ↓kept_foldl, kept_mk, kept_fold, ite_self]) <;> repeat' (split <;> (try rfl) <;> (try simp only [↓State.emit_kept, ↓kept_ite, ↓kept_foldl, kept_mk, kept_fold, ite_self]))))) only [↓State.emit_kept, ↓kept_ite, ↓kept_foldl, kept_mk, kept_fold, ite_self])))
theorem State.fastOvr_kept (s : State) (x1 : Nat) (x2 : Bool) : (State.fastOvr s x1 x2).kept = s.kept := by
  unfold State.fastOvr
  simp only [↓State.setFld_kept, ↓State.modSlot_kept, ↓State.updatePins_kept, ↓kept_ite, ↓kept_foldl, kept_mk, kept_fold, ite_self]
theorem State.slotBeat_kept (s : State) (x1 : Nat) (x2 : Beat) : (State.slotBeat s x1 x2).kept = s.kept := by
  unfold State.slotBeat
  simp only [↓State.restoredAt_kept, ↓State.setFld_kept, ↓State.modSlot_kept, ↓State.jesdEv_kept, ↓State.fastOvr_kept, ↓State.count_kept, ↓kept_ite, ↓kept_foldl, kept_mk, kept_fold, ite_self]
theorem State.modStreams_kept (s : State) (x1 : Stream → Bool) (x2 : Stream → Stream) : (State.modStreams s x1 x2).kept = s.kept := by
  unfold State.modStreams
  simp only [↓kept_ite, ↓kept_foldl, kept_mk, kept_fold, ite_self]
theorem State.modStream_kept (s : State) (x1 : Nat) (x2 : Stream → Stream) : (State.modStream s x1 x2).kept = s.kept := by
  unfold State.modStream
  simp only [↓State.modStreams_kept, ↓kept_ite, ↓kept_foldl, kept_mk, kept_fold, ite_self]
theorem State.streamItem_kept (s : State) (x1 : Nat) (x2 : Nat) (x3 : Nat) (x4 : Item) : (State.streamItem s x1 x2 x3 x4).kept = s.kept := by
  unfold State.streamItem
  simp only [↓State.modStreams_kept, ↓kept_ite, ↓kept_foldl, kept_mk, kept_fold, ite_self]
theorem State.streamGone_kept (s : State) (x1 : Nat) (x2 : Nat) (x3 : Nat) (x4 : List Nat) : (State.streamGone s x1 x2 x3 x4).kept = s.kept := by
  unfold State.streamGone
  simp only [↓State.modStreams_kept, ↓kept_ite, ↓kept_foldl, kept_mk, kept_fold, ite_self]
theorem State.endStream_kept (s : State) (x1 : Nat) (x2 : Nat) : (State.endStream s x1 x2).kept = s.kept := by
  unfold State.endStream
  (try simp only [↓State.setFld_kept, ↓State.complete_kept, ↓kept_ite, ↓kept_foldl, kept_mk, kept_fold, ite_self]) <;> (repeat' (split <;> (try simp only [↓State.setFld_kept, ↓State.complete_kept, ↓kept_ite, ↓kept_foldl, kept_mk, kept_fold, ite_self])))
theorem State.noteShed_kept (s : State) (x1 : Nat) (x2 : Nat) : (State.noteShed s x1 x2).kept = s.kept := by
  unfold State.noteShed
  simp only [↓State.modFlt_kept, ↓kept_ite, ↓kept_foldl, kept_mk, kept_fold, ite_self]
theorem State.blame_kept (s : State) (x1 : Nat) (x2 : Nat) : (State.blame s x1 x2).kept = s.kept := by
  unfold State.blame
  (try simp (disch := (first | (intros; rfl) | (intros; (try simp only [↓State.modJob_kept, ↓kept_ite, ↓kept_foldl, kept_mk, kept_fold, ite_self]) <;> repeat' (split <;> (try rfl) <;> (try simp only [↓State.modJob_kept, ↓kept_ite, ↓kept_foldl, kept_mk, kept_fold, ite_self]))))) only [↓State.modJob_kept, ↓kept_ite, ↓kept_foldl, kept_mk, kept_fold, ite_self]) <;> (repeat' (split <;> (try simp (disch := (first | (intros; rfl) | (intros; (try simp only [↓State.modJob_kept, ↓kept_ite, ↓kept_foldl, kept_mk, kept_fold, ite_self]) <;> repeat' (split <;> (try rfl) <;> (try simp only [↓State.modJob_kept, ↓kept_ite, ↓kept_foldl, kept_mk, kept_fold, ite_self]))))) only [↓State.modJob_kept, ↓kept_ite, ↓kept_foldl, kept_mk, kept_fold, ite_self])))
theorem State.shedStreams_kept (s : State) (x1 : Nat) (x2 : Stream → Bool) : (State.shedStreams s x1 x2).kept = s.kept := by
  unfold State.shedStreams
  (try simp (disch := (first | (intros; rfl) | (intros; (try simp only [↓State.endStream_kept, ↓State.noteShed_kept, ↓State.count_kept, ↓State.blame_kept, ↓kept_ite, ↓kept_foldl, kept_mk, kept_fold, ite_self]) <;> repeat' (split <;> (try rfl) <;> (try simp only [↓State.endStream_kept, ↓State.noteShed_kept, ↓State.count_kept, ↓State.blame_kept, ↓kept_ite, ↓kept_foldl, kept_mk, kept_fold, ite_self]))))) only [↓State.endStream_kept, ↓State.noteShed_kept, ↓State.count_kept, ↓State.blame_kept, ↓kept_ite, ↓kept_foldl, kept_mk, kept_fold, ite_self]) <;> (repeat' (split <;> (try simp (disch := (first | (intros; rfl) | (intros; (try simp only [↓State.endStream_kept, ↓State.noteShed_kept, ↓State.count_kept, ↓State.blame_kept, ↓kept_ite, ↓kept_foldl, kept_mk, kept_fold, ite_self]) <;> repeat' (split <;> (try rfl) <;> (try simp only [↓State.endStream_kept, ↓State.noteShed_kept, ↓State.count_kept, ↓State.blame_kept, ↓kept_ite, ↓kept_foldl, kept_mk, kept_fold, ite_self]))))) only [↓State.endStream_kept, ↓State.noteShed_kept, ↓State.count_kept, ↓State.blame_kept, ↓kept_ite, ↓kept_foldl, kept_mk, kept_fold, ite_self])))
theorem State.modCore_kept (s : State) (x1 : Nat) (x2 : Nat) (x3 : Core → Core) : (State.modCore s x1 x2 x3).kept = s.kept := by
  unfold State.modCore
  simp only [↓kept_ite, ↓kept_foldl, kept_mk, kept_fold, ite_self]
theorem State.queueMsg_kept (s : State) (x1 : Nat) (x2 : Nat) (x3 : Msg) : (State.queueMsg s x1 x2 x3).kept = s.kept := by
  unfold State.queueMsg
  simp only [↓State.incSat_kept, ↓State.modCore_kept, ↓State.setFld_kept, ↓State.count_kept, ↓kept_ite, ↓kept_foldl, kept_mk, kept_fold, ite_self]
theorem State.notify_kept (s : State) (x1 : Nat) (x2 : Nat) (x3 : Nat) (x4 : Nat) (x5 : Nat) (x6 : Nat) : (State.notify s x1 x2 x3 x4 x5 x6).kept = s.kept := by
  unfold State.notify
  (try simp (disch := (first | (intros; rfl) | (intros; (try simp only [↓State.queueMsg_kept, ↓kept_ite, ↓kept_foldl, kept_mk, kept_fold, ite_self]) <;> repeat' (split <;> (try rfl) <;> (try simp only [↓State.queueMsg_kept, ↓kept_ite, ↓kept_foldl, kept_mk, kept_fold, ite_self]))))) only [↓State.queueMsg_kept, ↓kept_ite, ↓kept_foldl, kept_mk, kept_fold, ite_self]) <;> (repeat' (split <;> (try simp (disch := (first | (intros; rfl) | (intros; (try simp only [↓State.queueMsg_kept, ↓kept_ite, ↓kept_foldl, kept_mk, kept_fold, ite_self]) <;> repeat' (split <;> (try rfl) <;> (try simp only [↓State.queueMsg_kept, ↓kept_ite, ↓kept_foldl, kept_mk, kept_fold, ite_self]))))) only [↓State.queueMsg_kept, ↓kept_ite, ↓kept_foldl, kept_mk, kept_fold, ite_self])))
theorem State.trigMsg_kept (s : State) (x1 : Nat) (x2 : Nat) (x3 : List Nat) : (State.trigMsg s x1 x2 x3).kept = s.kept := by
  unfold State.trigMsg
  simp only [↓State.queueMsg_kept, ↓kept_ite, ↓kept_foldl, kept_mk, kept_fold, ite_self]
theorem State.ddcFire_kept (s : State) (x1 : Nat) (x2 : Nat) (x3 : Nat) : (State.ddcFire s x1 x2 x3).1.kept = s.kept := by
  unfold State.ddcFire
  (try simp only [↓State.modStream_kept, ↓kept_ite, ↓kept_foldl, kept_mk, kept_fold, ite_self]) <;> (repeat' (split <;> (try simp only [↓State.modStream_kept, ↓kept_ite, ↓kept_foldl, kept_mk, kept_fold, ite_self])))
theorem State.modDue_kept (s : State) (x1 : Nat) (x2 : CalDue → CalDue) : (State.modDue s x1 x2).kept = s.kept := by
  unfold State.modDue
  simp only [↓kept_ite, ↓kept_foldl, kept_mk, kept_fold, ite_self]
theorem State.updatePending_kept (s : State) : (State.updatePending s).kept = s.kept := by
  unfold State.updatePending
  simp only [↓State.setFld_kept, ↓kept_ite, ↓kept_foldl, kept_mk, kept_fold, ite_self]
theorem State.steer8_kept (s : State) (x1 : Nat) : (State.steer8 s x1).kept = s.kept := by
  unfold State.steer8
  simp only [↓State.setFld_kept, ↓kept_ite, ↓kept_foldl, kept_mk, kept_fold, ite_self]
theorem State.abortBist_kept (s : State) (x1 : Nat) (x2 : Nat) : (State.abortBist s x1 x2).kept = s.kept := by
  unfold State.abortBist
  (try simp only [↓State.setFld_kept, ↓State.complete_kept, ↓kept_ite, ↓kept_foldl, kept_mk, kept_fold, ite_self]) <;> (repeat' (split <;> (try simp only [↓State.setFld_kept, ↓State.complete_kept, ↓kept_ite, ↓kept_foldl, kept_mk, kept_fold, ite_self])))
theorem State.lendSpare_kept (s : State) (x1 : Nat) (x2 : Nat) : (State.lendSpare s x1 x2).kept = s.kept := by
  unfold State.lendSpare
  simp only [↓State.steer8_kept, ↓State.setFld_kept, ↓State.abortBist_kept, ↓kept_ite, ↓kept_foldl, kept_mk, kept_fold, ite_self]
theorem State.freeSpare_kept (s : State) : (State.freeSpare s).kept = s.kept := by
  unfold State.freeSpare
  simp only [↓State.setFld_kept, ↓kept_ite, ↓kept_foldl, kept_mk, kept_fold, ite_self]
theorem State.calReport_kept (s : State) (x1 : Nat) (x2 : Nat) (x3 : Nat) : (State.calReport s x1 x2 x3).kept = s.kept := by
  unfold State.calReport
  (try simp only [↓State.complete_kept, ↓State.setExtent_kept, ↓kept_ite, ↓kept_foldl, kept_mk, kept_fold, ite_self]) <;> (repeat' (split <;> (try simp only [↓State.complete_kept, ↓State.setExtent_kept, ↓kept_ite, ↓kept_foldl, kept_mk, kept_fold, ite_self])))
theorem State.calReports_kept (s : State) (x1 : Nat) (x2 : Nat) (x3 : List Nat) : (State.calReports s x1 x2 x3).kept = s.kept := by
  unfold State.calReports
  (try simp (disch := (first | (intros; rfl) | (intros; (try simp only [↓State.calReport_kept, ↓kept_ite, ↓kept_foldl, kept_mk, kept_fold, ite_self]) <;> repeat' (split <;> (try rfl) <;> (try simp only [↓State.calReport_kept, ↓kept_ite, ↓kept_foldl, kept_mk, kept_fold, ite_self]))))) only [↓State.calReport_kept, ↓kept_ite, ↓kept_foldl, kept_mk, kept_fold, ite_self]) <;> (repeat' (split <;> (try simp (disch := (first | (intros; rfl) | (intros; (try simp only [↓State.calReport_kept, ↓kept_ite, ↓kept_foldl, kept_mk, kept_fold, ite_self]) <;> repeat' (split <;> (try rfl) <;> (try simp only [↓State.calReport_kept, ↓kept_ite, ↓kept_foldl, kept_mk, kept_fold, ite_self]))))) only [↓State.calReport_kept, ↓kept_ite, ↓kept_foldl, kept_mk, kept_fold, ite_self])))
theorem State.calSuccess_kept (s : State) (x1 : CalRun) : (State.calSuccess s x1).kept = s.kept := by
  unfold State.calSuccess
  simp only [↓State.incWrap_kept, ↓State.updatePending_kept, ↓State.modDue_kept, ↓State.setFld_kept, ↓State.freeSpare_kept, ↓State.calReports_kept, ↓kept_ite, ↓kept_foldl, kept_mk, kept_fold, ite_self]
theorem State.calRejected_kept (s : State) (x1 : CalRun) (x2 : Nat) : (State.calRejected s x1 x2).kept = s.kept := by
  unfold State.calRejected
  simp only [↓State.incWrap_kept, ↓State.calEv_kept, ↓State.updatePending_kept, ↓State.modDue_kept, ↓State.setFld_kept, ↓State.calReports_kept, ↓kept_ite, ↓kept_foldl, kept_mk, kept_fold, ite_self]
theorem State.calAborted_kept (s : State) (x1 : CalRun) : (State.calAborted s x1).kept = s.kept := by
  unfold State.calAborted
  simp only [↓State.incWrap_kept, ↓State.calEv_kept, ↓State.updatePending_kept, ↓State.modDue_kept, ↓State.setFld_kept, ↓State.calReports_kept, ↓kept_ite, ↓kept_foldl, kept_mk, kept_fold, ite_self]
theorem State.calResiduals_kept (s : State) (x1 : Nat) (x2 : Int) (x3 : Int) : (State.calResiduals s x1 x2 x3).kept = s.kept := by
  unfold State.calResiduals
  simp only [↓State.setFld_kept, ↓kept_ite, ↓kept_foldl, kept_mk, kept_fold, ite_self]
theorem State.setRun_kept (s : State) (x1 : Option CalRun) : (State.setRun s x1).kept = s.kept := by
  unfold State.setRun
  simp only [↓kept_ite, ↓kept_foldl, kept_mk, kept_fold, ite_self]
theorem State.calPendReports_kept (s : State) : (State.calPendReports s).kept = s.kept := by
  unfold State.calPendReports
  (try simp (disch := (first | (intros; rfl) | (intros; (try simp only [↓State.modDue_kept, ↓State.calReports_kept, ↓kept_ite, ↓kept_foldl, kept_mk, kept_fold, ite_self]) <;> repeat' (split <;> (try rfl) <;> (try simp only [↓State.modDue_kept, ↓State.calReports_kept, ↓kept_ite, ↓kept_foldl, kept_mk, kept_fold, ite_self]))))) only [↓State.modDue_kept, ↓State.calReports_kept, ↓kept_ite, ↓kept_foldl, kept_mk, kept_fold, ite_self]) <;> (repeat' (split <;> (try simp (disch := (first | (intros; rfl) | (intros; (try simp only [↓State.modDue_kept, ↓State.calReports_kept, ↓kept_ite, ↓kept_foldl, kept_mk, kept_fold, ite_self]) <;> repeat' (split <;> (try rfl) <;> (try simp only [↓State.modDue_kept, ↓State.calReports_kept, ↓kept_ite, ↓kept_foldl, kept_mk, kept_fold, ite_self]))))) only [↓State.modDue_kept, ↓State.calReports_kept, ↓kept_ite, ↓kept_foldl, kept_mk, kept_fold, ite_self])))
theorem State.endBist_kept (s : State) : (State.endBist s).kept = s.kept := by
  unfold State.endBist
  (try simp only [↓State.setFld_kept, ↓State.modSlot_kept, ↓State.freeSpare_kept, ↓State.setRun_kept, ↓kept_ite, ↓kept_foldl, kept_mk, kept_fold, ite_self]) <;> (repeat' (split <;> (try simp only [↓State.setFld_kept, ↓State.modSlot_kept, ↓State.freeSpare_kept, ↓State.setRun_kept, ↓kept_ite, ↓kept_foldl, kept_mk, kept_fold, ite_self])))
theorem State.lateTakeover_kept (s : State) (x1 : Nat) (x2 : Nat) (x3 : Nat) : (State.lateTakeover s x1 x2 x3).kept = s.kept := by
  unfold State.lateTakeover
  (try simp only [↓State.raise_kept, ↓State.modFlt_kept, ↓kept_ite, ↓kept_foldl, kept_mk, kept_fold, ite_self]) <;> (repeat' (split <;> (try simp only [↓State.raise_kept, ↓State.modFlt_kept, ↓kept_ite, ↓kept_foldl, kept_mk, kept_fold, ite_self])))
theorem State.coverFailed_kept (s : State) : (State.coverFailed s).kept = s.kept := by
  unfold State.coverFailed
  (try simp only [↓State.lendSpare_kept, ↓State.modSlot_kept, ↓State.lateTakeover_kept, ↓kept_ite, ↓kept_foldl, kept_mk, kept_fold, ite_self]) <;> (repeat' (split <;> (try simp only [↓State.lendSpare_kept, ↓State.modSlot_kept, ↓State.lateTakeover_kept, ↓kept_ite, ↓kept_foldl, kept_mk, kept_fold, ite_self])))
theorem State.handBack_kept (s : State) (x1 : Nat) : (State.handBack s x1).kept = s.kept := by
  unfold State.handBack
  simp only [↓State.modSlot_kept, ↓State.setRun_kept, ↓kept_ite, ↓kept_foldl, kept_mk, kept_fold, ite_self]
theorem State.abandonHandover_kept (s : State) (x1 : CalRun) : (State.abandonHandover s x1).kept = s.kept := by
  unfold State.abandonHandover
  simp only [↓State.steer8_kept, ↓State.modSlot_kept, ↓State.freeSpare_kept, ↓State.setRun_kept, ↓kept_ite, ↓kept_foldl, kept_mk, kept_fold, ite_self]
theorem State.setFeeder_kept (s : State) (x1 x2 : Nat) : (State.setFeeder s x1 x2).kept = s.kept := by
  unfold State.setFeeder
  (try simp only [↓State.setFld_kept, ↓kept_ite, ↓kept_foldl, kept_mk, kept_fold, ite_self]) <;> (repeat' (split <;> (try simp only [↓State.setFld_kept, ↓kept_ite, ↓kept_foldl, kept_mk, kept_fold, ite_self])))
theorem State.switchToSpare_kept (s : State) (x1 : CalRun) : (State.switchToSpare s x1).kept = s.kept := by
  unfold State.switchToSpare
  simp only [↓State.setFeeder_kept, ↓State.setFld_kept, ↓State.setRun_kept, ↓kept_ite, ↓kept_foldl, kept_mk, kept_fold, ite_self]
theorem State.switchBack_kept (s : State) (x1 : CalRun) : (State.switchBack s x1).kept = s.kept := by
  unfold State.switchBack
  simp only [↓State.steer8_kept, ↓State.setFeeder_kept, ↓State.setFld_kept, ↓State.setRun_kept, ↓kept_ite, ↓kept_foldl, kept_mk, kept_fold, ite_self]
theorem State.endCover_kept (s : State) : (State.endCover s).kept = s.kept := by
  unfold State.endCover
  (try simp only [↓State.updatePending_kept, ↓State.modDue_kept, ↓State.setFld_kept, ↓State.modSlot_kept, ↓State.freeSpare_kept, ↓State.calAborted_kept, ↓State.setRun_kept, ↓kept_ite, ↓kept_foldl, kept_mk, kept_fold, ite_self]) <;> (repeat' (split <;> (try simp only [↓State.updatePending_kept, ↓State.modDue_kept, ↓State.setFld_kept, ↓State.modSlot_kept, ↓State.freeSpare_kept, ↓State.calAborted_kept, ↓State.setRun_kept, ↓kept_ite, ↓kept_foldl, kept_mk, kept_fold, ite_self])))
theorem calibrateApply_kept (s : State) (x1 : Desc) (x2 : Nat) : (calibrateApply s x1 x2).kept = s.kept := by
  unfold calibrateApply
  (try simp (disch := (first | (intros; rfl) | (intros; (try simp only [↓State.updatePending_kept, ↓State.modDue_kept, ↓State.setRun_kept, ↓kept_ite, ↓kept_foldl, kept_mk, kept_fold, ite_self]) <;> repeat' (split <;> (try rfl) <;> (try simp only [↓State.updatePending_kept, ↓State.modDue_kept, ↓State.setRun_kept, ↓kept_ite, ↓kept_foldl, kept_mk, kept_fold, ite_self]))))) only [↓State.updatePending_kept, ↓State.modDue_kept, ↓State.setRun_kept, ↓kept_ite, ↓kept_foldl, kept_mk, kept_fold, ite_self]) <;> (repeat' (split <;> (try simp (disch := (first | (intros; rfl) | (intros; (try simp only [↓State.updatePending_kept, ↓State.modDue_kept, ↓State.setRun_kept, ↓kept_ite, ↓kept_foldl, kept_mk, kept_fold, ite_self]) <;> repeat' (split <;> (try rfl) <;> (try simp only [↓State.updatePending_kept, ↓State.modDue_kept, ↓State.setRun_kept, ↓kept_ite, ↓kept_foldl, kept_mk, kept_fold, ite_self]))))) only [↓State.updatePending_kept, ↓State.modDue_kept, ↓State.setRun_kept, ↓kept_ite, ↓kept_foldl, kept_mk, kept_fold, ite_self])))
theorem State.modClk_kept (s : State) (x1 : ClkSt → ClkSt) : (State.modClk s x1).kept = s.kept := by
  unfold State.modClk
  simp only [↓kept_ite, ↓kept_foldl, kept_mk, kept_fold, ite_self]
theorem State.loadSeed_kept (s : State) (x1 : Nat) : (State.loadSeed s x1).kept = s.kept := by
  unfold State.loadSeed
  simp only [↓State.modClk_kept, ↓kept_ite, ↓kept_foldl, kept_mk, kept_fold, ite_self]
theorem State.synRelock_kept (s : State) (x1 : Nat) : (State.synRelock s x1).kept = s.kept := by
  unfold State.synRelock
  simp only [↓State.loadSeed_kept, ↓State.setFld_kept, ↓kept_ite, ↓kept_foldl, kept_mk, kept_fold, ite_self]
theorem State.synLost_kept (s : State) (x1 : Nat) : (State.synLost s x1).kept = s.kept := by
  unfold State.synLost
  simp only [↓State.incWrap_kept, ↓State.modClk_kept, ↓State.synRelock_kept, ↓kept_ite, ↓kept_foldl, kept_mk, kept_fold, ite_self]
theorem State.gateDp_kept (s : State) : (State.gateDp s).kept = s.kept := by
  unfold State.gateDp
  simp only [↓State.modClk_kept, ↓State.setFld_kept, ↓kept_ite, ↓kept_foldl, kept_mk, kept_fold, ite_self]
theorem State.synAckEnd_kept (s : State) (x1 : Nat) (x2 : Bool) : (State.synAckEnd s x1 x2).kept = s.kept := by
  unfold State.synAckEnd
  (try simp only [↓State.modClk_kept, ↓State.complete_kept, ↓State.modFlt_kept, ↓kept_ite, ↓kept_foldl, kept_mk, kept_fold, ite_self]) <;> (repeat' (split <;> (try simp only [↓State.modClk_kept, ↓State.complete_kept, ↓State.modFlt_kept, ↓kept_ite, ↓kept_foldl, kept_mk, kept_fold, ite_self])))
theorem State.setTrim_kept (s : State) (x1 : Int) : (State.setTrim s x1).kept = s.kept := by
  unfold State.setTrim
  simp only [↓State.modClk_kept, ↓State.clockEv_kept, ↓State.setFld_kept, ↓State.setInf_kept, ↓kept_ite, ↓kept_foldl, kept_mk, kept_fold, ite_self]
theorem State.latchPair_kept (s : State) (x1 : Nat) (x2 : Nat) : (State.latchPair s x1 x2).kept = s.kept := by
  unfold State.latchPair
  simp only [↓State.modClk_kept, ↓State.setFld_kept, ↓kept_ite, ↓kept_foldl, kept_mk, kept_fold, ite_self]
theorem State.modSlice_kept (s : State) (x1 : Nat) (x2 : Slice → Slice) : (State.modSlice s x1 x2).kept = s.kept := by
  unfold State.modSlice
  simp only [↓kept_ite, ↓kept_foldl, kept_mk, kept_fold, ite_self]
theorem State.spxPrepare_kept (s : State) (x1 : Nat) : (State.spxPrepare s x1).kept = s.kept := by
  unfold State.spxPrepare
  simp only [↓State.setFld_kept, ↓State.modSlice_kept, ↓kept_ite, ↓kept_foldl, kept_mk, kept_fold, ite_self]
theorem State.appendRecord_kept (s : State) (x1 : Nat) (x2 : Nat) (x3 : Nat) (x4 : Nat) (x5 : List Nat) : (State.appendRecord s x1 x2 x3 x4 x5).kept = s.kept := by
  unfold State.appendRecord
  simp only [↓State.notify_kept, ↓State.streamGone_kept, ↓State.incWrap_kept, ↓State.rtWrite_kept, ↓State.setFld_kept, ↓State.modSlice_kept, ↓State.count_kept, ↓State.streamItem_kept, ↓kept_ite, ↓kept_foldl, kept_mk, kept_fold, ite_self]
theorem State.takeSeq_kept (s : State) (x1 : Nat) (x2 : Nat) : (State.takeSeq s x1 x2).2.kept = s.kept := by
  unfold State.takeSeq
  simp only [↓State.modSlice_kept, ↓kept_ite, ↓kept_foldl, kept_mk, kept_fold, ite_self]
theorem State.writeTraceKind_kept (s : State) (x1 : Nat) (x2 : Nat) (x3 : TraceSt) (x4 : Bool) : (State.writeTraceKind s x1 x2 x3 x4).kept = s.kept := by
  unfold State.writeTraceKind
  simp only [↓State.takeSeq_kept, ↓State.appendRecord_kept, ↓kept_ite, ↓kept_foldl, kept_mk, kept_fold, ite_self]
theorem State.writeTrace_kept (s : State) (x1 : Nat) (x2 : Bool) : (State.writeTrace s x1 x2).kept = s.kept := by
  unfold State.writeTrace
  simp only [↓State.writeTraceKind_kept, ↓State.setFld_kept, ↓State.modSlice_kept, ↓kept_ite, ↓kept_foldl, kept_mk, kept_fold, ite_self]
theorem State.traceFrame_kept (s : State) (x1 : Nat) (x2 : Frame) : (State.traceFrame s x1 x2).kept = s.kept := by
  unfold State.traceFrame
  simp only [↓State.modSlice_kept, ↓State.writeTrace_kept, ↓kept_ite, ↓kept_foldl, kept_mk, kept_fold, ite_self]
theorem State.writeSk_kept (s : State) (x1 : Nat) (x2 : Bool) : (State.writeSk s x1 x2).kept = s.kept := by
  unfold State.writeSk
  simp only [↓State.setFld_kept, ↓State.takeSeq_kept, ↓State.modSlice_kept, ↓State.appendRecord_kept, ↓kept_ite, ↓kept_foldl, kept_mk, kept_fold, ite_self]
theorem State.skFrame_kept (s : State) (x1 : Nat) (x2 : Frame) : (State.skFrame s x1 x2).kept = s.kept := by
  unfold State.skFrame
  simp only [↓State.writeSk_kept, ↓State.setFld_kept, ↓State.modSlice_kept, ↓kept_ite, ↓kept_foldl, kept_mk, kept_fold, ite_self]
theorem State.cutRecords_kept (s : State) (x1 : Nat) : (State.cutRecords s x1).kept = s.kept := by
  unfold State.cutRecords
  simp only [↓State.writeSk_kept, ↓State.modSlice_kept, ↓State.writeTrace_kept, ↓kept_ite, ↓kept_foldl, kept_mk, kept_fold, ite_self]
theorem windowTableFail_kept (s : State) (x1 : Desc) (x2 : Nat) : (windowTableFail s x1 x2).kept = s.kept := by
  unfold windowTableFail
  (try simp only [↓State.modSlice_kept, ↓State.useFrees_kept, ↓kept_ite, ↓kept_foldl, kept_mk, kept_fold, ite_self]) <;> (repeat' (split <;> (try simp only [↓State.modSlice_kept, ↓State.useFrees_kept, ↓kept_ite, ↓kept_foldl, kept_mk, kept_fold, ite_self])))
theorem windowTableLoad_kept (s : State) (x1 : Desc) : (windowTableLoad s x1).kept = s.kept := by
  unfold windowTableLoad
  simp only [↓State.setFld_kept, ↓State.modSlice_kept, ↓kept_ite, ↓kept_foldl, kept_mk, kept_fold, ite_self]
theorem State.modTrg_kept (s : State) (x1 : Nat) (x2 : Nat) (x3 : TrgSt → TrgSt) : (State.modTrg s x1 x2 x3).kept = s.kept := by
  unfold State.modTrg
  simp only [↓State.modSlice_kept, ↓kept_ite, ↓kept_foldl, kept_mk, kept_fold, ite_self]
theorem fireFreeze_kept (s : State) (n m : Nat) (j : Job) (a b : Nat) : (s.fireFreeze n m j a b).st.kept = s.kept := by
  unfold State.fireFreeze
  simp only
  repeat' split
  all_goals simp (disch := (intros; rfl)) only [↓State.updateFreezeRegs_kept, ↓State.completeFreezes_kept, ↓State.newFreeze_kept, ↓State.modJob_kept, ↓State.hold_kept, kept_mk, kept_fold]
theorem State.fire_kept (s : State) (n m : Nat) (f : Frame) (a b c d : Nat) : (s.fire n m f a b c d).kept = s.kept := by
  unfold State.fire
  simp only
  split
  · rfl
  · rename_i j _
    generalize h0 : (if bit (nth j.d.p 0 0) 11 = true then _ else _ : State) = s1
    have e0 : s1.kept = s.kept := by
      rw [← h0]
      simp only [↓kept_ite, ↓State.updatePins_kept, ↓State.setFld_kept, kept_mk, kept_fold, ite_self]
    generalize hr : (if bit (nth j.d.p 0 0) 8 = true then _ else _ : FrzRes) = r
    have er : r.st.kept = s.kept := by
      rw [← hr]
      split
      · rw [fireFreeze_kept, e0]
      · exact e0
    generalize h3 : (if (r.cut && bit (nth j.d.p 0 0) 8) = true then _ else _ : State) = s3
    have e3 : s3.kept = s.kept := by
      rw [← h3]
      simp only [↓kept_ite, ↓State.setFld_kept, ↓State.count_kept, er, ite_self]
    generalize hd : (if bit (nth j.d.p 0 0) 9 = true then _ else _ : State × Bool) = dd
    have ed : dd.1.kept = s.kept := by
      rw [← hd]
      split
      · rw [State.ddcFire_kept, e3]
      · exact e3
    simp only [↓State.setExtent_kept, ↓State.setFld_kept, ↓State.modTrg_kept, ↓kept_ite, ↓State.raise_kept, ↓State.trigMsg_kept, ed, ite_self]
theorem State.coreSwap_kept (s : State) (x1 : Nat) (x2 : Nat) : (State.coreSwap s x1 x2).kept = s.kept := by
  unfold State.coreSwap
  simp only [↓State.setFld_kept, ↓State.modTrg_kept, ↓State.raise_kept, ↓kept_ite, ↓kept_foldl, kept_mk, kept_fold, ite_self]
theorem State.trgFrame_kept (s : State) (x1 : Nat) (x2 : Nat) (x3 : Nat) (x4 : Frame) : (State.trgFrame s x1 x2 x3 x4).kept = s.kept := by
  unfold State.trgFrame
  simp only [↓State.fire_kept, ↓State.coreSwap_kept, ↓State.setFld_kept, ↓State.modTrg_kept, ↓State.count_kept, ↓kept_ite, ↓kept_foldl, kept_mk, kept_fold, ite_self]
theorem State.trgUnknown_kept (s : State) (x1 : Nat) (x2 : Nat) : (State.trgUnknown s x1 x2).kept = s.kept := by
  unfold State.trgUnknown
  simp only [↓State.setFld_kept, ↓kept_ite, ↓kept_foldl, kept_mk, kept_fold, ite_self]
theorem State.trgSettle1_kept (s : State) (x1 : Nat) (x2 : Nat) : (State.trgSettle1 s x1 x2).kept = s.kept := by
  unfold State.trgSettle1
  simp only [↓State.setFld_kept, ↓State.complete_kept, ↓State.modTrg_kept, ↓kept_ite, ↓kept_foldl, kept_mk, kept_fold, ite_self]
theorem State.trgSettle_kept (s : State) : (State.trgSettle s).kept = s.kept := by
  unfold State.trgSettle
  (try simp (disch := (first | (intros; rfl) | (intros; (try simp only [↓State.trgSettle1_kept, ↓kept_ite, ↓kept_foldl, kept_mk, kept_fold, ite_self]) <;> repeat' (split <;> (try rfl) <;> (try simp only [↓State.trgSettle1_kept, ↓kept_ite, ↓kept_foldl, kept_mk, kept_fold, ite_self]))))) only [↓State.trgSettle1_kept, ↓kept_ite, ↓kept_foldl, kept_mk, kept_fold, ite_self]) <;> (repeat' (split <;> (try simp (disch := (first | (intros; rfl) | (intros; (try simp only [↓State.trgSettle1_kept, ↓kept_ite, ↓kept_foldl, kept_mk, kept_fold, ite_self]) <;> repeat' (split <;> (try rfl) <;> (try simp only [↓State.trgSettle1_kept, ↓kept_ite, ↓kept_foldl, kept_mk, kept_fold, ite_self]))))) only [↓State.trgSettle1_kept, ↓kept_ite, ↓kept_foldl, kept_mk, kept_fold, ite_self])))
theorem armApply_kept (s : State) (x1 : Desc) (x2 : Nat) : (armApply s x1 x2).kept = s.kept := by
  unfold armApply
  simp only [↓State.setFld_kept, ↓State.complete_kept, ↓State.modTrg_kept, ↓State.updateFreezeRegs_kept, ↓State.trgUnknown_kept, ↓kept_ite, ↓kept_foldl, kept_mk, kept_fold, ite_self]
theorem maskTableLoad_kept (s : State) (x1 : Desc) : (maskTableLoad s x1).kept = s.kept := by
  unfold maskTableLoad
  simp only [↓State.modSlice_kept, ↓kept_ite, ↓kept_foldl, kept_mk, kept_fold, ite_self]
theorem State.writeDensity_kept (s : State) (x1 : Nat) (x2 : DenOut) (x3 : Bool) (x4 : Bool) (x5 : Bool) : (State.writeDensity s x1 x2 x3 x4 x5).kept = s.kept := by
  unfold State.writeDensity
  simp only [↓State.setFld_kept, ↓State.takeSeq_kept, ↓State.appendRecord_kept, ↓kept_ite, ↓kept_foldl, kept_mk, kept_fold, ite_self]
theorem State.modDen_kept (s : State) (x1 : Nat) (x2 : DenSt → DenSt) : (State.modDen s x1 x2).kept = s.kept := by
  unfold State.modDen
  simp only [↓State.modSlice_kept, ↓kept_ite, ↓kept_foldl, kept_mk, kept_fold, ite_self]
theorem State.closePeriod_kept (s : State) (x1 : Nat) : (State.closePeriod s x1).kept = s.kept := by
  unfold State.closePeriod
  (try simp (disch := (first | (intros; rfl) | (intros; (try simp only [↓State.setFld_kept, ↓State.modTrg_kept, ↓State.modDen_kept, ↓kept_ite, ↓kept_foldl, kept_mk, kept_fold, ite_self]) <;> repeat' (split <;> (try rfl) <;> (try simp only [↓State.setFld_kept, ↓State.modTrg_kept, ↓State.modDen_kept, ↓kept_ite, ↓kept_foldl, kept_mk, kept_fold, ite_self]))))) only [↓State.setFld_kept, ↓State.modTrg_kept, ↓State.modDen_kept, ↓kept_ite, ↓kept_foldl, kept_mk, kept_fold, ite_self]) <;> (repeat' (split <;> (try simp (disch := (first | (intros; rfl) | (intros; (try simp only [↓State.setFld_kept, ↓State.modTrg_kept, ↓State.modDen_kept, ↓kept_ite, ↓kept_foldl, kept_mk, kept_fold, ite_self]) <;> repeat' (split <;> (try rfl) <;> (try simp only [↓State.setFld_kept, ↓State.modTrg_kept, ↓State.modDen_kept, ↓kept_ite, ↓kept_foldl, kept_mk, kept_fold, ite_self]))))) only [↓State.setFld_kept, ↓State.modTrg_kept, ↓State.modDen_kept, ↓kept_ite, ↓kept_foldl, kept_mk, kept_fold, ite_self])))
theorem State.densityInput_kept (s : State) (x1 : Nat) (x2 : Nat) (x3 : List Int) (x4 : Frame) : (State.densityInput s x1 x2 x3 x4).kept = s.kept := by
  unfold State.densityInput
  (try simp (disch := (first | (intros; rfl) | (intros; (try simp only [↓State.fire_kept, ↓State.modTrg_kept, ↓State.count_kept, ↓State.modDen_kept, ↓kept_ite, ↓kept_foldl, kept_mk, kept_fold, ite_self]) <;> repeat' (split <;> (try rfl) <;> (try simp only [↓State.fire_kept, ↓State.modTrg_kept, ↓State.count_kept, ↓State.modDen_kept, ↓kept_ite, ↓kept_foldl, kept_mk, kept_fold, ite_self]))))) only [↓State.fire_kept, ↓State.modTrg_kept, ↓State.count_kept, ↓State.modDen_kept, ↓kept_ite, ↓kept_foldl, kept_mk, kept_fold, ite_self]) <;> (repeat' (split <;> (try simp (disch := (first | (intros; rfl) | (intros; (try simp only [↓State.fire_kept, ↓State.modTrg_kept, ↓State.count_kept, ↓State.modDen_kept, ↓kept_ite, ↓kept_foldl, kept_mk, kept_fold, ite_self]) <;> repeat' (split <;> (try rfl) <;> (try simp only [↓State.fire_kept, ↓State.modTrg_kept, ↓State.count_kept, ↓State.modDen_kept, ↓kept_ite, ↓kept_foldl, kept_mk, kept_fold, ite_self]))))) only [↓State.fire_kept, ↓State.modTrg_kept, ↓State.count_kept, ↓State.modDen_kept, ↓kept_ite, ↓kept_foldl, kept_mk, kept_fold, ite_self])))
theorem State.denFrame_kept (s : State) (x1 : Nat) (x2 : Nat) (x3 : Frame) : (State.denFrame s x1 x2 x3).kept = s.kept := by
  unfold State.denFrame
  simp only [↓State.densityInput_kept, ↓State.closePeriod_kept, ↓State.modDen_kept, ↓kept_ite, ↓kept_foldl, kept_mk, kept_fold, ite_self]
theorem State.cutDensity_kept (s : State) (x1 : Nat) : (State.cutDensity s x1).kept = s.kept := by
  unfold State.cutDensity
  (try simp only [↓State.writeDensity_kept, ↓State.setFld_kept, ↓State.modDen_kept, ↓kept_ite, ↓kept_foldl, kept_mk, kept_fold, ite_self]) <;> (repeat' (split <;> (try simp only [↓State.writeDensity_kept, ↓State.setFld_kept, ↓State.modDen_kept, ↓kept_ite, ↓kept_foldl, kept_mk, kept_fold, ite_self])))
theorem State.modTuner_kept (s : State) (x1 : Nat) (x2 : Nat) (x3 : Tuner → Tuner) : (State.modTuner s x1 x2 x3).kept = s.kept := by
  unfold State.modTuner
  simp only [↓kept_ite, ↓kept_foldl, kept_mk, kept_fold, ite_self]
theorem State.settleCommit_kept (s : State) (x1 : Nat) : (State.settleCommit s x1).kept = s.kept := by
  unfold State.settleCommit
  (try simp only [↓State.complete_kept, ↓kept_ite, ↓kept_foldl, kept_mk, kept_fold, ite_self]) <;> (repeat' (split <;> (try simp only [↓State.complete_kept, ↓kept_ite, ↓kept_foldl, kept_mk, kept_fold, ite_self])))
theorem State.modZoom_kept (s : State) (x1 : Nat) (x2 : Zoom → Zoom) : (State.modZoom s x1 x2).kept = s.kept := by
  unfold State.modZoom
  simp only [↓kept_ite, ↓kept_foldl, kept_mk, kept_fold, ite_self]
theorem State.modZoomTun_kept (s : State) (x1 : Nat) (x2 : Nat) (x3 : ZoomSt → ZoomSt) : (State.modZoomTun s x1 x2 x3).kept = s.kept := by
  unfold State.modZoomTun
  simp only [↓State.modZoom_kept, ↓kept_ite, ↓kept_foldl, kept_mk, kept_fold, ite_self]
theorem State.zoomRecord1_kept (s : State) (x1 : Nat) (x2 : Nat) (x3 : Bool) (x4 : Bool) : (State.zoomRecord1 s x1 x2 x3 x4).kept = s.kept := by
  unfold State.zoomRecord1
  simp only [↓State.takeSeq_kept, ↓State.appendRecord_kept, ↓kept_ite, ↓kept_foldl, kept_mk, kept_fold, ite_self]
theorem State.writeZoom_kept (s : State) (x1 : Nat) (x2 : Nat) (x3 : Bool) : (State.writeZoom s x1 x2 x3).kept = s.kept := by
  unfold State.writeZoom
  simp only [↓State.modZoomTun_kept, ↓State.setFld_kept, ↓State.zoomRecord1_kept, ↓kept_ite, ↓kept_foldl, kept_mk, kept_fold, ite_self]
theorem State.zoomCut_kept (s : State) (x1 : Nat) (x2 : Nat) (x3 : Nat) : (State.zoomCut s x1 x2 x3).kept = s.kept := by
  unfold State.zoomCut
  simp only [↓State.writeZoom_kept, ↓State.modZoomTun_kept, ↓kept_ite, ↓kept_foldl, kept_mk, kept_fold, ite_self]
theorem State.zoomFrame_kept (s : State) (x1 : Nat) (x2 : Nat) (x3 : Nat) (x4 : List (Nat × Int × Int × Nat)) : (State.zoomFrame s x1 x2 x3 x4).kept = s.kept := by
  unfold State.zoomFrame
  simp only [↓State.modZoomTun_kept, ↓kept_ite, ↓kept_foldl, kept_mk, kept_fold, ite_self]
theorem State.zoomFeed_kept (s : State) (x1 : Nat) (x2 : Nat) (x3 : Nat) (x4 : Nat) (x5 : Int × Int) (x6 : Nat) : (State.zoomFeed s x1 x2 x3 x4 x5 x6).kept = s.kept := by
  unfold State.zoomFeed
  simp only [↓State.modZoomTun_kept, ↓State.zoomFrame_kept, ↓kept_ite, ↓kept_foldl, kept_mk, kept_fold, ite_self]
theorem State.zoomStat_kept (s : State) (x1 : Nat) : (State.zoomStat s x1).kept = s.kept := by
  unfold State.zoomStat
  simp only [↓State.setFld_kept, ↓kept_ite, ↓kept_foldl, kept_mk, kept_fold, ite_self]
theorem State.zoomSettle_kept (s : State) (x1 : Nat) : (State.zoomSettle s x1).kept = s.kept := by
  unfold State.zoomSettle
  (try simp (disch := (first | (intros; rfl) | (intros; (try simp only [↓State.apply_kept, ↓State.settleCommit_kept, ↓State.zoomStat_kept, ↓State.setFld_kept, ↓State.modZoom_kept, ↓State.zoomCut_kept, ↓kept_ite, ↓kept_foldl, kept_mk, kept_fold, ite_self]) <;> repeat' (split <;> (try rfl) <;> (try simp only [↓State.apply_kept, ↓State.settleCommit_kept, ↓State.zoomStat_kept, ↓State.setFld_kept, ↓State.modZoom_kept, ↓State.zoomCut_kept, ↓kept_ite, ↓kept_foldl, kept_mk, kept_fold, ite_self]))))) only [↓State.apply_kept, ↓State.settleCommit_kept, ↓State.zoomStat_kept, ↓State.setFld_kept, ↓State.modZoom_kept, ↓State.zoomCut_kept, ↓kept_ite, ↓kept_foldl, kept_mk, kept_fold, ite_self]) <;> (repeat' (split <;> (try simp (disch := (first | (intros; rfl) | (intros; (try simp only [↓State.apply_kept, ↓State.settleCommit_kept, ↓State.zoomStat_kept, ↓State.setFld_kept, ↓State.modZoom_kept, ↓State.zoomCut_kept, ↓kept_ite, ↓kept_foldl, kept_mk, kept_fold, ite_self]) <;> repeat' (split <;> (try rfl) <;> (try simp only [↓State.apply_kept, ↓State.settleCommit_kept, ↓State.zoomStat_kept, ↓State.setFld_kept, ↓State.modZoom_kept, ↓State.zoomCut_kept, ↓kept_ite, ↓kept_foldl, kept_mk, kept_fold, ite_self]))))) only [↓State.apply_kept, ↓State.settleCommit_kept, ↓State.zoomStat_kept, ↓State.setFld_kept, ↓State.modZoom_kept, ↓State.zoomCut_kept, ↓kept_ite, ↓kept_foldl, kept_mk, kept_fold, ite_self])))
theorem State.thrEvent_kept (s : State) (x1 : Nat) (x2 : Nat) (x3 : Nat) (x4 : Bool) (x5 : Nat) (x6 : Nat) (x7 : ThrSt) : (State.thrEvent s x1 x2 x3 x4 x5 x6 x7).kept = s.kept := by
  unfold State.thrEvent
  simp only [↓State.raise_kept, ↓State.count_kept, ↓kept_ite, ↓kept_foldl, kept_mk, kept_fold, ite_self]
theorem State.writeDdcBlock_kept (s : State) (x1 : Nat) (x2 : Nat) (x3 : Bool) : (State.writeDdcBlock s x1 x2 x3).kept = s.kept := by
  unfold State.writeDdcBlock
  simp only [↓State.streamGone_kept, ↓State.rtWrite_kept, ↓State.setFld_kept, ↓State.modTuner_kept, ↓State.streamItem_kept, ↓kept_ite, ↓kept_foldl, kept_mk, kept_fold, ite_self]
theorem State.ddcStat_kept (s : State) (x1 : Nat) (x2 : Nat) : (State.ddcStat s x1 x2).kept = s.kept := by
  unfold State.ddcStat
  simp only [↓State.setFld_kept, ↓kept_ite, ↓kept_foldl, kept_mk, kept_fold, ite_self]
theorem State.ddcRestart_kept (s : State) (x1 : Nat) (x2 : Nat) (x3 : Nat) (x4 : DdcCfg) (x5 : RegFile) : (State.ddcRestart s x1 x2 x3 x4 x5).kept = s.kept := by
  unfold State.ddcRestart
  (try simp only [↓State.apply_kept, ↓State.thrEvent_kept, ↓State.zoomStat_kept, ↓State.setFld_kept, ↓State.complete_kept, ↓State.ddcStat_kept, ↓State.modStreams_kept, ↓State.writeDdcBlock_kept, ↓State.zoomCut_kept, ↓State.modTuner_kept, ↓State.setInf_kept, ↓kept_ite, ↓kept_foldl, kept_mk, kept_fold, ite_self]) <;> (repeat' (split <;> (try simp only [↓State.apply_kept, ↓State.thrEvent_kept, ↓State.zoomStat_kept, ↓State.setFld_kept, ↓State.complete_kept, ↓State.ddcStat_kept, ↓State.modStreams_kept, ↓State.writeDdcBlock_kept, ↓State.zoomCut_kept, ↓State.modTuner_kept, ↓State.setInf_kept, ↓kept_ite, ↓kept_foldl, kept_mk, kept_fold, ite_self])))
theorem State.ddcSwap_kept (s : State) (x1 : Nat) (x2 : Nat) (x3 : TunChange) (x4 : Nat) (x5 : Nat) : (State.ddcSwap s x1 x2 x3 x4 x5).kept = s.kept := by
  unfold State.ddcSwap
  (try simp only [↓State.complete_kept, ↓State.ddcStat_kept, ↓State.modTuner_kept, ↓kept_ite, ↓kept_foldl, kept_mk, kept_fold, ite_self]) <;> (repeat' (split <;> (try simp only [↓State.complete_kept, ↓State.ddcStat_kept, ↓State.modTuner_kept, ↓kept_ite, ↓kept_foldl, kept_mk, kept_fold, ite_self])))
theorem State.ddcChange_kept (s : State) (x1 : Nat) (x2 : Nat) (x3 : Nat) (x4 : List TunChange) : (State.ddcChange s x1 x2 x3 x4).kept = s.kept := by
  unfold State.ddcChange
  (try simp only [↓State.apply_kept, ↓State.ddcSwap_kept, ↓State.modTuner_kept, ↓State.ddcRestart_kept, ↓kept_ite, ↓kept_foldl, kept_mk, kept_fold, ite_self]) <;> (repeat' (split <;> (try simp only [↓State.apply_kept, ↓State.ddcSwap_kept, ↓State.modTuner_kept, ↓State.ddcRestart_kept, ↓kept_ite, ↓kept_foldl, kept_mk, kept_fold, ite_self])))
theorem State.thrSample_kept (s : State) (x1 : Nat) (x2 : Nat) (x3 : Nat) (x4 : Nat) (x5 : Nat) : (State.thrSample s x1 x2 x3 x4 x5).kept = s.kept := by
  unfold State.thrSample
  simp only [↓State.thrEvent_kept, ↓State.setFld_kept, ↓State.modTuner_kept, ↓kept_ite, ↓kept_foldl, kept_mk, kept_fold, ite_self]
theorem firBankFail_kept (s : State) (x1 : Desc) (x2 : Nat) : (firBankFail s x1 x2).kept = s.kept := by
  unfold firBankFail
  (try simp only [↓State.modTuner_kept, ↓State.useFrees_kept, ↓kept_ite, ↓kept_foldl, kept_mk, kept_fold, ite_self]) <;> (repeat' (split <;> (try simp only [↓State.modTuner_kept, ↓State.useFrees_kept, ↓kept_ite, ↓kept_foldl, kept_mk, kept_fold, ite_self])))
theorem firBankLoad_kept (s : State) (x1 : Desc) : (firBankLoad s x1).kept = s.kept := by
  unfold firBankLoad
  simp only [↓State.setFld_kept, ↓State.modTuner_kept, ↓kept_ite, ↓kept_foldl, kept_mk, kept_fold, ite_self]
theorem State.modXcor_kept (s : State) (x1 : Xcor → Xcor) : (State.modXcor s x1).kept = s.kept := by
  unfold State.modXcor
  simp only [↓kept_ite, ↓kept_foldl, kept_mk, kept_fold, ite_self]
theorem State.xcorClose_kept (s : State) (x1 : Bool) : (State.xcorClose s x1).kept = s.kept := by
  unfold State.xcorClose
  simp only [↓State.setFld_kept, ↓State.modXcor_kept, ↓kept_ite, ↓kept_foldl, kept_mk, kept_fold, ite_self]
theorem State.xcorBegin_kept (s : State) (x1 : Nat) (x2 : Bool) : (State.xcorBegin s x1 x2).kept = s.kept := by
  unfold State.xcorBegin
  simp only [↓State.setFld_kept, ↓State.modXcor_kept, ↓kept_ite, ↓kept_foldl, kept_mk, kept_fold, ite_self]
theorem State.ringAppend_kept (s : State) (x1 : Nat) (x2 : Nat) (x3 : Nat) (x4 : List HistRec) (x5 : List Nat) : (State.ringAppend s x1 x2 x3 x4 x5).1.kept = s.kept := by
  unfold State.ringAppend
  simp only [↓State.rtWrite_kept, ↓kept_ite, ↓kept_foldl, kept_mk, kept_fold, ite_self]
theorem State.fengFrame_kept (s : State) (f : XFrame) : (s.fengFrame f).kept = s.kept := by
  unfold State.fengFrame
  split
  · rfl
  · refine kept_foldl _ _ (fun t x => kept_foldl _ _ (fun u k => ?_) _) _
    simp only
    split <;> exact State.modXcor_kept _ _
theorem State.xcorFrame_kept (s : State) (x1 : XFrame) (x2 : Nat) : (State.xcorFrame s x1 x2).kept = s.kept := by
  unfold State.xcorFrame
  (try simp (disch := (first | (intros; rfl) | (intros; (try simp only [↓State.fengFrame_kept, ↓State.setFld_kept, ↓State.modXcor_kept, ↓State.count_kept, ↓kept_ite, ↓kept_foldl, kept_mk, kept_fold, ite_self]) <;> repeat' (split <;> (try rfl) <;> (try simp only [↓State.fengFrame_kept, ↓State.setFld_kept, ↓State.modXcor_kept, ↓State.count_kept, ↓kept_ite, ↓kept_foldl, kept_mk, kept_fold, ite_self]))))) only [↓State.fengFrame_kept, ↓State.setFld_kept, ↓State.modXcor_kept, ↓State.count_kept, ↓kept_ite, ↓kept_foldl, kept_mk, kept_fold, ite_self]) <;> (repeat' (split <;> (try simp (disch := (first | (intros; rfl) | (intros; (try simp only [↓State.fengFrame_kept, ↓State.setFld_kept, ↓State.modXcor_kept, ↓State.count_kept, ↓kept_ite, ↓kept_foldl, kept_mk, kept_fold, ite_self]) <;> repeat' (split <;> (try rfl) <;> (try simp only [↓State.fengFrame_kept, ↓State.setFld_kept, ↓State.modXcor_kept, ↓State.count_kept, ↓kept_ite, ↓kept_foldl, kept_mk, kept_fold, ite_self]))))) only [↓State.fengFrame_kept, ↓State.setFld_kept, ↓State.modXcor_kept, ↓State.count_kept, ↓kept_ite, ↓kept_foldl, kept_mk, kept_fold, ite_self])))
theorem State.xcorFeed_kept (s : State) (x1 : Nat) (x2 : Frame) (x3 : Nat) : (State.xcorFeed s x1 x2 x3).kept = s.kept := by
  unfold State.xcorFeed
  (try simp (disch := (first | (intros; rfl) | (intros; (try simp only [↓State.setFld_kept, ↓State.modXcor_kept, ↓State.xcorFrame_kept, ↓State.count_kept, ↓kept_ite, ↓kept_foldl, kept_mk, kept_fold, ite_self]) <;> repeat' (split <;> (try rfl) <;> (try simp only [↓State.setFld_kept, ↓State.modXcor_kept, ↓State.xcorFrame_kept, ↓State.count_kept, ↓kept_ite, ↓kept_foldl, kept_mk, kept_fold, ite_self]))))) only [↓State.setFld_kept, ↓State.modXcor_kept, ↓State.xcorFrame_kept, ↓State.count_kept, ↓kept_ite, ↓kept_foldl, kept_mk, kept_fold, ite_self]) <;> (repeat' (split <;> (try simp (disch := (first | (intros; rfl) | (intros; (try simp only [↓State.setFld_kept, ↓State.modXcor_kept, ↓State.xcorFrame_kept, ↓State.count_kept, ↓kept_ite, ↓kept_foldl, kept_mk, kept_fold, ite_self]) <;> repeat' (split <;> (try rfl) <;> (try simp only [↓State.setFld_kept, ↓State.modXcor_kept, ↓State.xcorFrame_kept, ↓State.count_kept, ↓kept_ite, ↓kept_foldl, kept_mk, kept_fold, ite_self]))))) only [↓State.setFld_kept, ↓State.modXcor_kept, ↓State.xcorFrame_kept, ↓State.count_kept, ↓kept_ite, ↓kept_foldl, kept_mk, kept_fold, ite_self])))
theorem State.xcorPending_kept (s : State) : (State.xcorPending s).kept = s.kept := by
  unfold State.xcorPending
  simp only [↓State.setFld_kept, ↓kept_ite, ↓kept_foldl, kept_mk, kept_fold, ite_self]
theorem State.xcorTakeGains_kept (s : State) (x1 : RegFile) : (State.xcorTakeGains s x1).kept = s.kept := by
  unfold State.xcorTakeGains
  simp only [↓State.apply_kept, ↓State.setFld_kept, ↓State.setInf_kept, ↓kept_ite, ↓kept_foldl, kept_mk, kept_fold, ite_self]
theorem State.xcorSettle_kept (s : State) : (State.xcorSettle s).kept = s.kept := by
  unfold State.xcorSettle
  (try simp (disch := (first | (intros; rfl) | (intros; (try simp only [↓State.xcorPending_kept, ↓State.complete_kept, ↓State.modXcor_kept, ↓kept_ite, ↓kept_foldl, kept_mk, kept_fold, ite_self]) <;> repeat' (split <;> (try rfl) <;> (try simp only [↓State.xcorPending_kept, ↓State.complete_kept, ↓State.modXcor_kept, ↓kept_ite, ↓kept_foldl, kept_mk, kept_fold, ite_self]))))) only [↓State.xcorPending_kept, ↓State.complete_kept, ↓State.modXcor_kept, ↓kept_ite, ↓kept_foldl, kept_mk, kept_fold, ite_self]) <;> (repeat' (split <;> (try simp (disch := (first | (intros; rfl) | (intros; (try simp only [↓State.xcorPending_kept, ↓State.complete_kept, ↓State.modXcor_kept, ↓kept_ite, ↓kept_foldl, kept_mk, kept_fold, ite_self]) <;> repeat' (split <;> (try rfl) <;> (try simp only [↓State.xcorPending_kept, ↓State.complete_kept, ↓State.modXcor_kept, ↓kept_ite, ↓kept_foldl, kept_mk, kept_fold, ite_self]))))) only [↓State.xcorPending_kept, ↓State.complete_kept, ↓State.modXcor_kept, ↓kept_ite, ↓kept_foldl, kept_mk, kept_fold, ite_self])))
theorem State.xcorReturn_kept (s : State) : (State.xcorReturn s).kept = s.kept := by
  unfold State.xcorReturn
  simp only [↓State.setFld_kept, ↓State.modXcor_kept, ↓kept_ite, ↓kept_foldl, kept_mk, kept_fold, ite_self]
theorem State.xcorEpoch_kept (s : State) : (State.xcorEpoch s).kept = s.kept := by
  unfold State.xcorEpoch
  simp only [↓State.xcorBegin_kept, ↓State.xcorClose_kept, ↓State.modXcor_kept, ↓kept_ite, ↓kept_foldl, kept_mk, kept_fold, ite_self]
theorem xcorApply_kept (s : State) (x1 : RegFile) (x2 : Nat) (x3 : Nat) : (xcorApply s x1 x2 x3).kept = s.kept := by
  unfold xcorApply
  simp only [↓State.modXcor_kept, ↓State.xcorSettle_kept, ↓kept_ite, ↓kept_foldl, kept_mk, kept_fold, ite_self]
theorem gainBankFail_kept (s : State) (x1 : Desc) (x2 : Nat) : (gainBankFail s x1 x2).kept = s.kept := by
  unfold gainBankFail
  (try simp only [↓State.modXcor_kept, ↓State.useFrees_kept, ↓kept_ite, ↓kept_foldl, kept_mk, kept_fold, ite_self]) <;> (repeat' (split <;> (try simp only [↓State.modXcor_kept, ↓State.useFrees_kept, ↓kept_ite, ↓kept_foldl, kept_mk, kept_fold, ite_self])))
theorem gainBankLoad_kept (s : State) (x1 : Desc) : (gainBankLoad s x1).kept = s.kept := by
  unfold gainBankLoad
  simp only [↓State.setFld_kept, ↓State.modXcor_kept, ↓kept_ite, ↓kept_foldl, kept_mk, kept_fold, ite_self]
theorem State.modSec_kept (s : State) (x1 : SecSt → SecSt) : (State.modSec s x1).kept = s.kept := by
  unfold State.modSec
  simp only [↓kept_ite, ↓kept_foldl, kept_mk, kept_fold, ite_self]
theorem State.secEv_kept (s : State) (x1 : Nat) (x2 : Nat) : (State.secEv s x1 x2).kept = s.kept := by
  unfold State.secEv
  simp only [↓State.raise_kept, ↓kept_ite, ↓kept_foldl, kept_mk, kept_fold, ite_self]
theorem State.drbg_kept (s : State) : (State.drbg s).1.kept = s.kept := by
  unfold State.drbg
  (try simp only [↓State.secEv_kept, ↓State.modSec_kept, ↓State.setFld_kept, ↓kept_ite, ↓kept_foldl, kept_mk, kept_fold, ite_self]) <;> (repeat' (split <;> (try simp only [↓State.secEv_kept, ↓State.modSec_kept, ↓State.setFld_kept, ↓kept_ite, ↓kept_foldl, kept_mk, kept_fold, ite_self])))
theorem State.signBy_kept (s : State) (x1 : Nat) (x2 : List Nat) : (State.signBy s x1 x2).1.kept = s.kept := by
  unfold State.signBy
  (try simp only [↓State.drbg_kept, ↓State.useFree_kept, ↓kept_ite, ↓kept_foldl, kept_mk, kept_fold, ite_self]) <;> (repeat' (split <;> (try simp only [↓State.drbg_kept, ↓State.useFree_kept, ↓kept_ite, ↓kept_foldl, kept_mk, kept_fold, ite_self])))
theorem State.sign_kept (s : State) (x1 : Nat) (x2 : List Nat) : (State.sign s x1 x2).1.kept = s.kept := by
  unfold State.sign
  (try simp only [↓State.signBy_kept, ↓kept_ite, ↓kept_foldl, kept_mk, kept_fold, ite_self]) <;> (repeat' (split <;> (try simp only [↓State.signBy_kept, ↓kept_ite, ↓kept_foldl, kept_mk, kept_fold, ite_self])))
theorem State.modRec_kept (s : State) (x1 : Nat) (x2 : Rec → Rec) : (State.modRec s x1 x2).kept = s.kept := by
  unfold State.modRec
  simp only [↓kept_ite, ↓kept_foldl, kept_mk, kept_fold, ite_self]
theorem State.recExtent_kept (s : State) (x1 : Nat) : (State.recExtent s x1).kept = s.kept := by
  unfold State.recExtent
  (try simp only [↓State.setExtent_kept, ↓kept_ite, ↓kept_foldl, kept_mk, kept_fold, ite_self]) <;> (repeat' (split <;> (try simp only [↓State.setExtent_kept, ↓kept_ite, ↓kept_foldl, kept_mk, kept_fold, ite_self])))
theorem State.recWrite_kept (s : State) (x1 : Nat) (x2 : Nat) (x3 : Nat) (x4 : List Nat) (x5 : Option Nat) : (State.recWrite s x1 x2 x3 x4 x5).kept = s.kept := by
  unfold State.recWrite
  simp only [↓State.modRec_kept, ↓State.emit_kept, ↓State.count_kept, ↓kept_ite, ↓kept_foldl, kept_mk, kept_fold, ite_self]
theorem State.recFlush_kept (s : State) (x1 : Nat) : (State.recFlush s x1).kept = s.kept := by
  unfold State.recFlush
  (try simp (disch := (first | (intros; rfl) | (intros; (try simp only [↓State.modRec_kept, ↓State.emit_kept, ↓kept_ite, ↓kept_foldl, kept_mk, kept_fold, ite_self]) <;> repeat' (split <;> (try rfl) <;> (try simp only [↓State.modRec_kept, ↓State.emit_kept, ↓kept_ite, ↓kept_foldl, kept_mk, kept_fold, ite_self]))))) only [↓State.modRec_kept, ↓State.emit_kept, ↓kept_ite, ↓kept_foldl, kept_mk, kept_fold, ite_self]) <;> (repeat' (split <;> (try simp (disch := (first | (intros; rfl) | (intros; (try simp only [↓State.modRec_kept, ↓State.emit_kept, ↓kept_ite, ↓kept_foldl, kept_mk, kept_fold, ite_self]) <;> repeat' (split <;> (try rfl) <;> (try simp only [↓State.modRec_kept, ↓State.emit_kept, ↓kept_ite, ↓kept_foldl, kept_mk, kept_fold, ite_self]))))) only [↓State.modRec_kept, ↓State.emit_kept, ↓kept_ite, ↓kept_foldl, kept_mk, kept_fold, ite_self])))
theorem State.recBegin_kept (s : State) (x1 : Nat) (x2 : Nat) : (State.recBegin s x1 x2).kept = s.kept := by
  unfold State.recBegin
  (try simp only [↓State.recWrite_kept, ↓State.modRec_kept, ↓kept_ite, ↓kept_foldl, kept_mk, kept_fold, ite_self]) <;> (repeat' (split <;> (try simp only [↓State.recWrite_kept, ↓State.modRec_kept, ↓kept_ite, ↓kept_foldl, kept_mk, kept_fold, ite_self])))
theorem State.putChunk_kept (s : State) (x1 : Nat) (x2 : Nat) (x3 : Nat) (x4 : List Nat) (x5 : Nat) : (State.putChunk s x1 x2 x3 x4 x5).kept = s.kept := by
  unfold State.putChunk
  (try simp only [↓State.recWrite_kept, ↓State.modRec_kept, ↓State.recBegin_kept, ↓kept_ite, ↓kept_foldl, kept_mk, kept_fold, ite_self]) <;> (repeat' (split <;> (try simp only [↓State.recWrite_kept, ↓State.modRec_kept, ↓State.recBegin_kept, ↓kept_ite, ↓kept_foldl, kept_mk, kept_fold, ite_self])))
theorem State.putCkpt_kept (s : State) (x1 : Nat) (x2 : Bool) : (State.putCkpt s x1 x2).kept = s.kept := by
  unfold State.putCkpt
  (try simp only [↓State.sign_kept, ↓State.putChunk_kept, ↓State.modRec_kept, ↓State.recBegin_kept, ↓kept_ite, ↓kept_foldl, kept_mk, kept_fold, ite_self]) <;> (repeat' (split <;> (try simp only [↓State.sign_kept, ↓State.putChunk_kept, ↓State.modRec_kept, ↓State.recBegin_kept, ↓kept_ite, ↓kept_foldl, kept_mk, kept_fold, ite_self])))
theorem State.closeSeg_kept (s : State) (x1 : Nat) (x2 : Bool) (x3 : Bool) : (State.closeSeg s x1 x2 x3).kept = s.kept := by
  unfold State.closeSeg
  (try simp only [↓State.recWrite_kept, ↓State.putCkpt_kept, ↓State.modRec_kept, ↓State.recFlush_kept, ↓State.recBegin_kept, ↓kept_ite, ↓kept_foldl, kept_mk, kept_fold, ite_self]) <;> (repeat' (split <;> (try simp only [↓State.recWrite_kept, ↓State.putCkpt_kept, ↓State.modRec_kept, ↓State.recFlush_kept, ↓State.recBegin_kept, ↓kept_ite, ↓kept_foldl, kept_mk, kept_fold, ite_self])))
theorem State.updateReady_kept (s : State) : (State.updateReady s).kept = s.kept := by
  unfold State.updateReady
  simp only [↓State.setFld_kept, ↓kept_ite, ↓kept_foldl, kept_mk, kept_fold, ite_self]
theorem State.recOver_kept (s : State) (x1 : Nat) (x2 : Nat) (x3 : Nat) (x4 : Nat) (x5 : Nat) (x6 : Nat) : (State.recOver s x1 x2 x3 x4 x5 x6).kept = s.kept := by
  unfold State.recOver
  (try simp (disch := (first | (intros; rfl) | (intros; (try simp only [↓State.endStream_kept, ↓State.setFld_kept, ↓State.complete_kept, ↓State.updateReady_kept, ↓kept_ite, ↓kept_foldl, kept_mk, kept_fold, ite_self]) <;> repeat' (split <;> (try rfl) <;> (try simp only [↓State.endStream_kept, ↓State.setFld_kept, ↓State.complete_kept, ↓State.updateReady_kept, ↓kept_ite, ↓kept_foldl, kept_mk, kept_fold, ite_self]))))) only [↓State.endStream_kept, ↓State.setFld_kept, ↓State.complete_kept, ↓State.updateReady_kept, ↓kept_ite, ↓kept_foldl, kept_mk, kept_fold, ite_self]) <;> (repeat' (split <;> (try simp (disch := (first | (intros; rfl) | (intros; (try simp only [↓State.endStream_kept, ↓State.setFld_kept, ↓State.complete_kept, ↓State.updateReady_kept, ↓kept_ite, ↓kept_foldl, kept_mk, kept_fold, ite_self]) <;> repeat' (split <;> (try rfl) <;> (try simp only [↓State.endStream_kept, ↓State.setFld_kept, ↓State.complete_kept, ↓State.updateReady_kept, ↓kept_ite, ↓kept_foldl, kept_mk, kept_fold, ite_self]))))) only [↓State.endStream_kept, ↓State.setFld_kept, ↓State.complete_kept, ↓State.updateReady_kept, ↓kept_ite, ↓kept_foldl, kept_mk, kept_fold, ite_self])))
theorem State.recSettle_kept (s : State) (x1 : Nat) : (State.recSettle s x1).kept = s.kept := by
  unfold State.recSettle
  (try simp only [↓State.recOver_kept, ↓kept_ite, ↓kept_foldl, kept_mk, kept_fold, ite_self]) <;> (repeat' (split <;> (try simp only [↓State.recOver_kept, ↓kept_ite, ↓kept_foldl, kept_mk, kept_fold, ite_self])))
theorem State.recFinish_kept (s : State) (x1 : Nat) (x2 : Nat) (x3 : Nat) (x4 : Nat) : (State.recFinish s x1 x2 x3 x4).kept = s.kept := by
  unfold State.recFinish
  simp only [↓State.recSettle_kept, ↓State.modRec_kept, ↓State.closeSeg_kept, ↓kept_ite, ↓kept_foldl, kept_mk, kept_fold, ite_self]
theorem State.nsFail_kept (s : State) (k : Nat) : (s.nsFail k).kept = s.kept := by
  unfold State.nsFail
  refine (kept_foldl _ _ (fun t r => ?_) _).trans ?_
  · refine (State.recOver_kept ..).trans (kept_foldl _ _ (fun t x => State.blame_kept ..) _)
  · simp only [↓State.fault_kept, ↓State.linkEv_kept, ↓State.updateReady_kept, ↓State.setFld_kept]
theorem recSecEv_kept (s : State) (x1 : Desc) : (recSecEv s x1).kept = s.kept := by
  unfold recSecEv
  simp only [↓State.secEv_kept, ↓kept_ite, ↓kept_foldl, kept_mk, kept_fold, ite_self]
theorem recApply_kept (s : State) (x1 : Desc) (x2 : Nat) : (recApply s x1 x2).kept = s.kept := by
  unfold recApply
  (try simp (disch := (first | (intros; rfl) | (intros; (try simp only [↓State.modSec_kept, ↓State.setFld_kept, ↓State.updateReady_kept, ↓kept_ite, ↓kept_foldl, kept_mk, kept_fold, ite_self]) <;> repeat' (split <;> (try rfl) <;> (try simp only [↓State.modSec_kept, ↓State.setFld_kept, ↓State.updateReady_kept, ↓kept_ite, ↓kept_foldl, kept_mk, kept_fold, ite_self]))))) only [↓State.modSec_kept, ↓State.setFld_kept, ↓State.updateReady_kept, ↓kept_ite, ↓kept_foldl, kept_mk, kept_fold, ite_self]) <;> (repeat' (split <;> (try simp (disch := (first | (intros; rfl) | (intros; (try simp only [↓State.modSec_kept, ↓State.setFld_kept, ↓State.updateReady_kept, ↓kept_ite, ↓kept_foldl, kept_mk, kept_fold, ite_self]) <;> repeat' (split <;> (try rfl) <;> (try simp only [↓State.modSec_kept, ↓State.setFld_kept, ↓State.updateReady_kept, ↓kept_ite, ↓kept_foldl, kept_mk, kept_fold, ite_self]))))) only [↓State.modSec_kept, ↓State.setFld_kept, ↓State.updateReady_kept, ↓kept_ite, ↓kept_foldl, kept_mk, kept_fold, ite_self])))
theorem recStopApply_kept (s : State) (x1 : Desc) (x2 : Nat) : (recStopApply s x1 x2).kept = s.kept := by
  unfold recStopApply
  simp only [↓State.recFinish_kept, ↓kept_ite, ↓kept_foldl, kept_mk, kept_fold, ite_self]
theorem State.updateCoreSum_kept (s : State) (x1 : Nat) : (State.updateCoreSum s x1).kept = s.kept := by
  unfold State.updateCoreSum
  simp only [↓State.setFld_kept, ↓kept_ite, ↓kept_foldl, kept_mk, kept_fold, ite_self]
theorem State.coreEnd_kept (s : State) (x1 : Nat) (x2 : Nat) (x3 : Nat) (x4 : Nat) (x5 : Nat) (x6 : Nat) : (State.coreEnd s x1 x2 x3 x4 x5 x6).kept = s.kept := by
  unfold State.coreEnd
  simp only [↓State.updateCoreSum_kept, ↓State.modCore_kept, ↓State.setFld_kept, ↓State.complete_kept, ↓State.raise_kept, ↓kept_ite, ↓kept_foldl, kept_mk, kept_fold, ite_self]
theorem State.coreSettle_kept (s : State) (x1 : Nat) (x2 : Nat) : (State.coreSettle s x1 x2).kept = s.kept := by
  unfold State.coreSettle
  (try simp only [↓State.coreEnd_kept, ↓State.complete_kept, ↓kept_ite, ↓kept_foldl, kept_mk, kept_fold, ite_self]) <;> (repeat' (split <;> (try simp only [↓State.coreEnd_kept, ↓State.complete_kept, ↓kept_ite, ↓kept_foldl, kept_mk, kept_fold, ite_self])))
theorem State.coreTrap_kept (s : State) (x1 : Nat) (x2 : Nat) (x3 : Nat) (x4 : Nat) : (State.coreTrap s x1 x2 x3 x4).kept = s.kept := by
  unfold State.coreTrap
  simp only [↓State.coreSettle_kept, ↓State.modCore_kept, ↓kept_ite, ↓kept_foldl, kept_mk, kept_fold, ite_self]
theorem State.coreUse_kept (s : State) (x1 : Nat) (x2 : Nat) (x3 : Nat) : (State.coreUse s x1 x2 x3).kept = s.kept := by
  unfold State.coreUse
  simp only [↓State.modCore_kept, ↓kept_ite, ↓kept_foldl, kept_mk, kept_fold, ite_self]
theorem State.sample_kept (s : State) (x1 : Nat) (x2 : Nat) (x3 : Nat) (x4 : Nat) (x5 : Nat) (x6 : Nat) : (State.sample s x1 x2 x3 x4 x5 x6).kept = s.kept := by
  unfold State.sample
  simp only [↓kept_ite, ↓kept_foldl, kept_mk, kept_fold, ite_self]
theorem State.coreRetire_kept (s : State) (x1 : Nat) (x2 : Nat) (x3 : Fx) : (State.coreRetire s x1 x2 x3).kept = s.kept := by
  unfold State.coreRetire
  simp only [↓State.sample_kept, ↓State.modCore_kept, ↓State.setFld_kept, ↓State.coreUse_kept, ↓State.coreTrap_kept, ↓State.useFree_kept, ↓State.count_kept, ↓kept_ite, ↓kept_foldl, kept_mk, kept_fold, ite_self]
theorem State.coreStall_kept (s : State) (x1 : Nat) (x2 : Nat) (x3 : Nat) : (State.coreStall s x1 x2 x3).kept = s.kept := by
  unfold State.coreStall
  simp only [↓State.modCore_kept, ↓State.coreUse_kept, ↓State.count_kept, ↓kept_ite, ↓kept_foldl, kept_mk, kept_fold, ite_self]
theorem State.coreDo_kept (s : State) (x1 : Nat) (x2 : Nat) (x3 : Instr) (x4 : Core → Fx) : (State.coreDo s x1 x2 x3 x4).kept = s.kept := by
  unfold State.coreDo
  simp only [↓State.coreRetire_kept, ↓kept_ite, ↓kept_foldl, kept_mk, kept_fold, ite_self]
theorem State.modHbm_kept (s : State) (x1 : Hbm → Hbm) : (State.modHbm s x1).kept = s.kept := by
  unfold State.modHbm
  simp only [↓kept_ite, ↓kept_foldl, kept_mk, kept_fold, ite_self]
theorem State.setPc_kept (s : State) (x1 : Nat) (x2 : Nat) (x3 : Nat) : (State.setPc s x1 x2 x3).kept = s.kept := by
  unfold State.setPc
  simp only [↓State.setFld_kept, ↓kept_ite, ↓kept_foldl, kept_mk, kept_fold, ite_self]
theorem State.retire_kept (s : State) (x1 : Nat) : (State.retire s x1).kept = s.kept := by
  unfold State.retire
  (try simp only [↓State.fault_kept, ↓State.setFld_kept, ↓State.memEv_kept, ↓State.unstall_kept, ↓State.updateFreezeRegs_kept, ↓State.modHbm_kept, ↓State.setPc_kept, ↓kept_ite, ↓kept_foldl, kept_mk, kept_fold, ite_self]) <;> (repeat' (split <;> (try simp only [↓State.fault_kept, ↓State.setFld_kept, ↓State.memEv_kept, ↓State.unstall_kept, ↓State.updateFreezeRegs_kept, ↓State.modHbm_kept, ↓State.setPc_kept, ↓kept_ite, ↓kept_foldl, kept_mk, kept_fold, ite_self])))
theorem State.trainedAt_kept (s : State) (x1 : Nat) (x2 : Int) : (State.trainedAt s x1 x2).kept = s.kept := by
  unfold State.trainedAt
  simp only [↓State.setFld_kept, ↓State.modHbm_kept, ↓kept_ite, ↓kept_foldl, kept_mk, kept_fold, ite_self]
theorem State.setPcs_kept (s : State) (x1 : List Nat) (x2 : Nat) : (State.setPcs s x1 x2).kept = s.kept := by
  unfold State.setPcs
  (try simp (disch := (first | (intros; rfl) | (intros; (try simp only [↓State.setFld_kept, ↓kept_ite, ↓kept_foldl, kept_mk, kept_fold, ite_self]) <;> repeat' (split <;> (try rfl) <;> (try simp only [↓State.setFld_kept, ↓kept_ite, ↓kept_foldl, kept_mk, kept_fold, ite_self]))))) only [↓State.setFld_kept, ↓kept_ite, ↓kept_foldl, kept_mk, kept_fold, ite_self]) <;> (repeat' (split <;> (try simp (disch := (first | (intros; rfl) | (intros; (try simp only [↓State.setFld_kept, ↓kept_ite, ↓kept_foldl, kept_mk, kept_fold, ite_self]) <;> repeat' (split <;> (try rfl) <;> (try simp only [↓State.setFld_kept, ↓kept_ite, ↓kept_foldl, kept_mk, kept_fold, ite_self]))))) only [↓State.setFld_kept, ↓kept_ite, ↓kept_foldl, kept_mk, kept_fold, ite_self])))
theorem State.uncorrectable_kept (s : State) (x1 : Nat) : (State.uncorrectable s x1).kept = s.kept := by
  unfold State.uncorrectable
  (try simp only [↓State.setFld_kept, ↓State.memEv_kept, ↓State.modHbm_kept, ↓State.count_kept, ↓kept_ite, ↓kept_foldl, kept_mk, kept_fold, ite_self]) <;> (repeat' (split <;> (try simp only [↓State.setFld_kept, ↓State.memEv_kept, ↓State.modHbm_kept, ↓State.count_kept, ↓kept_ite, ↓kept_foldl, kept_mk, kept_fold, ite_self])))
theorem State.corrected_kept (s : State) (x1 : Nat) (x2 : Nat) : (State.corrected s x1 x2).kept = s.kept := by
  unfold State.corrected
  simp only [↓State.retire_kept, ↓State.count_kept, ↓kept_ite, ↓kept_foldl, kept_mk, kept_fold, ite_self]
theorem restripeApply_kept (s : State) (x1 : Desc) (x2 : Nat) : (restripeApply s x1 x2).kept = s.kept := by
  unfold restripeApply
  simp only [↓State.modHbm_kept, ↓kept_ite, ↓kept_foldl, kept_mk, kept_fold, ite_self]
theorem State.restartWriters_kept (s : State) : (State.restartWriters s).kept = s.kept := by
  unfold State.restartWriters
  (try simp (disch := (first | (intros; rfl) | (intros; (try simp only [↓State.setFld_kept, ↓State.modSlice_kept, ↓State.modXcor_kept, ↓State.modTuner_kept, ↓kept_ite, ↓kept_foldl, kept_mk, kept_fold, ite_self]) <;> repeat' (split <;> (try rfl) <;> (try simp only [↓State.setFld_kept, ↓State.modSlice_kept, ↓State.modXcor_kept, ↓State.modTuner_kept, ↓kept_ite, ↓kept_foldl, kept_mk, kept_fold, ite_self]))))) only [↓State.setFld_kept, ↓State.modSlice_kept, ↓State.modXcor_kept, ↓State.modTuner_kept, ↓kept_ite, ↓kept_foldl, kept_mk, kept_fold, ite_self]) <;> (repeat' (split <;> (try simp (disch := (first | (intros; rfl) | (intros; (try simp only [↓State.setFld_kept, ↓State.modSlice_kept, ↓State.modXcor_kept, ↓State.modTuner_kept, ↓kept_ite, ↓kept_foldl, kept_mk, kept_fold, ite_self]) <;> repeat' (split <;> (try rfl) <;> (try simp only [↓State.setFld_kept, ↓State.modSlice_kept, ↓State.modXcor_kept, ↓State.modTuner_kept, ↓kept_ite, ↓kept_foldl, kept_mk, kept_fold, ite_self]))))) only [↓State.setFld_kept, ↓State.modSlice_kept, ↓State.modXcor_kept, ↓State.modTuner_kept, ↓kept_ite, ↓kept_foldl, kept_mk, kept_fold, ite_self])))
theorem State.modChan_kept (s : State) (x1 : Nat) (x2 : Chan → Chan) : (State.modChan s x1 x2).kept = s.kept := by
  unfold State.modChan
  simp only [↓kept_ite, ↓kept_foldl, kept_mk, kept_fold, ite_self]
theorem State.modXfer_kept (s : State) (x1 : Nat) (x2 : Xfer → Xfer) : (State.modXfer s x1 x2).kept = s.kept := by
  unfold State.modXfer
  simp only [↓State.modChan_kept, ↓kept_ite, ↓kept_foldl, kept_mk, kept_fold, ite_self]
theorem State.chanTake_kept (s : State) (x1 : Nat) : (State.chanTake s x1).kept = s.kept := by
  unfold State.chanTake
  (try simp only [↓State.modChan_kept, ↓State.setFld_kept, ↓kept_ite, ↓kept_foldl, kept_mk, kept_fold, ite_self]) <;> (repeat' (split <;> (try simp only [↓State.modChan_kept, ↓State.setFld_kept, ↓kept_ite, ↓kept_foldl, kept_mk, kept_fold, ite_self])))
theorem State.enqueue_kept (s : State) (x1 : Nat) (x2 : Xfer) : (State.enqueue s x1 x2).kept = s.kept := by
  unfold State.enqueue
  simp only [↓State.chanTake_kept, ↓State.modChan_kept, ↓kept_ite, ↓kept_foldl, kept_mk, kept_fold, ite_self]
theorem State.modExtract_kept (s : State) (x1 : Nat) (x2 : ExtractSt → ExtractSt) : (State.modExtract s x1 x2).kept = s.kept := by
  unfold State.modExtract
  simp only [↓kept_ite, ↓kept_foldl, kept_mk, kept_fold, ite_self]
theorem State.extractNext_kept (s : State) (x1 : Nat) (x2 : Nat) : (State.extractNext s x1 x2).kept = s.kept := by
  unfold State.extractNext
  (try simp only [↓State.modExtract_kept, ↓State.modHbm_kept, ↓State.modStream_kept, ↓State.modXfer_kept, ↓kept_ite, ↓kept_foldl, kept_mk, kept_fold, ite_self]) <;> (repeat' (split <;> (try simp only [↓State.modExtract_kept, ↓State.modHbm_kept, ↓State.modStream_kept, ↓State.modXfer_kept, ↓kept_ite, ↓kept_foldl, kept_mk, kept_fold, ite_self])))
theorem State.extractFill_kept (s : State) (ch job need n : Nat) : (s.extractFill ch job need n).kept = s.kept := by
  induction n generalizing s with
  | zero => rfl
  | succ n ih =>
    rw [State.extractFill]
    split
    · split
      · rw [ih, State.extractNext_kept]
      · rfl
    · rfl
theorem State.extractEnd_kept (s : State) (x1 : Nat) (x2 : Nat) (x3 : Nat) : (State.extractEnd s x1 x2 x3).kept = s.kept := by
  unfold State.extractEnd
  (try simp only [↓State.complete_kept, ↓State.updateFreezeRegs_kept, ↓State.unhold_kept, ↓State.releaseFreeze_kept, ↓kept_ite, ↓kept_foldl, kept_mk, kept_fold, ite_self]) <;> (repeat' (split <;> (try simp only [↓State.complete_kept, ↓State.updateFreezeRegs_kept, ↓State.unhold_kept, ↓State.releaseFreeze_kept, ↓kept_ite, ↓kept_foldl, kept_mk, kept_fold, ite_self])))
theorem State.xferEnd_kept (s : State) (x1 : Nat) (x2 : Xfer) (x3 : Nat) (x4 : Nat) : (State.xferEnd s x1 x2 x3 x4).kept = s.kept := by
  unfold State.xferEnd
  (try simp only [↓State.chanTake_kept, ↓State.modChan_kept, ↓State.coreSettle_kept, ↓State.modCore_kept, ↓State.setFld_kept, ↓State.complete_kept, ↓State.fireVector_kept, ↓State.extractEnd_kept, ↓kept_ite, ↓kept_foldl, kept_mk, kept_fold, ite_self]) <;> (repeat' (split <;> (try simp only [↓State.chanTake_kept, ↓State.modChan_kept, ↓State.coreSettle_kept, ↓State.modCore_kept, ↓State.setFld_kept, ↓State.complete_kept, ↓State.fireVector_kept, ↓State.extractEnd_kept, ↓kept_ite, ↓kept_foldl, kept_mk, kept_fold, ite_self])))
theorem State.haltSettle_kept (s : State) (x1 : Nat) : (State.haltSettle s x1).kept = s.kept := by
  unfold State.haltSettle
  (try simp only [↓State.xferEnd_kept, ↓kept_ite, ↓kept_foldl, kept_mk, kept_fold, ite_self]) <;> (repeat' (split <;> (try simp only [↓State.xferEnd_kept, ↓kept_ite, ↓kept_foldl, kept_mk, kept_fold, ite_self])))
theorem State.burstWrite_kept (s : State) (x1 : Xfer) (x2 : Nat) (x3 : List Nat) : (State.burstWrite s x1 x2 x3).kept = s.kept := by
  unfold State.burstWrite
  (try simp only [↓State.hbmWrite_kept, ↓State.modCore_kept, ↓State.emit_kept, ↓kept_ite, ↓kept_foldl, kept_mk, kept_fold, ite_self]) <;> (repeat' (split <;> (try simp only [↓State.hbmWrite_kept, ↓State.modCore_kept, ↓State.emit_kept, ↓kept_ite, ↓kept_foldl, kept_mk, kept_fold, ite_self])))
theorem moveApply_kept (s : State) (x1 : Desc) (x2 : Nat) : (moveApply s x1 x2).kept = s.kept := by
  unfold moveApply
  simp only [↓State.enqueue_kept, ↓kept_ite, ↓kept_foldl, kept_mk, kept_fold, ite_self]
theorem State.noteNeed_kept (s : State) (x1 : Stream) (x2 : Nat) : (State.noteNeed s x1 x2).kept = s.kept := by
  unfold State.noteNeed
  simp only [↓State.modRec_kept, ↓kept_ite, ↓kept_foldl, kept_mk, kept_fold, ite_self]
theorem State.sendPacket_kept (s : State) (x1 : Stream) (x2 : Nat) (x3 : List Nat) : (State.sendPacket s x1 x2 x3).kept = s.kept := by
  unfold State.sendPacket
  simp only [↓State.putChunk_kept, ↓State.modStream_kept, ↓State.count_kept, ↓State.emit_kept, ↓kept_ite, ↓kept_foldl, kept_mk, kept_fold, ite_self]
theorem State.sendPair_kept (s : State) (x1 : Stream) (x2 : Option Item) (x3 : Nat) (x4 : Nat) (x5 : Bool) (x6 : Bool) : (State.sendPair s x1 x2 x3 x4 x5 x6).kept = s.kept := by
  unfold State.sendPair
  (try simp (disch := (first | (intros; rfl) | (intros; (try simp only [↓State.sendPacket_kept, ↓State.modStream_kept, ↓kept_ite, ↓kept_foldl, kept_mk, kept_fold, ite_self]) <;> repeat' (split <;> (try rfl) <;> (try simp only [↓State.sendPacket_kept, ↓State.modStream_kept, ↓kept_ite, ↓kept_foldl, kept_mk, kept_fold, ite_self]))))) only [↓State.sendPacket_kept, ↓State.modStream_kept, ↓kept_ite, ↓kept_foldl, kept_mk, kept_fold, ite_self]) <;> (repeat' (split <;> (try simp (disch := (first | (intros; rfl) | (intros; (try simp only [↓State.sendPacket_kept, ↓State.modStream_kept, ↓kept_ite, ↓kept_foldl, kept_mk, kept_fold, ite_self]) <;> repeat' (split <;> (try rfl) <;> (try simp only [↓State.sendPacket_kept, ↓State.modStream_kept, ↓kept_ite, ↓kept_foldl, kept_mk, kept_fold, ite_self]))))) only [↓State.sendPacket_kept, ↓State.modStream_kept, ↓kept_ite, ↓kept_foldl, kept_mk, kept_fold, ite_self])))
theorem State.sendData_kept (s : State) (x1 : Stream) (x2 : Payload) : (State.sendData s x1 x2).kept = s.kept := by
  unfold State.sendData
  simp only [↓State.sendPacket_kept, ↓State.modStream_kept, ↓kept_ite, ↓kept_foldl, kept_mk, kept_fold, ite_self]
theorem State.flushStream_kept (s : State) (x1 : Stream) : (State.flushStream s x1).kept = s.kept := by
  unfold State.flushStream
  (try simp only [↓State.sendPair_kept, ↓State.sendData_kept, ↓kept_ite, ↓kept_foldl, kept_mk, kept_fold, ite_self]) <;> (repeat' (split <;> (try simp only [↓State.sendPair_kept, ↓State.sendData_kept, ↓kept_ite, ↓kept_foldl, kept_mk, kept_fold, ite_self])))
theorem streamApply_kept (s : State) (x1 : Desc) (x2 : Nat) : (streamApply s x1 x2).kept = s.kept := by
  unfold streamApply
  (try simp only [↓State.putChunk_kept, ↓State.setFld_kept, ↓State.modRec_kept, ↓kept_ite, ↓kept_foldl, kept_mk, kept_fold, ite_self]) <;> (repeat' (split <;> (try simp only [↓State.putChunk_kept, ↓State.setFld_kept, ↓State.modRec_kept, ↓kept_ite, ↓kept_foldl, kept_mk, kept_fold, ite_self])))
theorem streamCloseApply_kept (s : State) (x1 : Desc) (x2 : Nat) : (streamCloseApply s x1 x2).kept = s.kept := by
  unfold streamCloseApply
  (try simp (disch := (first | (intros; rfl) | (intros; (try simp only [↓State.endStream_kept, ↓State.flushStream_kept, ↓State.sendPair_kept, ↓State.trgSettle_kept, ↓State.complete_kept, ↓State.modTrg_kept, ↓kept_ite, ↓kept_foldl, kept_mk, kept_fold, ite_self]) <;> repeat' (split <;> (try rfl) <;> (try simp only [↓State.endStream_kept, ↓State.flushStream_kept, ↓State.sendPair_kept, ↓State.trgSettle_kept, ↓State.complete_kept, ↓State.modTrg_kept, ↓kept_ite, ↓kept_foldl, kept_mk, kept_fold, ite_self]))))) only [↓State.endStream_kept, ↓State.flushStream_kept, ↓State.sendPair_kept, ↓State.trgSettle_kept, ↓State.complete_kept, ↓State.modTrg_kept, ↓kept_ite, ↓kept_foldl, kept_mk, kept_fold, ite_self]) <;> (repeat' (split <;> (try simp (disch := (first | (intros; rfl) | (intros; (try simp only [↓State.endStream_kept, ↓State.flushStream_kept, ↓State.sendPair_kept, ↓State.trgSettle_kept, ↓State.complete_kept, ↓State.modTrg_kept, ↓kept_ite, ↓kept_foldl, kept_mk, kept_fold, ite_self]) <;> repeat' (split <;> (try rfl) <;> (try simp only [↓State.endStream_kept, ↓State.flushStream_kept, ↓State.sendPair_kept, ↓State.trgSettle_kept, ↓State.complete_kept, ↓State.modTrg_kept, ↓kept_ite, ↓kept_foldl, kept_mk, kept_fold, ite_self]))))) only [↓State.endStream_kept, ↓State.flushStream_kept, ↓State.sendPair_kept, ↓State.trgSettle_kept, ↓State.complete_kept, ↓State.modTrg_kept, ↓kept_ite, ↓kept_foldl, kept_mk, kept_fold, ite_self])))
theorem State.endExtract_kept (s : State) (x1 : Nat) (x2 : Nat) : (State.endExtract s x1 x2).kept = s.kept := by
  unfold State.endExtract
  (try simp only [↓State.extractEnd_kept, ↓State.xferEnd_kept, ↓kept_ite, ↓kept_foldl, kept_mk, kept_fold, ite_self]) <;> (repeat' (split <;> (try simp only [↓State.extractEnd_kept, ↓State.xferEnd_kept, ↓kept_ite, ↓kept_foldl, kept_mk, kept_fold, ite_self])))
theorem State.shedNet_kept (s : State) (x1 : Job) (x2 : Nat) : (State.shedNet s x1 x2).kept = s.kept := by
  unfold State.shedNet
  (try simp only [↓State.endStream_kept, ↓State.noteShed_kept, ↓State.count_kept, ↓State.endExtract_kept, ↓State.blame_kept, ↓kept_ite, ↓kept_foldl, kept_mk, kept_fold, ite_self]) <;> (repeat' (split <;> (try simp only [↓State.endStream_kept, ↓State.noteShed_kept, ↓State.count_kept, ↓State.endExtract_kept, ↓State.blame_kept, ↓kept_ite, ↓kept_foldl, kept_mk, kept_fold, ite_self])))
theorem State.shedUntil_kept (s : State) (c flt : Nat) (hold : Job → Bool) (n : Nat) : (s.shedUntil c flt hold n).kept = s.kept := by
  induction n generalizing s with
  | zero => rfl
  | succ n ih =>
    rw [State.shedUntil]
    split
    · rfl
    · simp only
      split
      · rfl
      · rw [ih, State.shedNet_kept]
theorem State.hostIo_kept (s : State) (x1 : Desc) (x2 : Nat) (x3 : List Nat) : (State.hostIo s x1 x2 x3).1.kept = s.kept := by
  unfold State.hostIo
  (try simp only [↓State.emit_kept, ↓kept_ite, ↓kept_foldl, kept_mk, kept_fold, ite_self]) <;> (repeat' (split <;> (try simp only [↓State.emit_kept, ↓kept_ite, ↓kept_foldl, kept_mk, kept_fold, ite_self])))
theorem checkBufApply_kept (s : State) (x1 : Desc) (x2 : Nat) : (checkBufApply s x1 x2).kept = s.kept := by
  unfold checkBufApply
  (try simp only [↓State.setFld_kept, ↓State.complete_kept, ↓kept_ite, ↓kept_foldl, kept_mk, kept_fold, ite_self]) <;> (repeat' (split <;> (try simp only [↓State.setFld_kept, ↓State.complete_kept, ↓kept_ite, ↓kept_foldl, kept_mk, kept_fold, ite_self])))
theorem checkVerApply_kept (s : State) (x1 : Desc) (x2 : Nat) : (checkVerApply s x1 x2).kept = s.kept := by
  unfold checkVerApply
  (try simp only [↓State.complete_kept, ↓kept_ite, ↓kept_foldl, kept_mk, kept_fold, ite_self]) <;> (repeat' (split <;> (try simp only [↓State.complete_kept, ↓kept_ite, ↓kept_foldl, kept_mk, kept_fold, ite_self])))
theorem State.modVid_kept (s : State) (x1 : VidSt → VidSt) : (State.modVid s x1).kept = s.kept := by
  unfold State.modVid
  simp only [↓kept_ite, ↓kept_foldl, kept_mk, kept_fold, ite_self]
theorem State.vidEv_kept (s : State) (x1 : Nat) : (State.vidEv s x1).kept = s.kept := by
  unfold State.vidEv
  simp only [↓State.raise_kept, ↓kept_ite, ↓kept_foldl, kept_mk, kept_fold, ite_self]
theorem State.vidEvEn_kept (s : State) (x1 : Nat) : (State.vidEvEn s x1).kept = s.kept := by
  unfold State.vidEvEn
  simp only [↓State.vidEv_kept, ↓kept_ite, ↓kept_foldl, kept_mk, kept_fold, ite_self]
theorem State.vidApply_kept (s : State) (x1 : VidChange) : (State.vidApply s x1).kept = s.kept := by
  unfold State.vidApply
  simp only [↓State.apply_kept, ↓State.setFld_kept, ↓State.modVid_kept, ↓kept_ite, ↓kept_foldl, kept_mk, kept_fold, ite_self]
theorem videoApply_kept (s : State) (x1 : Desc) (x2 : Nat) : (videoApply s x1 x2).kept = s.kept := by
  unfold videoApply
  (try simp only [↓State.setFld_kept, ↓State.complete_kept, ↓State.modVid_kept, ↓kept_ite, ↓kept_foldl, kept_mk, kept_fold, ite_self]) <;> (repeat' (split <;> (try simp only [↓State.setFld_kept, ↓State.complete_kept, ↓State.modVid_kept, ↓kept_ite, ↓kept_foldl, kept_mk, kept_fold, ite_self])))
theorem paletteFail_kept (s : State) (x1 : Desc) (x2 : Nat) : (paletteFail s x1 x2).kept = s.kept := by
  unfold paletteFail
  (try simp only [↓State.modVid_kept, ↓State.useFrees_kept, ↓kept_ite, ↓kept_foldl, kept_mk, kept_fold, ite_self]) <;> (repeat' (split <;> (try simp only [↓State.modVid_kept, ↓State.useFrees_kept, ↓kept_ite, ↓kept_foldl, kept_mk, kept_fold, ite_self])))
theorem paletteLoad_kept (s : State) (x1 : Desc) : (paletteLoad s x1).kept = s.kept := by
  unfold paletteLoad
  simp only [↓State.modVid_kept, ↓kept_ite, ↓kept_foldl, kept_mk, kept_fold, ite_self]
theorem State.setTab_kept (s : State) (x1 : Nat) (x2 : Nat) (x3 : Nat) (x4 : List Nat) : (State.setTab s x1 x2 x3 x4).kept = s.kept := by
  unfold State.setTab
  simp only [↓State.modSlice_kept, ↓kept_ite, ↓kept_foldl, kept_mk, kept_fold, ite_self]
theorem State.corePost_kept (s : State) (x1 : Nat) (x2 : Nat) (x3 : Nat) : (State.corePost s x1 x2 x3).kept = s.kept := by
  unfold State.corePost
  simp only [↓State.incSat_kept, ↓State.raiseAt_kept, ↓State.modCore_kept, ↓kept_ite, ↓kept_foldl, kept_mk, kept_fold, ite_self]
theorem State.coreSend_kept (s : State) (x1 : Nat) (x2 : Nat) (x3 : Nat) : (State.coreSend s x1 x2 x3).kept = s.kept := by
  unfold State.coreSend
  simp only [↓State.modCore_kept, ↓State.queueMsg_kept, ↓kept_ite, ↓kept_foldl, kept_mk, kept_fold, ite_self]
theorem ite_of {α : Sort _} {P : α → Prop} {c : Prop} [Decidable c] {a b : α} (ha : P a) (hb : P b) : P (if c then a else b) := by
  split <;> assumption
theorem winRead_kept {s : State} {n c a : Nat} {r : Nat × State} (h : s.winRead n c a = some r) : r.2.kept = s.kept := by
  revert h
  unfold State.winRead
  simp only
  repeat' refine ite_of (P := fun o => o = some r → _) ?_ ?_
  all_goals first
    | (intro h; cases h; done)
    | (intro h; cases h; first | rfl | exact State.modCore_kept .. | exact State.useFree_kept ..)
    | (split <;> (intro h; cases h; first | rfl | exact State.modCore_kept .. | exact State.useFree_kept ..))
theorem dataRead_kept {s : State} {n c a : Nat} {r : DataRead} (h : s.dataRead n c a = some r) : r.s.kept = s.kept := by
  unfold State.dataRead at h
  split at h
  · cases h; rfl
  · split at h
    · cases h
    · rename_i h'
      cases h
      exact (State.useFree_kept _).trans (winRead_kept h')
theorem f0Reads_kept {s : State} {n c : Nat} {x : F0} {l : F0Loads} (h : s.f0Reads n c x = some l) : l.s.kept = s.kept := by
  unfold State.f0Reads at h
  simp only [Option.bind_eq_some_iff] at h
  obtain ⟨y, hy, h⟩ := h
  have e : y.s.kept = s.kept := by
    split at hy
    · obtain ⟨r, hr, rfl⟩ := Option.map_eq_some_iff.mp hy
      exact dataRead_kept hr
    · cases hy; rfl
  split at h
  · obtain ⟨r, hr, rfl⟩ := Option.map_eq_some_iff.mp h
    exact (dataRead_kept hr).trans e
  · cases h; exact e
theorem State.f0_kept (s : State) (n c : Nat) (i : Instr) (x : F0) (op : Option (Int → Int → Int)) (reads : Bool) : (s.f0 n c i x op reads).kept = s.kept := by
  unfold State.f0
  split
  · split
    · exact State.coreTrap_kept ..
    · rename_i l hl
      simp only
      rw [State.coreRetire_kept, kept_ite, State.useFree_kept, ite_self]
      exact f0Reads_kept hl
  · rfl
theorem coreDmaGo_kept {s t : State} {n c v : Nat} (h : s.coreDmaGo n c v = .done t) : t.kept = s.kept := by
  unfold State.coreDmaGo at h
  simp only at h
  repeat' split at h
  all_goals cases h
  all_goals simp only [↓State.modCore_kept, ↓State.enqueue_kept, ↓State.setFld_kept]
theorem winWrite_kept {s t : State} {n c a v : Nat} (h : s.winWrite n c a v = .done t) : t.kept = s.kept := by
  revert h
  unfold State.winWrite
  simp only
  repeat' first | (intro h; exact coreDmaGo_kept h) | refine ite_of (P := fun o => o = WinRes.done t → _) ?_ ?_
  all_goals first
    | (intro h; cases h; done)
    | (intro h; cases h; simp (disch := fail) only [↓State.modCore_kept, ↓State.setTab_kept, ↓State.setFld_kept, ↓State.modTrg_kept, ↓State.coreSend_kept, ↓State.corePost_kept]; done)
theorem State.coreStore_kept (s : State) (n c : Nat) (x : F3) : (s.coreStore n c x).kept = s.kept := by
  unfold State.coreStore
  simp only
  split
  · exact State.coreRetire_kept ..
  · split
    · exact State.coreTrap_kept ..
    · exact State.coreStall_kept ..
    · rename_i h
      exact (State.coreRetire_kept ..).trans (winWrite_kept h)
theorem State.coreWindow_kept (s : State) (x1 : Nat) (x2 : Nat) (x3 : Nat → Bool) : (State.coreWindow s x1 x2 x3).kept = s.kept := by
  unfold State.coreWindow
  (try simp only [↓State.coreStore_kept, ↓kept_ite, ↓kept_foldl, kept_mk, kept_fold, ite_self]) <;> (repeat' (split <;> (try simp only [↓State.coreStore_kept, ↓kept_ite, ↓kept_foldl, kept_mk, kept_fold, ite_self])))
theorem State.coreLoad_kept (s : State) (x1 : Nat) (x2 : Nat) (x3 : Image) : (State.coreLoad s x1 x2 x3).kept = s.kept := by
  unfold State.coreLoad
  simp only [↓State.modCore_kept, ↓State.setFld_kept, ↓kept_ite, ↓kept_foldl, kept_mk, kept_fold, ite_self]
theorem coreLoadApply_kept (s : State) (x1 : Desc) (x2 : Image) : (coreLoadApply s x1 x2).kept = s.kept := by
  unfold coreLoadApply
  (try simp (disch := (first | (intros; rfl) | (intros; (try simp only [↓State.coreLoad_kept, ↓kept_ite, ↓kept_foldl, kept_mk, kept_fold, ite_self]) <;> repeat' (split <;> (try rfl) <;> (try simp only [↓State.coreLoad_kept, ↓kept_ite, ↓kept_foldl, kept_mk, kept_fold, ite_self]))))) only [↓State.coreLoad_kept, ↓kept_ite, ↓kept_foldl, kept_mk, kept_fold, ite_self]) <;> (repeat' (split <;> (try simp (disch := (first | (intros; rfl) | (intros; (try simp only [↓State.coreLoad_kept, ↓kept_ite, ↓kept_foldl, kept_mk, kept_fold, ite_self]) <;> repeat' (split <;> (try rfl) <;> (try simp only [↓State.coreLoad_kept, ↓kept_ite, ↓kept_foldl, kept_mk, kept_fold, ite_self]))))) only [↓State.coreLoad_kept, ↓kept_ite, ↓kept_foldl, kept_mk, kept_fold, ite_self])))
theorem State.coreStart_kept (s : State) (x1 : Nat) (x2 : Nat) (x3 : Nat) (x4 : Nat) (x5 : Nat) (x6 : Nat) (x7 : Nat) (x8 : Nat) (x9 : Nat) (x10 : Bool) : (State.coreStart s x1 x2 x3 x4 x5 x6 x7 x8 x9 x10).kept = s.kept := by
  unfold State.coreStart
  simp only [↓State.updateCoreSum_kept, ↓State.modCore_kept, ↓State.setFld_kept, ↓kept_ite, ↓kept_foldl, kept_mk, kept_fold, ite_self]
theorem coreRunApply_kept (s : State) (x1 : Desc) (x2 : Nat) : (coreRunApply s x1 x2).kept = s.kept := by
  unfold coreRunApply
  simp only [↓State.coreSettle_kept, ↓State.modCore_kept, ↓State.coreStart_kept, ↓kept_ite, ↓kept_foldl, kept_mk, kept_fold, ite_self]
theorem State.dropCoreXfers_kept (s : State) (x1 : Nat) : (State.dropCoreXfers s x1).kept = s.kept := by
  unfold State.dropCoreXfers
  (try simp (disch := (first | (intros; rfl) | (intros; (try simp only [↓State.chanTake_kept, ↓State.modChan_kept, ↓kept_ite, ↓kept_foldl, kept_mk, kept_fold, ite_self]) <;> repeat' (split <;> (try rfl) <;> (try simp only [↓State.chanTake_kept, ↓State.modChan_kept, ↓kept_ite, ↓kept_foldl, kept_mk, kept_fold, ite_self]))))) only [↓State.chanTake_kept, ↓State.modChan_kept, ↓kept_ite, ↓kept_foldl, kept_mk, kept_fold, ite_self]) <;> (repeat' (split <;> (try simp (disch := (first | (intros; rfl) | (intros; (try simp only [↓State.chanTake_kept, ↓State.modChan_kept, ↓kept_ite, ↓kept_foldl, kept_mk, kept_fold, ite_self]) <;> repeat' (split <;> (try rfl) <;> (try simp only [↓State.chanTake_kept, ↓State.modChan_kept, ↓kept_ite, ↓kept_foldl, kept_mk, kept_fold, ite_self]))))) only [↓State.chanTake_kept, ↓State.modChan_kept, ↓kept_ite, ↓kept_foldl, kept_mk, kept_fold, ite_self])))
theorem State.coresRestart_kept (s : State) (x1 : Nat) : (State.coresRestart s x1).kept = s.kept := by
  unfold State.coresRestart
  (try simp (disch := (first | (intros; rfl) | (intros; (try simp only [↓State.coreEnd_kept, ↓State.modCore_kept, ↓State.setFld_kept, ↓State.complete_kept, ↓State.raise_kept, ↓State.coreStart_kept, ↓State.dropCoreXfers_kept, ↓kept_ite, ↓kept_foldl, kept_mk, kept_fold, ite_self]) <;> repeat' (split <;> (try rfl) <;> (try simp only [↓State.coreEnd_kept, ↓State.modCore_kept, ↓State.setFld_kept, ↓State.complete_kept, ↓State.raise_kept, ↓State.coreStart_kept, ↓State.dropCoreXfers_kept, ↓kept_ite, ↓kept_foldl, kept_mk, kept_fold, ite_self]))))) only [↓State.coreEnd_kept, ↓State.modCore_kept, ↓State.setFld_kept, ↓State.complete_kept, ↓State.raise_kept, ↓State.coreStart_kept, ↓State.dropCoreXfers_kept, ↓kept_ite, ↓kept_foldl, kept_mk, kept_fold, ite_self]) <;> (repeat' (split <;> (try simp (disch := (first | (intros; rfl) | (intros; (try simp only [↓State.coreEnd_kept, ↓State.modCore_kept, ↓State.setFld_kept, ↓State.complete_kept, ↓State.raise_kept, ↓State.coreStart_kept, ↓State.dropCoreXfers_kept, ↓kept_ite, ↓kept_foldl, kept_mk, kept_fold, ite_self]) <;> repeat' (split <;> (try rfl) <;> (try simp only [↓State.coreEnd_kept, ↓State.modCore_kept, ↓State.setFld_kept, ↓State.complete_kept, ↓State.raise_kept, ↓State.coreStart_kept, ↓State.dropCoreXfers_kept, ↓kept_ite, ↓kept_foldl, kept_mk, kept_fold, ite_self]))))) only [↓State.coreEnd_kept, ↓State.modCore_kept, ↓State.setFld_kept, ↓State.complete_kept, ↓State.raise_kept, ↓State.coreStart_kept, ↓State.dropCoreXfers_kept, ↓kept_ite, ↓kept_foldl, kept_mk, kept_fold, ite_self])))
theorem State.extend_kept (s : State) (x1 : Nat) (x2 : List Nat) : (State.extend s x1 x2).kept = s.kept := by
  unfold State.extend
  (try simp (disch := (first | (intros; rfl) | (intros; (try simp only [↓State.setFld_kept, ↓kept_ite, ↓kept_foldl, kept_mk, kept_fold, ite_self]) <;> repeat' (split <;> (try rfl) <;> (try simp only [↓State.setFld_kept, ↓kept_ite, ↓kept_foldl, kept_mk, kept_fold, ite_self]))))) only [↓State.setFld_kept, ↓kept_ite, ↓kept_foldl, kept_mk, kept_fold, ite_self]) <;> (repeat' (split <;> (try simp (disch := (first | (intros; rfl) | (intros; (try simp only [↓State.setFld_kept, ↓kept_ite, ↓kept_foldl, kept_mk, kept_fold, ite_self]) <;> repeat' (split <;> (try rfl) <;> (try simp only [↓State.setFld_kept, ↓kept_ite, ↓kept_foldl, kept_mk, kept_fold, ite_self]))))) only [↓State.setFld_kept, ↓kept_ite, ↓kept_foldl, kept_mk, kept_fold, ite_self])))
theorem coreLoadSecEv_kept (s : State) (x1 : Desc) : (coreLoadSecEv s x1).kept = s.kept := by
  unfold coreLoadSecEv
  (try simp only [↓State.secEv_kept, ↓kept_ite, ↓kept_foldl, kept_mk, kept_fold, ite_self]) <;> (repeat' (split <;> (try simp only [↓State.secEv_kept, ↓kept_ite, ↓kept_foldl, kept_mk, kept_fold, ite_self])))
theorem coreLoadDo_kept (s : State) (x1 : Desc) (x2 : Nat) : (coreLoadDo s x1 x2).kept = s.kept := by
  unfold coreLoadDo
  (try simp only [↓State.complete_kept, ↓coreLoadApply_kept, ↓State.extend_kept, ↓kept_ite, ↓kept_foldl, kept_mk, kept_fold, ite_self]) <;> (repeat' (split <;> (try simp only [↓State.complete_kept, ↓coreLoadApply_kept, ↓State.extend_kept, ↓kept_ite, ↓kept_foldl, kept_mk, kept_fold, ite_self])))
theorem attestApply_kept (s : State) (x1 : Desc) (x2 : Nat) : (attestApply s x1 x2).kept = s.kept := by
  unfold attestApply
  (try simp only [↓State.hostIo_kept, ↓State.complete_kept, ↓State.signBy_kept, ↓kept_ite, ↓kept_foldl, kept_mk, kept_fold, ite_self]) <;> (repeat' (split <;> (try simp only [↓State.hostIo_kept, ↓State.complete_kept, ↓State.signBy_kept, ↓kept_ite, ↓kept_foldl, kept_mk, kept_fold, ite_self])))
theorem State.updateKeys_kept (s : State) : (State.updateKeys s).kept = s.kept := by
  unfold State.updateKeys
  simp only [↓State.setFld_kept, ↓kept_ite, ↓kept_foldl, kept_mk, kept_fold, ite_self]
theorem State.putKey_kept (s : State) (x1 : Key) : (State.putKey s x1).kept = s.kept := by
  unfold State.putKey
  simp only [↓State.modSec_kept, ↓State.updateKeys_kept, ↓kept_ite, ↓kept_foldl, kept_mk, kept_fold, ite_self]
theorem generateApply_kept (s : State) (x1 : Desc) (x2 : Nat) : (generateApply s x1 x2).kept = s.kept := by
  unfold generateApply
  simp only [↓State.drbg_kept, ↓State.putKey_kept, ↓State.modSec_kept, ↓State.complete_kept, ↓kept_ite, ↓kept_foldl, kept_mk, kept_fold, ite_self]
theorem importApply_kept (s : State) (x1 : Desc) (x2 : Nat) : (importApply s x1 x2).kept = s.kept := by
  unfold importApply
  (try simp only [↓State.putKey_kept, ↓State.complete_kept, ↓kept_ite, ↓kept_foldl, kept_mk, kept_fold, ite_self]) <;> (repeat' (split <;> (try simp only [↓State.putKey_kept, ↓State.complete_kept, ↓kept_ite, ↓kept_foldl, kept_mk, kept_fold, ite_self])))
theorem exportApply_kept (s : State) (x1 : Desc) (x2 : Nat) : (exportApply s x1 x2).kept = s.kept := by
  unfold exportApply
  (try simp only [↓State.hostIo_kept, ↓State.complete_kept, ↓State.signBy_kept, ↓kept_ite, ↓kept_foldl, kept_mk, kept_fold, ite_self]) <;> (repeat' (split <;> (try simp only [↓State.hostIo_kept, ↓State.complete_kept, ↓State.signBy_kept, ↓kept_ite, ↓kept_foldl, kept_mk, kept_fold, ite_self])))
theorem deleteApply_kept (s : State) (x1 : Desc) (x2 : Nat) : (deleteApply s x1 x2).kept = s.kept := by
  unfold deleteApply
  simp only [↓State.modSec_kept, ↓State.complete_kept, ↓State.updateKeys_kept, ↓kept_ite, ↓kept_foldl, kept_mk, kept_fold, ite_self]
theorem ownerApply_kept (s : State) (x1 : Desc) (x2 : Nat) : (ownerApply s x1 x2).kept = s.kept := by
  unfold ownerApply
  (try simp only [↓State.modSec_kept, ↓State.setFld_kept, ↓State.complete_kept, ↓kept_ite, ↓kept_foldl, kept_mk, kept_fold, ite_self]) <;> (repeat' (split <;> (try simp only [↓State.modSec_kept, ↓State.setFld_kept, ↓State.complete_kept, ↓kept_ite, ↓kept_foldl, kept_mk, kept_fold, ite_self])))
theorem svnApply_kept (s : State) (x1 : Desc) (x2 : Nat) : (svnApply s x1 x2).kept = s.kept := by
  unfold svnApply
  simp only [↓State.secEv_kept, ↓State.setFld_kept, ↓State.complete_kept, ↓kept_ite, ↓kept_foldl, kept_mk, kept_fold, ite_self]
theorem State.reseed_kept (s : State) : (State.reseed s).kept = s.kept := by
  unfold State.reseed
  simp only [↓State.modSec_kept, ↓State.setFld_kept, ↓kept_ite, ↓kept_foldl, kept_mk, kept_fold, ite_self]
theorem reseedApply_kept (s : State) (x1 : Desc) (x2 : Nat) : (reseedApply s x1 x2).kept = s.kept := by
  unfold reseedApply
  simp only [↓State.reseed_kept, ↓State.complete_kept, ↓kept_ite, ↓kept_foldl, kept_mk, kept_fold, ite_self]
theorem revokeApply_kept (s : State) (x1 : Desc) (x2 : Nat) : (revokeApply s x1 x2).kept = s.kept := by
  unfold revokeApply
  simp only [↓State.setFld_kept, ↓State.complete_kept, ↓kept_ite, ↓kept_foldl, kept_mk, kept_fold, ite_self]
theorem State.zeroiseRec_kept (s : State) (x1 : Nat) : (State.zeroiseRec s x1).kept = s.kept := by
  unfold State.zeroiseRec
  (try simp (disch := (first | (intros; rfl) | (intros; (try simp only [↓State.endStream_kept, ↓State.recSettle_kept, ↓State.modRec_kept, ↓State.closeSeg_kept, ↓kept_ite, ↓kept_foldl, kept_mk, kept_fold, ite_self]) <;> repeat' (split <;> (try rfl) <;> (try simp only [↓State.endStream_kept, ↓State.recSettle_kept, ↓State.modRec_kept, ↓State.closeSeg_kept, ↓kept_ite, ↓kept_foldl, kept_mk, kept_fold, ite_self]))))) only [↓State.endStream_kept, ↓State.recSettle_kept, ↓State.modRec_kept, ↓State.closeSeg_kept, ↓kept_ite, ↓kept_foldl, kept_mk, kept_fold, ite_self]) <;> (repeat' (split <;> (try simp (disch := (first | (intros; rfl) | (intros; (try simp only [↓State.endStream_kept, ↓State.recSettle_kept, ↓State.modRec_kept, ↓State.closeSeg_kept, ↓kept_ite, ↓kept_foldl, kept_mk, kept_fold, ite_self]) <;> repeat' (split <;> (try rfl) <;> (try simp only [↓State.endStream_kept, ↓State.recSettle_kept, ↓State.modRec_kept, ↓State.closeSeg_kept, ↓kept_ite, ↓kept_foldl, kept_mk, kept_fold, ite_self]))))) only [↓State.endStream_kept, ↓State.recSettle_kept, ↓State.modRec_kept, ↓State.closeSeg_kept, ↓kept_ite, ↓kept_foldl, kept_mk, kept_fold, ite_self])))
theorem State.zeroise_kept (s : State) (x1 : Nat) (x2 : Nat) : (State.zeroise s x1 x2).kept = s.kept := by
  unfold State.zeroise
  (try simp (disch := (first | (intros; rfl) | (intros; (try simp only [↓State.modSec_kept, ↓State.zeroiseRec_kept, ↓State.updateKeys_kept, ↓kept_ite, ↓kept_foldl, kept_mk, kept_fold, ite_self]) <;> repeat' (split <;> (try rfl) <;> (try simp only [↓State.modSec_kept, ↓State.zeroiseRec_kept, ↓State.updateKeys_kept, ↓kept_ite, ↓kept_foldl, kept_mk, kept_fold, ite_self]))))) only [↓State.modSec_kept, ↓State.zeroiseRec_kept, ↓State.updateKeys_kept, ↓kept_ite, ↓kept_foldl, kept_mk, kept_fold, ite_self]) <;> (repeat' (split <;> (try simp (disch := (first | (intros; rfl) | (intros; (try simp only [↓State.modSec_kept, ↓State.zeroiseRec_kept, ↓State.updateKeys_kept, ↓kept_ite, ↓kept_foldl, kept_mk, kept_fold, ite_self]) <;> repeat' (split <;> (try rfl) <;> (try simp only [↓State.modSec_kept, ↓State.zeroiseRec_kept, ↓State.updateKeys_kept, ↓kept_ite, ↓kept_foldl, kept_mk, kept_fold, ite_self]))))) only [↓State.modSec_kept, ↓State.zeroiseRec_kept, ↓State.updateKeys_kept, ↓kept_ite, ↓kept_foldl, kept_mk, kept_fold, ite_self])))
theorem zeroiseApply_kept (s : State) (x1 : Desc) (x2 : Nat) : (zeroiseApply s x1 x2).kept = s.kept := by
  unfold zeroiseApply
  simp only [↓State.zeroise_kept, ↓kept_ite, ↓kept_foldl, kept_mk, kept_fold, ite_self]
theorem State.zeroised_kept (s : State) : (State.zeroised s).kept = s.kept := by
  unfold State.zeroised
  (try simp (disch := (first | (intros; rfl) | (intros; (try simp only [↓State.secEv_kept, ↓State.modSec_kept, ↓State.setFld_kept, ↓State.complete_kept, ↓State.updateKeys_kept, ↓kept_ite, ↓kept_foldl, kept_mk, kept_fold, ite_self]) <;> repeat' (split <;> (try rfl) <;> (try simp only [↓State.secEv_kept, ↓State.modSec_kept, ↓State.setFld_kept, ↓State.complete_kept, ↓State.updateKeys_kept, ↓kept_ite, ↓kept_foldl, kept_mk, kept_fold, ite_self]))))) only [↓State.secEv_kept, ↓State.modSec_kept, ↓State.setFld_kept, ↓State.complete_kept, ↓State.updateKeys_kept, ↓kept_ite, ↓kept_foldl, kept_mk, kept_fold, ite_self]) <;> (repeat' (split <;> (try simp (disch := (first | (intros; rfl) | (intros; (try simp only [↓State.secEv_kept, ↓State.modSec_kept, ↓State.setFld_kept, ↓State.complete_kept, ↓State.updateKeys_kept, ↓kept_ite, ↓kept_foldl, kept_mk, kept_fold, ite_self]) <;> repeat' (split <;> (try rfl) <;> (try simp only [↓State.secEv_kept, ↓State.modSec_kept, ↓State.setFld_kept, ↓State.complete_kept, ↓State.updateKeys_kept, ↓kept_ite, ↓kept_foldl, kept_mk, kept_fold, ite_self]))))) only [↓State.secEv_kept, ↓State.modSec_kept, ↓State.setFld_kept, ↓State.complete_kept, ↓State.updateKeys_kept, ↓kept_ite, ↓kept_foldl, kept_mk, kept_fold, ite_self])))
theorem State.modHk_kept (s : State) (x1 : HkSt → HkSt) : (State.modHk s x1).kept = s.kept := by
  unfold State.modHk
  simp only [↓kept_ite, ↓kept_foldl, kept_mk, kept_fold, ite_self]
theorem State.hkBoundary_kept (s : State) : (State.hkBoundary s).kept = s.kept := by
  unfold State.hkBoundary
  simp only [↓State.setFld_kept, ↓State.modHk_kept, ↓kept_ite, ↓kept_foldl, kept_mk, kept_fold, ite_self]
theorem State.hkEv_kept (s : State) (x1 : Nat) (x2 : Nat) (x3 : Nat) (x4 : Nat) (x5 : Nat) (x6 : Nat) : (State.hkEv s x1 x2 x3 x4 x5 x6).kept = s.kept := by
  unfold State.hkEv
  simp only [↓State.raise_kept, ↓kept_ite, ↓kept_foldl, kept_mk, kept_fold, ite_self]
theorem State.hkLimits_kept (s : State) (x1 : Nat) (x2 : Nat) (x3 : Nat) (x4 : Nat) (x5 : Bool) : (State.hkLimits s x1 x2 x3 x4 x5).kept = s.kept := by
  unfold State.hkLimits
  simp only [↓State.hkEv_kept, ↓State.setFld_kept, ↓kept_ite, ↓kept_foldl, kept_mk, kept_fold, ite_self]
theorem State.hkStore_kept (s : State) (x1 : Nat) (x2 : Nat) (x3 : Int) (x4 : Int) : (State.hkStore s x1 x2 x3 x4).kept = s.kept := by
  unfold State.hkStore
  simp only [↓State.incWrap_kept, ↓State.hkLimits_kept, ↓State.setFld_kept, ↓State.modHk_kept, ↓kept_ite, ↓kept_foldl, kept_mk, kept_fold, ite_self]
theorem State.hkInstall_kept (s : State) (x1 : List Nat) (x2 : Nat) : (State.hkInstall s x1 x2).kept = s.kept := by
  unfold State.hkInstall
  (try simp (disch := (first | (intros; rfl) | (intros; (try simp only [↓State.setFld_kept, ↓State.complete_kept, ↓State.modHk_kept, ↓kept_ite, ↓kept_foldl, kept_mk, kept_fold, ite_self]) <;> repeat' (split <;> (try rfl) <;> (try simp only [↓State.setFld_kept, ↓State.complete_kept, ↓State.modHk_kept, ↓kept_ite, ↓kept_foldl, kept_mk, kept_fold, ite_self]))))) only [↓State.setFld_kept, ↓State.complete_kept, ↓State.modHk_kept, ↓kept_ite, ↓kept_foldl, kept_mk, kept_fold, ite_self]) <;> (repeat' (split <;> (try simp (disch := (first | (intros; rfl) | (intros; (try simp only [↓State.setFld_kept, ↓State.complete_kept, ↓State.modHk_kept, ↓kept_ite, ↓kept_foldl, kept_mk, kept_fold, ite_self]) <;> repeat' (split <;> (try rfl) <;> (try simp only [↓State.setFld_kept, ↓State.complete_kept, ↓State.modHk_kept, ↓kept_ite, ↓kept_foldl, kept_mk, kept_fold, ite_self]))))) only [↓State.setFld_kept, ↓State.complete_kept, ↓State.modHk_kept, ↓kept_ite, ↓kept_foldl, kept_mk, kept_fold, ite_self])))
theorem hkTableApply_kept (s : State) (x1 : Desc) (x2 : Nat) : (hkTableApply s x1 x2).kept = s.kept := by
  unfold hkTableApply
  (try simp only [↓State.complete_kept, ↓State.hkInstall_kept, ↓State.modHk_kept, ↓kept_ite, ↓kept_foldl, kept_mk, kept_fold, ite_self]) <;> (repeat' (split <;> (try simp only [↓State.complete_kept, ↓State.hkInstall_kept, ↓State.modHk_kept, ↓kept_ite, ↓kept_foldl, kept_mk, kept_fold, ite_self])))
theorem State.sliceMove_kept (s : State) (x1 : Nat) (x2 : Nat) (x3 : Nat) : (State.sliceMove s x1 x2 x3).kept = s.kept := by
  unfold State.sliceMove
  (try simp (disch := (first | (intros; rfl) | (intros; (try simp only [↓State.coresRestart_kept, ↓State.modSlice_kept, ↓State.zoomCut_kept, ↓State.cutRecords_kept, ↓State.cutDensity_kept, ↓State.trgUnknown_kept, ↓State.modTuner_kept, ↓kept_ite, ↓kept_foldl, kept_mk, kept_fold, ite_self]) <;> repeat' (split <;> (try rfl) <;> (try simp only [↓State.coresRestart_kept, ↓State.modSlice_kept, ↓State.zoomCut_kept, ↓State.cutRecords_kept, ↓State.cutDensity_kept, ↓State.trgUnknown_kept, ↓State.modTuner_kept, ↓kept_ite, ↓kept_foldl, kept_mk, kept_fold, ite_self]))))) only [↓State.coresRestart_kept, ↓State.modSlice_kept, ↓State.zoomCut_kept, ↓State.cutRecords_kept, ↓State.cutDensity_kept, ↓State.trgUnknown_kept, ↓State.modTuner_kept, ↓kept_ite, ↓kept_foldl, kept_mk, kept_fold, ite_self]) <;> (repeat' (split <;> (try simp (disch := (first | (intros; rfl) | (intros; (try simp only [↓State.coresRestart_kept, ↓State.modSlice_kept, ↓State.zoomCut_kept, ↓State.cutRecords_kept, ↓State.cutDensity_kept, ↓State.trgUnknown_kept, ↓State.modTuner_kept, ↓kept_ite, ↓kept_foldl, kept_mk, kept_fold, ite_self]) <;> repeat' (split <;> (try rfl) <;> (try simp only [↓State.coresRestart_kept, ↓State.modSlice_kept, ↓State.zoomCut_kept, ↓State.cutRecords_kept, ↓State.cutDensity_kept, ↓State.trgUnknown_kept, ↓State.modTuner_kept, ↓kept_ite, ↓kept_foldl, kept_mk, kept_fold, ite_self]))))) only [↓State.coresRestart_kept, ↓State.modSlice_kept, ↓State.zoomCut_kept, ↓State.cutRecords_kept, ↓State.cutDensity_kept, ↓State.trgUnknown_kept, ↓State.modTuner_kept, ↓kept_ite, ↓kept_foldl, kept_mk, kept_fold, ite_self])))
theorem State.ownEight_kept (s : State) (x1 : Bool) : (State.ownEight s x1).kept = s.kept := by
  unfold State.ownEight
  simp only [↓State.modSlice_kept, ↓kept_ite, ↓kept_foldl, kept_mk, kept_fold, ite_self]
theorem State.endRot_kept (s : State) : (State.endRot s).kept = s.kept := by
  unfold State.endRot
  simp only [↓State.setFld_kept, ↓kept_ite, ↓kept_foldl, kept_mk, kept_fold, ite_self]
theorem State.nextHandBack_kept (s : State) : (State.nextHandBack s).kept = s.kept := by
  unfold State.nextHandBack
  (try simp only [↓State.setFld_kept, ↓kept_ite, ↓kept_foldl, kept_mk, kept_fold, ite_self]) <;> (repeat' (split <;> (try simp only [↓State.setFld_kept, ↓kept_ite, ↓kept_foldl, kept_mk, kept_fold, ite_self])))
theorem State.coverSlice_kept (s : State) : (State.coverSlice s).kept = s.kept := by
  unfold State.coverSlice
  (try simp only [↓State.sliceMove_kept, ↓State.lateTakeover_kept, ↓State.ownEight_kept, ↓kept_ite, ↓kept_foldl, kept_mk, kept_fold, ite_self]) <;> (repeat' (split <;> (try simp only [↓State.sliceMove_kept, ↓State.lateTakeover_kept, ↓State.ownEight_kept, ↓kept_ite, ↓kept_foldl, kept_mk, kept_fold, ite_self])))
theorem State.takeSlice_kept (s : State) (x1 : Nat) (x2 : Nat) (x3 : Nat) (x4 : Nat) : (State.takeSlice s x1 x2 x3 x4).kept = s.kept := by
  unfold State.takeSlice
  simp only [↓State.sliceMove_kept, ↓State.fault_kept, ↓State.modSlice_kept, ↓State.abortBist_kept, ↓State.cutRecords_kept, ↓State.ownEight_kept, ↓kept_ite, ↓kept_foldl, kept_mk, kept_fold, ite_self]
theorem State.startBist_kept (s : State) (x1 : BistRun) : (State.startBist s x1).kept = s.kept := by
  unfold State.startBist
  simp only [↓State.setFld_kept, ↓kept_ite, ↓kept_foldl, kept_mk, kept_fold, ite_self]
theorem bistApply_kept (s : State) (x1 : Desc) (x2 : Nat) : (bistApply s x1 x2).kept = s.kept := by
  unfold bistApply
  simp only [↓State.startBist_kept, ↓kept_ite, ↓kept_foldl, kept_mk, kept_fold, ite_self]
theorem State.unitReturn_kept (s : State) (x1 : Nat) (x2 : Nat) : (State.unitReturn s x1 x2).kept = s.kept := by
  unfold State.unitReturn
  (try simp only [↓State.sliceMove_kept, ↓State.coverSlice_kept, ↓State.nextHandBack_kept, ↓State.setFld_kept, ↓State.handBack_kept, ↓State.freeSpare_kept, ↓State.xcorReturn_kept, ↓State.coverFailed_kept, ↓State.modXcor_kept, ↓State.modHk_kept, ↓State.ownEight_kept, ↓State.setPc_kept, ↓kept_ite, ↓kept_foldl, kept_mk, kept_fold, ite_self]) <;> (repeat' (split <;> (try simp only [↓State.sliceMove_kept, ↓State.coverSlice_kept, ↓State.nextHandBack_kept, ↓State.setFld_kept, ↓State.handBack_kept, ↓State.freeSpare_kept, ↓State.xcorReturn_kept, ↓State.coverFailed_kept, ↓State.modXcor_kept, ↓State.modHk_kept, ↓State.ownEight_kept, ↓State.setPc_kept, ↓kept_ite, ↓kept_foldl, kept_mk, kept_fold, ite_self])))
theorem State.bistFailed_kept (s : State) (x1 : BistRun) : (State.bistFailed s x1).kept = s.kept := by
  unfold State.bistFailed
  (try simp only [↓State.fault_kept, ↓State.setFld_kept, ↓State.xcorReturn_kept, ↓State.modXcor_kept, ↓State.setPc_kept, ↓kept_ite, ↓kept_foldl, kept_mk, kept_fold, ite_self]) <;> (repeat' (split <;> (try simp only [↓State.fault_kept, ↓State.setFld_kept, ↓State.xcorReturn_kept, ↓State.modXcor_kept, ↓State.setPc_kept, ↓kept_ite, ↓kept_foldl, kept_mk, kept_fold, ite_self])))
theorem State.bistWiped_kept (s : State) (x1 : BistRun) : (State.bistWiped s x1).kept = s.kept := by
  unfold State.bistWiped
  (try simp (disch := (first | (intros; rfl) | (intros; (try simp only [↓State.modCore_kept, ↓State.setFld_kept, ↓State.setPc_kept, ↓kept_ite, ↓kept_foldl, kept_mk, kept_fold, ite_self]) <;> repeat' (split <;> (try rfl) <;> (try simp only [↓State.modCore_kept, ↓State.setFld_kept, ↓State.setPc_kept, ↓kept_ite, ↓kept_foldl, kept_mk, kept_fold, ite_self]))))) only [↓State.modCore_kept, ↓State.setFld_kept, ↓State.setPc_kept, ↓kept_ite, ↓kept_foldl, kept_mk, kept_fold, ite_self]) <;> (repeat' (split <;> (try simp (disch := (first | (intros; rfl) | (intros; (try simp only [↓State.modCore_kept, ↓State.setFld_kept, ↓State.setPc_kept, ↓kept_ite, ↓kept_foldl, kept_mk, kept_fold, ite_self]) <;> repeat' (split <;> (try rfl) <;> (try simp only [↓State.modCore_kept, ↓State.setFld_kept, ↓State.setPc_kept, ↓kept_ite, ↓kept_foldl, kept_mk, kept_fold, ite_self]))))) only [↓State.modCore_kept, ↓State.setFld_kept, ↓State.setPc_kept, ↓kept_ite, ↓kept_foldl, kept_mk, kept_fold, ite_self])))
theorem State.rotTested_kept (s : State) (x1 : RotSt) (x2 : Bool) : (State.rotTested s x1 x2).kept = s.kept := by
  unfold State.rotTested
  simp only [↓State.fault_kept, ↓State.nextHandBack_kept, ↓State.setFld_kept, ↓State.endRot_kept, ↓kept_ite, ↓kept_foldl, kept_mk, kept_fold, ite_self]
theorem State.rotSettle_kept (s : State) : (State.rotSettle s).kept = s.kept := by
  unfold State.rotSettle
  (try simp only [↓State.coverSlice_kept, ↓State.coresRestart_kept, ↓State.nextHandBack_kept, ↓State.setFld_kept, ↓State.modSlice_kept, ↓State.endRot_kept, ↓State.ownEight_kept, ↓kept_ite, ↓kept_foldl, kept_mk, kept_fold, ite_self]) <;> (repeat' (split <;> (try simp only [↓State.coverSlice_kept, ↓State.coresRestart_kept, ↓State.nextHandBack_kept, ↓State.setFld_kept, ↓State.modSlice_kept, ↓State.endRot_kept, ↓State.ownEight_kept, ↓kept_ite, ↓kept_foldl, kept_mk, kept_fold, ite_self])))
theorem ackApply_kept (s : State) (x1 : Desc) (x2 : Nat) : (ackApply s x1 x2).kept = s.kept := by
  unfold ackApply
  simp only [↓State.complete_kept, ↓State.modFlt_kept, ↓kept_ite, ↓kept_foldl, kept_mk, kept_fold, ite_self]
theorem returnApply_kept (s : State) (x1 : Desc) (x2 : Nat) : (returnApply s x1 x2).kept = s.kept := by
  unfold returnApply
  (try simp only [↓State.modClk_kept, ↓State.setFld_kept, ↓State.complete_kept, ↓State.startBist_kept, ↓kept_ite, ↓kept_foldl, kept_mk, kept_fold, ite_self]) <;> (repeat' (split <;> (try simp only [↓State.modClk_kept, ↓State.setFld_kept, ↓State.complete_kept, ↓State.startBist_kept, ↓kept_ite, ↓kept_foldl, kept_mk, kept_fold, ite_self])))
theorem State.taking_kept (s : State) (x1 : RegFile) (x2 : List (Nat × Nat)) : (State.taking s x1 x2).kept = s.kept := by
  unfold State.taking
  (try simp (disch := (first | (intros; rfl) | (intros; (try simp only [↓State.apply_kept, ↓State.setFld_kept, ↓kept_ite, ↓kept_foldl, kept_mk, kept_fold, ite_self]) <;> repeat' (split <;> (try rfl) <;> (try simp only [↓State.apply_kept, ↓State.setFld_kept, ↓kept_ite, ↓kept_foldl, kept_mk, kept_fold, ite_self]))))) only [↓State.apply_kept, ↓State.setFld_kept, ↓kept_ite, ↓kept_foldl, kept_mk, kept_fold, ite_self]) <;> (repeat' (split <;> (try simp (disch := (first | (intros; rfl) | (intros; (try simp only [↓State.apply_kept, ↓State.setFld_kept, ↓kept_ite, ↓kept_foldl, kept_mk, kept_fold, ite_self]) <;> repeat' (split <;> (try rfl) <;> (try simp only [↓State.apply_kept, ↓State.setFld_kept, ↓kept_ite, ↓kept_foldl, kept_mk, kept_fold, ite_self]))))) only [↓State.apply_kept, ↓State.setFld_kept, ↓kept_ite, ↓kept_foldl, kept_mk, kept_fold, ite_self])))
theorem State.settled_kept (s : State) : (State.settled s).kept = s.kept := by
  unfold State.settled
  (try simp (disch := (first | (intros; rfl) | (intros; (try simp only [↓State.taking_kept, ↓kept_ite, ↓kept_foldl, kept_mk, kept_fold, ite_self]) <;> repeat' (split <;> (try rfl) <;> (try simp only [↓State.taking_kept, ↓kept_ite, ↓kept_foldl, kept_mk, kept_fold, ite_self]))))) only [↓State.taking_kept, ↓kept_ite, ↓kept_foldl, kept_mk, kept_fold, ite_self]) <;> (repeat' (split <;> (try simp (disch := (first | (intros; rfl) | (intros; (try simp only [↓State.taking_kept, ↓kept_ite, ↓kept_foldl, kept_mk, kept_fold, ite_self]) <;> repeat' (split <;> (try rfl) <;> (try simp only [↓State.taking_kept, ↓kept_ite, ↓kept_foldl, kept_mk, kept_fold, ite_self]))))) only [↓State.taking_kept, ↓kept_ite, ↓kept_foldl, kept_mk, kept_fold, ite_self])))
theorem State.cmAfter_kept (s : State) (x1 : Desc) : (State.cmAfter s x1).kept = s.kept := by
  unfold State.cmAfter
  simp only [↓State.taking_kept, ↓State.settled_kept, ↓kept_ite, ↓kept_foldl, kept_mk, kept_fold, ite_self]
theorem State.sliceCommit_kept (s : State) (x1 : Desc) (x2 : RegFile) (x3 : Nat) (x4 : Nat) (x5 : Nat) : (State.sliceCommit s x1 x2 x3 x4 x5).kept = s.kept := by
  unfold State.sliceCommit
  (try simp (disch := (first | (intros; rfl) | (intros; (try simp only [↓State.taking_kept, ↓State.settled_kept, ↓State.setFld_kept, ↓State.modSlice_kept, ↓State.modTuner_kept, ↓kept_ite, ↓kept_foldl, kept_mk, kept_fold, ite_self]) <;> repeat' (split <;> (try rfl) <;> (try simp only [↓State.taking_kept, ↓State.settled_kept, ↓State.setFld_kept, ↓State.modSlice_kept, ↓State.modTuner_kept, ↓kept_ite, ↓kept_foldl, kept_mk, kept_fold, ite_self]))))) only [↓State.taking_kept, ↓State.settled_kept, ↓State.setFld_kept, ↓State.modSlice_kept, ↓State.modTuner_kept, ↓kept_ite, ↓kept_foldl, kept_mk, kept_fold, ite_self]) <;> (repeat' (split <;> (try simp (disch := (first | (intros; rfl) | (intros; (try simp only [↓State.taking_kept, ↓State.settled_kept, ↓State.setFld_kept, ↓State.modSlice_kept, ↓State.modTuner_kept, ↓kept_ite, ↓kept_foldl, kept_mk, kept_fold, ite_self]) <;> repeat' (split <;> (try rfl) <;> (try simp only [↓State.taking_kept, ↓State.settled_kept, ↓State.setFld_kept, ↓State.modSlice_kept, ↓State.modTuner_kept, ↓kept_ite, ↓kept_foldl, kept_mk, kept_fold, ite_self]))))) only [↓State.taking_kept, ↓State.settled_kept, ↓State.setFld_kept, ↓State.modSlice_kept, ↓State.modTuner_kept, ↓kept_ite, ↓kept_foldl, kept_mk, kept_fold, ite_self])))
theorem State.tunerCommit_kept (s : State) (x1 : Desc) (x2 : RegFile) (x3 : Nat) (x4 : Nat) (x5 : Nat) : (State.tunerCommit s x1 x2 x3 x4 x5).kept = s.kept := by
  unfold State.tunerCommit
  (try simp (disch := (first | (intros; rfl) | (intros; (try simp only [↓State.modTuner_kept, ↓kept_ite, ↓kept_foldl, kept_mk, kept_fold, ite_self]) <;> repeat' (split <;> (try rfl) <;> (try simp only [↓State.modTuner_kept, ↓kept_ite, ↓kept_foldl, kept_mk, kept_fold, ite_self]))))) only [↓State.modTuner_kept, ↓kept_ite, ↓kept_foldl, kept_mk, kept_fold, ite_self]) <;> (repeat' (split <;> (try simp (disch := (first | (intros; rfl) | (intros; (try simp only [↓State.modTuner_kept, ↓kept_ite, ↓kept_foldl, kept_mk, kept_fold, ite_self]) <;> repeat' (split <;> (try rfl) <;> (try simp only [↓State.modTuner_kept, ↓kept_ite, ↓kept_foldl, kept_mk, kept_fold, ite_self]))))) only [↓State.modTuner_kept, ↓kept_ite, ↓kept_foldl, kept_mk, kept_fold, ite_self])))
theorem State.commitSlices_kept (s : State) (x1 : Desc) (x2 : RegFile) (x3 : Nat) : (State.commitSlices s x1 x2 x3).kept = s.kept := by
  unfold State.commitSlices
  (try simp (disch := (first | (intros; rfl) | (intros; (try simp only [↓State.sliceCommit_kept, ↓State.tunerCommit_kept, ↓State.modZoom_kept, ↓State.setExtent_kept, ↓kept_ite, ↓kept_foldl, kept_mk, kept_fold, ite_self]) <;> repeat' (split <;> (try rfl) <;> (try simp only [↓State.sliceCommit_kept, ↓State.tunerCommit_kept, ↓State.modZoom_kept, ↓State.setExtent_kept, ↓kept_ite, ↓kept_foldl, kept_mk, kept_fold, ite_self]))))) only [↓State.sliceCommit_kept, ↓State.tunerCommit_kept, ↓State.modZoom_kept, ↓State.setExtent_kept, ↓kept_ite, ↓kept_foldl, kept_mk, kept_fold, ite_self]) <;> (repeat' (split <;> (try simp (disch := (first | (intros; rfl) | (intros; (try simp only [↓State.sliceCommit_kept, ↓State.tunerCommit_kept, ↓State.modZoom_kept, ↓State.setExtent_kept, ↓kept_ite, ↓kept_foldl, kept_mk, kept_fold, ite_self]) <;> repeat' (split <;> (try rfl) <;> (try simp only [↓State.sliceCommit_kept, ↓State.tunerCommit_kept, ↓State.modZoom_kept, ↓State.setExtent_kept, ↓kept_ite, ↓kept_foldl, kept_mk, kept_fold, ite_self]))))) only [↓State.sliceCommit_kept, ↓State.tunerCommit_kept, ↓State.modZoom_kept, ↓State.setExtent_kept, ↓kept_ite, ↓kept_foldl, kept_mk, kept_fold, ite_self])))
theorem State.commitClock_kept (s : State) (x1 : Desc) (x2 : RegFile) (x3 : Nat) : (State.commitClock s x1 x2 x3).kept = s.kept := by
  unfold State.commitClock
  simp only [↓State.setTrim_kept, ↓State.modClk_kept, ↓State.setFld_kept, ↓State.complete_kept, ↓kept_ite, ↓kept_foldl, kept_mk, kept_fold, ite_self]
theorem State.commitAttens_kept (s : State) (x1 : Desc) (x2 : RegFile) (x3 : Nat) : (State.commitAttens s x1 x2 x3).kept = s.kept := by
  unfold State.commitAttens
  simp only [↓kept_ite, ↓kept_foldl, kept_mk, kept_fold, ite_self]
theorem commitApply_kept (s : State) (x1 : Desc) (x2 : RegFile) (x3 : Nat) : (commitApply s x1 x2 x3).kept = s.kept := by
  unfold commitApply
  (try simp (disch := (first | (intros; rfl) | (intros; (try simp only [↓State.commitClock_kept, ↓xcorApply_kept, ↓State.vidApply_kept, ↓State.complete_kept, ↓State.commitSlices_kept, ↓State.commitAttens_kept, ↓State.modVid_kept, ↓kept_ite, ↓kept_foldl, kept_mk, kept_fold, ite_self]) <;> repeat' (split <;> (try rfl) <;> (try simp only [↓State.commitClock_kept, ↓xcorApply_kept, ↓State.vidApply_kept, ↓State.complete_kept, ↓State.commitSlices_kept, ↓State.commitAttens_kept, ↓State.modVid_kept, ↓kept_ite, ↓kept_foldl, kept_mk, kept_fold, ite_self]))))) only [↓State.commitClock_kept, ↓xcorApply_kept, ↓State.vidApply_kept, ↓State.complete_kept, ↓State.commitSlices_kept, ↓State.commitAttens_kept, ↓State.modVid_kept, ↓kept_ite, ↓kept_foldl, kept_mk, kept_fold, ite_self]) <;> (repeat' (split <;> (try simp (disch := (first | (intros; rfl) | (intros; (try simp only [↓State.commitClock_kept, ↓xcorApply_kept, ↓State.vidApply_kept, ↓State.complete_kept, ↓State.commitSlices_kept, ↓State.commitAttens_kept, ↓State.modVid_kept, ↓kept_ite, ↓kept_foldl, kept_mk, kept_fold, ite_self]) <;> repeat' (split <;> (try rfl) <;> (try simp only [↓State.commitClock_kept, ↓xcorApply_kept, ↓State.vidApply_kept, ↓State.complete_kept, ↓State.commitSlices_kept, ↓State.commitAttens_kept, ↓State.modVid_kept, ↓kept_ite, ↓kept_foldl, kept_mk, kept_fold, ite_self]))))) only [↓State.commitClock_kept, ↓xcorApply_kept, ↓State.vidApply_kept, ↓State.complete_kept, ↓State.commitSlices_kept, ↓State.commitAttens_kept, ↓State.modVid_kept, ↓kept_ite, ↓kept_foldl, kept_mk, kept_fold, ite_self])))
theorem State.settleTrims_kept (s : State) : (State.settleTrims s).kept = s.kept := by
  unfold State.settleTrims
  (try simp (disch := (first | (intros; rfl) | (intros; (try simp only [↓State.setTrim_kept, ↓State.modClk_kept, ↓State.complete_kept, ↓kept_ite, ↓kept_foldl, kept_mk, kept_fold, ite_self]) <;> repeat' (split <;> (try rfl) <;> (try simp only [↓State.setTrim_kept, ↓State.modClk_kept, ↓State.complete_kept, ↓kept_ite, ↓kept_foldl, kept_mk, kept_fold, ite_self]))))) only [↓State.setTrim_kept, ↓State.modClk_kept, ↓State.complete_kept, ↓kept_ite, ↓kept_foldl, kept_mk, kept_fold, ite_self]) <;> (repeat' (split <;> (try simp (disch := (first | (intros; rfl) | (intros; (try simp only [↓State.setTrim_kept, ↓State.modClk_kept, ↓State.complete_kept, ↓kept_ite, ↓kept_foldl, kept_mk, kept_fold, ite_self]) <;> repeat' (split <;> (try rfl) <;> (try simp only [↓State.setTrim_kept, ↓State.modClk_kept, ↓State.complete_kept, ↓kept_ite, ↓kept_foldl, kept_mk, kept_fold, ite_self]))))) only [↓State.setTrim_kept, ↓State.modClk_kept, ↓State.complete_kept, ↓kept_ite, ↓kept_foldl, kept_mk, kept_fold, ite_self])))
theorem State.settleVid_kept (s : State) : (State.settleVid s).kept = s.kept := by
  unfold State.settleVid
  (try simp (disch := (first | (intros; rfl) | (intros; (try simp only [↓State.vidApply_kept, ↓State.complete_kept, ↓kept_ite, ↓kept_foldl, kept_mk, kept_fold, ite_self]) <;> repeat' (split <;> (try rfl) <;> (try simp only [↓State.vidApply_kept, ↓State.complete_kept, ↓kept_ite, ↓kept_foldl, kept_mk, kept_fold, ite_self]))))) only [↓State.vidApply_kept, ↓State.complete_kept, ↓kept_ite, ↓kept_foldl, kept_mk, kept_fold, ite_self]) <;> (repeat' (split <;> (try simp (disch := (first | (intros; rfl) | (intros; (try simp only [↓State.vidApply_kept, ↓State.complete_kept, ↓kept_ite, ↓kept_foldl, kept_mk, kept_fold, ite_self]) <;> repeat' (split <;> (try rfl) <;> (try simp only [↓State.vidApply_kept, ↓State.complete_kept, ↓kept_ite, ↓kept_foldl, kept_mk, kept_fold, ite_self]))))) only [↓State.vidApply_kept, ↓State.complete_kept, ↓kept_ite, ↓kept_foldl, kept_mk, kept_fold, ite_self])))
theorem State.landAll_kept (s : State) (x1 : Nat) : (State.landAll s x1).kept = s.kept := by
  unfold State.landAll
  (try simp (disch := (first | (intros; rfl) | (intros; (try simp only [↓State.settleCommit_kept, ↓State.landAttens_kept, ↓kept_ite, ↓kept_foldl, kept_mk, kept_fold, ite_self]) <;> repeat' (split <;> (try rfl) <;> (try simp only [↓State.settleCommit_kept, ↓State.landAttens_kept, ↓kept_ite, ↓kept_foldl, kept_mk, kept_fold, ite_self]))))) only [↓State.settleCommit_kept, ↓State.landAttens_kept, ↓kept_ite, ↓kept_foldl, kept_mk, kept_fold, ite_self]) <;> (repeat' (split <;> (try simp (disch := (first | (intros; rfl) | (intros; (try simp only [↓State.settleCommit_kept, ↓State.landAttens_kept, ↓kept_ite, ↓kept_foldl, kept_mk, kept_fold, ite_self]) <;> repeat' (split <;> (try rfl) <;> (try simp only [↓State.settleCommit_kept, ↓State.landAttens_kept, ↓kept_ite, ↓kept_foldl, kept_mk, kept_fold, ite_self]))))) only [↓State.settleCommit_kept, ↓State.landAttens_kept, ↓kept_ite, ↓kept_foldl, kept_mk, kept_fold, ite_self])))
theorem State.sliceBeat_kept (s : State) (x1 : Nat) (x2 : SBeat) : (State.sliceBeat s x1 x2).kept = s.kept := by
  unfold State.sliceBeat
  (try simp (disch := (first | (intros; rfl) | (intros; (try simp only [↓State.modSlice_kept, ↓State.modTuner_kept, ↓kept_ite, ↓kept_foldl, kept_mk, kept_fold, ite_self]) <;> repeat' (split <;> (try rfl) <;> (try simp only [↓State.modSlice_kept, ↓State.modTuner_kept, ↓kept_ite, ↓kept_foldl, kept_mk, kept_fold, ite_self]))))) only [↓State.modSlice_kept, ↓State.modTuner_kept, ↓kept_ite, ↓kept_foldl, kept_mk, kept_fold, ite_self]) <;> (repeat' (split <;> (try simp (disch := (first | (intros; rfl) | (intros; (try simp only [↓State.modSlice_kept, ↓State.modTuner_kept, ↓kept_ite, ↓kept_foldl, kept_mk, kept_fold, ite_self]) <;> repeat' (split <;> (try rfl) <;> (try simp only [↓State.modSlice_kept, ↓State.modTuner_kept, ↓kept_ite, ↓kept_foldl, kept_mk, kept_fold, ite_self]))))) only [↓State.modSlice_kept, ↓State.modTuner_kept, ↓kept_ite, ↓kept_foldl, kept_mk, kept_fold, ite_self])))
theorem State.updateService_kept (s : State) : (State.updateService s).kept = s.kept := by
  unfold State.updateService
  simp only [↓State.setFld_kept, ↓kept_ite, ↓kept_foldl, kept_mk, kept_fold, ite_self]
theorem State.boundary_kept (s : State) : (State.boundary s).kept = s.kept := by
  unfold State.boundary
  (try simp (disch := (first | (intros; rfl) | (intros; (try simp only [↓State.updateService_kept, ↓State.rotSettle_kept, ↓State.trgSettle_kept, ↓State.settleVid_kept, ↓State.zoomSettle_kept, ↓State.completeFreezes_kept, ↓State.settleTrims_kept, ↓kept_ite, ↓kept_foldl, kept_mk, kept_fold, ite_self]) <;> repeat' (split <;> (try rfl) <;> (try simp only [↓State.updateService_kept, ↓State.rotSettle_kept, ↓State.trgSettle_kept, ↓State.settleVid_kept, ↓State.zoomSettle_kept, ↓State.completeFreezes_kept, ↓State.settleTrims_kept, ↓kept_ite, ↓kept_foldl, kept_mk, kept_fold, ite_self]))))) only [↓State.updateService_kept, ↓State.rotSettle_kept, ↓State.trgSettle_kept, ↓State.settleVid_kept, ↓State.zoomSettle_kept, ↓State.completeFreezes_kept, ↓State.settleTrims_kept, ↓kept_ite, ↓kept_foldl, kept_mk, kept_fold, ite_self]) <;> (repeat' (split <;> (try simp (disch := (first | (intros; rfl) | (intros; (try simp only [↓State.updateService_kept, ↓State.rotSettle_kept, ↓State.trgSettle_kept, ↓State.settleVid_kept, ↓State.zoomSettle_kept, ↓State.completeFreezes_kept, ↓State.settleTrims_kept, ↓kept_ite, ↓kept_foldl, kept_mk, kept_fold, ite_self]) <;> repeat' (split <;> (try rfl) <;> (try simp only [↓State.updateService_kept, ↓State.rotSettle_kept, ↓State.trgSettle_kept, ↓State.settleVid_kept, ↓State.zoomSettle_kept, ↓State.completeFreezes_kept, ↓State.settleTrims_kept, ↓kept_ite, ↓kept_foldl, kept_mk, kept_fold, ite_self]))))) only [↓State.updateService_kept, ↓State.rotSettle_kept, ↓State.trgSettle_kept, ↓State.settleVid_kept, ↓State.zoomSettle_kept, ↓State.completeFreezes_kept, ↓State.settleTrims_kept, ↓kept_ite, ↓kept_foldl, kept_mk, kept_fold, ite_self])))
theorem State.track_kept (s : State) (x1 : Nat) (x2 : Beat) : (State.track s x1 x2).kept = s.kept := by
  unfold State.track
  simp only [↓kept_ite, ↓kept_foldl, kept_mk, kept_fold, ite_self]
theorem State.deliver_kept (s : State) (x1 : Nat) (x2 : List Int) (x3 : Bool) (x4 : Bool) : (State.deliver s x1 x2 x3 x4).kept = s.kept := by
  unfold State.deliver
  (try simp (disch := (first | (intros; rfl) | (intros; (try simp only [↓State.ringWrite_kept, ↓State.slotBeat_kept, ↓State.modStreams_kept, ↓State.landAll_kept, ↓State.track_kept, ↓State.sliceBeat_kept, ↓kept_ite, ↓kept_foldl, kept_mk, kept_fold, ite_self]) <;> repeat' (split <;> (try rfl) <;> (try simp only [↓State.ringWrite_kept, ↓State.slotBeat_kept, ↓State.modStreams_kept, ↓State.landAll_kept, ↓State.track_kept, ↓State.sliceBeat_kept, ↓kept_ite, ↓kept_foldl, kept_mk, kept_fold, ite_self]))))) only [↓State.ringWrite_kept, ↓State.slotBeat_kept, ↓State.modStreams_kept, ↓State.landAll_kept, ↓State.track_kept, ↓State.sliceBeat_kept, ↓kept_ite, ↓kept_foldl, kept_mk, kept_fold, ite_self]) <;> (repeat' (split <;> (try simp (disch := (first | (intros; rfl) | (intros; (try simp only [↓State.ringWrite_kept, ↓State.slotBeat_kept, ↓State.modStreams_kept, ↓State.landAll_kept, ↓State.track_kept, ↓State.sliceBeat_kept, ↓kept_ite, ↓kept_foldl, kept_mk, kept_fold, ite_self]) <;> repeat' (split <;> (try rfl) <;> (try simp only [↓State.ringWrite_kept, ↓State.slotBeat_kept, ↓State.modStreams_kept, ↓State.landAll_kept, ↓State.track_kept, ↓State.sliceBeat_kept, ↓kept_ite, ↓kept_foldl, kept_mk, kept_fold, ite_self]))))) only [↓State.ringWrite_kept, ↓State.slotBeat_kept, ↓State.modStreams_kept, ↓State.landAll_kept, ↓State.track_kept, ↓State.sliceBeat_kept, ↓kept_ite, ↓kept_foldl, kept_mk, kept_fold, ite_self])))
theorem State.changed_kept (s : State) (x1 : Nat) (x2 : List SpxChange) : (State.changed s x1 x2).kept = s.kept := by
  unfold State.changed
  (try simp (disch := (first | (intros; rfl) | (intros; (try simp only [↓State.taking_kept, ↓kept_ite, ↓kept_foldl, kept_mk, kept_fold, ite_self]) <;> repeat' (split <;> (try rfl) <;> (try simp only [↓State.taking_kept, ↓kept_ite, ↓kept_foldl, kept_mk, kept_fold, ite_self]))))) only [↓State.taking_kept, ↓kept_ite, ↓kept_foldl, kept_mk, kept_fold, ite_self]) <;> (repeat' (split <;> (try simp (disch := (first | (intros; rfl) | (intros; (try simp only [↓State.taking_kept, ↓kept_ite, ↓kept_foldl, kept_mk, kept_fold, ite_self]) <;> repeat' (split <;> (try rfl) <;> (try simp only [↓State.taking_kept, ↓kept_ite, ↓kept_foldl, kept_mk, kept_fold, ite_self]))))) only [↓State.taking_kept, ↓kept_ite, ↓kept_foldl, kept_mk, kept_fold, ite_self])))
theorem State.trgApply_kept (s : State) (x1 : Nat) (x2 : Nat) : (State.trgApply s x1 x2).kept = s.kept := by
  unfold State.trgApply
  simp only [↓State.setFld_kept, ↓State.trgUnknown_kept, ↓kept_ite, ↓kept_foldl, kept_mk, kept_fold, ite_self]
theorem State.histApply_kept (s : State) (x1 : State) (x2 : Nat) : (State.histApply s x1 x2).kept = s.kept := by
  unfold State.histApply
  simp only [↓State.setFld_kept, ↓State.modSlice_kept, ↓kept_ite, ↓kept_foldl, kept_mk, kept_fold, ite_self]
theorem State.sliceStat_kept (s : State) (x1 : Nat) : (State.sliceStat s x1).kept = s.kept := by
  unfold State.sliceStat
  simp only [↓State.setFld_kept, ↓kept_ite, ↓kept_foldl, kept_mk, kept_fold, ite_self]
theorem State.applyChange_kept (s : State) (x1 : Nat) (x2 : Nat) (x3 : List SpxChange) : (State.applyChange s x1 x2 x3).kept = s.kept := by
  unfold State.applyChange
  (try simp (disch := (first | (intros; rfl) | (intros; (try simp only [↓State.incWrap_kept, ↓State.histApply_kept, ↓State.changed_kept, ↓State.setFld_kept, ↓State.ddcStat_kept, ↓State.modSlice_kept, ↓State.sliceStat_kept, ↓State.modTrg_kept, ↓State.cutRecords_kept, ↓State.cutDensity_kept, ↓State.trgUnknown_kept, ↓State.spxPrepare_kept, ↓State.count_kept, ↓State.trgApply_kept, ↓State.modDen_kept, ↓kept_ite, ↓kept_foldl, kept_mk, kept_fold, ite_self]) <;> repeat' (split <;> (try rfl) <;> (try simp only [↓State.incWrap_kept, ↓State.histApply_kept, ↓State.changed_kept, ↓State.setFld_kept, ↓State.ddcStat_kept, ↓State.modSlice_kept, ↓State.sliceStat_kept, ↓State.modTrg_kept, ↓State.cutRecords_kept, ↓State.cutDensity_kept, ↓State.trgUnknown_kept, ↓State.spxPrepare_kept, ↓State.count_kept, ↓State.trgApply_kept, ↓State.modDen_kept, ↓kept_ite, ↓kept_foldl, kept_mk, kept_fold, ite_self]))))) only [↓State.incWrap_kept, ↓State.histApply_kept, ↓State.changed_kept, ↓State.setFld_kept, ↓State.ddcStat_kept, ↓State.modSlice_kept, ↓State.sliceStat_kept, ↓State.modTrg_kept, ↓State.cutRecords_kept, ↓State.cutDensity_kept, ↓State.trgUnknown_kept, ↓State.spxPrepare_kept, ↓State.count_kept, ↓State.trgApply_kept, ↓State.modDen_kept, ↓kept_ite, ↓kept_foldl, kept_mk, kept_fold, ite_self]) <;> (repeat' (split <;> (try simp (disch := (first | (intros; rfl) | (intros; (try simp only [↓State.incWrap_kept, ↓State.histApply_kept, ↓State.changed_kept, ↓State.setFld_kept, ↓State.ddcStat_kept, ↓State.modSlice_kept, ↓State.sliceStat_kept, ↓State.modTrg_kept, ↓State.cutRecords_kept, ↓State.cutDensity_kept, ↓State.trgUnknown_kept, ↓State.spxPrepare_kept, ↓State.count_kept, ↓State.trgApply_kept, ↓State.modDen_kept, ↓kept_ite, ↓kept_foldl, kept_mk, kept_fold, ite_self]) <;> repeat' (split <;> (try rfl) <;> (try simp only [↓State.incWrap_kept, ↓State.histApply_kept, ↓State.changed_kept, ↓State.setFld_kept, ↓State.ddcStat_kept, ↓State.modSlice_kept, ↓State.sliceStat_kept, ↓State.modTrg_kept, ↓State.cutRecords_kept, ↓State.cutDensity_kept, ↓State.trgUnknown_kept, ↓State.spxPrepare_kept, ↓State.count_kept, ↓State.trgApply_kept, ↓State.modDen_kept, ↓kept_ite, ↓kept_foldl, kept_mk, kept_fold, ite_self]))))) only [↓State.incWrap_kept, ↓State.histApply_kept, ↓State.changed_kept, ↓State.setFld_kept, ↓State.ddcStat_kept, ↓State.modSlice_kept, ↓State.sliceStat_kept, ↓State.modTrg_kept, ↓State.cutRecords_kept, ↓State.cutDensity_kept, ↓State.trgUnknown_kept, ↓State.spxPrepare_kept, ↓State.count_kept, ↓State.trgApply_kept, ↓State.modDen_kept, ↓kept_ite, ↓kept_foldl, kept_mk, kept_fold, ite_self])))
theorem State.cancelTimed_kept (s : State) (x1 : Nat) : (State.cancelTimed s x1).kept = s.kept := by
  unfold State.cancelTimed
  (try simp (disch := (first | (intros; rfl) | (intros; (try simp only [↓State.setFld_kept, ↓State.complete_kept, ↓kept_ite, ↓kept_foldl, kept_mk, kept_fold, ite_self]) <;> repeat' (split <;> (try rfl) <;> (try simp only [↓State.setFld_kept, ↓State.complete_kept, ↓kept_ite, ↓kept_foldl, kept_mk, kept_fold, ite_self]))))) only [↓State.setFld_kept, ↓State.complete_kept, ↓kept_ite, ↓kept_foldl, kept_mk, kept_fold, ite_self]) <;> (repeat' (split <;> (try simp (disch := (first | (intros; rfl) | (intros; (try simp only [↓State.setFld_kept, ↓State.complete_kept, ↓kept_ite, ↓kept_foldl, kept_mk, kept_fold, ite_self]) <;> repeat' (split <;> (try rfl) <;> (try simp only [↓State.setFld_kept, ↓State.complete_kept, ↓kept_ite, ↓kept_foldl, kept_mk, kept_fold, ite_self]))))) only [↓State.setFld_kept, ↓State.complete_kept, ↓kept_ite, ↓kept_foldl, kept_mk, kept_fold, ite_self])))
theorem State.sliceEpoch_kept (s : State) (x1 : Nat) : (State.sliceEpoch s x1).kept = s.kept := by
  unfold State.sliceEpoch
  (try simp (disch := (first | (intros; rfl) | (intros; (try simp only [↓State.setFld_kept, ↓State.modZoom_kept, ↓State.modSlice_kept, ↓State.cutRecords_kept, ↓State.cutDensity_kept, ↓State.modTuner_kept, ↓State.ddcRestart_kept, ↓kept_ite, ↓kept_foldl, kept_mk, kept_fold, ite_self]) <;> repeat' (split <;> (try rfl) <;> (try simp only [↓State.setFld_kept, ↓State.modZoom_kept, ↓State.modSlice_kept, ↓State.cutRecords_kept, ↓State.cutDensity_kept, ↓State.modTuner_kept, ↓State.ddcRestart_kept, ↓kept_ite, ↓kept_foldl, kept_mk, kept_fold, ite_self]))))) only [↓State.setFld_kept, ↓State.modZoom_kept, ↓State.modSlice_kept, ↓State.cutRecords_kept, ↓State.cutDensity_kept, ↓State.modTuner_kept, ↓State.ddcRestart_kept, ↓kept_ite, ↓kept_foldl, kept_mk, kept_fold, ite_self]) <;> (repeat' (split <;> (try simp (disch := (first | (intros; rfl) | (intros; (try simp only [↓State.setFld_kept, ↓State.modZoom_kept, ↓State.modSlice_kept, ↓State.cutRecords_kept, ↓State.cutDensity_kept, ↓State.modTuner_kept, ↓State.ddcRestart_kept, ↓kept_ite, ↓kept_foldl, kept_mk, kept_fold, ite_self]) <;> repeat' (split <;> (try rfl) <;> (try simp only [↓State.setFld_kept, ↓State.modZoom_kept, ↓State.modSlice_kept, ↓State.cutRecords_kept, ↓State.cutDensity_kept, ↓State.modTuner_kept, ↓State.ddcRestart_kept, ↓kept_ite, ↓kept_foldl, kept_mk, kept_fold, ite_self]))))) only [↓State.setFld_kept, ↓State.modZoom_kept, ↓State.modSlice_kept, ↓State.cutRecords_kept, ↓State.cutDensity_kept, ↓State.modTuner_kept, ↓State.ddcRestart_kept, ↓kept_ite, ↓kept_foldl, kept_mk, kept_fold, ite_self])))
theorem State.slotEpoch_kept (s : State) (x1 : Nat) : (State.slotEpoch s x1).kept = s.kept := by
  unfold State.slotEpoch
  simp only [↓State.setFld_kept, ↓State.modSlot_kept, ↓kept_ite, ↓kept_foldl, kept_mk, kept_fold, ite_self]
theorem State.timesEpoch_kept (s : State) : (State.timesEpoch s).kept = s.kept := by
  unfold State.timesEpoch
  simp only [↓kept_ite, ↓kept_foldl, kept_mk, kept_fold, ite_self]
theorem State.epochWords_kept (s : State) (x1 : Nat) (x2 : RegFile) (x3 : Bool) : (State.epochWords s x1 x2 x3).kept = s.kept := by
  unfold State.epochWords
  (try simp (disch := (first | (intros; rfl) | (intros; (try simp only [↓State.apply_kept, ↓State.cancelTimed_kept, ↓State.sliceEpoch_kept, ↓State.xcorEpoch_kept, ↓State.setFld_kept, ↓State.slotEpoch_kept, ↓State.dropGranules_kept, ↓State.endCover_kept, ↓State.timesEpoch_kept, ↓kept_ite, ↓kept_foldl, kept_mk, kept_fold, ite_self]) <;> repeat' (split <;> (try rfl) <;> (try simp only [↓State.apply_kept, ↓State.cancelTimed_kept, ↓State.sliceEpoch_kept, ↓State.xcorEpoch_kept, ↓State.setFld_kept, ↓State.slotEpoch_kept, ↓State.dropGranules_kept, ↓State.endCover_kept, ↓State.timesEpoch_kept, ↓kept_ite, ↓kept_foldl, kept_mk, kept_fold, ite_self]))))) only [↓State.apply_kept, ↓State.cancelTimed_kept, ↓State.sliceEpoch_kept, ↓State.xcorEpoch_kept, ↓State.setFld_kept, ↓State.slotEpoch_kept, ↓State.dropGranules_kept, ↓State.endCover_kept, ↓State.timesEpoch_kept, ↓kept_ite, ↓kept_foldl, kept_mk, kept_fold, ite_self]) <;> (repeat' (split <;> (try simp (disch := (first | (intros; rfl) | (intros; (try simp only [↓State.apply_kept, ↓State.cancelTimed_kept, ↓State.sliceEpoch_kept, ↓State.xcorEpoch_kept, ↓State.setFld_kept, ↓State.slotEpoch_kept, ↓State.dropGranules_kept, ↓State.endCover_kept, ↓State.timesEpoch_kept, ↓kept_ite, ↓kept_foldl, kept_mk, kept_fold, ite_self]) <;> repeat' (split <;> (try rfl) <;> (try simp only [↓State.apply_kept, ↓State.cancelTimed_kept, ↓State.sliceEpoch_kept, ↓State.xcorEpoch_kept, ↓State.setFld_kept, ↓State.slotEpoch_kept, ↓State.dropGranules_kept, ↓State.endCover_kept, ↓State.timesEpoch_kept, ↓kept_ite, ↓kept_foldl, kept_mk, kept_fold, ite_self]))))) only [↓State.apply_kept, ↓State.cancelTimed_kept, ↓State.sliceEpoch_kept, ↓State.xcorEpoch_kept, ↓State.setFld_kept, ↓State.slotEpoch_kept, ↓State.dropGranules_kept, ↓State.endCover_kept, ↓State.timesEpoch_kept, ↓kept_ite, ↓kept_foldl, kept_mk, kept_fold, ite_self])))
theorem State.epochRelock_kept (s : State) : (State.epochRelock s).kept = s.kept := by
  unfold State.epochRelock
  simp only [↓State.modClk_kept, ↓State.setFld_kept, ↓State.gateDp_kept, ↓State.synRelock_kept, ↓kept_ite, ↓kept_foldl, kept_mk, kept_fold, ite_self]
theorem State.epochCal_kept (s : State) : (State.epochCal s).kept = s.kept := by
  unfold State.epochCal
  (try simp (disch := (first | (intros; rfl) | (intros; (try simp only [↓State.modDue_kept, ↓kept_ite, ↓kept_foldl, kept_mk, kept_fold, ite_self]) <;> repeat' (split <;> (try rfl) <;> (try simp only [↓State.modDue_kept, ↓kept_ite, ↓kept_foldl, kept_mk, kept_fold, ite_self]))))) only [↓State.modDue_kept, ↓kept_ite, ↓kept_foldl, kept_mk, kept_fold, ite_self]) <;> (repeat' (split <;> (try simp (disch := (first | (intros; rfl) | (intros; (try simp only [↓State.modDue_kept, ↓kept_ite, ↓kept_foldl, kept_mk, kept_fold, ite_self]) <;> repeat' (split <;> (try rfl) <;> (try simp only [↓State.modDue_kept, ↓kept_ite, ↓kept_foldl, kept_mk, kept_fold, ite_self]))))) only [↓State.modDue_kept, ↓kept_ite, ↓kept_foldl, kept_mk, kept_fold, ite_self])))
theorem State.epochTime_kept (s : State) (x1 : Bool) (x2 : Nat) (x3 : Nat) (x4 : EpochRun) : (State.epochTime s x1 x2 x3 x4).kept = s.kept := by
  unfold State.epochTime
  simp only [↓State.modClk_kept, ↓State.setFld_kept, ↓State.latchPair_kept, ↓kept_ite, ↓kept_foldl, kept_mk, kept_fold, ite_self]
theorem State.epochAt_kept (s : State) (x1 : Option Nat) (x2 : RegFile) (x3 : Bool) (x4 : Bool) (x5 : Nat) (x6 : Nat) : (State.epochAt s x1 x2 x3 x4 x5 x6).kept = s.kept := by
  unfold State.epochAt
  simp only [↓State.epochTime_kept, ↓State.updatePending_kept, ↓State.updateCaps_kept, ↓State.epochCal_kept, ↓State.epochWords_kept, ↓State.epochRelock_kept, ↓kept_ite, ↓kept_foldl, kept_mk, kept_fold, ite_self]
theorem State.sqRestart_kept (s : State) (x1 : Nat) (x2 : Bool) : (State.sqRestart s x1 x2).kept = s.kept := by
  unfold State.sqRestart
  simp only [↓State.setFld_kept, ↓kept_ite, ↓kept_foldl, kept_mk, kept_fold, ite_self]
theorem State.cqRestart_kept (s : State) (x1 : Nat) (x2 : Bool) : (State.cqRestart s x1 x2).kept = s.kept := by
  unfold State.cqRestart
  simp only [↓State.setFld_kept, ↓kept_ite, ↓kept_foldl, kept_mk, kept_fold, ite_self]
theorem State.evRestart_kept (s : State) (x1 : Bool) : (State.evRestart s x1).kept = s.kept := by
  unfold State.evRestart
  simp only [↓State.setFld_kept, ↓kept_ite, ↓kept_foldl, kept_mk, kept_fold, ite_self]
theorem sqRingApply_kept (s : State) (x1 : Nat) (x2 : Desc) : (sqRingApply s x1 x2).kept = s.kept := by
  unfold sqRingApply
  simp only [↓State.setFld_kept, ↓State.sqRestart_kept, ↓kept_ite, ↓kept_foldl, kept_mk, kept_fold, ite_self]
theorem cqRingApply_kept (s : State) (x1 : Nat) (x2 : Desc) : (cqRingApply s x1 x2).kept = s.kept := by
  unfold cqRingApply
  simp only [↓State.setFld_kept, ↓State.cqRestart_kept, ↓kept_ite, ↓kept_foldl, kept_mk, kept_fold, ite_self]
theorem evRingApply_kept (s : State) (x1 : Desc) : (evRingApply s x1).kept = s.kept := by
  unfold evRingApply
  simp only [↓State.evRestart_kept, ↓State.setFld_kept, ↓kept_ite, ↓kept_foldl, kept_mk, kept_fold, ite_self]
theorem State.logEvent_kept (s : State) (x1 : Ev) : (State.logEvent s x1).kept = s.kept := by
  unfold State.logEvent
  simp only [↓State.count_kept, ↓kept_ite, ↓kept_foldl, kept_mk, kept_fold, ite_self]
theorem State.logAll_kept (s : State) : (State.logAll s).kept = s.kept := by
  unfold State.logAll
  (try simp (disch := (first | (intros; rfl) | (intros; (try simp only [↓State.logEvent_kept, ↓kept_ite, ↓kept_foldl, kept_mk, kept_fold, ite_self]) <;> repeat' (split <;> (try rfl) <;> (try simp only [↓State.logEvent_kept, ↓kept_ite, ↓kept_foldl, kept_mk, kept_fold, ite_self]))))) only [↓State.logEvent_kept, ↓kept_ite, ↓kept_foldl, kept_mk, kept_fold, ite_self]) <;> (repeat' (split <;> (try simp (disch := (first | (intros; rfl) | (intros; (try simp only [↓State.logEvent_kept, ↓kept_ite, ↓kept_foldl, kept_mk, kept_fold, ite_self]) <;> repeat' (split <;> (try rfl) <;> (try simp only [↓State.logEvent_kept, ↓kept_ite, ↓kept_foldl, kept_mk, kept_fold, ite_self]))))) only [↓State.logEvent_kept, ↓kept_ite, ↓kept_foldl, kept_mk, kept_fold, ite_self])))
theorem State.writeEvent_kept (s : State) (x1 : Ev) : (State.writeEvent s x1).kept = s.kept := by
  unfold State.writeEvent
  simp only [↓State.setFld_kept, ↓State.fireVector_kept, ↓State.emit_kept, ↓kept_ite, ↓kept_foldl, kept_mk, kept_fold, ite_self]
theorem extractApply_kept (s : State) (x1 : Desc) (x2 : Nat) : (extractApply s x1 x2).kept = s.kept := by
  unfold extractApply
  simp only [↓State.enqueue_kept, ↓State.complete_kept, ↓State.updateFreezeRegs_kept, ↓State.releaseFreeze_kept, ↓State.hold_kept, ↓kept_ite, ↓kept_foldl, kept_mk, kept_fold, ite_self]
theorem snapApply_kept (s : State) (x1 : Desc) (x2 : Nat) : (snapApply s x1 x2).kept = s.kept := by
  unfold snapApply
  simp only [↓State.setFld_kept, ↓kept_ite, ↓kept_foldl, kept_mk, kept_fold, ite_self]
theorem State.snapEnd_kept (s : State) (x1 : Bool) (x2 : Nat) : (State.snapEnd s x1 x2).kept = s.kept := by
  unfold State.snapEnd
  (try simp (disch := (first | (intros; rfl) | (intros; (try simp only [↓State.hostIo_kept, ↓State.complete_kept, ↓kept_ite, ↓kept_foldl, kept_mk, kept_fold, ite_self]) <;> repeat' (split <;> (try rfl) <;> (try simp only [↓State.hostIo_kept, ↓State.complete_kept, ↓kept_ite, ↓kept_foldl, kept_mk, kept_fold, ite_self]))))) only [↓State.hostIo_kept, ↓State.complete_kept, ↓kept_ite, ↓kept_foldl, kept_mk, kept_fold, ite_self]) <;> (repeat' (split <;> (try simp (disch := (first | (intros; rfl) | (intros; (try simp only [↓State.hostIo_kept, ↓State.complete_kept, ↓kept_ite, ↓kept_foldl, kept_mk, kept_fold, ite_self]) <;> repeat' (split <;> (try rfl) <;> (try simp only [↓State.hostIo_kept, ↓State.complete_kept, ↓kept_ite, ↓kept_foldl, kept_mk, kept_fold, ite_self]))))) only [↓State.hostIo_kept, ↓State.complete_kept, ↓kept_ite, ↓kept_foldl, kept_mk, kept_fold, ite_self])))
theorem State.modSmp_kept (s : State) (x1 : Nat) (x2 : SmpSt → SmpSt) : (State.modSmp s x1 x2).kept = s.kept := by
  unfold State.modSmp
  simp only [↓kept_ite, ↓kept_foldl, kept_mk, kept_fold, ite_self]
theorem State.progress_kept (s : State) (x1 : Job) : (State.progress s x1).kept = s.kept := by
  unfold State.progress
  simp only [↓State.jrecJob_kept, ↓kept_ite, ↓kept_foldl, kept_mk, kept_fold, ite_self]
theorem State.interrupt_kept (s : State) (x1 : Job → Bool) : (s.interrupt x1).kept = s.kept := by
  unfold State.interrupt
  simp (disch := (intros; first | exact State.updateStanding_kept _ _ | (split <;> rfl))) only [↓kept_foldl, kept_mk, ids_map, kept_fold]
theorem State.dropMoves_kept (s : State) (x1 : Nat → Bool) : (State.dropMoves s x1).kept = s.kept := by
  unfold State.dropMoves
  (try simp (disch := (first | (intros; rfl) | (intros; (try simp only [↓State.xferEnd_kept, ↓kept_ite, ↓kept_foldl, kept_mk, kept_fold, ite_self]) <;> repeat' (split <;> (try rfl) <;> (try simp only [↓State.xferEnd_kept, ↓kept_ite, ↓kept_foldl, kept_mk, kept_fold, ite_self]))))) only [↓State.xferEnd_kept, ↓kept_ite, ↓kept_foldl, kept_mk, kept_fold, ite_self]) <;> (repeat' (split <;> (try simp (disch := (first | (intros; rfl) | (intros; (try simp only [↓State.xferEnd_kept, ↓kept_ite, ↓kept_foldl, kept_mk, kept_fold, ite_self]) <;> repeat' (split <;> (try rfl) <;> (try simp only [↓State.xferEnd_kept, ↓kept_ite, ↓kept_foldl, kept_mk, kept_fold, ite_self]))))) only [↓State.xferEnd_kept, ↓kept_ite, ↓kept_foldl, kept_mk, kept_fold, ite_self])))
theorem State.dropArms_kept (s : State) (x1 : Nat → Bool) : (State.dropArms s x1).kept = s.kept := by
  unfold State.dropArms
  (try simp (disch := (first | (intros; rfl) | (intros; (try simp only [↓State.setFld_kept, ↓State.modTrg_kept, ↓kept_ite, ↓kept_foldl, kept_mk, kept_fold, ite_self]) <;> repeat' (split <;> (try rfl) <;> (try simp only [↓State.setFld_kept, ↓State.modTrg_kept, ↓kept_ite, ↓kept_foldl, kept_mk, kept_fold, ite_self]))))) only [↓State.setFld_kept, ↓State.modTrg_kept, ↓kept_ite, ↓kept_foldl, kept_mk, kept_fold, ite_self]) <;> (repeat' (split <;> (try simp (disch := (first | (intros; rfl) | (intros; (try simp only [↓State.setFld_kept, ↓State.modTrg_kept, ↓kept_ite, ↓kept_foldl, kept_mk, kept_fold, ite_self]) <;> repeat' (split <;> (try rfl) <;> (try simp only [↓State.setFld_kept, ↓State.modTrg_kept, ↓kept_ite, ↓kept_foldl, kept_mk, kept_fold, ite_self]))))) only [↓State.setFld_kept, ↓State.modTrg_kept, ↓kept_ite, ↓kept_foldl, kept_mk, kept_fold, ite_self])))
theorem State.dropCores_kept (s : State) (x1 : Nat → Bool) : (State.dropCores s x1).kept = s.kept := by
  unfold State.dropCores
  (try simp (disch := (first | (intros; rfl) | (intros; (try simp only [↓State.coreEnd_kept, ↓kept_ite, ↓kept_foldl, kept_mk, kept_fold, ite_self]) <;> repeat' (split <;> (try rfl) <;> (try simp only [↓State.coreEnd_kept, ↓kept_ite, ↓kept_foldl, kept_mk, kept_fold, ite_self]))))) only [↓State.coreEnd_kept, ↓kept_ite, ↓kept_foldl, kept_mk, kept_fold, ite_self]) <;> (repeat' (split <;> (try simp (disch := (first | (intros; rfl) | (intros; (try simp only [↓State.coreEnd_kept, ↓kept_ite, ↓kept_foldl, kept_mk, kept_fold, ite_self]) <;> repeat' (split <;> (try rfl) <;> (try simp only [↓State.coreEnd_kept, ↓kept_ite, ↓kept_foldl, kept_mk, kept_fold, ite_self]))))) only [↓State.coreEnd_kept, ↓kept_ite, ↓kept_foldl, kept_mk, kept_fold, ite_self])))
theorem State.dropCommits_kept (s : State) (x1 : Nat → Bool) : (State.dropCommits s x1).kept = s.kept := by
  unfold State.dropCommits
  (try simp (disch := (first | (intros; rfl) | (intros; (try simp only [↓State.xcorPending_kept, ↓State.setFld_kept, ↓State.modXcor_kept, ↓kept_ite, ↓kept_foldl, kept_mk, kept_fold, ite_self]) <;> repeat' (split <;> (try rfl) <;> (try simp only [↓State.xcorPending_kept, ↓State.setFld_kept, ↓State.modXcor_kept, ↓kept_ite, ↓kept_foldl, kept_mk, kept_fold, ite_self]))))) only [↓State.xcorPending_kept, ↓State.setFld_kept, ↓State.modXcor_kept, ↓kept_ite, ↓kept_foldl, kept_mk, kept_fold, ite_self]) <;> (repeat' (split <;> (try simp (disch := (first | (intros; rfl) | (intros; (try simp only [↓State.xcorPending_kept, ↓State.setFld_kept, ↓State.modXcor_kept, ↓kept_ite, ↓kept_foldl, kept_mk, kept_fold, ite_self]) <;> repeat' (split <;> (try rfl) <;> (try simp only [↓State.xcorPending_kept, ↓State.setFld_kept, ↓State.modXcor_kept, ↓kept_ite, ↓kept_foldl, kept_mk, kept_fold, ite_self]))))) only [↓State.xcorPending_kept, ↓State.setFld_kept, ↓State.modXcor_kept, ↓kept_ite, ↓kept_foldl, kept_mk, kept_fold, ite_self])))
theorem State.dropRequests_kept (s : State) (x1 : Nat → Bool) : (State.dropRequests s x1).kept = s.kept := by
  unfold State.dropRequests
  simp only [↓State.updatePending_kept, ↓State.setFld_kept, ↓kept_ite, ↓kept_foldl, kept_mk, kept_fold, ite_self]
theorem State.dropUnits_kept (s : State) (x1 : Nat → Bool) : (State.dropUnits s x1).kept = s.kept := by
  unfold State.dropUnits
  (try simp (disch := (first | (intros; rfl) | (intros; (try simp only [↓State.endStream_kept, ↓State.dropRequests_kept, ↓State.updateFreezeRegs_kept, ↓State.dropArms_kept, ↓State.dropCores_kept, ↓State.dropCommits_kept, ↓State.dropMoves_kept, ↓State.recOver_kept, ↓State.endExtract_kept, ↓kept_ite, ↓kept_foldl, kept_mk, kept_fold, ite_self]) <;> repeat' (split <;> (try rfl) <;> (try simp only [↓State.endStream_kept, ↓State.dropRequests_kept, ↓State.updateFreezeRegs_kept, ↓State.dropArms_kept, ↓State.dropCores_kept, ↓State.dropCommits_kept, ↓State.dropMoves_kept, ↓State.recOver_kept, ↓State.endExtract_kept, ↓kept_ite, ↓kept_foldl, kept_mk, kept_fold, ite_self]))))) only [↓State.endStream_kept, ↓State.dropRequests_kept, ↓State.updateFreezeRegs_kept, ↓State.dropArms_kept, ↓State.dropCores_kept, ↓State.dropCommits_kept, ↓State.dropMoves_kept, ↓State.recOver_kept, ↓State.endExtract_kept, ↓kept_ite, ↓kept_foldl, kept_mk, kept_fold, ite_self]) <;> (repeat' (split <;> (try simp (disch := (first | (intros; rfl) | (intros; (try simp only [↓State.endStream_kept, ↓State.dropRequests_kept, ↓State.updateFreezeRegs_kept, ↓State.dropArms_kept, ↓State.dropCores_kept, ↓State.dropCommits_kept, ↓State.dropMoves_kept, ↓State.recOver_kept, ↓State.endExtract_kept, ↓kept_ite, ↓kept_foldl, kept_mk, kept_fold, ite_self]) <;> repeat' (split <;> (try rfl) <;> (try simp only [↓State.endStream_kept, ↓State.dropRequests_kept, ↓State.updateFreezeRegs_kept, ↓State.dropArms_kept, ↓State.dropCores_kept, ↓State.dropCommits_kept, ↓State.dropMoves_kept, ↓State.recOver_kept, ↓State.endExtract_kept, ↓kept_ite, ↓kept_foldl, kept_mk, kept_fold, ite_self]))))) only [↓State.endStream_kept, ↓State.dropRequests_kept, ↓State.updateFreezeRegs_kept, ↓State.dropArms_kept, ↓State.dropCores_kept, ↓State.dropCommits_kept, ↓State.dropMoves_kept, ↓State.recOver_kept, ↓State.endExtract_kept, ↓kept_ite, ↓kept_foldl, kept_mk, kept_fold, ite_self])))
theorem State.endJobs_kept (s : State) (x1 : Job → Bool) : (State.endJobs s x1).kept = s.kept := by
  unfold State.endJobs
  simp only [↓State.dropUnits_kept, ↓State.interrupt_kept, ↓kept_ite, ↓kept_foldl, kept_mk, kept_fold, ite_self]
theorem State.holdOutcome_kept (s : State) (x1 : Job) : (State.holdOutcome s x1).kept = s.kept := by
  unfold State.holdOutcome
  (try simp (disch := (first | (intros; rfl) | (intros; (try simp only [↓State.setFld_kept, ↓State.modJob_kept, ↓State.jrecJob_kept, ↓kept_ite, ↓kept_foldl, kept_mk, kept_fold, ite_self]) <;> repeat' (split <;> (try rfl) <;> (try simp only [↓State.setFld_kept, ↓State.modJob_kept, ↓State.jrecJob_kept, ↓kept_ite, ↓kept_foldl, kept_mk, kept_fold, ite_self]))))) only [↓State.setFld_kept, ↓State.modJob_kept, ↓State.jrecJob_kept, ↓kept_ite, ↓kept_foldl, kept_mk, kept_fold, ite_self]) <;> (repeat' (split <;> (try simp (disch := (first | (intros; rfl) | (intros; (try simp only [↓State.setFld_kept, ↓State.modJob_kept, ↓State.jrecJob_kept, ↓kept_ite, ↓kept_foldl, kept_mk, kept_fold, ite_self]) <;> repeat' (split <;> (try rfl) <;> (try simp only [↓State.setFld_kept, ↓State.modJob_kept, ↓State.jrecJob_kept, ↓kept_ite, ↓kept_foldl, kept_mk, kept_fold, ite_self]))))) only [↓State.setFld_kept, ↓State.modJob_kept, ↓State.jrecJob_kept, ↓kept_ite, ↓kept_foldl, kept_mk, kept_fold, ite_self])))
theorem State.holdOutcomes_kept (s : State) (x1 : Job → Bool) : (State.holdOutcomes s x1).kept = s.kept := by
  unfold State.holdOutcomes
  (try simp (disch := (first | (intros; rfl) | (intros; (try simp only [↓State.holdOutcome_kept, ↓kept_ite, ↓kept_foldl, kept_mk, kept_fold, ite_self]) <;> repeat' (split <;> (try rfl) <;> (try simp only [↓State.holdOutcome_kept, ↓kept_ite, ↓kept_foldl, kept_mk, kept_fold, ite_self]))))) only [↓State.holdOutcome_kept, ↓kept_ite, ↓kept_foldl, kept_mk, kept_fold, ite_self]) <;> (repeat' (split <;> (try simp (disch := (first | (intros; rfl) | (intros; (try simp only [↓State.holdOutcome_kept, ↓kept_ite, ↓kept_foldl, kept_mk, kept_fold, ite_self]) <;> repeat' (split <;> (try rfl) <;> (try simp only [↓State.holdOutcome_kept, ↓kept_ite, ↓kept_foldl, kept_mk, kept_fold, ite_self]))))) only [↓State.holdOutcome_kept, ↓kept_ite, ↓kept_foldl, kept_mk, kept_fold, ite_self])))
theorem State.disableSq_kept (s : State) (x1 : Nat) : (State.disableSq s x1).kept = s.kept := by
  unfold State.disableSq
  simp only [↓State.setFld_kept, ↓State.sqRestart_kept, ↓kept_ite, ↓kept_foldl, kept_mk, kept_fold, ite_self]
theorem State.disableCq_kept (s : State) (x1 : Nat) : (State.disableCq s x1).kept = s.kept := by
  unfold State.disableCq
  simp only [↓State.setFld_kept, ↓State.cqRestart_kept, ↓kept_ite, ↓kept_foldl, kept_mk, kept_fold, ite_self]
theorem State.dropFetches_kept (s : State) : (State.dropFetches s).kept = s.kept := by
  unfold State.dropFetches
  (try simp (disch := (first | (intros; rfl) | (intros; (try simp only [↓State.setFld_kept, ↓kept_ite, ↓kept_foldl, kept_mk, kept_fold, ite_self]) <;> repeat' (split <;> (try rfl) <;> (try simp only [↓State.setFld_kept, ↓kept_ite, ↓kept_foldl, kept_mk, kept_fold, ite_self]))))) only [↓State.setFld_kept, ↓kept_ite, ↓kept_foldl, kept_mk, kept_fold, ite_self]) <;> (repeat' (split <;> (try simp (disch := (first | (intros; rfl) | (intros; (try simp only [↓State.setFld_kept, ↓kept_ite, ↓kept_foldl, kept_mk, kept_fold, ite_self]) <;> repeat' (split <;> (try rfl) <;> (try simp only [↓State.setFld_kept, ↓kept_ite, ↓kept_foldl, kept_mk, kept_fold, ite_self]))))) only [↓State.setFld_kept, ↓kept_ite, ↓kept_foldl, kept_mk, kept_fold, ite_self])))
theorem State.rlRead_kept (s : State) (x1 : Nat) : (State.rlRead s x1).2.kept = s.kept := by
  unfold State.rlRead
  (try simp (disch := (first | (intros; rfl) | (intros; (try simp only [↓kept_ite, ↓kept_foldl, kept_mk, kept_fold, ite_self]) <;> repeat' (split <;> (try rfl) <;> (try simp only [↓kept_ite, ↓kept_foldl, kept_mk, kept_fold, ite_self]))))) only [↓kept_ite, ↓kept_foldl, kept_mk, kept_fold, ite_self]) <;> (repeat' (split <;> (try simp (disch := (first | (intros; rfl) | (intros; (try simp only [↓kept_ite, ↓kept_foldl, kept_mk, kept_fold, ite_self]) <;> repeat' (split <;> (try rfl) <;> (try simp only [↓kept_ite, ↓kept_foldl, kept_mk, kept_fold, ite_self]))))) only [↓kept_ite, ↓kept_foldl, kept_mk, kept_fold, ite_self])))
theorem State.wrote_kept (s : State) (x1 : Nat) : (State.wrote s x1).kept = s.kept := by
  unfold State.wrote
  simp only [↓State.modClk_kept, ↓State.hkBoundary_kept, ↓State.updatePin_kept, ↓State.modHk_kept, ↓State.updatePins_kept, ↓kept_ite, ↓kept_foldl, kept_mk, kept_fold, ite_self]
theorem State.collided_kept (s : State) (x1 : Nat) : (State.collided s x1).kept = s.kept := by
  unfold State.collided
  simp only [↓State.setFld_kept, ↓kept_ite, ↓kept_foldl, kept_mk, kept_fold, ite_self]
theorem State.hostWrite_kept (s : State) (x1 : Nat) (x2 : Nat) (x3 : Bool) : (State.hostWrite s x1 x2 x3).kept = s.kept := by
  unfold State.hostWrite
  (try simp (disch := (first | (intros; rfl) | (intros; (try simp only [↓State.setReg_kept, ↓State.wrote_kept, ↓State.setFld_kept, ↓State.collided_kept, ↓kept_ite, ↓kept_foldl, kept_mk, kept_fold, ite_self]) <;> repeat' (split <;> (try rfl) <;> (try simp only [↓State.setReg_kept, ↓State.wrote_kept, ↓State.setFld_kept, ↓State.collided_kept, ↓kept_ite, ↓kept_foldl, kept_mk, kept_fold, ite_self]))))) only [↓State.setReg_kept, ↓State.wrote_kept, ↓State.setFld_kept, ↓State.collided_kept, ↓kept_ite, ↓kept_foldl, kept_mk, kept_fold, ite_self]) <;> (repeat' (split <;> (try simp (disch := (first | (intros; rfl) | (intros; (try simp only [↓State.setReg_kept, ↓State.wrote_kept, ↓State.setFld_kept, ↓State.collided_kept, ↓kept_ite, ↓kept_foldl, kept_mk, kept_fold, ite_self]) <;> repeat' (split <;> (try rfl) <;> (try simp only [↓State.setReg_kept, ↓State.wrote_kept, ↓State.setFld_kept, ↓State.collided_kept, ↓kept_ite, ↓kept_foldl, kept_mk, kept_fold, ite_self]))))) only [↓State.setReg_kept, ↓State.wrote_kept, ↓State.setFld_kept, ↓State.collided_kept, ↓kept_ite, ↓kept_foldl, kept_mk, kept_fold, ite_self])))
theorem State.ringEnabled_kept (s : State) (x1 : Nat) : (State.ringEnabled s x1).kept = s.kept := by
  unfold State.ringEnabled
  simp only [↓State.evRestart_kept, ↓State.setFld_kept, ↓State.sqRestart_kept, ↓State.cqRestart_kept, ↓kept_ite, ↓kept_foldl, kept_mk, kept_fold, ite_self]
theorem State.ringWrite263_kept (s : State) (x1 : Nat) (x2 : Nat) (x3 : Nat) : (State.ringWrite263 s x1 x2 x3).kept = s.kept := by
  unfold State.ringWrite263
  simp only [↓State.setReg_kept, ↓State.setFld_kept, ↓State.ringEnabled_kept, ↓kept_ite, ↓kept_foldl, kept_mk, kept_fold, ite_self]
theorem State.sramByte_kept (s : State) (x1 : Nat) : (State.sramByte s x1).2.kept = s.kept := by
  unfold State.sramByte
  (try simp (disch := (first | (intros; rfl) | (intros; (try simp only [↓State.useFree_kept, ↓kept_ite, ↓kept_foldl, kept_mk, kept_fold, ite_self]) <;> repeat' (split <;> (try rfl) <;> (try simp only [↓State.useFree_kept, ↓kept_ite, ↓kept_foldl, kept_mk, kept_fold, ite_self]))))) only [↓State.useFree_kept, ↓kept_ite, ↓kept_foldl, kept_mk, kept_fold, ite_self]) <;> (repeat' (split <;> (try simp (disch := (first | (intros; rfl) | (intros; (try simp only [↓State.useFree_kept, ↓kept_ite, ↓kept_foldl, kept_mk, kept_fold, ite_self]) <;> repeat' (split <;> (try rfl) <;> (try simp only [↓State.useFree_kept, ↓kept_ite, ↓kept_foldl, kept_mk, kept_fold, ite_self]))))) only [↓State.useFree_kept, ↓kept_ite, ↓kept_foldl, kept_mk, kept_fold, ite_self])))
theorem State.maskRegs_kept (s : State) (x1 : Nat → Nat) : (State.maskRegs s x1).kept = s.kept := by
  unfold State.maskRegs
  simp only [↓kept_ite, ↓kept_foldl, kept_mk, kept_fold, ite_self]
theorem State.noteReset_kept (s : State) (x1 : Nat) (x2 : Nat) (x3 : Nat) : (State.noteReset s x1 x2 x3).kept = s.kept := by
  unfold State.noteReset
  simp only [↓State.setFld_kept, ↓kept_ite, ↓kept_foldl, kept_mk, kept_fold, ite_self]
theorem State.holdPosting_kept (s : State) : (State.holdPosting s).kept = s.kept := by
  unfold State.holdPosting
  simp only [↓State.setFld_kept, ↓kept_ite, ↓kept_foldl, kept_mk, kept_fold, ite_self]
theorem State.postRing_kept (s : State) (x1 : Nat) : (State.postRing s x1).kept = s.kept := by
  unfold State.postRing
  (try simp (disch := (first | (intros; rfl) | (intros; (try simp only [↓State.postHead_kept, ↓kept_ite, ↓kept_foldl, kept_mk, kept_fold, ite_self]) <;> repeat' (split <;> (try rfl) <;> (try simp only [↓State.postHead_kept, ↓kept_ite, ↓kept_foldl, kept_mk, kept_fold, ite_self]))))) only [↓State.postHead_kept, ↓kept_ite, ↓kept_foldl, kept_mk, kept_fold, ite_self]) <;> (repeat' (split <;> (try simp (disch := (first | (intros; rfl) | (intros; (try simp only [↓State.postHead_kept, ↓kept_ite, ↓kept_foldl, kept_mk, kept_fold, ite_self]) <;> repeat' (split <;> (try rfl) <;> (try simp only [↓State.postHead_kept, ↓kept_ite, ↓kept_foldl, kept_mk, kept_fold, ite_self]))))) only [↓State.postHead_kept, ↓kept_ite, ↓kept_foldl, kept_mk, kept_fold, ite_self])))
theorem State.runFirmware_kept (s : State) (x1 : Nat) (x2 : List Nat) : (State.runFirmware s x1 x2).kept = s.kept := by
  unfold State.runFirmware
  simp only [↓State.secEv_kept, ↓State.modSec_kept, ↓State.setFld_kept, ↓State.updatePin_kept, ↓State.extend_kept, ↓kept_ite, ↓kept_foldl, kept_mk, kept_fold, ite_self]
theorem State.strapRegs_kept (s : State) : (State.strapRegs s).kept = s.kept := by
  unfold State.strapRegs
  simp only [↓State.setReg_kept, ↓State.setFld_kept, ↓State.modHk_kept, ↓State.setInf_kept, ↓kept_ite, ↓kept_foldl, kept_mk, kept_fold, ite_self]
theorem State.bootRom_kept (s : State) (x1 : Sys2Proof.Boot) : (State.bootRom s x1).kept = s.kept := by
  unfold State.bootRom
  (try simp (disch := (first | (intros; rfl) | (intros; (try simp only [↓State.runFirmware_kept, ↓State.secEv_kept, ↓State.modSec_kept, ↓State.setFld_kept, ↓State.zeroised_kept, ↓State.zeroise_kept, ↓State.extend_kept, ↓kept_ite, ↓kept_foldl, kept_mk, kept_fold, ite_self]) <;> repeat' (split <;> (try rfl) <;> (try simp only [↓State.runFirmware_kept, ↓State.secEv_kept, ↓State.modSec_kept, ↓State.setFld_kept, ↓State.zeroised_kept, ↓State.zeroise_kept, ↓State.extend_kept, ↓kept_ite, ↓kept_foldl, kept_mk, kept_fold, ite_self]))))) only [↓State.runFirmware_kept, ↓State.secEv_kept, ↓State.modSec_kept, ↓State.setFld_kept, ↓State.zeroised_kept, ↓State.zeroise_kept, ↓State.extend_kept, ↓kept_ite, ↓kept_foldl, kept_mk, kept_fold, ite_self]) <;> (repeat' (split <;> (try simp (disch := (first | (intros; rfl) | (intros; (try simp only [↓State.runFirmware_kept, ↓State.secEv_kept, ↓State.modSec_kept, ↓State.setFld_kept, ↓State.zeroised_kept, ↓State.zeroise_kept, ↓State.extend_kept, ↓kept_ite, ↓kept_foldl, kept_mk, kept_fold, ite_self]) <;> repeat' (split <;> (try rfl) <;> (try simp only [↓State.runFirmware_kept, ↓State.secEv_kept, ↓State.modSec_kept, ↓State.setFld_kept, ↓State.zeroised_kept, ↓State.zeroise_kept, ↓State.extend_kept, ↓kept_ite, ↓kept_foldl, kept_mk, kept_fold, ite_self]))))) only [↓State.runFirmware_kept, ↓State.secEv_kept, ↓State.modSec_kept, ↓State.setFld_kept, ↓State.zeroised_kept, ↓State.zeroise_kept, ↓State.extend_kept, ↓kept_ite, ↓kept_foldl, kept_mk, kept_fold, ite_self])))
theorem State.freshPcs_kept (s : State) (x1 : Bool) (x2 : Bool) : (State.freshPcs s x1 x2).kept = s.kept := by
  unfold State.freshPcs
  (try simp (disch := (first | (intros; rfl) | (intros; (try simp only [↓State.setFld_kept, ↓State.setPc_kept, ↓kept_ite, ↓kept_foldl, kept_mk, kept_fold, ite_self]) <;> repeat' (split <;> (try rfl) <;> (try simp only [↓State.setFld_kept, ↓State.setPc_kept, ↓kept_ite, ↓kept_foldl, kept_mk, kept_fold, ite_self]))))) only [↓State.setFld_kept, ↓State.setPc_kept, ↓kept_ite, ↓kept_foldl, kept_mk, kept_fold, ite_self]) <;> (repeat' (split <;> (try simp (disch := (first | (intros; rfl) | (intros; (try simp only [↓State.setFld_kept, ↓State.setPc_kept, ↓kept_ite, ↓kept_foldl, kept_mk, kept_fold, ite_self]) <;> repeat' (split <;> (try rfl) <;> (try simp only [↓State.setFld_kept, ↓State.setPc_kept, ↓kept_ite, ↓kept_foldl, kept_mk, kept_fold, ite_self]))))) only [↓State.setFld_kept, ↓State.setPc_kept, ↓kept_ite, ↓kept_foldl, kept_mk, kept_fold, ite_self])))
theorem State.keepFailures_kept (s : State) (x1 : State) : (State.keepFailures s x1).kept = s.kept := by
  unfold State.keepFailures
  (try simp (disch := (first | (intros; rfl) | (intros; (try simp only [↓State.setFld_kept, ↓State.xcorReturn_kept, ↓kept_ite, ↓kept_foldl, kept_mk, kept_fold, ite_self]) <;> repeat' (split <;> (try rfl) <;> (try simp only [↓State.setFld_kept, ↓State.xcorReturn_kept, ↓kept_ite, ↓kept_foldl, kept_mk, kept_fold, ite_self]))))) only [↓State.setFld_kept, ↓State.xcorReturn_kept, ↓kept_ite, ↓kept_foldl, kept_mk, kept_fold, ite_self]) <;> (repeat' (split <;> (try simp (disch := (first | (intros; rfl) | (intros; (try simp only [↓State.setFld_kept, ↓State.xcorReturn_kept, ↓kept_ite, ↓kept_foldl, kept_mk, kept_fold, ite_self]) <;> repeat' (split <;> (try rfl) <;> (try simp only [↓State.setFld_kept, ↓State.xcorReturn_kept, ↓kept_ite, ↓kept_foldl, kept_mk, kept_fold, ite_self]))))) only [↓State.setFld_kept, ↓State.xcorReturn_kept, ↓kept_ite, ↓kept_foldl, kept_mk, kept_fold, ite_self])))
theorem State.showKept_kept (s : State) : (State.showKept s).kept = s.kept := by
  unfold State.showKept
  (try simp (disch := (first | (intros; rfl) | (intros; (try simp only [↓State.updatePending_kept, ↓State.updateJnl_kept, ↓State.updateOldest_kept, ↓State.updateCaps_kept, ↓State.updateFlt_kept, ↓State.updateFreezeRegs_kept, ↓State.updateHeld_kept, ↓State.updateKeys_kept, ↓kept_ite, ↓kept_foldl, kept_mk, kept_fold, ite_self]) <;> repeat' (split <;> (try rfl) <;> (try simp only [↓State.updatePending_kept, ↓State.updateJnl_kept, ↓State.updateOldest_kept, ↓State.updateCaps_kept, ↓State.updateFlt_kept, ↓State.updateFreezeRegs_kept, ↓State.updateHeld_kept, ↓State.updateKeys_kept, ↓kept_ite, ↓kept_foldl, kept_mk, kept_fold, ite_self]))))) only [↓State.updatePending_kept, ↓State.updateJnl_kept, ↓State.updateOldest_kept, ↓State.updateCaps_kept, ↓State.updateFlt_kept, ↓State.updateFreezeRegs_kept, ↓State.updateHeld_kept, ↓State.updateKeys_kept, ↓kept_ite, ↓kept_foldl, kept_mk, kept_fold, ite_self]) <;> (repeat' (split <;> (try simp (disch := (first | (intros; rfl) | (intros; (try simp only [↓State.updatePending_kept, ↓State.updateJnl_kept, ↓State.updateOldest_kept, ↓State.updateCaps_kept, ↓State.updateFlt_kept, ↓State.updateFreezeRegs_kept, ↓State.updateHeld_kept, ↓State.updateKeys_kept, ↓kept_ite, ↓kept_foldl, kept_mk, kept_fold, ite_self]) <;> repeat' (split <;> (try rfl) <;> (try simp only [↓State.updatePending_kept, ↓State.updateJnl_kept, ↓State.updateOldest_kept, ↓State.updateCaps_kept, ↓State.updateFlt_kept, ↓State.updateFreezeRegs_kept, ↓State.updateHeld_kept, ↓State.updateKeys_kept, ↓kept_ite, ↓kept_foldl, kept_mk, kept_fold, ite_self]))))) only [↓State.updatePending_kept, ↓State.updateJnl_kept, ↓State.updateOldest_kept, ↓State.updateCaps_kept, ↓State.updateFlt_kept, ↓State.updateFreezeRegs_kept, ↓State.updateHeld_kept, ↓State.updateKeys_kept, ↓kept_ite, ↓kept_foldl, kept_mk, kept_fold, ite_self])))
theorem State.lastReadable_kept (s : State) (x1 : List Nat) : (State.lastReadable s x1).kept = s.kept := by
  unfold State.lastReadable
  (try simp (disch := (first | (intros; rfl) | (intros; (try simp only [↓kept_ite, ↓kept_foldl, kept_mk, kept_fold, ite_self]) <;> repeat' (split <;> (try rfl) <;> (try simp only [↓kept_ite, ↓kept_foldl, kept_mk, kept_fold, ite_self]))))) only [↓kept_ite, ↓kept_foldl, kept_mk, kept_fold, ite_self]) <;> (repeat' (split <;> (try simp (disch := (first | (intros; rfl) | (intros; (try simp only [↓kept_ite, ↓kept_foldl, kept_mk, kept_fold, ite_self]) <;> repeat' (split <;> (try rfl) <;> (try simp only [↓kept_ite, ↓kept_foldl, kept_mk, kept_fold, ite_self]))))) only [↓kept_ite, ↓kept_foldl, kept_mk, kept_fold, ite_self])))
theorem State.sliceReset_kept (s : State) (x1 : Nat) : (State.sliceReset s x1).kept = s.kept := by
  unfold State.sliceReset
  simp only [↓State.modSlice_kept, ↓State.dropCoreXfers_kept, ↓kept_ite, ↓kept_foldl, kept_mk, kept_fold, ite_self]
theorem State.hostReset_kept (s : State) (x1 : Nat) (x2 : Bool) : (State.hostReset s x1 x2).kept = s.kept := by
  unfold State.hostReset
  (try simp (disch := (first | (intros; rfl) | (intros; (try simp only [↓State.dropFetches_kept, ↓State.sliceReset_kept, ↓State.updateService_kept, ↓State.logAll_kept, ↓State.setFld_kept, ↓State.xcorReturn_kept, ↓State.holdPosting_kept, ↓State.showKept_kept, ↓State.dropGranules_kept, ↓State.updatePins_kept, ↓State.noteReset_kept, ↓State.maskRegs_kept, ↓State.endJobs_kept, ↓kept_ite, ↓kept_foldl, kept_mk, kept_fold, ite_self]) <;> repeat' (split <;> (try rfl) <;> (try simp only [↓State.dropFetches_kept, ↓State.sliceReset_kept, ↓State.updateService_kept, ↓State.logAll_kept, ↓State.setFld_kept, ↓State.xcorReturn_kept, ↓State.holdPosting_kept, ↓State.showKept_kept, ↓State.dropGranules_kept, ↓State.updatePins_kept, ↓State.noteReset_kept, ↓State.maskRegs_kept, ↓State.endJobs_kept, ↓kept_ite, ↓kept_foldl, kept_mk, kept_fold, ite_self]))))) only [↓State.dropFetches_kept, ↓State.sliceReset_kept, ↓State.updateService_kept, ↓State.logAll_kept, ↓State.setFld_kept, ↓State.xcorReturn_kept, ↓State.holdPosting_kept, ↓State.showKept_kept, ↓State.dropGranules_kept, ↓State.updatePins_kept, ↓State.noteReset_kept, ↓State.maskRegs_kept, ↓State.endJobs_kept, ↓kept_ite, ↓kept_foldl, kept_mk, kept_fold, ite_self]) <;> (repeat' (split <;> (try simp (disch := (first | (intros; rfl) | (intros; (try simp only [↓State.dropFetches_kept, ↓State.sliceReset_kept, ↓State.updateService_kept, ↓State.logAll_kept, ↓State.setFld_kept, ↓State.xcorReturn_kept, ↓State.holdPosting_kept, ↓State.showKept_kept, ↓State.dropGranules_kept, ↓State.updatePins_kept, ↓State.noteReset_kept, ↓State.maskRegs_kept, ↓State.endJobs_kept, ↓kept_ite, ↓kept_foldl, kept_mk, kept_fold, ite_self]) <;> repeat' (split <;> (try rfl) <;> (try simp only [↓State.dropFetches_kept, ↓State.sliceReset_kept, ↓State.updateService_kept, ↓State.logAll_kept, ↓State.setFld_kept, ↓State.xcorReturn_kept, ↓State.holdPosting_kept, ↓State.showKept_kept, ↓State.dropGranules_kept, ↓State.updatePins_kept, ↓State.noteReset_kept, ↓State.maskRegs_kept, ↓State.endJobs_kept, ↓kept_ite, ↓kept_foldl, kept_mk, kept_fold, ite_self]))))) only [↓State.dropFetches_kept, ↓State.sliceReset_kept, ↓State.updateService_kept, ↓State.logAll_kept, ↓State.setFld_kept, ↓State.xcorReturn_kept, ↓State.holdPosting_kept, ↓State.showKept_kept, ↓State.dropGranules_kept, ↓State.updatePins_kept, ↓State.noteReset_kept, ↓State.maskRegs_kept, ↓State.endJobs_kept, ↓kept_ite, ↓kept_foldl, kept_mk, kept_fold, ite_self])))
theorem State.slicesReset_kept (s : State) (x1 : Nat) : (State.slicesReset s x1).kept = s.kept := by
  unfold State.slicesReset
  (try simp (disch := (first | (intros; rfl) | (intros; (try simp only [↓State.sliceReset_kept, ↓State.setFld_kept, ↓State.raise_kept, ↓State.updatePins_kept, ↓State.maskRegs_kept, ↓State.endJobs_kept, ↓kept_ite, ↓kept_foldl, kept_mk, kept_fold, ite_self]) <;> repeat' (split <;> (try rfl) <;> (try simp only [↓State.sliceReset_kept, ↓State.setFld_kept, ↓State.raise_kept, ↓State.updatePins_kept, ↓State.maskRegs_kept, ↓State.endJobs_kept, ↓kept_ite, ↓kept_foldl, kept_mk, kept_fold, ite_self]))))) only [↓State.sliceReset_kept, ↓State.setFld_kept, ↓State.raise_kept, ↓State.updatePins_kept, ↓State.maskRegs_kept, ↓State.endJobs_kept, ↓kept_ite, ↓kept_foldl, kept_mk, kept_fold, ite_self]) <;> (repeat' (split <;> (try simp (disch := (first | (intros; rfl) | (intros; (try simp only [↓State.sliceReset_kept, ↓State.setFld_kept, ↓State.raise_kept, ↓State.updatePins_kept, ↓State.maskRegs_kept, ↓State.endJobs_kept, ↓kept_ite, ↓kept_foldl, kept_mk, kept_fold, ite_self]) <;> repeat' (split <;> (try rfl) <;> (try simp only [↓State.sliceReset_kept, ↓State.setFld_kept, ↓State.raise_kept, ↓State.updatePins_kept, ↓State.maskRegs_kept, ↓State.endJobs_kept, ↓kept_ite, ↓kept_foldl, kept_mk, kept_fold, ite_self]))))) only [↓State.sliceReset_kept, ↓State.setFld_kept, ↓State.raise_kept, ↓State.updatePins_kept, ↓State.maskRegs_kept, ↓State.endJobs_kept, ↓kept_ite, ↓kept_foldl, kept_mk, kept_fold, ite_self])))
theorem State.softReset_kept (s : State) : (State.softReset s).kept = s.kept := by
  unfold State.softReset
  (try simp (disch := (first | (intros; rfl) | (intros; (try simp only [↓State.hostReset_kept, ↓kept_ite, ↓kept_foldl, kept_mk, kept_fold, ite_self]) <;> repeat' (split <;> (try rfl) <;> (try simp only [↓State.hostReset_kept, ↓kept_ite, ↓kept_foldl, kept_mk, kept_fold, ite_self]))))) only [↓State.hostReset_kept, ↓kept_ite, ↓kept_foldl, kept_mk, kept_fold, ite_self]) <;> (repeat' (split <;> (try simp (disch := (first | (intros; rfl) | (intros; (try simp only [↓State.hostReset_kept, ↓kept_ite, ↓kept_foldl, kept_mk, kept_fold, ite_self]) <;> repeat' (split <;> (try rfl) <;> (try simp only [↓State.hostReset_kept, ↓kept_ite, ↓kept_foldl, kept_mk, kept_fold, ite_self]))))) only [↓State.hostReset_kept, ↓kept_ite, ↓kept_foldl, kept_mk, kept_fold, ite_self])))
theorem State.pfailFall_kept (s : State) : (State.pfailFall s).kept = s.kept := by
  unfold State.pfailFall
  (try simp (disch := (first | (intros; rfl) | (intros; (try simp only [↓State.setFld_kept, ↓State.progress_kept, ↓State.count_kept, ↓State.jrec_kept, ↓kept_ite, ↓kept_foldl, kept_mk, kept_fold, ite_self]) <;> repeat' (split <;> (try rfl) <;> (try simp only [↓State.setFld_kept, ↓State.progress_kept, ↓State.count_kept, ↓State.jrec_kept, ↓kept_ite, ↓kept_foldl, kept_mk, kept_fold, ite_self]))))) only [↓State.setFld_kept, ↓State.progress_kept, ↓State.count_kept, ↓State.jrec_kept, ↓kept_ite, ↓kept_foldl, kept_mk, kept_fold, ite_self]) <;> (repeat' (split <;> (try simp (disch := (first | (intros; rfl) | (intros; (try simp only [↓State.setFld_kept, ↓State.progress_kept, ↓State.count_kept, ↓State.jrec_kept, ↓kept_ite, ↓kept_foldl, kept_mk, kept_fold, ite_self]) <;> repeat' (split <;> (try rfl) <;> (try simp only [↓State.setFld_kept, ↓State.progress_kept, ↓State.count_kept, ↓State.jrec_kept, ↓kept_ite, ↓kept_foldl, kept_mk, kept_fold, ite_self]))))) only [↓State.setFld_kept, ↓State.progress_kept, ↓State.count_kept, ↓State.jrec_kept, ↓kept_ite, ↓kept_foldl, kept_mk, kept_fold, ite_self])))
theorem State.pauseHost_kept (s : State) (x1 : Nat) (x2 : Nat) : (State.pauseHost s x1 x2).kept = s.kept := by
  unfold State.pauseHost
  (try simp (disch := (first | (intros; rfl) | (intros; (try simp only [↓State.setFld_kept, ↓kept_ite, ↓kept_foldl, kept_mk, kept_fold, ite_self]) <;> repeat' (split <;> (try rfl) <;> (try simp only [↓State.setFld_kept, ↓kept_ite, ↓kept_foldl, kept_mk, kept_fold, ite_self]))))) only [↓State.setFld_kept, ↓kept_ite, ↓kept_foldl, kept_mk, kept_fold, ite_self]) <;> (repeat' (split <;> (try simp (disch := (first | (intros; rfl) | (intros; (try simp only [↓State.setFld_kept, ↓kept_ite, ↓kept_foldl, kept_mk, kept_fold, ite_self]) <;> repeat' (split <;> (try rfl) <;> (try simp only [↓State.setFld_kept, ↓kept_ite, ↓kept_foldl, kept_mk, kept_fold, ite_self]))))) only [↓State.setFld_kept, ↓kept_ite, ↓kept_foldl, kept_mk, kept_fold, ite_self])))
theorem State.hostDown_kept (s : State) (x1 : Nat) : (State.hostDown s x1).kept = s.kept := by
  unfold State.hostDown
  simp only [↓State.pauseHost_kept, ↓State.setFld_kept, ↓State.updateHeld_kept, ↓State.linkEv_kept, ↓kept_ite, ↓kept_foldl, kept_mk, kept_fold, ite_self]
theorem State.closeStanding_kept (s : State) (x1 : Job) : (State.closeStanding s x1).kept = s.kept := by
  unfold State.closeStanding
  (try simp (disch := (first | (intros; rfl) | (intros; (try simp only [↓State.endStream_kept, ↓State.coreSettle_kept, ↓State.modCore_kept, ↓State.complete_kept, ↓State.updateFreezeRegs_kept, ↓State.dropArms_kept, ↓State.recFinish_kept, ↓kept_ite, ↓kept_foldl, kept_mk, kept_fold, ite_self]) <;> repeat' (split <;> (try rfl) <;> (try simp only [↓State.endStream_kept, ↓State.coreSettle_kept, ↓State.modCore_kept, ↓State.complete_kept, ↓State.updateFreezeRegs_kept, ↓State.dropArms_kept, ↓State.recFinish_kept, ↓kept_ite, ↓kept_foldl, kept_mk, kept_fold, ite_self]))))) only [↓State.endStream_kept, ↓State.coreSettle_kept, ↓State.modCore_kept, ↓State.complete_kept, ↓State.updateFreezeRegs_kept, ↓State.dropArms_kept, ↓State.recFinish_kept, ↓kept_ite, ↓kept_foldl, kept_mk, kept_fold, ite_self]) <;> (repeat' (split <;> (try simp (disch := (first | (intros; rfl) | (intros; (try simp only [↓State.endStream_kept, ↓State.coreSettle_kept, ↓State.modCore_kept, ↓State.complete_kept, ↓State.updateFreezeRegs_kept, ↓State.dropArms_kept, ↓State.recFinish_kept, ↓kept_ite, ↓kept_foldl, kept_mk, kept_fold, ite_self]) <;> repeat' (split <;> (try rfl) <;> (try simp only [↓State.endStream_kept, ↓State.coreSettle_kept, ↓State.modCore_kept, ↓State.complete_kept, ↓State.updateFreezeRegs_kept, ↓State.dropArms_kept, ↓State.recFinish_kept, ↓kept_ite, ↓kept_foldl, kept_mk, kept_fold, ite_self]))))) only [↓State.endStream_kept, ↓State.coreSettle_kept, ↓State.modCore_kept, ↓State.complete_kept, ↓State.updateFreezeRegs_kept, ↓State.dropArms_kept, ↓State.recFinish_kept, ↓kept_ite, ↓kept_foldl, kept_mk, kept_fold, ite_self])))
theorem State.settleQuiesces_kept (s : State) : (State.settleQuiesces s).kept = s.kept := by
  unfold State.settleQuiesces
  (try simp (disch := (first | (intros; rfl) | (intros; (try simp only [↓State.complete_kept, ↓kept_ite, ↓kept_foldl, kept_mk, kept_fold, ite_self]) <;> repeat' (split <;> (try rfl) <;> (try simp only [↓State.complete_kept, ↓kept_ite, ↓kept_foldl, kept_mk, kept_fold, ite_self]))))) only [↓State.complete_kept, ↓kept_ite, ↓kept_foldl, kept_mk, kept_fold, ite_self]) <;> (repeat' (split <;> (try simp (disch := (first | (intros; rfl) | (intros; (try simp only [↓State.complete_kept, ↓kept_ite, ↓kept_foldl, kept_mk, kept_fold, ite_self]) <;> repeat' (split <;> (try rfl) <;> (try simp only [↓State.complete_kept, ↓kept_ite, ↓kept_foldl, kept_mk, kept_fold, ite_self]))))) only [↓State.complete_kept, ↓kept_ite, ↓kept_foldl, kept_mk, kept_fold, ite_self])))
theorem quiesceApply_kept (s : State) (x1 : Nat) (x2 : Desc) (x3 : Nat) : (quiesceApply s x1 x2 x3).kept = s.kept := by
  unfold quiesceApply
  (try simp (disch := (first | (intros; rfl) | (intros; (try simp only [↓State.complete_kept, ↓State.slicesReset_kept, ↓State.closeStanding_kept, ↓State.settleQuiesces_kept, ↓State.softReset_kept, ↓kept_ite, ↓kept_foldl, kept_mk, kept_fold, ite_self]) <;> repeat' (split <;> (try rfl) <;> (try simp only [↓State.complete_kept, ↓State.slicesReset_kept, ↓State.closeStanding_kept, ↓State.settleQuiesces_kept, ↓State.softReset_kept, ↓kept_ite, ↓kept_foldl, kept_mk, kept_fold, ite_self]))))) only [↓State.complete_kept, ↓State.slicesReset_kept, ↓State.closeStanding_kept, ↓State.settleQuiesces_kept, ↓State.softReset_kept, ↓kept_ite, ↓kept_foldl, kept_mk, kept_fold, ite_self]) <;> (repeat' (split <;> (try simp (disch := (first | (intros; rfl) | (intros; (try simp only [↓State.complete_kept, ↓State.slicesReset_kept, ↓State.closeStanding_kept, ↓State.settleQuiesces_kept, ↓State.softReset_kept, ↓kept_ite, ↓kept_foldl, kept_mk, kept_fold, ite_self]) <;> repeat' (split <;> (try rfl) <;> (try simp only [↓State.complete_kept, ↓State.slicesReset_kept, ↓State.closeStanding_kept, ↓State.settleQuiesces_kept, ↓State.softReset_kept, ↓kept_ite, ↓kept_foldl, kept_mk, kept_fold, ite_self]))))) only [↓State.complete_kept, ↓State.slicesReset_kept, ↓State.closeStanding_kept, ↓State.settleQuiesces_kept, ↓State.softReset_kept, ↓kept_ite, ↓kept_foldl, kept_mk, kept_fold, ite_self])))
theorem shedApply_kept (s : State) (x1 : Nat) (x2 : Desc) (x3 : Nat) : (shedApply s x1 x2 x3).kept = s.kept := by
  unfold shedApply
  simp only [↓State.complete_kept]
  refine kept_foldl _ _ (fun t p => ?_) s
  split
  · exact State.modJob_kept _ _ _ (fun _ => rfl)
  · rfl
theorem journalApply_kept (s : State) (x1 : Nat) (x2 : Desc) (x3 : Nat) : (journalApply s x1 x2 x3).kept = s.kept := by
  unfold journalApply
  simp only [↓State.hostIo_kept, ↓State.complete_kept, ↓State.useFrees_kept, ↓kept_ite, ↓kept_foldl, kept_mk, kept_fold, ite_self]
theorem State.fetched_kept (s : State) (x1 : Nat) : (State.fetched s x1).kept = s.kept := by
  unfold State.fetched
  simp only [↓State.setFld_kept, ↓kept_ite, ↓kept_foldl, kept_mk, kept_fold, ite_self]
theorem State.refuse_kept (s : State) (x1 : Desc) (x2 : Refuse) (x3 : Bool) : (State.refuse s x1 x2 x3).kept = s.kept := by
  unfold State.refuse
  simp only [↓State.incWrap_kept, ↓State.setFld_kept, ↓State.count_kept, ↓State.postEntry_kept, ↓State.jrec_kept, ↓kept_ite, ↓kept_foldl, kept_mk, kept_fold, ite_self]
theorem State.dropFetch_kept (s : State) (x1 : Nat) : (State.dropFetch s x1).kept = s.kept := by
  unfold State.dropFetch
  simp only [↓State.setFld_kept, ↓kept_ite, ↓kept_foldl, kept_mk, kept_fold, ite_self]
theorem State.fetchFailed_kept (s : State) (x1 : Nat) : (State.fetchFailed s x1).kept = s.kept := by
  unfold State.fetchFailed
  simp only [↓State.setFld_kept, ↓kept_ite, ↓kept_foldl, kept_mk, kept_fold, ite_self]
theorem State.dieFault_kept (s : State) (onset d : Nat) : (s.dieFault onset d).kept = s.kept := by
  unfold State.dieFault
  refine (kept_foldl _ _ (fun t n => State.modSlot_kept _ _ _) _).trans (State.fault_kept ..)
theorem State.converterTrip_kept (s : State) (x1 : Nat) : (State.converterTrip s x1).kept = s.kept := by
  unfold State.converterTrip
  (try simp (disch := (first | (intros; rfl) | (intros; (try simp only [↓State.modDue_kept, ↓State.dieFault_kept, ↓State.setRun_kept, ↓State.endCover_kept, ↓kept_ite, ↓kept_foldl, kept_mk, kept_fold, ite_self]) <;> repeat' (split <;> (try rfl) <;> (try simp only [↓State.modDue_kept, ↓State.dieFault_kept, ↓State.setRun_kept, ↓State.endCover_kept, ↓kept_ite, ↓kept_foldl, kept_mk, kept_fold, ite_self]))))) only [↓State.modDue_kept, ↓State.dieFault_kept, ↓State.setRun_kept, ↓State.endCover_kept, ↓kept_ite, ↓kept_foldl, kept_mk, kept_fold, ite_self]) <;> (repeat' (split <;> (try simp (disch := (first | (intros; rfl) | (intros; (try simp only [↓State.modDue_kept, ↓State.dieFault_kept, ↓State.setRun_kept, ↓State.endCover_kept, ↓kept_ite, ↓kept_foldl, kept_mk, kept_fold, ite_self]) <;> repeat' (split <;> (try rfl) <;> (try simp only [↓State.modDue_kept, ↓State.dieFault_kept, ↓State.setRun_kept, ↓State.endCover_kept, ↓kept_ite, ↓kept_foldl, kept_mk, kept_fold, ite_self]))))) only [↓State.modDue_kept, ↓State.dieFault_kept, ↓State.setRun_kept, ↓State.endCover_kept, ↓kept_ite, ↓kept_foldl, kept_mk, kept_fold, ite_self])))
end Sys2Proof.Machine
end

