-- ==== Sys2Proof/Laws/JobsKept.lean ====
section
/-! SUPPORT. What `Laws/Kept.lean` says of the shared operations, for the start and the security event of every job, and
for starting a job and the jobs that wait. -/

set_option linter.unusedSimpArgs false
set_option linter.unusedVariables false

namespace Sys2Proof.Machine

theorem tableLoad_kept (n : Nat) (load : State → Desc → State) (fail : State → Desc → Nat → State) (hl : ∀ s d, (load s d).kept = s.kept) (hf : ∀ s d x, (fail s d x).kept = s.kept) (s : State) (d : Desc) (job : Nat) : (tableLoad n load fail s d job).kept = s.kept := by
  unfold tableLoad
  split
  · exact (State.complete_kept ..).trans (hf ..)
  · exact (State.complete_kept ..).trans (hl ..)
theorem cfSlotSource_start_kept (s : State) (f : Nat) (d : Desc) (id : Nat) : (cfSlotSource.start s f d id).kept = s.kept := (State.complete_kept ..).trans (slotSourceApply_kept ..)
theorem cfWindowTable_start_kept (s : State) (f : Nat) (d : Desc) (id : Nat) : (cfWindowTable.start s f d id).kept = s.kept := tableLoad_kept _ _ _ (fun s d => windowTableLoad_kept s d) (fun s d x => windowTableFail_kept s d x) ..
theorem cfMaskTable_start_kept (s : State) (f : Nat) (d : Desc) (id : Nat) : (cfMaskTable.start s f d id).kept = s.kept := (State.complete_kept ..).trans (maskTableLoad_kept ..)
theorem cfFirBank_start_kept (s : State) (f : Nat) (d : Desc) (id : Nat) : (cfFirBank.start s f d id).kept = s.kept := tableLoad_kept _ _ _ (fun s d => firBankLoad_kept s d) (fun s d x => firBankFail_kept s d x) ..
theorem cfGainBank_start_kept (s : State) (f : Nat) (d : Desc) (id : Nat) : (cfGainBank.start s f d id).kept = s.kept := tableLoad_kept _ _ _ (fun s d => gainBankLoad_kept s d) (fun s d x => gainBankFail_kept s d x) ..
theorem cfSqRing_start_kept (s : State) (f : Nat) (d : Desc) (id : Nat) : (cfSqRing.start s f d id).kept = s.kept := (State.complete_kept ..).trans (sqRingApply_kept ..)
theorem cfCqRing_start_kept (s : State) (f : Nat) (d : Desc) (id : Nat) : (cfCqRing.start s f d id).kept = s.kept := (State.complete_kept ..).trans (cqRingApply_kept ..)
theorem cfEvRing_start_kept (s : State) (f : Nat) (d : Desc) (id : Nat) : (cfEvRing.start s f d id).kept = s.kept := (State.complete_kept ..).trans (evRingApply_kept ..)
theorem cfPalette_start_kept (s : State) (f : Nat) (d : Desc) (id : Nat) : (cfPalette.start s f d id).kept = s.kept := tableLoad_kept _ _ _ (fun s d => paletteLoad_kept s d) (fun s d x => paletteFail_kept s d x) ..
theorem jobUnknown_start_kept (s : State) (f : Nat) (d : Desc) (id : Nat) : (jobUnknown.start s f d id).kept = s.kept := rfl
theorem jobCommit_start_kept (s : State) (f : Nat) (d : Desc) (id : Nat) : (jobCommit.start s f d id).kept = s.kept := commitApply_kept ..
theorem jobStreamOpen_start_kept (s : State) (f : Nat) (d : Desc) (id : Nat) : (jobStreamOpen.start s f d id).kept = s.kept := streamApply_kept ..
theorem jobStreamClose_start_kept (s : State) (f : Nat) (d : Desc) (id : Nat) : (jobStreamClose.start s f d id).kept = s.kept := streamCloseApply_kept ..
theorem jobArm_start_kept (e : Desc) (s : State) (f : Nat) (d : Desc) (id : Nat) : ((jobArm e).start s f d id).kept = s.kept := armApply_kept ..
theorem jobExtract_start_kept (s : State) (f : Nat) (d : Desc) (id : Nat) : (jobExtract.start s f d id).kept = s.kept := extractApply_kept ..
theorem jobRecordStart_start_kept (s : State) (f : Nat) (d : Desc) (id : Nat) : (jobRecordStart.start s f d id).kept = s.kept := recApply_kept ..
theorem jobRecordStop_start_kept (s : State) (f : Nat) (d : Desc) (id : Nat) : (jobRecordStop.start s f d id).kept = s.kept := recStopApply_kept ..
theorem jobCoreLoad_start_kept (s : State) (f : Nat) (d : Desc) (id : Nat) : (jobCoreLoad.start s f d id).kept = s.kept := coreLoadDo_kept ..
theorem jobCoreRun_start_kept (e : Desc) (s : State) (f : Nat) (d : Desc) (id : Nat) : ((jobCoreRun e).start s f d id).kept = s.kept := coreRunApply_kept ..
theorem jobCalibrate_start_kept (s : State) (f : Nat) (d : Desc) (id : Nat) : (jobCalibrate.start s f d id).kept = s.kept := calibrateApply_kept ..
theorem jobSnapshot_start_kept (s : State) (f : Nat) (d : Desc) (id : Nat) : (jobSnapshot.start s f d id).kept = s.kept := snapApply_kept ..
theorem jobBist_start_kept (s : State) (f : Nat) (d : Desc) (id : Nat) : (jobBist.start s f d id).kept = s.kept := bistApply_kept ..
theorem jobAttest_start_kept (s : State) (f : Nat) (d : Desc) (id : Nat) : (jobAttest.start s f d id).kept = s.kept := attestApply_kept ..
theorem koGenerate_start_kept (s : State) (f : Nat) (d : Desc) (id : Nat) : (koGenerate.start s f d id).kept = s.kept := generateApply_kept ..
theorem koImport_start_kept (s : State) (f : Nat) (d : Desc) (id : Nat) : (koImport.start s f d id).kept = s.kept := importApply_kept ..
theorem koExport_start_kept (s : State) (f : Nat) (d : Desc) (id : Nat) : (koExport.start s f d id).kept = s.kept := exportApply_kept ..
theorem koDelete_start_kept (s : State) (f : Nat) (d : Desc) (id : Nat) : (koDelete.start s f d id).kept = s.kept := deleteApply_kept ..
theorem koOwner_start_kept (s : State) (f : Nat) (d : Desc) (id : Nat) : (koOwner.start s f d id).kept = s.kept := ownerApply_kept ..
theorem koSvn_start_kept (s : State) (f : Nat) (d : Desc) (id : Nat) : (koSvn.start s f d id).kept = s.kept := svnApply_kept ..
theorem koZeroise_start_kept (s : State) (f : Nat) (d : Desc) (id : Nat) : (koZeroise.start s f d id).kept = s.kept := zeroiseApply_kept ..
theorem koReseed_start_kept (s : State) (f : Nat) (d : Desc) (id : Nat) : (koReseed.start s f d id).kept = s.kept := reseedApply_kept s d id
theorem koRevoke_start_kept (s : State) (f : Nat) (d : Desc) (id : Nat) : (koRevoke.start s f d id).kept = s.kept := revokeApply_kept ..
theorem jobMove_start_kept (s : State) (f : Nat) (d : Desc) (id : Nat) : (jobMove.start s f d id).kept = s.kept := moveApply_kept ..
theorem jobVideo_start_kept (s : State) (f : Nat) (d : Desc) (id : Nat) : (jobVideo.start s f d id).kept = s.kept := videoApply_kept ..
theorem jobHkTable_start_kept (s : State) (f : Nat) (d : Desc) (id : Nat) : (jobHkTable.start s f d id).kept = s.kept := hkTableApply_kept ..
theorem jobQuiesce_start_kept (s : State) (f : Nat) (d : Desc) (id : Nat) : (jobQuiesce.start s f d id).kept = s.kept := quiesceApply_kept ..
theorem jobRestripe_start_kept (s : State) (f : Nat) (d : Desc) (id : Nat) : (jobRestripe.start s f d id).kept = s.kept := restripeApply_kept ..
theorem jobCheckBuffer_start_kept (s : State) (f : Nat) (d : Desc) (id : Nat) : (jobCheckBuffer.start s f d id).kept = s.kept := checkBufApply_kept ..
theorem jobCheckVerify_start_kept (s : State) (f : Nat) (d : Desc) (id : Nat) : (jobCheckVerify.start s f d id).kept = s.kept := checkVerApply_kept ..
theorem jobFaultAck_start_kept (s : State) (f : Nat) (d : Desc) (id : Nat) : (jobFaultAck.start s f d id).kept = s.kept := ackApply_kept ..
theorem jobFaultReturn_start_kept (s : State) (f : Nat) (d : Desc) (id : Nat) : (jobFaultReturn.start s f d id).kept = s.kept := returnApply_kept ..
theorem jobJournal_start_kept (s : State) (f : Nat) (d : Desc) (id : Nat) : (jobJournal.start s f d id).kept = s.kept := journalApply_kept ..
theorem jobShed_start_kept (s : State) (f : Nat) (d : Desc) (id : Nat) : (jobShed.start s f d id).kept = s.kept := shedApply_kept ..
theorem cfJob_start_kept (e : Desc) (s : State) (f : Nat) (d : Desc) (id : Nat) : ((cfJob e).start s f d id).kept = s.kept := by
  unfold cfJob
  split
  · exact cfSlotSource_start_kept ..
  · exact cfWindowTable_start_kept ..
  · exact cfMaskTable_start_kept ..
  · exact cfFirBank_start_kept ..
  · exact cfGainBank_start_kept ..
  · exact cfSqRing_start_kept ..
  · exact cfCqRing_start_kept ..
  · exact cfEvRing_start_kept ..
  · exact cfPalette_start_kept ..
  · exact jobUnknown_start_kept ..

theorem koJob_start_kept (e : Desc) (s : State) (f : Nat) (d : Desc) (id : Nat) : ((koJob e).start s f d id).kept = s.kept := by
  unfold koJob
  split
  · exact koGenerate_start_kept ..
  · exact koImport_start_kept ..
  · exact koExport_start_kept ..
  · exact koDelete_start_kept ..
  · exact koOwner_start_kept ..
  · exact koSvn_start_kept ..
  · exact koZeroise_start_kept ..
  · exact koReseed_start_kept ..
  · exact koRevoke_start_kept ..
  · exact jobUnknown_start_kept ..

theorem ckJob_start_kept (e : Desc) (s : State) (f : Nat) (d : Desc) (id : Nat) : ((ckJob e).start s f d id).kept = s.kept := by
  unfold ckJob
  split
  · exact jobCheckBuffer_start_kept ..
  · exact jobCheckVerify_start_kept ..
  · exact jobUnknown_start_kept ..

theorem jobOf_start_kept {e : Desc} {k : JobDef} (h : jobOf e = some k) (s : State) (f : Nat) (d : Desc) (id : Nat) : (k.start s f d id).kept = s.kept := by
  unfold jobOf at h
  split at h
  · cases h; exact cfJob_start_kept ..
  · cases h; exact jobCommit_start_kept ..
  · cases h; exact jobStreamOpen_start_kept ..
  · cases h; exact jobStreamClose_start_kept ..
  · cases h; exact jobArm_start_kept ..
  · cases h; exact jobExtract_start_kept ..
  · cases h; exact jobRecordStart_start_kept ..
  · cases h; exact jobRecordStop_start_kept ..
  · cases h; exact jobCoreLoad_start_kept ..
  · cases h; exact jobCoreRun_start_kept ..
  · cases h; exact jobCalibrate_start_kept ..
  · cases h; exact jobSnapshot_start_kept ..
  · cases h; exact jobBist_start_kept ..
  · cases h; exact jobAttest_start_kept ..
  · cases h; exact koJob_start_kept ..
  · cases h; exact jobMove_start_kept ..
  · cases h; exact jobVideo_start_kept ..
  · cases h; exact jobHkTable_start_kept ..
  · cases h; exact jobQuiesce_start_kept ..
  · cases h; exact jobRestripe_start_kept ..
  · cases h; exact ckJob_start_kept ..
  · cases h; split
    · exact jobFaultReturn_start_kept ..
    · exact jobFaultAck_start_kept ..
  · cases h; exact jobJournal_start_kept ..
  · cases h; exact jobShed_start_kept ..
  · cases h

theorem jobOf_secEv_kept {e : Desc} {k : JobDef} (h : jobOf e = some k) (s : State) (d : Desc) : (k.secEv s d).kept = s.kept := by
  unfold jobOf at h
  split at h
  · cases h; unfold cfJob; split <;> rfl
  · cases h; rfl
  · cases h; rfl
  · cases h; rfl
  · cases h; rfl
  · cases h; rfl
  · cases h; exact recSecEv_kept ..
  · cases h; rfl
  · cases h; exact coreLoadSecEv_kept ..
  · cases h; rfl
  · cases h; rfl
  · cases h; rfl
  · cases h; rfl
  · cases h; rfl
  · cases h; unfold koJob; split <;> rfl
  · cases h; rfl
  · cases h; rfl
  · cases h; rfl
  · cases h; rfl
  · cases h; rfl
  · cases h; unfold ckJob; split <;> rfl
  · cases h; split <;> rfl
  · cases h; rfl
  · cases h; rfl
  · cases h
theorem State.startJob_kept (s : State) (id : Nat) : (s.startJob id).kept = s.kept := by
  unfold State.startJob
  split
  · rfl
  · rename_i j _
    have e : (s.modJob id (fun x => { x with waiting := false, opened := x.standing })).kept = s.kept := State.modJob_kept _ _ _ (fun _ => rfl)
    simp only
    split
    · rename_i k hk
      exact (jobOf_start_kept hk ..).trans e
    · exact e
theorem State.startWaiting_kept (s : State) (r : Nat) : (s.startWaiting r).kept = s.kept := by
  unfold State.startWaiting
  refine kept_foldl _ _ (fun t j => ?_) _
  split
  · rw [kept_ite, State.startJob_kept, ite_self]
  · rfl

end Sys2Proof.Machine
end

