-- ==== Sys2Proof/Laws/Memory.lean ====
section
/-! SUPPORT. The sparse memories of the block (HBM and SRAM bytes): read after write, and the canonical form. -/

namespace Sys2Proof.Machine

theorem cellGet_cellDel_same (l : List (Nat × Byte)) (a : Nat) : cellGet (cellDel l a) a = 0#8 := by
  induction l with
  | nil => rfl
  | cons p t ih =>
    obtain ⟨b, w⟩ := p
    by_cases h : b = a <;> simp [cellDel, cellGet, h, ih]

theorem cellGet_cellDel_other (l : List (Nat × Byte)) {a b : Nat} (h : b ≠ a) : cellGet (cellDel l a) b = cellGet l b := by
  induction l with
  | nil => rfl
  | cons p t ih =>
    obtain ⟨c, w⟩ := p
    by_cases hc : c = a
    · have : c ≠ b := fun e => h (e.symm.trans hc)
      simp [cellDel, cellGet, hc, ih]
      intro e
      exact absurd e.symm h
    · simp [cellDel, cellGet, hc, ih]

/-- Every listed address is above `a`. -/
def Above (a : Nat) (l : List (Nat × Byte)) : Prop := ∀ p ∈ l, a < p.1

theorem Memory.wf_cons {a : Nat} {w : Byte} {t : List (Nat × Byte)} :
    Memory.wf ((a, w) :: t) = true ↔ w ≠ 0#8 ∧ Above a t ∧ Memory.wf t = true := by
  induction t generalizing a w with
  | nil => simp [Memory.wf, Above]
  | cons p t ih =>
    obtain ⟨b, x⟩ := p
    have hb := @ih b x
    simp only [Memory.wf, Bool.and_eq_true, bne_iff_ne, decide_eq_true_eq]
    constructor
    · rintro ⟨⟨hw, hab⟩, hr⟩
      refine ⟨hw, ?_, hr⟩
      intro p hp
      rcases List.mem_cons.mp hp with rfl | hp
      · exact hab
      · exact Nat.lt_trans hab ((hb.mp hr).2.1 p hp)
    · rintro ⟨hw, ha, hr⟩
      exact ⟨⟨hw, ha (b, x) (List.mem_cons_self ..)⟩, hr⟩

theorem cellDel_mem {l : List (Nat × Byte)} {a : Nat} {p : Nat × Byte} (h : p ∈ cellDel l a) : p ∈ l := by
  induction l with
  | nil => exact h
  | cons q t ih =>
    obtain ⟨b, w⟩ := q
    simp only [cellDel] at h
    split at h
    · exact List.mem_cons_of_mem _ (ih h)
    · rcases List.mem_cons.mp h with rfl | h
      · exact List.mem_cons_self ..
      · exact List.mem_cons_of_mem _ (ih h)

/-- Deleting keeps the canonical form. -/
theorem cellDel_wf {l : List (Nat × Byte)} (a : Nat) (h : Memory.wf l = true) : Memory.wf (cellDel l a) = true := by
  induction l with
  | nil => exact h
  | cons q t ih =>
    obtain ⟨b, w⟩ := q
    obtain ⟨hw, ha, ht⟩ := Memory.wf_cons.mp h
    simp only [cellDel]
    split
    · exact ih ht
    · exact Memory.wf_cons.mpr ⟨hw, fun p hp => ha p (cellDel_mem hp), ih ht⟩

theorem cellIns_mem {l : List (Nat × Byte)} {a : Nat} {v : Byte} {p : Nat × Byte} (h : p ∈ cellIns l a v) :
    p = (a, v) ∨ p ∈ l := by
  induction l with
  | nil => exact .inl (List.mem_singleton.mp h)
  | cons q t ih =>
    obtain ⟨b, w⟩ := q
    simp only [cellIns] at h
    split at h
    · exact (List.mem_cons.mp h).imp id id
    · rcases List.mem_cons.mp h with rfl | h
      · exact .inr (List.mem_cons_self ..)
      · exact (ih h).imp id (List.mem_cons_of_mem _)

theorem cellIns_wf {l : List (Nat × Byte)} {a : Nat} {v : Byte} (hv : v ≠ 0#8) (hn : ∀ p ∈ l, p.1 ≠ a)
    (h : Memory.wf l = true) : Memory.wf (cellIns l a v) = true := by
  induction l with
  | nil => simpa [cellIns, Memory.wf] using hv
  | cons q t ih =>
    obtain ⟨b, w⟩ := q
    obtain ⟨hw, ha, ht⟩ := Memory.wf_cons.mp h
    have hb : b ≠ a := hn (b, w) (List.mem_cons_self ..)
    simp only [cellIns]
    split
    · rename_i hlt
      refine Memory.wf_cons.mpr ⟨hv, ?_, h⟩
      intro p hp
      rcases List.mem_cons.mp hp with rfl | hp
      · exact hlt
      · exact Nat.lt_trans hlt (ha p hp)
    · rename_i hge
      refine Memory.wf_cons.mpr ⟨hw, ?_, ih (fun p hp => hn p (List.mem_cons_of_mem _ hp)) ht⟩
      intro p hp
      rcases cellIns_mem hp with rfl | hp
      · simp only; omega
      · exact ha p hp

theorem cellDel_ne {l : List (Nat × Byte)} {a : Nat} : ∀ p ∈ cellDel l a, p.1 ≠ a := by
  induction l with
  | nil => intro p hp; cases hp
  | cons q t ih =>
    obtain ⟨b, w⟩ := q
    intro p hp
    simp only [cellDel] at hp
    split at hp
    · exact ih p hp
    · rename_i hb
      rcases List.mem_cons.mp hp with rfl | hp
      · exact hb
      · exact ih p hp

/-- A write keeps the canonical form. -/
theorem cellPut_wf {l : List (Nat × Byte)} (a : Nat) (v : Byte) (h : Memory.wf l = true) :
    Memory.wf (cellPut l a v) = true := by
  simp only [cellPut]
  split
  · exact cellDel_wf a h
  · rename_i hv
    exact cellIns_wf hv cellDel_ne (cellDel_wf a h)

theorem cellGet_cellIns_same {l : List (Nat × Byte)} {a : Nat} (v : Byte) (hn : ∀ p ∈ l, p.1 ≠ a) :
    cellGet (cellIns l a v) a = v := by
  induction l with
  | nil => simp [cellIns, cellGet]
  | cons q t ih =>
    obtain ⟨b, w⟩ := q
    have hb : b ≠ a := hn (b, w) (List.mem_cons_self ..)
    simp only [cellIns]
    split
    · simp [cellGet]
    · simp [cellGet, hb, ih (fun p hp => hn p (List.mem_cons_of_mem _ hp))]

theorem cellGet_cellIns_other (l : List (Nat × Byte)) {a b : Nat} (v : Byte) (h : b ≠ a) :
    cellGet (cellIns l a v) b = cellGet l b := by
  have h' : a ≠ b := fun e => h e.symm
  induction l with
  | nil => simp [cellIns, cellGet, h']
  | cons q t ih =>
    obtain ⟨c, w⟩ := q
    simp only [cellIns]
    split
    · simp [cellGet, h']
    · simp only [cellGet, ih]

/-- A byte written reads back. -/
@[simp] theorem cellGet_cellPut_same (l : List (Nat × Byte)) (a : Nat) (v : Byte) : cellGet (cellPut l a v) a = v := by
  simp only [cellPut]
  split
  · rename_i h
    rw [h, cellGet_cellDel_same]
  · exact cellGet_cellIns_same v cellDel_ne

/-- A write leaves every other byte alone. -/
theorem cellGet_cellPut_other (l : List (Nat × Byte)) {a b : Nat} (v : Byte) (h : b ≠ a) :
    cellGet (cellPut l a v) b = cellGet l b := by
  simp only [cellPut]
  split
  · exact cellGet_cellDel_other l h
  · rw [cellGet_cellIns_other _ v h, cellGet_cellDel_other l h]

/-- One byte written to the HBM keeps its canonical form. -/
theorem Hbm.write1_wf {h : Hbm} (slot a v : Nat) (hw : Memory.wf h.cells = true) :
    Memory.wf (h.write1 slot a v).cells = true := by
  simp only [Hbm.write1]
  split
  · exact hw
  · exact cellPut_wf _ _ hw

/-- Every write to the HBM keeps its canonical form. -/
theorem hbmWrite_wf {s : State} (a : Nat) (l : List Nat) (h : Memory.wf s.hbm.cells = true) :
    Memory.wf (s.hbmWrite a l).hbm.cells = true := by
  induction l generalizing s a with
  | nil => exact h
  | cons b t ih =>
    simp only [State.hbmWrite]
    split
    · exact ih _ (Hbm.write1_wf _ _ _ h)
    · exact ih _ h

/-- The memory right after reset is in canonical form. -/
theorem reset_memory_wf : Memory.wf State.reset.hbm.cells = true ∧ Memory.wf State.reset.sram = true := by decide

/-- A write to the HBM touches no register. -/
@[simp] theorem hbmWrite_regs (s : State) (a : Nat) (l : List Nat) : (s.hbmWrite a l).regs = s.regs := by
  induction l generalizing s a with
  | nil => rfl
  | cons b t ih =>
    simp only [State.hbmWrite, ih]
    split <;> rfl

/-- A write to the HBM that reaches no byte beyond `n` leaves the bytes from there on alone. -/
theorem hbmWrite_frame (s : State) (a : Nat) (l : List Nat) {b : Nat} (h : b < a ∨ a + l.length ≤ b) :
    cellGet (s.hbmWrite a l).hbm.cells b = cellGet s.hbm.cells b := by
  induction l generalizing s a with
  | nil => rfl
  | cons v t ih =>
    simp only [List.length_cons] at h
    have hb : b ≠ a := by omega
    simp only [State.hbmWrite]
    rw [ih _ _ (by omega)]
    split
    · simp only [Hbm.write1]
      split
      · rfl
      · exact cellGet_cellPut_other _ _ hb
    · rfl

end Sys2Proof.Machine
end

