-- ==== Sys2Proof/Laws/MemWf.lean ====
section
/-! SUPPORT. The operations that do store to the HBM keep its memory in canonical form: one lemma per operation. -/

set_option linter.unusedSimpArgs false
set_option linter.unusedVariables false

namespace Sys2Proof.Machine

abbrev State.memWf (s : State) : Prop := Memory.wf s.hbm.cells = true
theorem wf_ite (c : Prop) [Decidable c] (a b : State) : Memory.wf (if c then a else b).hbm.cells = if c then Memory.wf a.hbm.cells else Memory.wf b.hbm.cells := by split <;> rfl
theorem mem_of_cells {s t : State} (e : t.hbm.cells = s.hbm.cells) (h : Memory.wf s.hbm.cells = true) : t.memWf := by
  unfold State.memWf
  rw [e]
  exact h
theorem memWf_foldl {α : Type} (l : List α) (f : State → α → State) (h : ∀ t a, Memory.wf t.hbm.cells = true → Memory.wf (f t a).hbm.cells = true) {s : State} (hs : Memory.wf s.hbm.cells = true) :
    Memory.wf (l.foldl f s).hbm.cells = true := by
  induction l generalizing s with
  | nil => exact hs
  | cons a t ih => exact ih (h s a hs)
theorem State.hbmWrite_mem {s : State} (h : Memory.wf s.hbm.cells = true) (a : Nat) (l : List Nat) : Memory.wf (s.hbmWrite a l).hbm.cells = true := hbmWrite_wf a l h

theorem State.rtWrite_mem {s : State} (h : Memory.wf s.hbm.cells = true) (x1 : Nat) (x2 : List Nat) : Memory.wf (State.rtWrite s x1 x2).hbm.cells = true := by
  unfold State.rtWrite
  (try simp (maxDischargeDepth := 30) (contextual := true) only [h, memWf_foldl, wf_ite, hbm_cells_ite, ite_self, State.hbmWrite_mem, ↓State.setFill_cells]) <;> (repeat' (split <;> (try simp (maxDischargeDepth := 30) (contextual := true) only [h, memWf_foldl, wf_ite, hbm_cells_ite, ite_self, State.hbmWrite_mem, ↓State.setFill_cells])))
theorem State.writeBeatAt_mem {s : State} (h : Memory.wf s.hbm.cells = true) (x1 : Nat) (x2 : Nat) (x3 : List Nat) (x4 : Nat) (x5 : Bool) : Memory.wf (State.writeBeatAt s x1 x2 x3 x4 x5).hbm.cells = true := by
  unfold State.writeBeatAt
  have h1 := State.rtWrite_mem h (x1 * granBytes + 24 * x2) (beatBytes x3)
  have e : ∀ (g : Hbm) a b c, (g.setTag a b c).cells = g.cells := fun _ _ _ _ => rfl
  simp only [Hbm.modGran_cells, e]
  exact h1
theorem State.fillGap_mem {s : State} (h : Memory.wf s.hbm.cells = true) (j k0 n : Nat) : Memory.wf (s.fillGap j k0 n).hbm.cells = true := by
  induction n with
  | zero => exact h
  | succ n ih => exact State.writeBeatAt_mem ih ..
theorem State.ringWrite_mem {s : State} (h : Memory.wf s.hbm.cells = true) (x1 : Nat) (x2 : Nat) (x3 : Nat) (x4 : List Nat) (x5 : Nat) : Memory.wf (State.ringWrite s x1 x2 x3 x4 x5).hbm.cells = true := by
  unfold State.ringWrite
  split
  · exact h
  · extract_lets span first k prev cur here s0 s1
    clear_value cur here prev k first span
    have h0 : Memory.wf s0.hbm.cells = true := by
      simp only [s0]
      cases cur with
      | none => exact h
      | some p =>
        simp only []
        split
        · exact State.fillGap_mem h ..
        · exact h
    have h1 : Memory.wf s1.hbm.cells = true := by
      simp only [s1]
      clear_value s0
      cases cur with
      | none => simp only [State.takeGran_cells, h0]
      | some p =>
        simp only []
        split
        · exact h0
        · simp only [State.takeGran_cells, h0]
    clear_value s1
    split
    · exact h1
    · extract_lets s2 s' s3
      have h2 : Memory.wf s2.hbm.cells = true := by
        simp only [s2]
        split
        · exact State.fillGap_mem h1 ..
        · exact h1
      clear_value s2
      have h3 : Memory.wf s3.hbm.cells = true := by
        simp only [s3]
        split
        · split
          · exact h2
          · simp only [State.memEv_cells, State.setFld_cells]
            exact h2
        · exact State.writeBeatAt_mem h2 ..
      clear_value s3
      simp only [State.completeFreezes_cells]
      exact h3
theorem State.appendRecord_mem {s : State} (h : Memory.wf s.hbm.cells = true) (x1 : Nat) (x2 : Nat) (x3 : Nat) (x4 : Nat) (x5 : List Nat) : Memory.wf (State.appendRecord s x1 x2 x3 x4 x5).hbm.cells = true := by
  unfold State.appendRecord
  (try simp (maxDischargeDepth := 30) (contextual := true) only [h, memWf_foldl, wf_ite, hbm_cells_ite, ite_self, State.rtWrite_mem, ↓State.notify_cells, ↓State.streamGone_cells, ↓State.incWrap_cells, ↓State.setFld_cells, ↓State.modSlice_cells, ↓State.count_cells, ↓State.streamItem_cells]) <;> (repeat' (split <;> (try simp (maxDischargeDepth := 30) (contextual := true) only [h, memWf_foldl, wf_ite, hbm_cells_ite, ite_self, State.rtWrite_mem, ↓State.notify_cells, ↓State.streamGone_cells, ↓State.incWrap_cells, ↓State.setFld_cells, ↓State.modSlice_cells, ↓State.count_cells, ↓State.streamItem_cells])))
theorem State.writeTraceKind_mem {s : State} (h : Memory.wf s.hbm.cells = true) (x1 : Nat) (x2 : Nat) (x3 : TraceSt) (x4 : Bool) : Memory.wf (State.writeTraceKind s x1 x2 x3 x4).hbm.cells = true := by
  unfold State.writeTraceKind
  (try simp (maxDischargeDepth := 30) (contextual := true) only [h, memWf_foldl, wf_ite, hbm_cells_ite, ite_self, State.appendRecord_mem, ↓State.takeSeq_cells]) <;> (repeat' (split <;> (try simp (maxDischargeDepth := 30) (contextual := true) only [h, memWf_foldl, wf_ite, hbm_cells_ite, ite_self, State.appendRecord_mem, ↓State.takeSeq_cells])))
theorem State.writeTrace_mem {s : State} (h : Memory.wf s.hbm.cells = true) (x1 : Nat) (x2 : Bool) : Memory.wf (State.writeTrace s x1 x2).hbm.cells = true := by
  unfold State.writeTrace
  (try simp (maxDischargeDepth := 30) (contextual := true) only [h, memWf_foldl, wf_ite, hbm_cells_ite, ite_self, State.writeTraceKind_mem, ↓State.setFld_cells, ↓State.modSlice_cells]) <;> (repeat' (split <;> (try simp (maxDischargeDepth := 30) (contextual := true) only [h, memWf_foldl, wf_ite, hbm_cells_ite, ite_self, State.writeTraceKind_mem, ↓State.setFld_cells, ↓State.modSlice_cells])))
theorem State.traceFrame_mem {s : State} (h : Memory.wf s.hbm.cells = true) (x1 : Nat) (x2 : Frame) : Memory.wf (State.traceFrame s x1 x2).hbm.cells = true := by
  unfold State.traceFrame
  (try simp (maxDischargeDepth := 30) (contextual := true) only [h, memWf_foldl, wf_ite, hbm_cells_ite, ite_self, State.writeTrace_mem, ↓State.modSlice_cells]) <;> (repeat' (split <;> (try simp (maxDischargeDepth := 30) (contextual := true) only [h, memWf_foldl, wf_ite, hbm_cells_ite, ite_self, State.writeTrace_mem, ↓State.modSlice_cells])))
theorem State.writeSk_mem {s : State} (h : Memory.wf s.hbm.cells = true) (x1 : Nat) (x2 : Bool) : Memory.wf (State.writeSk s x1 x2).hbm.cells = true := by
  unfold State.writeSk
  (try simp (maxDischargeDepth := 30) (contextual := true) only [h, memWf_foldl, wf_ite, hbm_cells_ite, ite_self, State.appendRecord_mem, ↓State.setFld_cells, ↓State.takeSeq_cells, ↓State.modSlice_cells]) <;> (repeat' (split <;> (try simp (maxDischargeDepth := 30) (contextual := true) only [h, memWf_foldl, wf_ite, hbm_cells_ite, ite_self, State.appendRecord_mem, ↓State.setFld_cells, ↓State.takeSeq_cells, ↓State.modSlice_cells])))
theorem State.skFrame_mem {s : State} (h : Memory.wf s.hbm.cells = true) (x1 : Nat) (x2 : Frame) : Memory.wf (State.skFrame s x1 x2).hbm.cells = true := by
  unfold State.skFrame
  (try simp (maxDischargeDepth := 30) (contextual := true) only [h, memWf_foldl, wf_ite, hbm_cells_ite, ite_self, State.writeSk_mem, ↓State.setFld_cells, ↓State.modSlice_cells]) <;> (repeat' (split <;> (try simp (maxDischargeDepth := 30) (contextual := true) only [h, memWf_foldl, wf_ite, hbm_cells_ite, ite_self, State.writeSk_mem, ↓State.setFld_cells, ↓State.modSlice_cells])))
theorem State.cutRecords_mem {s : State} (h : Memory.wf s.hbm.cells = true) (x1 : Nat) : Memory.wf (State.cutRecords s x1).hbm.cells = true := by
  unfold State.cutRecords
  (try simp (maxDischargeDepth := 30) (contextual := true) only [h, memWf_foldl, wf_ite, hbm_cells_ite, ite_self, State.writeSk_mem, State.writeTrace_mem, ↓State.modSlice_cells]) <;> (repeat' (split <;> (try simp (maxDischargeDepth := 30) (contextual := true) only [h, memWf_foldl, wf_ite, hbm_cells_ite, ite_self, State.writeSk_mem, State.writeTrace_mem, ↓State.modSlice_cells])))
theorem State.writeDensity_mem {s : State} (h : Memory.wf s.hbm.cells = true) (x1 : Nat) (x2 : DenOut) (x3 : Bool) (x4 : Bool) (x5 : Bool) : Memory.wf (State.writeDensity s x1 x2 x3 x4 x5).hbm.cells = true := by
  unfold State.writeDensity
  (try simp (maxDischargeDepth := 30) (contextual := true) only [h, memWf_foldl, wf_ite, hbm_cells_ite, ite_self, State.appendRecord_mem, ↓State.setFld_cells, ↓State.takeSeq_cells]) <;> (repeat' (split <;> (try simp (maxDischargeDepth := 30) (contextual := true) only [h, memWf_foldl, wf_ite, hbm_cells_ite, ite_self, State.appendRecord_mem, ↓State.setFld_cells, ↓State.takeSeq_cells])))
theorem State.cutDensity_mem {s : State} (h : Memory.wf s.hbm.cells = true) (x1 : Nat) : Memory.wf (State.cutDensity s x1).hbm.cells = true := by
  unfold State.cutDensity
  (try simp (maxDischargeDepth := 30) (contextual := true) only [h, memWf_foldl, wf_ite, hbm_cells_ite, ite_self, State.writeDensity_mem, ↓State.setFld_cells, ↓State.modDen_cells]) <;> (repeat' (split <;> (try simp (maxDischargeDepth := 30) (contextual := true) only [h, memWf_foldl, wf_ite, hbm_cells_ite, ite_self, State.writeDensity_mem, ↓State.setFld_cells, ↓State.modDen_cells])))
theorem State.zoomRecord1_mem {s : State} (h : Memory.wf s.hbm.cells = true) (x1 : Nat) (x2 : Nat) (x3 : Bool) (x4 : Bool) : Memory.wf (State.zoomRecord1 s x1 x2 x3 x4).hbm.cells = true := by
  unfold State.zoomRecord1
  (try simp (maxDischargeDepth := 30) (contextual := true) only [h, memWf_foldl, wf_ite, hbm_cells_ite, ite_self, State.appendRecord_mem, ↓State.takeSeq_cells]) <;> (repeat' (split <;> (try simp (maxDischargeDepth := 30) (contextual := true) only [h, memWf_foldl, wf_ite, hbm_cells_ite, ite_self, State.appendRecord_mem, ↓State.takeSeq_cells])))
theorem State.writeZoom_mem {s : State} (h : Memory.wf s.hbm.cells = true) (x1 : Nat) (x2 : Nat) (x3 : Bool) : Memory.wf (State.writeZoom s x1 x2 x3).hbm.cells = true := by
  unfold State.writeZoom
  (try simp (maxDischargeDepth := 30) (contextual := true) only [h, memWf_foldl, wf_ite, hbm_cells_ite, ite_self, State.zoomRecord1_mem, ↓State.modZoomTun_cells, ↓State.setFld_cells]) <;> (repeat' (split <;> (try simp (maxDischargeDepth := 30) (contextual := true) only [h, memWf_foldl, wf_ite, hbm_cells_ite, ite_self, State.zoomRecord1_mem, ↓State.modZoomTun_cells, ↓State.setFld_cells])))
theorem State.zoomCut_mem {s : State} (h : Memory.wf s.hbm.cells = true) (x1 : Nat) (x2 : Nat) (x3 : Nat) : Memory.wf (State.zoomCut s x1 x2 x3).hbm.cells = true := by
  unfold State.zoomCut
  (try simp (maxDischargeDepth := 30) (contextual := true) only [h, memWf_foldl, wf_ite, hbm_cells_ite, ite_self, State.writeZoom_mem, ↓State.modZoomTun_cells]) <;> (repeat' (split <;> (try simp (maxDischargeDepth := 30) (contextual := true) only [h, memWf_foldl, wf_ite, hbm_cells_ite, ite_self, State.writeZoom_mem, ↓State.modZoomTun_cells])))
theorem State.zoomSettle_mem {s : State} (h : Memory.wf s.hbm.cells = true) (x1 : Nat) : Memory.wf (State.zoomSettle s x1).hbm.cells = true := by
  unfold State.zoomSettle
  repeat' first | (refine memWf_foldl _ _ (fun t a ht => ?_) ?_) | simp (maxDischargeDepth := 30) only [*, wf_ite, hbm_cells_ite, ite_self, State.zoomCut_mem, ↓State.setReg_cells, ↓State.setForceReg_cells, ↓State.setFld_cells, ↓State.setInf_cells, ↓State.apply_cells, ↓State.incSat_cells, ↓State.incWrap_cells, ↓State.resetRegs_cells, ↓State.useFree_cells, ↓State.emit_cells, ↓State.count_cells, ↓State.raiseAt_cells, ↓State.raise_cells, ↓State.clockEv_cells, ↓State.linkEv_cells, ↓State.memEv_cells, ↓State.calEv_cells, ↓State.fireVector_cells, ↓State.updatePin_cells, ↓State.updateFlt_cells, ↓State.modFlt_cells, ↓State.fault_cells, ↓State.restoredAt_cells, ↓State.jrec_cells, ↓State.jrecJob_cells, ↓State.updateJnl_cells, ↓State.coalesce_cells, ↓State.postEntry_cells, ↓State.modJob_cells, ↓State.updateStanding_cells, ↓State.complete_cells, ↓State.setExtent_cells, ↓State.postHead_cells, ↓State.updateHeld_cells, ↓State.updateCaps_cells, ↓State.setFill_cells, ↓State.unstall_cells, ↓State.stall_cells, ↓State.updateOldest_cells, ↓State.updateFreezeRegs_cells, ↓State.takeGran_cells, ↓State.completeFreezes_cells, ↓State.newFreeze_cells, ↓State.unhold_cells, ↓State.hold_cells, ↓State.releaseFreeze_cells, ↓State.dropGranules_cells, ↓State.modSlot_cells, ↓State.demandSysref_cells, ↓State.linkStart_cells, ↓State.linkOff_cells, ↓State.jesdEv_cells, ↓State.linkRestart_cells, ↓State.sysrefAlign_cells, ↓State.landAtten_cells, ↓State.landAttens_cells, ↓State.updatePins_cells, ↓State.fastOvr_cells, ↓State.slotBeat_cells, ↓State.modStreams_cells, ↓State.modStream_cells, ↓State.streamItem_cells, ↓State.streamGone_cells, ↓State.endStream_cells, ↓State.noteShed_cells, ↓State.blame_cells, ↓State.shedStreams_cells, ↓State.modCore_cells, ↓State.queueMsg_cells, ↓State.notify_cells, ↓State.trigMsg_cells, ↓State.ddcFire_cells, ↓State.modDue_cells, ↓State.updatePending_cells, ↓State.steer8_cells, ↓State.abortBist_cells, ↓State.lendSpare_cells, ↓State.freeSpare_cells, ↓State.calReport_cells, ↓State.calReports_cells, ↓State.calSuccess_cells, ↓State.calRejected_cells, ↓State.calAborted_cells, ↓State.calResiduals_cells, ↓State.setRun_cells, ↓State.calPendReports_cells, ↓State.endBist_cells, ↓State.lateTakeover_cells, ↓State.coverFailed_cells, ↓State.handBack_cells, ↓State.abandonHandover_cells, ↓State.switchToSpare_cells, ↓State.switchBack_cells, ↓State.endCover_cells, ↓State.modClk_cells, ↓State.loadSeed_cells, ↓State.synRelock_cells, ↓State.synLost_cells, ↓State.gateDp_cells, ↓State.synAckEnd_cells, ↓State.setTrim_cells, ↓State.latchPair_cells, ↓State.modSlice_cells, ↓State.spxPrepare_cells, ↓State.takeSeq_cells, ↓State.modTrg_cells, ↓State.fire_cells, ↓State.coreSwap_cells, ↓State.trgFrame_cells, ↓State.trgUnknown_cells, ↓State.trgSettle1_cells, ↓State.trgSettle_cells, ↓State.modDen_cells, ↓State.closePeriod_cells, ↓State.densityInput_cells, ↓State.denFrame_cells, ↓State.modTuner_cells, ↓State.settleCommit_cells, ↓State.modZoom_cells, ↓State.modZoomTun_cells, ↓State.zoomFrame_cells, ↓State.zoomFeed_cells, ↓State.zoomStat_cells, ↓State.thrEvent_cells, ↓State.ddcStat_cells, ↓State.ddcSwap_cells, ↓State.thrSample_cells, ↓State.modXcor_cells, ↓State.xcorClose_cells, ↓State.xcorBegin_cells, ↓State.fengFrame_cells, ↓State.xcorFrame_cells, ↓State.xcorFeed_cells, ↓State.xcorPending_cells, ↓State.xcorTakeGains_cells, ↓State.xcorSettle_cells, ↓State.xcorReturn_cells, ↓State.xcorEpoch_cells, ↓State.modSec_cells, ↓State.secEv_cells, ↓State.drbg_cells, ↓State.signBy_cells, ↓State.sign_cells, ↓State.modRec_cells, ↓State.recExtent_cells, ↓State.recWrite_cells, ↓State.recFlush_cells, ↓State.recBegin_cells, ↓State.putChunk_cells, ↓State.putCkpt_cells, ↓State.closeSeg_cells, ↓State.updateReady_cells, ↓State.recOver_cells, ↓State.recSettle_cells, ↓State.recFinish_cells, ↓State.nsFail_cells, ↓State.updateCoreSum_cells, ↓State.coreEnd_cells, ↓State.coreSettle_cells, ↓State.coreTrap_cells, ↓State.coreUse_cells, ↓State.sample_cells, ↓State.coreRetire_cells, ↓State.coreStall_cells, ↓State.coreDo_cells, ↓State.modHbm_cells, ↓State.setPc_cells, ↓State.retire_cells, ↓State.trainedAt_cells, ↓State.setPcs_cells, ↓State.uncorrectable_cells, ↓State.corrected_cells, ↓State.restartWriters_cells, ↓State.modChan_cells, ↓State.modXfer_cells, ↓State.chanTake_cells, ↓State.enqueue_cells, ↓State.modExtract_cells, ↓State.extractNext_cells, ↓State.extractFill_cells, ↓State.extractEnd_cells, ↓State.xferEnd_cells, ↓State.haltSettle_cells, ↓State.noteNeed_cells, ↓State.sendPacket_cells, ↓State.sendPair_cells, ↓State.sendData_cells, ↓State.flushStream_cells, ↓State.endExtract_cells, ↓State.shedNet_cells, ↓State.shedUntil_cells, ↓State.hostIo_cells, ↓State.modVid_cells, ↓State.vidEv_cells, ↓State.vidEvEn_cells, ↓State.vidApply_cells, ↓State.setTab_cells, ↓State.corePost_cells, ↓State.coreSend_cells, ↓State.f0_cells, ↓State.coreStore_cells, ↓State.coreWindow_cells, ↓State.coreLoad_cells, ↓State.coreStart_cells, ↓State.dropCoreXfers_cells, ↓State.coresRestart_cells, ↓State.extend_cells, ↓State.updateKeys_cells, ↓State.putKey_cells, ↓State.reseed_cells, ↓State.zeroiseRec_cells, ↓State.zeroise_cells, ↓State.zeroised_cells, ↓State.modHk_cells, ↓State.hkBoundary_cells, ↓State.hkEv_cells, ↓State.hkLimits_cells, ↓State.hkStore_cells, ↓State.hkInstall_cells, ↓State.ownEight_cells, ↓State.endRot_cells, ↓State.nextHandBack_cells, ↓State.startBist_cells, ↓State.bistFailed_cells, ↓State.bistWiped_cells, ↓State.rotTested_cells, ↓State.taking_cells, ↓State.settled_cells, ↓State.cmAfter_cells, ↓State.sliceCommit_cells, ↓State.tunerCommit_cells, ↓State.commitSlices_cells, ↓State.commitClock_cells, ↓State.commitAttens_cells, ↓State.settleTrims_cells, ↓State.settleVid_cells, ↓State.landAll_cells, ↓State.sliceBeat_cells, ↓State.updateService_cells, ↓State.track_cells, ↓State.changed_cells, ↓State.trgApply_cells, ↓State.histApply_cells, ↓State.sliceStat_cells, ↓State.cancelTimed_cells, ↓State.slotEpoch_cells, ↓State.timesEpoch_cells, ↓State.epochRelock_cells, ↓State.epochCal_cells, ↓State.epochTime_cells, ↓State.retire282_cells, ↓State.sqRestart_cells, ↓State.cqRestart_cells, ↓State.evRestart_cells, ↓State.logEvent_cells, ↓State.logAll_cells, ↓State.writeEvent_cells, ↓State.snapEnd_cells, ↓State.modSmp_cells, ↓State.progress_cells, ↓State.interrupt_cells, ↓State.dropMoves_cells, ↓State.dropArms_cells, ↓State.dropCores_cells, ↓State.dropCommits_cells, ↓State.dropRequests_cells, ↓State.dropUnits_cells, ↓State.endJobs_cells, ↓State.holdOutcome_cells, ↓State.holdOutcomes_cells, ↓State.disableSq_cells, ↓State.disableCq_cells, ↓State.dropFetches_cells, ↓State.rlRead_cells, ↓State.wrote_cells, ↓State.collided_cells, ↓State.hostWrite_cells, ↓State.ringEnabled_cells, ↓State.ringWrite263_cells, ↓State.sramByte_cells, ↓State.maskRegs_cells, ↓State.noteReset_cells, ↓State.holdPosting_cells, ↓State.postRing_cells, ↓State.runFirmware_cells, ↓State.strapRegs_cells, ↓State.bootRom_cells, ↓State.freshPcs_cells, ↓State.keepFailures_cells, ↓State.showKept_cells, ↓State.leaveReset_cells, ↓State.resolveTorn_cells, ↓State.lastReadable_cells, ↓State.sliceReset_cells, ↓State.hostReset_cells, ↓State.slicesReset_cells, ↓State.softReset_cells, ↓State.pfailFall_cells, ↓State.pauseHost_cells, ↓State.hostDown_cells, ↓State.closeStanding_cells, ↓State.settleQuiesces_cells, ↓State.fetched_cells, ↓State.refuse_cells, ↓State.dropFetch_cells, ↓State.fetchFailed_cells, ↓State.dieFault_cells, ↓State.converterTrip_cells] | split | simp only []
theorem State.writeDdcBlock_mem {s : State} (h : Memory.wf s.hbm.cells = true) (x1 : Nat) (x2 : Nat) (x3 : Bool) : Memory.wf (State.writeDdcBlock s x1 x2 x3).hbm.cells = true := by
  unfold State.writeDdcBlock
  (try simp (maxDischargeDepth := 30) (contextual := true) only [h, memWf_foldl, wf_ite, hbm_cells_ite, ite_self, State.rtWrite_mem, ↓State.streamGone_cells, ↓State.setFld_cells, ↓State.modTuner_cells, ↓State.streamItem_cells]) <;> (repeat' (split <;> (try simp (maxDischargeDepth := 30) (contextual := true) only [h, memWf_foldl, wf_ite, hbm_cells_ite, ite_self, State.rtWrite_mem, ↓State.streamGone_cells, ↓State.setFld_cells, ↓State.modTuner_cells, ↓State.streamItem_cells])))
theorem State.ddcRestart_mem {s : State} (h : Memory.wf s.hbm.cells = true) (x1 : Nat) (x2 : Nat) (x3 : Nat) (x4 : DdcCfg) (x5 : RegFile) : Memory.wf (State.ddcRestart s x1 x2 x3 x4 x5).hbm.cells = true := by
  unfold State.ddcRestart
  (try simp (maxDischargeDepth := 30) (contextual := true) only [h, memWf_foldl, wf_ite, hbm_cells_ite, ite_self, State.writeDdcBlock_mem, State.zoomCut_mem, ↓State.apply_cells, ↓State.thrEvent_cells, ↓State.zoomStat_cells, ↓State.setFld_cells, ↓State.complete_cells, ↓State.ddcStat_cells, ↓State.modStreams_cells, ↓State.modTuner_cells, ↓State.setInf_cells]) <;> (repeat' (split <;> (try simp (maxDischargeDepth := 30) (contextual := true) only [h, memWf_foldl, wf_ite, hbm_cells_ite, ite_self, State.writeDdcBlock_mem, State.zoomCut_mem, ↓State.apply_cells, ↓State.thrEvent_cells, ↓State.zoomStat_cells, ↓State.setFld_cells, ↓State.complete_cells, ↓State.ddcStat_cells, ↓State.modStreams_cells, ↓State.modTuner_cells, ↓State.setInf_cells])))
theorem State.ddcChange_mem {s : State} (h : Memory.wf s.hbm.cells = true) (x1 : Nat) (x2 : Nat) (x3 : Nat) (x4 : List TunChange) : Memory.wf (State.ddcChange s x1 x2 x3 x4).hbm.cells = true := by
  unfold State.ddcChange
  (try simp (maxDischargeDepth := 30) (contextual := true) only [h, memWf_foldl, wf_ite, hbm_cells_ite, ite_self, State.ddcRestart_mem, ↓State.apply_cells, ↓State.ddcSwap_cells, ↓State.modTuner_cells]) <;> (repeat' (split <;> (try simp (maxDischargeDepth := 30) (contextual := true) only [h, memWf_foldl, wf_ite, hbm_cells_ite, ite_self, State.ddcRestart_mem, ↓State.apply_cells, ↓State.ddcSwap_cells, ↓State.modTuner_cells])))
theorem State.ringAppend_mem {s : State} (h : Memory.wf s.hbm.cells = true) (x1 : Nat) (x2 : Nat) (x3 : Nat) (x4 : List HistRec) (x5 : List Nat) : Memory.wf (State.ringAppend s x1 x2 x3 x4 x5).1.hbm.cells = true := by
  unfold State.ringAppend
  (try simp (maxDischargeDepth := 30) (contextual := true) only [h, memWf_foldl, wf_ite, hbm_cells_ite, ite_self, State.rtWrite_mem]) <;> (repeat' (split <;> (try simp (maxDischargeDepth := 30) (contextual := true) only [h, memWf_foldl, wf_ite, hbm_cells_ite, ite_self, State.rtWrite_mem])))
theorem State.burstWrite_mem {s : State} (h : Memory.wf s.hbm.cells = true) (x1 : Xfer) (x2 : Nat) (x3 : List Nat) : Memory.wf (State.burstWrite s x1 x2 x3).hbm.cells = true := by
  unfold State.burstWrite
  (try simp (maxDischargeDepth := 30) (contextual := true) only [h, memWf_foldl, wf_ite, hbm_cells_ite, ite_self, State.hbmWrite_mem, ↓State.modCore_cells, ↓State.emit_cells]) <;> (repeat' (split <;> (try simp (maxDischargeDepth := 30) (contextual := true) only [h, memWf_foldl, wf_ite, hbm_cells_ite, ite_self, State.hbmWrite_mem, ↓State.modCore_cells, ↓State.emit_cells])))
theorem State.sliceMove_mem {s : State} (h : Memory.wf s.hbm.cells = true) (x1 : Nat) (x2 : Nat) (x3 : Nat) : Memory.wf (State.sliceMove s x1 x2 x3).hbm.cells = true := by
  unfold State.sliceMove
  have h1 := State.cutDensity_mem (State.cutRecords_mem h x1) x1
  have h2 : Memory.wf ((((s.cutRecords x1).cutDensity x1).trgUnknown x1 0).trgUnknown x1 1).hbm.cells = true := by
    simp only [State.trgUnknown_cells, h1]
  have h3 := memWf_foldl (List.range 4) (fun (st : State) t => (st.zoomCut x1 t st.samp).modTuner x1 t (fun x => x.moved x3))
    (fun t a ht => by simp only [State.modTuner_cells]; exact State.zoomCut_mem ht ..) h2
  simp only [State.coresRestart_cells, State.modSlice_cells]
  exact h3
theorem State.coverSlice_mem {s : State} (h : Memory.wf s.hbm.cells = true) : Memory.wf (State.coverSlice s).hbm.cells = true := by
  unfold State.coverSlice
  (try simp (maxDischargeDepth := 30) (contextual := true) only [h, memWf_foldl, wf_ite, hbm_cells_ite, ite_self, State.sliceMove_mem, ↓State.lateTakeover_cells, ↓State.ownEight_cells]) <;> (repeat' (split <;> (try simp (maxDischargeDepth := 30) (contextual := true) only [h, memWf_foldl, wf_ite, hbm_cells_ite, ite_self, State.sliceMove_mem, ↓State.lateTakeover_cells, ↓State.ownEight_cells])))
theorem State.takeSlice_mem {s : State} (h : Memory.wf s.hbm.cells = true) (x1 : Nat) (x2 : Nat) (x3 : Nat) (x4 : Nat) : Memory.wf (State.takeSlice s x1 x2 x3 x4).hbm.cells = true := by
  unfold State.takeSlice
  (try simp (maxDischargeDepth := 30) (contextual := true) only [h, memWf_foldl, wf_ite, hbm_cells_ite, ite_self, State.sliceMove_mem, State.cutRecords_mem, ↓State.fault_cells, ↓State.modSlice_cells, ↓State.abortBist_cells, ↓State.ownEight_cells]) <;> (repeat' (split <;> (try simp (maxDischargeDepth := 30) (contextual := true) only [h, memWf_foldl, wf_ite, hbm_cells_ite, ite_self, State.sliceMove_mem, State.cutRecords_mem, ↓State.fault_cells, ↓State.modSlice_cells, ↓State.abortBist_cells, ↓State.ownEight_cells])))
theorem State.unitReturn_mem {s : State} (h : Memory.wf s.hbm.cells = true) (x1 : Nat) (x2 : Nat) : Memory.wf (State.unitReturn s x1 x2).hbm.cells = true := by
  unfold State.unitReturn
  (try simp (maxDischargeDepth := 30) (contextual := true) only [h, memWf_foldl, wf_ite, hbm_cells_ite, ite_self, State.sliceMove_mem, State.coverSlice_mem, ↓State.nextHandBack_cells, ↓State.setFld_cells, ↓State.handBack_cells, ↓State.freeSpare_cells, ↓State.xcorReturn_cells, ↓State.coverFailed_cells, ↓State.modXcor_cells, ↓State.modHk_cells, ↓State.ownEight_cells, ↓State.setPc_cells]) <;> (repeat' (split <;> (try simp (maxDischargeDepth := 30) (contextual := true) only [h, memWf_foldl, wf_ite, hbm_cells_ite, ite_self, State.sliceMove_mem, State.coverSlice_mem, ↓State.nextHandBack_cells, ↓State.setFld_cells, ↓State.handBack_cells, ↓State.freeSpare_cells, ↓State.xcorReturn_cells, ↓State.coverFailed_cells, ↓State.modXcor_cells, ↓State.modHk_cells, ↓State.ownEight_cells, ↓State.setPc_cells])))
theorem State.rotSettle_mem {s : State} (h : Memory.wf s.hbm.cells = true) : Memory.wf (State.rotSettle s).hbm.cells = true := by
  unfold State.rotSettle
  (try simp (maxDischargeDepth := 30) (contextual := true) only [h, memWf_foldl, wf_ite, hbm_cells_ite, ite_self, State.coverSlice_mem, ↓State.coresRestart_cells, ↓State.nextHandBack_cells, ↓State.setFld_cells, ↓State.modSlice_cells, ↓State.endRot_cells, ↓State.ownEight_cells]) <;> (repeat' (split <;> (try simp (maxDischargeDepth := 30) (contextual := true) only [h, memWf_foldl, wf_ite, hbm_cells_ite, ite_self, State.coverSlice_mem, ↓State.coresRestart_cells, ↓State.nextHandBack_cells, ↓State.setFld_cells, ↓State.modSlice_cells, ↓State.endRot_cells, ↓State.ownEight_cells])))
theorem State.boundary_mem {s : State} (h : Memory.wf s.hbm.cells = true) : Memory.wf (State.boundary s).hbm.cells = true := by
  unfold State.boundary
  have h1 : Memory.wf (s.completeFreezes.settleTrims.settleVid.trgSettle).hbm.cells = true := by
    simp only [State.trgSettle_cells, State.settleVid_cells, State.settleTrims_cells, State.completeFreezes_cells, h]
  have h2 := memWf_foldl (List.range 9) State.zoomSettle (fun t a ht => State.zoomSettle_mem ht a) h1
  simp only [State.updateService_cells]
  exact State.rotSettle_mem h2
theorem State.deliver_mem {s : State} (h : Memory.wf s.hbm.cells = true) (x1 : Nat) (x2 : List Int) (x3 : Bool) (x4 : Bool) : Memory.wf (State.deliver s x1 x2 x3 x4).hbm.cells = true := by
  unfold State.deliver
  repeat' first | (refine memWf_foldl _ _ (fun t a ht => ?_) ?_) | simp (maxDischargeDepth := 30) only [*, wf_ite, hbm_cells_ite, ite_self, State.ringWrite_mem, ↓State.setReg_cells, ↓State.setForceReg_cells, ↓State.setFld_cells, ↓State.setInf_cells, ↓State.apply_cells, ↓State.incSat_cells, ↓State.incWrap_cells, ↓State.resetRegs_cells, ↓State.useFree_cells, ↓State.emit_cells, ↓State.count_cells, ↓State.raiseAt_cells, ↓State.raise_cells, ↓State.clockEv_cells, ↓State.linkEv_cells, ↓State.memEv_cells, ↓State.calEv_cells, ↓State.fireVector_cells, ↓State.updatePin_cells, ↓State.updateFlt_cells, ↓State.modFlt_cells, ↓State.fault_cells, ↓State.restoredAt_cells, ↓State.jrec_cells, ↓State.jrecJob_cells, ↓State.updateJnl_cells, ↓State.coalesce_cells, ↓State.postEntry_cells, ↓State.modJob_cells, ↓State.updateStanding_cells, ↓State.complete_cells, ↓State.setExtent_cells, ↓State.postHead_cells, ↓State.updateHeld_cells, ↓State.updateCaps_cells, ↓State.setFill_cells, ↓State.unstall_cells, ↓State.stall_cells, ↓State.updateOldest_cells, ↓State.updateFreezeRegs_cells, ↓State.takeGran_cells, ↓State.completeFreezes_cells, ↓State.newFreeze_cells, ↓State.unhold_cells, ↓State.hold_cells, ↓State.releaseFreeze_cells, ↓State.dropGranules_cells, ↓State.modSlot_cells, ↓State.demandSysref_cells, ↓State.linkStart_cells, ↓State.linkOff_cells, ↓State.jesdEv_cells, ↓State.linkRestart_cells, ↓State.sysrefAlign_cells, ↓State.landAtten_cells, ↓State.landAttens_cells, ↓State.updatePins_cells, ↓State.fastOvr_cells, ↓State.slotBeat_cells, ↓State.modStreams_cells, ↓State.modStream_cells, ↓State.streamItem_cells, ↓State.streamGone_cells, ↓State.endStream_cells, ↓State.noteShed_cells, ↓State.blame_cells, ↓State.shedStreams_cells, ↓State.modCore_cells, ↓State.queueMsg_cells, ↓State.notify_cells, ↓State.trigMsg_cells, ↓State.ddcFire_cells, ↓State.modDue_cells, ↓State.updatePending_cells, ↓State.steer8_cells, ↓State.abortBist_cells, ↓State.lendSpare_cells, ↓State.freeSpare_cells, ↓State.calReport_cells, ↓State.calReports_cells, ↓State.calSuccess_cells, ↓State.calRejected_cells, ↓State.calAborted_cells, ↓State.calResiduals_cells, ↓State.setRun_cells, ↓State.calPendReports_cells, ↓State.endBist_cells, ↓State.lateTakeover_cells, ↓State.coverFailed_cells, ↓State.handBack_cells, ↓State.abandonHandover_cells, ↓State.switchToSpare_cells, ↓State.switchBack_cells, ↓State.endCover_cells, ↓State.modClk_cells, ↓State.loadSeed_cells, ↓State.synRelock_cells, ↓State.synLost_cells, ↓State.gateDp_cells, ↓State.synAckEnd_cells, ↓State.setTrim_cells, ↓State.latchPair_cells, ↓State.modSlice_cells, ↓State.spxPrepare_cells, ↓State.takeSeq_cells, ↓State.modTrg_cells, ↓State.fire_cells, ↓State.coreSwap_cells, ↓State.trgFrame_cells, ↓State.trgUnknown_cells, ↓State.trgSettle1_cells, ↓State.trgSettle_cells, ↓State.modDen_cells, ↓State.closePeriod_cells, ↓State.densityInput_cells, ↓State.denFrame_cells, ↓State.modTuner_cells, ↓State.settleCommit_cells, ↓State.modZoom_cells, ↓State.modZoomTun_cells, ↓State.zoomFrame_cells, ↓State.zoomFeed_cells, ↓State.zoomStat_cells, ↓State.thrEvent_cells, ↓State.ddcStat_cells, ↓State.ddcSwap_cells, ↓State.thrSample_cells, ↓State.modXcor_cells, ↓State.xcorClose_cells, ↓State.xcorBegin_cells, ↓State.fengFrame_cells, ↓State.xcorFrame_cells, ↓State.xcorFeed_cells, ↓State.xcorPending_cells, ↓State.xcorTakeGains_cells, ↓State.xcorSettle_cells, ↓State.xcorReturn_cells, ↓State.xcorEpoch_cells, ↓State.modSec_cells, ↓State.secEv_cells, ↓State.drbg_cells, ↓State.signBy_cells, ↓State.sign_cells, ↓State.modRec_cells, ↓State.recExtent_cells, ↓State.recWrite_cells, ↓State.recFlush_cells, ↓State.recBegin_cells, ↓State.putChunk_cells, ↓State.putCkpt_cells, ↓State.closeSeg_cells, ↓State.updateReady_cells, ↓State.recOver_cells, ↓State.recSettle_cells, ↓State.recFinish_cells, ↓State.nsFail_cells, ↓State.updateCoreSum_cells, ↓State.coreEnd_cells, ↓State.coreSettle_cells, ↓State.coreTrap_cells, ↓State.coreUse_cells, ↓State.sample_cells, ↓State.coreRetire_cells, ↓State.coreStall_cells, ↓State.coreDo_cells, ↓State.modHbm_cells, ↓State.setPc_cells, ↓State.retire_cells, ↓State.trainedAt_cells, ↓State.setPcs_cells, ↓State.uncorrectable_cells, ↓State.corrected_cells, ↓State.restartWriters_cells, ↓State.modChan_cells, ↓State.modXfer_cells, ↓State.chanTake_cells, ↓State.enqueue_cells, ↓State.modExtract_cells, ↓State.extractNext_cells, ↓State.extractFill_cells, ↓State.extractEnd_cells, ↓State.xferEnd_cells, ↓State.haltSettle_cells, ↓State.noteNeed_cells, ↓State.sendPacket_cells, ↓State.sendPair_cells, ↓State.sendData_cells, ↓State.flushStream_cells, ↓State.endExtract_cells, ↓State.shedNet_cells, ↓State.shedUntil_cells, ↓State.hostIo_cells, ↓State.modVid_cells, ↓State.vidEv_cells, ↓State.vidEvEn_cells, ↓State.vidApply_cells, ↓State.setTab_cells, ↓State.corePost_cells, ↓State.coreSend_cells, ↓State.f0_cells, ↓State.coreStore_cells, ↓State.coreWindow_cells, ↓State.coreLoad_cells, ↓State.coreStart_cells, ↓State.dropCoreXfers_cells, ↓State.coresRestart_cells, ↓State.extend_cells, ↓State.updateKeys_cells, ↓State.putKey_cells, ↓State.reseed_cells, ↓State.zeroiseRec_cells, ↓State.zeroise_cells, ↓State.zeroised_cells, ↓State.modHk_cells, ↓State.hkBoundary_cells, ↓State.hkEv_cells, ↓State.hkLimits_cells, ↓State.hkStore_cells, ↓State.hkInstall_cells, ↓State.ownEight_cells, ↓State.endRot_cells, ↓State.nextHandBack_cells, ↓State.startBist_cells, ↓State.bistFailed_cells, ↓State.bistWiped_cells, ↓State.rotTested_cells, ↓State.taking_cells, ↓State.settled_cells, ↓State.cmAfter_cells, ↓State.sliceCommit_cells, ↓State.tunerCommit_cells, ↓State.commitSlices_cells, ↓State.commitClock_cells, ↓State.commitAttens_cells, ↓State.settleTrims_cells, ↓State.settleVid_cells, ↓State.landAll_cells, ↓State.sliceBeat_cells, ↓State.updateService_cells, ↓State.track_cells, ↓State.changed_cells, ↓State.trgApply_cells, ↓State.histApply_cells, ↓State.sliceStat_cells, ↓State.cancelTimed_cells, ↓State.slotEpoch_cells, ↓State.timesEpoch_cells, ↓State.epochRelock_cells, ↓State.epochCal_cells, ↓State.epochTime_cells, ↓State.retire282_cells, ↓State.sqRestart_cells, ↓State.cqRestart_cells, ↓State.evRestart_cells, ↓State.logEvent_cells, ↓State.logAll_cells, ↓State.writeEvent_cells, ↓State.snapEnd_cells, ↓State.modSmp_cells, ↓State.progress_cells, ↓State.interrupt_cells, ↓State.dropMoves_cells, ↓State.dropArms_cells, ↓State.dropCores_cells, ↓State.dropCommits_cells, ↓State.dropRequests_cells, ↓State.dropUnits_cells, ↓State.endJobs_cells, ↓State.holdOutcome_cells, ↓State.holdOutcomes_cells, ↓State.disableSq_cells, ↓State.disableCq_cells, ↓State.dropFetches_cells, ↓State.rlRead_cells, ↓State.wrote_cells, ↓State.collided_cells, ↓State.hostWrite_cells, ↓State.ringEnabled_cells, ↓State.ringWrite263_cells, ↓State.sramByte_cells, ↓State.maskRegs_cells, ↓State.noteReset_cells, ↓State.holdPosting_cells, ↓State.postRing_cells, ↓State.runFirmware_cells, ↓State.strapRegs_cells, ↓State.bootRom_cells, ↓State.freshPcs_cells, ↓State.keepFailures_cells, ↓State.showKept_cells, ↓State.leaveReset_cells, ↓State.resolveTorn_cells, ↓State.lastReadable_cells, ↓State.sliceReset_cells, ↓State.hostReset_cells, ↓State.slicesReset_cells, ↓State.softReset_cells, ↓State.pfailFall_cells, ↓State.pauseHost_cells, ↓State.hostDown_cells, ↓State.closeStanding_cells, ↓State.settleQuiesces_cells, ↓State.fetched_cells, ↓State.refuse_cells, ↓State.dropFetch_cells, ↓State.fetchFailed_cells, ↓State.dieFault_cells, ↓State.converterTrip_cells] | split | simp only []
theorem State.applyChange_mem {s : State} (h : Memory.wf s.hbm.cells = true) (x1 : Nat) (x2 : Nat) (x3 : List SpxChange) : Memory.wf (State.applyChange s x1 x2 x3).hbm.cells = true := by
  unfold State.applyChange
  repeat' first | (refine memWf_foldl _ _ (fun t a ht => ?_) ?_) | simp (maxDischargeDepth := 30) only [*, wf_ite, hbm_cells_ite, ite_self, State.cutDensity_mem, State.cutRecords_mem, ↓State.setReg_cells, ↓State.setForceReg_cells, ↓State.setFld_cells, ↓State.setInf_cells, ↓State.apply_cells, ↓State.incSat_cells, ↓State.incWrap_cells, ↓State.resetRegs_cells, ↓State.useFree_cells, ↓State.emit_cells, ↓State.count_cells, ↓State.raiseAt_cells, ↓State.raise_cells, ↓State.clockEv_cells, ↓State.linkEv_cells, ↓State.memEv_cells, ↓State.calEv_cells, ↓State.fireVector_cells, ↓State.updatePin_cells, ↓State.updateFlt_cells, ↓State.modFlt_cells, ↓State.fault_cells, ↓State.restoredAt_cells, ↓State.jrec_cells, ↓State.jrecJob_cells, ↓State.updateJnl_cells, ↓State.coalesce_cells, ↓State.postEntry_cells, ↓State.modJob_cells, ↓State.updateStanding_cells, ↓State.complete_cells, ↓State.setExtent_cells, ↓State.postHead_cells, ↓State.updateHeld_cells, ↓State.updateCaps_cells, ↓State.setFill_cells, ↓State.unstall_cells, ↓State.stall_cells, ↓State.updateOldest_cells, ↓State.updateFreezeRegs_cells, ↓State.takeGran_cells, ↓State.completeFreezes_cells, ↓State.newFreeze_cells, ↓State.unhold_cells, ↓State.hold_cells, ↓State.releaseFreeze_cells, ↓State.dropGranules_cells, ↓State.modSlot_cells, ↓State.demandSysref_cells, ↓State.linkStart_cells, ↓State.linkOff_cells, ↓State.jesdEv_cells, ↓State.linkRestart_cells, ↓State.sysrefAlign_cells, ↓State.landAtten_cells, ↓State.landAttens_cells, ↓State.updatePins_cells, ↓State.fastOvr_cells, ↓State.slotBeat_cells, ↓State.modStreams_cells, ↓State.modStream_cells, ↓State.streamItem_cells, ↓State.streamGone_cells, ↓State.endStream_cells, ↓State.noteShed_cells, ↓State.blame_cells, ↓State.shedStreams_cells, ↓State.modCore_cells, ↓State.queueMsg_cells, ↓State.notify_cells, ↓State.trigMsg_cells, ↓State.ddcFire_cells, ↓State.modDue_cells, ↓State.updatePending_cells, ↓State.steer8_cells, ↓State.abortBist_cells, ↓State.lendSpare_cells, ↓State.freeSpare_cells, ↓State.calReport_cells, ↓State.calReports_cells, ↓State.calSuccess_cells, ↓State.calRejected_cells, ↓State.calAborted_cells, ↓State.calResiduals_cells, ↓State.setRun_cells, ↓State.calPendReports_cells, ↓State.endBist_cells, ↓State.lateTakeover_cells, ↓State.coverFailed_cells, ↓State.handBack_cells, ↓State.abandonHandover_cells, ↓State.switchToSpare_cells, ↓State.switchBack_cells, ↓State.endCover_cells, ↓State.modClk_cells, ↓State.loadSeed_cells, ↓State.synRelock_cells, ↓State.synLost_cells, ↓State.gateDp_cells, ↓State.synAckEnd_cells, ↓State.setTrim_cells, ↓State.latchPair_cells, ↓State.modSlice_cells, ↓State.spxPrepare_cells, ↓State.takeSeq_cells, ↓State.modTrg_cells, ↓State.fire_cells, ↓State.coreSwap_cells, ↓State.trgFrame_cells, ↓State.trgUnknown_cells, ↓State.trgSettle1_cells, ↓State.trgSettle_cells, ↓State.modDen_cells, ↓State.closePeriod_cells, ↓State.densityInput_cells, ↓State.denFrame_cells, ↓State.modTuner_cells, ↓State.settleCommit_cells, ↓State.modZoom_cells, ↓State.modZoomTun_cells, ↓State.zoomFrame_cells, ↓State.zoomFeed_cells, ↓State.zoomStat_cells, ↓State.thrEvent_cells, ↓State.ddcStat_cells, ↓State.ddcSwap_cells, ↓State.thrSample_cells, ↓State.modXcor_cells, ↓State.xcorClose_cells, ↓State.xcorBegin_cells, ↓State.fengFrame_cells, ↓State.xcorFrame_cells, ↓State.xcorFeed_cells, ↓State.xcorPending_cells, ↓State.xcorTakeGains_cells, ↓State.xcorSettle_cells, ↓State.xcorReturn_cells, ↓State.xcorEpoch_cells, ↓State.modSec_cells, ↓State.secEv_cells, ↓State.drbg_cells, ↓State.signBy_cells, ↓State.sign_cells, ↓State.modRec_cells, ↓State.recExtent_cells, ↓State.recWrite_cells, ↓State.recFlush_cells, ↓State.recBegin_cells, ↓State.putChunk_cells, ↓State.putCkpt_cells, ↓State.closeSeg_cells, ↓State.updateReady_cells, ↓State.recOver_cells, ↓State.recSettle_cells, ↓State.recFinish_cells, ↓State.nsFail_cells, ↓State.updateCoreSum_cells, ↓State.coreEnd_cells, ↓State.coreSettle_cells, ↓State.coreTrap_cells, ↓State.coreUse_cells, ↓State.sample_cells, ↓State.coreRetire_cells, ↓State.coreStall_cells, ↓State.coreDo_cells, ↓State.modHbm_cells, ↓State.setPc_cells, ↓State.retire_cells, ↓State.trainedAt_cells, ↓State.setPcs_cells, ↓State.uncorrectable_cells, ↓State.corrected_cells, ↓State.restartWriters_cells, ↓State.modChan_cells, ↓State.modXfer_cells, ↓State.chanTake_cells, ↓State.enqueue_cells, ↓State.modExtract_cells, ↓State.extractNext_cells, ↓State.extractFill_cells, ↓State.extractEnd_cells, ↓State.xferEnd_cells, ↓State.haltSettle_cells, ↓State.noteNeed_cells, ↓State.sendPacket_cells, ↓State.sendPair_cells, ↓State.sendData_cells, ↓State.flushStream_cells, ↓State.endExtract_cells, ↓State.shedNet_cells, ↓State.shedUntil_cells, ↓State.hostIo_cells, ↓State.modVid_cells, ↓State.vidEv_cells, ↓State.vidEvEn_cells, ↓State.vidApply_cells, ↓State.setTab_cells, ↓State.corePost_cells, ↓State.coreSend_cells, ↓State.f0_cells, ↓State.coreStore_cells, ↓State.coreWindow_cells, ↓State.coreLoad_cells, ↓State.coreStart_cells, ↓State.dropCoreXfers_cells, ↓State.coresRestart_cells, ↓State.extend_cells, ↓State.updateKeys_cells, ↓State.putKey_cells, ↓State.reseed_cells, ↓State.zeroiseRec_cells, ↓State.zeroise_cells, ↓State.zeroised_cells, ↓State.modHk_cells, ↓State.hkBoundary_cells, ↓State.hkEv_cells, ↓State.hkLimits_cells, ↓State.hkStore_cells, ↓State.hkInstall_cells, ↓State.ownEight_cells, ↓State.endRot_cells, ↓State.nextHandBack_cells, ↓State.startBist_cells, ↓State.bistFailed_cells, ↓State.bistWiped_cells, ↓State.rotTested_cells, ↓State.taking_cells, ↓State.settled_cells, ↓State.cmAfter_cells, ↓State.sliceCommit_cells, ↓State.tunerCommit_cells, ↓State.commitSlices_cells, ↓State.commitClock_cells, ↓State.commitAttens_cells, ↓State.settleTrims_cells, ↓State.settleVid_cells, ↓State.landAll_cells, ↓State.sliceBeat_cells, ↓State.updateService_cells, ↓State.track_cells, ↓State.changed_cells, ↓State.trgApply_cells, ↓State.histApply_cells, ↓State.sliceStat_cells, ↓State.cancelTimed_cells, ↓State.slotEpoch_cells, ↓State.timesEpoch_cells, ↓State.epochRelock_cells, ↓State.epochCal_cells, ↓State.epochTime_cells, ↓State.retire282_cells, ↓State.sqRestart_cells, ↓State.cqRestart_cells, ↓State.evRestart_cells, ↓State.logEvent_cells, ↓State.logAll_cells, ↓State.writeEvent_cells, ↓State.snapEnd_cells, ↓State.modSmp_cells, ↓State.progress_cells, ↓State.interrupt_cells, ↓State.dropMoves_cells, ↓State.dropArms_cells, ↓State.dropCores_cells, ↓State.dropCommits_cells, ↓State.dropRequests_cells, ↓State.dropUnits_cells, ↓State.endJobs_cells, ↓State.holdOutcome_cells, ↓State.holdOutcomes_cells, ↓State.disableSq_cells, ↓State.disableCq_cells, ↓State.dropFetches_cells, ↓State.rlRead_cells, ↓State.wrote_cells, ↓State.collided_cells, ↓State.hostWrite_cells, ↓State.ringEnabled_cells, ↓State.ringWrite263_cells, ↓State.sramByte_cells, ↓State.maskRegs_cells, ↓State.noteReset_cells, ↓State.holdPosting_cells, ↓State.postRing_cells, ↓State.runFirmware_cells, ↓State.strapRegs_cells, ↓State.bootRom_cells, ↓State.freshPcs_cells, ↓State.keepFailures_cells, ↓State.showKept_cells, ↓State.leaveReset_cells, ↓State.resolveTorn_cells, ↓State.lastReadable_cells, ↓State.sliceReset_cells, ↓State.hostReset_cells, ↓State.slicesReset_cells, ↓State.softReset_cells, ↓State.pfailFall_cells, ↓State.pauseHost_cells, ↓State.hostDown_cells, ↓State.closeStanding_cells, ↓State.settleQuiesces_cells, ↓State.fetched_cells, ↓State.refuse_cells, ↓State.dropFetch_cells, ↓State.fetchFailed_cells, ↓State.dieFault_cells, ↓State.converterTrip_cells] | split | simp only []
theorem State.sliceEpoch_mem {s : State} (h : Memory.wf s.hbm.cells = true) (x1 : Nat) : Memory.wf (State.sliceEpoch s x1).hbm.cells = true := by
  unfold State.sliceEpoch
  repeat' first | (refine memWf_foldl _ _ (fun t a ht => ?_) ?_) | simp (maxDischargeDepth := 30) only [*, wf_ite, hbm_cells_ite, ite_self, State.cutDensity_mem, State.cutRecords_mem, State.ddcRestart_mem, ↓State.setReg_cells, ↓State.setForceReg_cells, ↓State.setFld_cells, ↓State.setInf_cells, ↓State.apply_cells, ↓State.incSat_cells, ↓State.incWrap_cells, ↓State.resetRegs_cells, ↓State.useFree_cells, ↓State.emit_cells, ↓State.count_cells, ↓State.raiseAt_cells, ↓State.raise_cells, ↓State.clockEv_cells, ↓State.linkEv_cells, ↓State.memEv_cells, ↓State.calEv_cells, ↓State.fireVector_cells, ↓State.updatePin_cells, ↓State.updateFlt_cells, ↓State.modFlt_cells, ↓State.fault_cells, ↓State.restoredAt_cells, ↓State.jrec_cells, ↓State.jrecJob_cells, ↓State.updateJnl_cells, ↓State.coalesce_cells, ↓State.postEntry_cells, ↓State.modJob_cells, ↓State.updateStanding_cells, ↓State.complete_cells, ↓State.setExtent_cells, ↓State.postHead_cells, ↓State.updateHeld_cells, ↓State.updateCaps_cells, ↓State.setFill_cells, ↓State.unstall_cells, ↓State.stall_cells, ↓State.updateOldest_cells, ↓State.updateFreezeRegs_cells, ↓State.takeGran_cells, ↓State.completeFreezes_cells, ↓State.newFreeze_cells, ↓State.unhold_cells, ↓State.hold_cells, ↓State.releaseFreeze_cells, ↓State.dropGranules_cells, ↓State.modSlot_cells, ↓State.demandSysref_cells, ↓State.linkStart_cells, ↓State.linkOff_cells, ↓State.jesdEv_cells, ↓State.linkRestart_cells, ↓State.sysrefAlign_cells, ↓State.landAtten_cells, ↓State.landAttens_cells, ↓State.updatePins_cells, ↓State.fastOvr_cells, ↓State.slotBeat_cells, ↓State.modStreams_cells, ↓State.modStream_cells, ↓State.streamItem_cells, ↓State.streamGone_cells, ↓State.endStream_cells, ↓State.noteShed_cells, ↓State.blame_cells, ↓State.shedStreams_cells, ↓State.modCore_cells, ↓State.queueMsg_cells, ↓State.notify_cells, ↓State.trigMsg_cells, ↓State.ddcFire_cells, ↓State.modDue_cells, ↓State.updatePending_cells, ↓State.steer8_cells, ↓State.abortBist_cells, ↓State.lendSpare_cells, ↓State.freeSpare_cells, ↓State.calReport_cells, ↓State.calReports_cells, ↓State.calSuccess_cells, ↓State.calRejected_cells, ↓State.calAborted_cells, ↓State.calResiduals_cells, ↓State.setRun_cells, ↓State.calPendReports_cells, ↓State.endBist_cells, ↓State.lateTakeover_cells, ↓State.coverFailed_cells, ↓State.handBack_cells, ↓State.abandonHandover_cells, ↓State.switchToSpare_cells, ↓State.switchBack_cells, ↓State.endCover_cells, ↓State.modClk_cells, ↓State.loadSeed_cells, ↓State.synRelock_cells, ↓State.synLost_cells, ↓State.gateDp_cells, ↓State.synAckEnd_cells, ↓State.setTrim_cells, ↓State.latchPair_cells, ↓State.modSlice_cells, ↓State.spxPrepare_cells, ↓State.takeSeq_cells, ↓State.modTrg_cells, ↓State.fire_cells, ↓State.coreSwap_cells, ↓State.trgFrame_cells, ↓State.trgUnknown_cells, ↓State.trgSettle1_cells, ↓State.trgSettle_cells, ↓State.modDen_cells, ↓State.closePeriod_cells, ↓State.densityInput_cells, ↓State.denFrame_cells, ↓State.modTuner_cells, ↓State.settleCommit_cells, ↓State.modZoom_cells, ↓State.modZoomTun_cells, ↓State.zoomFrame_cells, ↓State.zoomFeed_cells, ↓State.zoomStat_cells, ↓State.thrEvent_cells, ↓State.ddcStat_cells, ↓State.ddcSwap_cells, ↓State.thrSample_cells, ↓State.modXcor_cells, ↓State.xcorClose_cells, ↓State.xcorBegin_cells, ↓State.fengFrame_cells, ↓State.xcorFrame_cells, ↓State.xcorFeed_cells, ↓State.xcorPending_cells, ↓State.xcorTakeGains_cells, ↓State.xcorSettle_cells, ↓State.xcorReturn_cells, ↓State.xcorEpoch_cells, ↓State.modSec_cells, ↓State.secEv_cells, ↓State.drbg_cells, ↓State.signBy_cells, ↓State.sign_cells, ↓State.modRec_cells, ↓State.recExtent_cells, ↓State.recWrite_cells, ↓State.recFlush_cells, ↓State.recBegin_cells, ↓State.putChunk_cells, ↓State.putCkpt_cells, ↓State.closeSeg_cells, ↓State.updateReady_cells, ↓State.recOver_cells, ↓State.recSettle_cells, ↓State.recFinish_cells, ↓State.nsFail_cells, ↓State.updateCoreSum_cells, ↓State.coreEnd_cells, ↓State.coreSettle_cells, ↓State.coreTrap_cells, ↓State.coreUse_cells, ↓State.sample_cells, ↓State.coreRetire_cells, ↓State.coreStall_cells, ↓State.coreDo_cells, ↓State.modHbm_cells, ↓State.setPc_cells, ↓State.retire_cells, ↓State.trainedAt_cells, ↓State.setPcs_cells, ↓State.uncorrectable_cells, ↓State.corrected_cells, ↓State.restartWriters_cells, ↓State.modChan_cells, ↓State.modXfer_cells, ↓State.chanTake_cells, ↓State.enqueue_cells, ↓State.modExtract_cells, ↓State.extractNext_cells, ↓State.extractFill_cells, ↓State.extractEnd_cells, ↓State.xferEnd_cells, ↓State.haltSettle_cells, ↓State.noteNeed_cells, ↓State.sendPacket_cells, ↓State.sendPair_cells, ↓State.sendData_cells, ↓State.flushStream_cells, ↓State.endExtract_cells, ↓State.shedNet_cells, ↓State.shedUntil_cells, ↓State.hostIo_cells, ↓State.modVid_cells, ↓State.vidEv_cells, ↓State.vidEvEn_cells, ↓State.vidApply_cells, ↓State.setTab_cells, ↓State.corePost_cells, ↓State.coreSend_cells, ↓State.f0_cells, ↓State.coreStore_cells, ↓State.coreWindow_cells, ↓State.coreLoad_cells, ↓State.coreStart_cells, ↓State.dropCoreXfers_cells, ↓State.coresRestart_cells, ↓State.extend_cells, ↓State.updateKeys_cells, ↓State.putKey_cells, ↓State.reseed_cells, ↓State.zeroiseRec_cells, ↓State.zeroise_cells, ↓State.zeroised_cells, ↓State.modHk_cells, ↓State.hkBoundary_cells, ↓State.hkEv_cells, ↓State.hkLimits_cells, ↓State.hkStore_cells, ↓State.hkInstall_cells, ↓State.ownEight_cells, ↓State.endRot_cells, ↓State.nextHandBack_cells, ↓State.startBist_cells, ↓State.bistFailed_cells, ↓State.bistWiped_cells, ↓State.rotTested_cells, ↓State.taking_cells, ↓State.settled_cells, ↓State.cmAfter_cells, ↓State.sliceCommit_cells, ↓State.tunerCommit_cells, ↓State.commitSlices_cells, ↓State.commitClock_cells, ↓State.commitAttens_cells, ↓State.settleTrims_cells, ↓State.settleVid_cells, ↓State.landAll_cells, ↓State.sliceBeat_cells, ↓State.updateService_cells, ↓State.track_cells, ↓State.changed_cells, ↓State.trgApply_cells, ↓State.histApply_cells, ↓State.sliceStat_cells, ↓State.cancelTimed_cells, ↓State.slotEpoch_cells, ↓State.timesEpoch_cells, ↓State.epochRelock_cells, ↓State.epochCal_cells, ↓State.epochTime_cells, ↓State.retire282_cells, ↓State.sqRestart_cells, ↓State.cqRestart_cells, ↓State.evRestart_cells, ↓State.logEvent_cells, ↓State.logAll_cells, ↓State.writeEvent_cells, ↓State.snapEnd_cells, ↓State.modSmp_cells, ↓State.progress_cells, ↓State.interrupt_cells, ↓State.dropMoves_cells, ↓State.dropArms_cells, ↓State.dropCores_cells, ↓State.dropCommits_cells, ↓State.dropRequests_cells, ↓State.dropUnits_cells, ↓State.endJobs_cells, ↓State.holdOutcome_cells, ↓State.holdOutcomes_cells, ↓State.disableSq_cells, ↓State.disableCq_cells, ↓State.dropFetches_cells, ↓State.rlRead_cells, ↓State.wrote_cells, ↓State.collided_cells, ↓State.hostWrite_cells, ↓State.ringEnabled_cells, ↓State.ringWrite263_cells, ↓State.sramByte_cells, ↓State.maskRegs_cells, ↓State.noteReset_cells, ↓State.holdPosting_cells, ↓State.postRing_cells, ↓State.runFirmware_cells, ↓State.strapRegs_cells, ↓State.bootRom_cells, ↓State.freshPcs_cells, ↓State.keepFailures_cells, ↓State.showKept_cells, ↓State.leaveReset_cells, ↓State.resolveTorn_cells, ↓State.lastReadable_cells, ↓State.sliceReset_cells, ↓State.hostReset_cells, ↓State.slicesReset_cells, ↓State.softReset_cells, ↓State.pfailFall_cells, ↓State.pauseHost_cells, ↓State.hostDown_cells, ↓State.closeStanding_cells, ↓State.settleQuiesces_cells, ↓State.fetched_cells, ↓State.refuse_cells, ↓State.dropFetch_cells, ↓State.fetchFailed_cells, ↓State.dieFault_cells, ↓State.converterTrip_cells] | split | simp only []
theorem State.epochWords_mem {s : State} (h : Memory.wf s.hbm.cells = true) (x1 : Nat) (x2 : RegFile) (x3 : Bool) : Memory.wf (State.epochWords s x1 x2 x3).hbm.cells = true := by
  unfold State.epochWords
  have h1 := memWf_foldl (List.range 9) State.sliceEpoch (fun t a ht => State.sliceEpoch_mem ht a)
    (s := s.cancelTimed x1) (by simp only [State.cancelTimed_cells, h])
  have h2 : Memory.wf ((List.range 9).foldl State.sliceEpoch (s.cancelTimed x1)).xcorEpoch.hbm.cells = true := by
    simp only [State.xcorEpoch_cells, h1]
  simp only [State.timesEpoch_cells]
  refine memWf_foldl _ _ (fun t a ht => by simp only [State.slotEpoch_cells, ht]) ?_
  simp only [State.dropGranules_cells, State.setFld_cells, State.apply_cells]
  split
  · simp only [State.endCover_cells, h2]
  · exact h2
theorem State.epochAt_mem {s : State} (h : Memory.wf s.hbm.cells = true) (x1 : Option Nat) (x2 : RegFile) (x3 : Bool) (x4 : Bool) (x5 : Nat) (x6 : Nat) : Memory.wf (State.epochAt s x1 x2 x3 x4 x5 x6).hbm.cells = true := by
  unfold State.epochAt
  (try simp (maxDischargeDepth := 30) (contextual := true) only [h, memWf_foldl, wf_ite, hbm_cells_ite, ite_self, State.epochWords_mem, ↓State.epochTime_cells, ↓State.updatePending_cells, ↓State.updateCaps_cells, ↓State.epochCal_cells, ↓State.epochRelock_cells]) <;> (repeat' (split <;> (try simp (maxDischargeDepth := 30) (contextual := true) only [h, memWf_foldl, wf_ite, hbm_cells_ite, ite_self, State.epochWords_mem, ↓State.epochTime_cells, ↓State.updatePending_cells, ↓State.updateCaps_cells, ↓State.epochCal_cells, ↓State.epochRelock_cells])))
end Sys2Proof.Machine
end

