-- ==== Sys2Proof/Tests/Slice0.lean ====
section
/-! SUPPORT. Tests of the model: ill-formed terms are refused, core words written out from the spec decode, single steps
answer what the spec says, and for each statement a concrete state and operands that meet its hypotheses. -/

namespace Sys2Proof.Tests

set_option Elab.async false
open Sys2Proof.Machine

/-! ## Helpers -/

/-- A state with register fields set. -/
def fset (s : State) (l : List (FRef × Nat)) : State := l.foldl (fun st p => st.setFld p.1 p.2) s

/-- A state with shadowed fields set in the register and in force. -/
def finf (s : State) (l : List (FRef × Nat)) : State :=
  let t := fset s l
  { t with force := l.foldl (fun f p => rfPut f p.1.addr (t.reg p.1.addr)) t.force }

/-- The block after reset, out of reset. -/
def r0 : State := { State.reset with inReset := false }

/-- The state after a command, or the state before where it does not complete. -/
def after (i : Instr) (s : State) : State :=
  match exec i s with
  | .next t => t
  | _ => s

/-- Does the command complete? -/
def completes (i : Instr) (s : State) : Bool :=
  match exec i s with
  | .next _ => true
  | _ => false

/-- The block with rings 0 set up: submission, completion and event ring of 16 entries, the link up. -/
def ringOn : State :=
  fset r0 [(Fr.HIF_FETCH_EN, 1), (Fr.HIF_BOOT_DONE, 1), (Fr.HIF_LINK_UP, 1), (Fr.SQ_EN 0, 1), (Fr.CQ_EN 0, 1),
    (Fr.SQ_STATE 0, sqRunning), (Fr.HIF_EV_EN, 1), (Fr.SQ_LOG2SIZE 0, 4), (Fr.CQ_LOG2SIZE 0, 4), (Fr.HIF_EV_LOG2SIZE, 4)]

/-- A descriptor of ring 0. -/
def job (op : Nat) (p : List Nat) : Desc := ⟨0, 0, 0x77, op, 0, 0, 0, p ++ zeros (12 - p.length), [], none⟩

/-- An accepted job of ring 0, of the descriptor given, that has started. -/
def jobFor (id : Nat) (d : Desc) : Job :=
  { id := id
    func := 0
    ring := d.ring
    idx := 0
    cq := 0
    cqIdx := 0
    d := d
    standing := false
    opened := true
    waiting := false
    acceptSt := 0
    done := none
    posted := false
    result := 0
    extent := 0
    flt := 0
    rank := 8
    res := []
    flagged := false
    cap := [] }

/-- A state in which job 1 of opcode `op` runs. -/
def running (s : State) (op : Nat) (p : List Nat) : State :=
  { s with
    jobs := [jobFor 1 (job op p)]
    nextJob := 2 }

/-! ## Ill-formed commands are refused -/

def zs (n : Nat) : List Int := List.replicate n 0
def dGood : Desc := job 0 []
def dBad : Desc := { dGood with p := zeros 11 }
def bGood : Boot := ⟨0, [], [], 0, false, []⟩
def bBad : Boot := { bGood with straps := 4096 }
def g0 : F0 := ⟨0, 0, 0, 0, 0, 0, 0, 0, 0, 0, 0⟩
def g1 : F1 := ⟨0, 0, 0, 0, 0⟩
def g2 : F2 := ⟨0, 0, 0⟩
def g3 : F3 := ⟨0, 0, 0, 0⟩
def g4 : F4 := ⟨0, 0, 0⟩
def g5 : F5 := ⟨0, 0, 0⟩
def b0 : F0 := { g0 with acc := 2 }
def b1 : F1 := { g1 with t := 2 }
def b2 : F2 := { g2 with idx := 16 }
def b3 : F3 := { g3 with pm := 2 }
def b4 : F4 := { g4 with target := 2 ^ 13 }
def b5 : F5 := { g5 with code := 2 ^ 16 }

/-- Each field of a descriptor, of the facts of a boot and of a core instruction is checked. -/
theorem test_illformed_fields :
    [({ dGood with ring := 64 } : Desc), { dGood with seq := 2 ^ 32 }, { dGood with token := 2 ^ 32 }, { dGood with opcode := 256 },
      { dGood with rsvd9 := 256 }, { dGood with flags := 2 ^ 16 }, { dGood with rsvd12 := 2 ^ 32 }, dBad,
      { dGood with p := 2 ^ 32 :: zeros 11 }, { dGood with data := [256] }].all (fun d => !d.ok) = true
    ∧ [bBad, { bGood with testsFail := 2 ^ 13 }, { bGood with copyA := [256] }, { bGood with copyB := [256] }].all (fun b => !b.ok) = true
    ∧ [b0, { g0 with sa := 16 }, { g0 with sb := 16 }, { g0 with lx := 2 }, { g0 with px := 8 }, { g0 with dx := 16 },
      { g0 with ly := 2 }, { g0 with py := 8 }, { g0 with dy := 16 }, { g0 with modx := 2 }, { g0 with mody := 2 }].all (fun x => !x.ok) = true
    ∧ [b1, { g1 with dst := 16 }, { g1 with sa := 16 }, { g1 with sb := 16 }, { g1 with sh := 64 }].all (fun x => !x.ok) = true
    ∧ [b2, { g2 with file := 8 }, { g2 with imm := 2 ^ 16 }].all (fun x => !x.ok) = true
    ∧ [b3, { g3 with p := 8 }, { g3 with d := 16 }, { g3 with ofs := 2 ^ 16 }].all (fun x => !x.ok) = true
    ∧ [b4, { g4 with src := 2 }, { g4 with count := 2 ^ 12 }].all (fun x => !x.ok) = true
    ∧ [b5, { g5 with d := 16 }, { g5 with sreg := 16 }].all (fun x => !x.ok) = true := by
  and_intros <;> decide +kernel

theorem test_illformed_1 :
    ([.configureSlotSource dBad, .configureWindowTable dBad, .configureMaskTable dBad, .configureFirBank dBad,
      .configureGainBank dBad, .configureSubmissionRing dBad, .configureCompletionRing dBad,
      .configureEventRing dBad, .configureDisplayPalette dBad, .commit dBad, .epochCommit dBad, .trimCommit dBad,
      .streamOpen dBad, .streamClose dBad, .armTriggerSingle dBad, .armTriggerRepeat dBad, .disarm dBad,
      .extract dBad, .extractRelease dBad, .release dBad, .recordStart dBad, .recordStop dBad, .coreLoad dBad,
      .coreRunStart dBad, .coreRunStop dBad, .calibrate dBad, .snapshot dBad, .bist dBad, .attestQuote dBad,
      .attestCertificates dBad, .generate dBad, .importKey dBad, .exportPublic dBad, .deleteKey dBad, .setOwner dBad,
      .svnCommit dBad, .zeroise dBad, .reseed dBad, .revokeVendor dBad, .move dBad, .videoCommit dBad, .hkTable dBad,
      .quiesceDrain dBad, .quiesceClose dBad, .quiesceReset dBad] : List Instr).all (fun i => !wellFormed i) = true := by decide +kernel

theorem test_illformed_2 :
    ([.sliceReset dBad, .restripe dBad, .checkBuffer dBad, .checkVerify dBad, .faultAckAck dBad,
      .faultAckReturn dBad, .journalRead dBad, .shedOrder dBad, .submissionDoorbell 16 0 0,
      .submissionDoorbell 0 64 0, .submissionDoorbell 0 0 (2 ^ 17), .completionDoorbell 16 0 0,
      .completionDoorbell 0 64 0, .completionDoorbell 0 0 (2 ^ 17), .eventDoorbell (2 ^ 17), .descriptorFetch dBad,
      .fetchRetry dBad, .completionPost 64, .coalescingTimeout 64, .registerWrite 16 0 0 false,
      .registerWrite 0 (2 ^ 24) 0 false, .registerWrite 0 2 0 false, .registerWrite 0 0 (2 ^ 32) false,
      .rlLowRead (2 ^ 24), .rlLowRead 2, .bar0UnsupportedAccess (2 ^ 24) 1 false, .bar0UnsupportedAccess 0 0 false,
      .bar0UnsupportedAccess 0 4097 false, .debugWindowAccess (2 ^ 28) 1 none, .debugWindowAccess 0 0 none,
      .debugWindowAccess 0 4097 none, .debugWindowAccess 0 1 (some [256]), .ringRegisterWrite 16 0 0,
      .ringRegisterWrite 0 (2 ^ 24) 0, .ringRegisterWrite 0 2 0, .ringRegisterWrite 0 0 (2 ^ 32),
      .funcWrite (2 ^ 24) 0 false, .funcWrite 2 0 false, .funcWrite 0 (2 ^ 32) false, .vfwinWrite (2 ^ 24) 0 false,
      .vfwinWrite 2 0 false, .vfwinWrite 0 (2 ^ 32) false, .pmcValuePreset (2 ^ 24) 0 false,
      .pmcValuePreset 2 0 false, .pmcValuePreset 0 (2 ^ 32) false] : List Instr).all (fun i => !wellFormed i) = true := by decide +kernel

theorem test_illformed_3 :
    ([.clrOvf 6012 0, .clrOvf 0 (2 ^ 32), .abandon (2 ^ 32), .recovGo (2 ^ 32) [], .recovGo 0 [256], .auxGo (2 ^ 32),
      .auxReadDone (some [256]), .hkGo (2 ^ 32), .mgmtRead (2 ^ 16), .beat 8 (zs 16) false false,
      .beat 0 (zs 15) false false, .beat 0 (2048 :: zs 15) false false, .spectrum 9 0 0, .spectrum 0 16 0,
      .trigOutPulseEnd 4, .densityPeriodClose 9, .densityReadoutDone 9, .spxChangeInstant 9, .ddcRestartInstant 9 0,
      .ddcRestartInstant 0 4, .ddcOutputSample 9 0, .ddcOutputSample 0 4, .ddcBlockWrite 9 0, .ddcBlockWrite 0 4,
      .xfadeEnd 9 0, .xfadeEnd 0 4, .zoomRecord 9 0, .zoomRecord 0 4, .attenChange 9, .fPayloadStaged 8 0,
      .correlatorHalfFail 2 0 false, .lockConfirmation 2 0, .synthRelockRetry 2, .epochInstant 0 (2 ^ 64),
      .ppsEdge 0 (2 ^ 64), .todPairLatch (2 ^ 64), .ptpMessage 2 0 0 0 0 0, .ptpMessage 0 0 0 0 (2 ^ 64) 0,
      .laneClockRecovery 8, .syncHeaderLock 8, .ilasReceived 8 false, .linkStepTimeout 8, .crc12Failure 8 0,
      .linkLockLoss 8, .calSensorRead (zs 8)] : List Instr).all (fun i => !wellFormed i) = true := by decide +kernel

theorem test_illformed_4 :
    ([.backgroundUpdate 9, .calibrationRetry 9, .intakeFault 9 0, .sliceFault 9 0 0, .bistDone 0 0 (2 ^ 32) 0,
      .bistDone 0 0 0 (2 ^ 32), .retrainingStart 128 0, .forcedRefresh 128, .selfRefreshEntry 4, .selfRefreshExit 4,
      .stackRecovery 4, .stackRecovered 4 [], .spareReady 128, .dmaBurstStart 32, .dmaBurstDone 32 [],
      .dmaBurstRetry 32 0 0, .dmaTransferDone 32, .arpRequest 2 false 0 0 0, .arpRequest 0 false 0 (2 ^ 48) 0,
      .ethPortFailure 2 0, .ethUp 2, .nvmeCompletion 8 false 0, .nvmeCompletion 0 false (2 ^ 16),
      .dpHpdHigh 0 0 [256], .instructionSample 9, .sampleDrain 9, .watchdog bBad, .powerOn bBad, .resetN 8 bGood,
      .resetN 0 bBad, .vfFlr 0, .vfFlr 16, .railMonitorTrip 8 0, .railRecovery 8 bGood, .railRecovery 0 bBad,
      .coreMaskSwap 9 0, .coreMaskSwap 0 16, .coreSend 9 0, .coreSend 0 16, .corePost 9 0, .corePost 0 16,
      .coreDmaGo 9 0, .coreDmaGo 0 16, .coreMsgPop 9 0, .coreMsgPop 0 16] : List Instr).all (fun i => !wellFormed i) = true := by decide +kernel

theorem test_illformed_5 :
    ([.mac 9 0 g0, .mac 0 16 g0, .mac 0 0 b0, .msu 9 0 g0, .msu 0 16 g0, .msu 0 0 b0, .mpy 9 0 g0, .mpy 0 16 g0,
      .mpy 0 0 b0, .parallelLoad 9 0 g0, .parallelLoad 0 16 g0, .parallelLoad 0 0 b0, .load 9 0 g3, .load 0 16 g3,
      .load 0 0 b3, .store 9 0 g3, .store 0 16 g3, .store 0 0 b3, .add 9 0 g1, .add 0 16 g1, .add 0 0 b1,
      .sub 9 0 g1, .sub 0 16 g1, .sub 0 0 b1, .adds 9 0 g1, .adds 0 16 g1, .adds 0 0 b1, .subs 9 0 g1, .subs 0 16 g1,
      .subs 0 0 b1, .and 9 0 g1, .and 0 16 g1, .and 0 0 b1, .or 9 0 g1, .or 0 16 g1, .or 0 0 b1, .xor 9 0 g1,
      .xor 0 16 g1, .xor 0 0 b1, .not 9 0 g1, .not 0 16 g1, .not 0 0 b1, .shl 9 0 g1, .shl 0 16 g1, .shl 0 0 b1] : List Instr).all (fun i => !wellFormed i) = true := by decide +kernel

theorem test_illformed_6 :
    ([.shr 9 0 g1, .shr 0 16 g1, .shr 0 0 b1, .asr 9 0 g1, .asr 0 16 g1, .asr 0 0 b1, .min 9 0 g1, .min 0 16 g1,
      .min 0 0 b1, .max 9 0 g1, .max 0 16 g1, .max 0 0 b1, .abs 9 0 g1, .abs 0 16 g1, .abs 0 0 b1, .neg 9 0 g1,
      .neg 0 16 g1, .neg 0 0 b1, .cmp 9 0 g1, .cmp 0 16 g1, .cmp 0 0 b1, .mov 9 0 g1, .mov 0 16 g1, .mov 0 0 b1,
      .ext 9 0 g1, .ext 0 16 g1, .ext 0 0 b1, .ext 0 0 ⟨0, 0, 0, 32, 0⟩, .aclr 9 0 g1, .aclr 0 16 g1, .aclr 0 0 b1,
      .ald 9 0 g1, .ald 0 16 g1, .ald 0 0 b1, .aadd 9 0 g1, .aadd 0 16 g1, .aadd 0 0 b1, .asub 9 0 g1, .asub 0 16 g1,
      .asub 0 0 b1, .ashl 9 0 g1, .ashl 0 16 g1, .ashl 0 0 b1, .aasr 9 0 g1, .aasr 0 16 g1] : List Instr).all (fun i => !wellFormed i) = true := by decide +kernel

theorem test_illformed_7 :
    ([.aasr 0 0 b1, .aget 9 0 g1, .aget 0 16 g1, .aget 0 0 b1, .aget 0 0 ⟨0, 0, 0, 3, 0⟩, .mvx 9 0 g1, .mvx 0 16 g1,
      .mvx 0 0 b1, .mvx 0 0 ⟨8, 0, 0, 8, 0⟩, .mvx 0 0 ⟨0, 8, 0, 1, 0⟩, .ldi 9 0 g2, .ldi 0 16 g2, .ldi 0 0 b2,
      .ldi 0 0 ⟨0, 5, 0⟩, .addi 9 0 g2, .addi 0 16 g2, .addi 0 0 b2, .addi 0 0 ⟨0, 5, 0⟩, .andi 9 0 g2,
      .andi 0 16 g2, .andi 0 0 b2, .andi 0 0 ⟨0, 1, 0⟩, .ori 9 0 g2, .ori 0 16 g2, .ori 0 0 b2, .ori 0 0 ⟨0, 1, 0⟩,
      .cmpi 9 0 g2, .cmpi 0 16 g2, .cmpi 0 0 b2, .cmpi 0 0 ⟨0, 1, 0⟩, .br 9 0 g4, .br 0 16 g4, .br 0 0 b4,
      .beq 9 0 g4, .beq 0 16 g4, .beq 0 0 b4, .bne 9 0 g4, .bne 0 16 g4, .bne 0 0 b4, .blt 9 0 g4, .blt 0 16 g4,
      .blt 0 0 b4, .bge 9 0 g4, .bge 0 16 g4, .bge 0 0 b4] : List Instr).all (fun i => !wellFormed i) = true := by decide +kernel

theorem test_illformed_8 :
    ([.call 9 0 g4, .call 0 16 g4, .call 0 0 b4, .ret 9 0 g4, .ret 0 16 g4, .ret 0 0 b4, .loop 9 0 g4, .loop 0 16 g4,
      .loop 0 0 b4, .nop 9 0 g5, .nop 0 16 g5, .nop 0 0 b5, .halt 9 0 g5, .halt 0 16 g5, .halt 0 0 b5, .wait 9 0 g5,
      .wait 0 16 g5, .wait 0 0 b5, .mfs 9 0 g5, .mfs 0 16 g5, .mfs 0 0 b5, .mfs 0 0 ⟨0, 0, 2⟩, .mts 9 0 g5,
      .mts 0 16 g5, .mts 0 0 b5, .mts 0 0 ⟨0, 0, 2⟩, .fence 9 0 g5, .fence 0 16 g5, .fence 0 0 b5, .codeError 8 0,
      .illegalInstruction 9 0, .illegalInstruction 0 16, .msiXIntervalEnd 256, .netCfgWrite (2 ^ 24) 0,
      .netCfgWrite 2 0, .netCfgWrite 0 (2 ^ 32), .pmcSmpWrite (2 ^ 24) 0, .pmcSmpWrite 2 0, .pmcSmpWrite 0 (2 ^ 32)] : List Instr).all (fun i => !wellFormed i) = true := by decide +kernel

theorem test_wellformed_1 :
    ([.configureSlotSource dGood, .configureWindowTable dGood, .configureMaskTable dGood, .configureFirBank dGood,
      .configureGainBank dGood, .configureSubmissionRing dGood, .configureCompletionRing dGood,
      .configureEventRing dGood, .configureDisplayPalette dGood, .commit dGood, .epochCommit dGood,
      .trimCommit dGood, .streamOpen dGood, .streamClose dGood, .armTriggerSingle dGood, .armTriggerRepeat dGood,
      .disarm dGood, .extract dGood, .extractRelease dGood, .release dGood, .recordStart dGood, .recordStop dGood,
      .coreLoad dGood, .coreRunStart dGood, .coreRunStop dGood, .calibrate dGood, .snapshot dGood, .bist dGood,
      .attestQuote dGood, .attestCertificates dGood, .generate dGood, .importKey dGood, .exportPublic dGood,
      .deleteKey dGood, .setOwner dGood, .svnCommit dGood, .zeroise dGood, .reseed dGood, .revokeVendor dGood,
      .move dGood, .videoCommit dGood, .hkTable dGood, .quiesceDrain dGood, .quiesceClose dGood, .quiesceReset dGood,
      .sliceReset dGood, .restripe dGood, .checkBuffer dGood, .checkVerify dGood, .faultAckAck dGood,
      .faultAckReturn dGood, .journalRead dGood, .shedOrder dGood, .submissionDoorbell 0 0 0,
      .completionDoorbell 0 0 0, .eventDoorbell 0, .descriptorFetch dGood, .fetchRetry dGood, .completionPost 0,
      .coalescingTimeout 0] : List Instr).all wellFormed = true := by decide +kernel

theorem test_wellformed_2 :
    ([.registerWrite 0 0 0 false, .rlLowRead 0, .bar0UnsupportedAccess 0 1 false, .debugWindowAccess 0 1 none,
      .ringRegisterWrite 0 0 0, .funcWrite 0 0 false, .vfwinWrite 0 0 false, .pmcValuePreset 0 0 false, .clrOvf 0 0,
      .abandon 0, .recovGo 0 [], .auxGo 0, .auxReadDone none, .hkGo 0, .mgmtRead 0, .beat 0 (zs 16) false false,
      .spectrum 0 0 0, .trigOutPulseEnd 0, .densityPeriodClose 0, .densityReadoutDone 0, .spxChangeInstant 0,
      .ddcRestartInstant 0 0, .ddcOutputSample 0 0, .ddcBlockWrite 0 0, .xfadeEnd 0 0, .zoomRecord 0 0,
      .attenChange 0, .fPayloadStaged 0 0, .correlatorHalfFail 0 0 false, .lockConfirmation 0 0, .synthRelockRetry 0,
      .epochInstant 0 0, .ppsEdge 0 0, .todPairLatch 0, .ptpMessage 0 0 0 0 0 0, .laneClockRecovery 0,
      .syncHeaderLock 0, .ilasReceived 0 false, .linkStepTimeout 0, .crc12Failure 0 0, .linkLockLoss 0,
      .calSensorRead (zs 9), .backgroundUpdate 0, .calibrationRetry 0, .intakeFault 0 0, .sliceFault 0 0 0,
      .bistDone 0 0 0 0, .retrainingStart 0 0, .forcedRefresh 0, .selfRefreshEntry 0, .selfRefreshExit 0,
      .stackRecovery 0, .stackRecovered 0 [], .spareReady 0, .dmaBurstStart 0, .dmaBurstDone 0 [],
      .dmaBurstRetry 0 0 0, .dmaTransferDone 0, .arpRequest 0 false 0 0 0, .ethPortFailure 0 0] : List Instr).all wellFormed = true := by decide +kernel

theorem test_wellformed_3 :
    ([.ethUp 0, .nvmeCompletion 0 false 0, .dpHpdHigh 0 0 [], .instructionSample 0, .sampleDrain 0, .watchdog bGood,
      .powerOn bGood, .resetN 0 bGood, .vfFlr 1, .railMonitorTrip 0 0, .railRecovery 0 bGood, .coreMaskSwap 0 0,
      .coreSend 0 0, .corePost 0 0, .coreDmaGo 0 0, .coreMsgPop 0 0, .mac 0 0 g0, .msu 0 0 g0, .mpy 0 0 g0,
      .parallelLoad 0 0 g0, .load 0 0 g3, .store 0 0 g3, .add 0 0 g1, .sub 0 0 g1, .adds 0 0 g1, .subs 0 0 g1,
      .and 0 0 g1, .or 0 0 g1, .xor 0 0 g1, .not 0 0 g1, .shl 0 0 g1, .shr 0 0 g1, .asr 0 0 g1, .min 0 0 g1,
      .max 0 0 g1, .abs 0 0 g1, .neg 0 0 g1, .cmp 0 0 g1, .mov 0 0 g1, .ext 0 0 g1, .aclr 0 0 g1, .ald 0 0 g1,
      .aadd 0 0 g1, .asub 0 0 g1, .ashl 0 0 g1, .aasr 0 0 g1, .aget 0 0 g1, .mvx 0 0 g1, .ldi 0 0 g2, .addi 0 0 g2,
      .andi 0 0 g2, .ori 0 0 g2, .cmpi 0 0 g2, .br 0 0 g4, .beq 0 0 g4, .bne 0 0 g4, .blt 0 0 g4, .bge 0 0 g4,
      .call 0 0 g4, .ret 0 0 g4] : List Instr).all wellFormed = true := by decide +kernel

theorem test_wellformed_4 :
    ([.loop 0 0 g4, .nop 0 0 g5, .halt 0 0 g5, .wait 0 0 g5, .mfs 0 0 g5, .mts 0 0 g5, .fence 0 0 g5, .codeError 0 0,
      .illegalInstruction 0 0, .msiXIntervalEnd 0, .netCfgWrite 0 0, .pmcSmpWrite 0 0] : List Instr).all wellFormed = true := by decide +kernel

/-! ## Witnesses -/

/-- A register file where a pair's words and others hold values. -/
def sRegs : State := (ringOn.setReg 0x10 5#32).setReg 0x30100 7#32
/-- Ring 0 disabled. -/
def sSqOff : State := fset ringOn [(Fr.SQ_EN 0, 0), (Fr.SQ_SEQ_BASE 0, 9)]
/-- Writes to the debug window allowed. -/
def sWr : State := fset ringOn [(Fr.HIF_WR_EN, 1)]
def sWr1 : State := fset sWr [(Fr.HIF_WINDOW, 1), (Fr.MEM_N_ACT, 31)]
def sWr240 : State := fset sWr [(Fr.HIF_WINDOW, 240)]
def sWr241 : State := fset sWr [(Fr.HIF_WINDOW, 241)]
/-- The approved mode. -/
def sApproved : State := { ringOn with straps := 256 }
/-- Two functions with rings of their own. -/
def sFun : State := fset ringOn [(Fr.FUNC_SQ_FIRST 1, 8), (Fr.FUNC_SQ_COUNT 1, 4), (Fr.DMA_VFWIN_SIZE_MIB 1, 1)]
/-- A small ring and a system area that begins at 4 GiB. -/
def sMem : State := fset ringOn [(Fr.MEM_RING_GIB, 0), (Fr.MEM_SYS_BASE_MIB, 4096)]
/-- The rows of five words: an identity, one with W1C bits, a pair, a stored coefficient. -/
def rowId : RegRow := ⟨0, 1, 16777216, 1, 4, 0, 0, 0, 0, 67761⟩
def rowW1c : RegRow := ⟨8, 1, 16777216, 1, 4, 0, 8, 0, 0, 0⟩
def rowLo : RegRow := ⟨16, 1, 16777216, 1, 4, 4294967295, 0, 1, 0, 0⟩
def rowHi : RegRow := ⟨20, 1, 16777216, 1, 4, 4294967295, 0, 2, 0, 0⟩
def rowCal : RegRow := ⟨196864, 9, 64, 1, 4, 4294967295, 0, 0, 4294967295, 0⟩
/-- Before the boot is done. -/
def sBoot : State := fset ringOn [(Fr.HIF_BOOT_DONE, 0)]

/-- The hypotheses of UnsupportedAccess are met, each clause's together. -/
theorem witness_UnsupportedAccess :
    (0 ≠ 4 ∨ 0 % 4 ≠ 0) ∧ (3 % 4 ≠ 0) := by
  and_intros <;> decide +kernel

/-- The hypotheses of RegisterWriteByCode are met, each clause's together. -/
theorem witness_RegisterWriteByCode :
    (12 % 4 = 0) ∧ (ownWord 12 = false) ∧ (regRow 12 = none) ∧ (0 % 4 = 0) ∧ (ownWord 0 = false) ∧ (regRow 0 = some
    rowId) ∧ (rowId.rl = 0) ∧ (rowId.rw = 0) ∧ (rowId.rws = 0) ∧ (rowId.w1c = 0) ∧ (8 % 4 = 0) ∧ (ownWord 8 = false) ∧
    (regRow 8 = some rowW1c) ∧ (rowW1c.rl = 0) ∧ (rowW1c.rw ≠ 0 ∨ rowW1c.rws ≠ 0 ∨ rowW1c.w1c ≠ 0) ∧ (8 = 6291456 →
    bits (keptWord 8 0) 8 7 < bits (keptWord 8 0) 0 7) ∧ (196864 % 4 = 0) ∧ (ownWord 196864 = false) ∧ (regRow 196864
    = some rowCal) ∧ (rowCal.rl = 0) ∧ (rowCal.rw ≠ 0 ∨ rowCal.rws ≠ 0 ∨ rowCal.w1c ≠ 0) ∧ (196864 ≤ 196864) ∧ (196864
    < 197440) := by
  and_intros <;> decide +kernel

/-- The hypotheses of RlPairWrite are met, each clause's together. -/
theorem witness_RlPairWrite :
    (16 % 4 = 0) ∧ (0 < 2 ^ 32) ∧ (regRow 16 = some rowLo) ∧ (rowLo.rl = 1) ∧ (ownWord 16 = false) ∧ (regRow (16 + 4)
    = some rowHi) ∧ (rowHi.rl = 2) ∧ (ownWord (16 + 4) = false) := by
  and_intros <;> decide +kernel

/-- The hypotheses of RegisterReads are met, each clause's together. -/
theorem witness_RegisterReads :
    (rlOf 16 = 1) ∧ (rlOf (16 + 4) = 2) ∧ (0 % 4 = 0) ∧ (0 < 2 ^ 24) ∧ (327680 % 4 = 0) ∧ (327680 < 2 ^ 24) ∧ (327680
    ≤ 327680) ∧ (327680 < 9175040) ∧ (262144 % 4 = 0) ∧ (262144 < 2 ^ 24) ∧ (262144 ≤ 262144 ∧ 262144 < 327680 ∨
    9175040 ≤ 262144 ∧ 262144 < 9437184) ∧ (rlOf 262144 = 0) := by
  and_intros <;> decide +kernel

/-- The hypotheses of RingRegisterWrite263 are met, each clause's together. -/
theorem witness_RingRegisterWrite263 :
    (0 < 64) ∧ (0 < 2 ^ 32) ∧ (sBoot.flag Fr.HIF_BOOT_DONE = false) ∧ (ringOn.flag Fr.HIF_BOOT_DONE = true) ∧
    (ringOn.flag (Fr.SQ_EN 0) = true) ∧ (0 = 0 ∨ 0 = 4 ∨ 0 = 8) ∧ (4 < 64) ∧ (2147483665 < 2 ^ 32) ∧ (ringOn.flag
    (Fr.SQ_EN 4) = false) ∧ (bit 2147483665 31 = true) ∧ (bits 2147483665 0 5 < 4 ∨ 16 < bits 2147483665 0 5 ∨
    ringOn.flag (Fr.CQ_EN (bits 2147483665 8 6)) = false) ∧ (2147483652 < 2 ^ 32) ∧ (bit 2147483652 31 = true) ∧ (4 ≤
    bits 2147483652 0 5) ∧ (bits 2147483652 0 5 ≤ 16) ∧ (ringOn.flag (Fr.CQ_EN (bits 2147483652 8 6)) = true) := by
  and_intros <;> decide +kernel

/-- The hypotheses of FunctionAndWindowWrites are met, each clause's together. -/
theorem witness_FunctionAndWindowWrites :
    (1 ≤ 1) ∧ (1 < 16) ∧ (0 < 2 ^ 32) ∧ (true = true ∨ ringOn.funcOverlaps 1 0 = true) ∧ (ringOn.funcOverlaps 1 0 =
    false) ∧ (true = true ∨ 0 < ringOn.fld (Fr.DMA_VFWIN_SIZE_MIB 1) ∧ ringOn.badRegion (bits 0 0 16 * 2 ^ 20)
    (ringOn.fld (Fr.DMA_VFWIN_SIZE_MIB 1) * 2 ^ 20) = true) ∧ (sMem.badRegion (bits 0 0 16 * 2 ^ 20) (sMem.fld
    (Fr.DMA_VFWIN_SIZE_MIB 1) * 2 ^ 20) = false) ∧ (sMem.badRegion (sMem.fld (Fr.DMA_VFWIN_BASE_MIB 1) * 2 ^ 20) (bits
    0 0 17 * 2 ^ 20) = false) := by
  and_intros <;> decide +kernel

/-- The hypotheses of DebugWindow are met, each clause's together. -/
theorem witness_DebugWindow :
    (0 < 2 ^ 28) ∧ (sApproved.approved = true) ∧ (ringOn.flag Fr.HIF_WR_EN = false ∨ 240 < ringOn.fld Fr.HIF_WINDOW) ∧
    (sWr.approved = false) ∧ (sWr.flag Fr.HIF_WR_EN = true) ∧ (sWr.fld Fr.HIF_WINDOW = 0) ∧ (0 + ([] : List
    Nat).length ≤ sramSize) ∧ (rising sWr.sram = true) ∧ (0 + [1, 2, 255].length ≤ sramSize) ∧ (sWr1.approved = false)
    ∧ (sWr1.flag Fr.HIF_WR_EN = true) ∧ (1 ≤ sWr1.fld Fr.HIF_WINDOW) ∧ (sWr1.fld Fr.HIF_WINDOW ≤ 240) ∧ (0 < [1, 2,
    255].length) ∧ ((sWr1.fld Fr.HIF_WINDOW - 1) * 2 ^ 28 + 0 + 0 < sWr1.hbmSize) ∧ (sWr1.hbm.holes.contains
    (sWr1.slotOf ((sWr1.fld Fr.HIF_WINDOW - 1) * 2 ^ 28 + 0 + 0)) = false) ∧ (sWr241.approved = false) ∧ (240 <
    sWr241.fld Fr.HIF_WINDOW) ∧ ((sWr1.fld Fr.HIF_WINDOW - 1) * 2 ^ 28 + 0 + 4 ≤ sWr1.sysBase) ∧ (sWr240.approved =
    false) ∧ (1 ≤ sWr240.fld Fr.HIF_WINDOW) ∧ (sWr240.fld Fr.HIF_WINDOW ≤ 240) ∧ (sWr240.sysBase ≤ (sWr240.fld
    Fr.HIF_WINDOW - 1) * 2 ^ 28 + 0) ∧ ((sWr240.fld Fr.HIF_WINDOW - 1) * 2 ^ 28 + 0 + 4 ≤ sWr240.sysBase + mapBytes) ∧
    ((sWr240.fld Fr.HIF_WINDOW - 1) * 2 ^ 28 + 0 + 4 ≤ sWr240.hbmSize) ∧ (ringOn.approved = false) ∧ (ringOn.fld
    Fr.HIF_WINDOW = 0) := by
  and_intros <;> decide +kernel

def snapNow : SnapReq := ⟨1, 0, true⟩
/-- A snapshot asked for at once, of job 1. -/
def sSnap : State :=
  { running ((fset ringOn [(Fr.PMC_PENDING, 1), (Fr.CLK_RUNNING, 1)]).setReg (pmcBase + 8) 1#32) 0x28 [0, 0, 1] with snaps := [snapNow] }
/-- The same with CK_DP gated. -/
def sSnapGated : State := sSnap.setFld Fr.CLK_RUNNING 0
/-- Sampling of slice 0: a sample waits, a record waits for the drain. -/
def sSmp : State :=
  { fset r0 [(Fr.MEM_RING_GIB, 0), (Fr.MEM_SYS_BASE_MIB, 4096), (Fr.MEM_N_ACT, 31), (Fr.SMP_BASE_MIB 0, 16), (Fr.SMP_SIZE_MIB 0, 1)] with
    smp := modNth State.reset.smp 0 (fun m => { m with due := [zeros 12], ring := [zeros 16] }) }
def sSmpFull : State :=
  { sSmp with smp := modNth sSmp.smp 0 (fun m => { m with ring := List.replicate 4096 (zeros 16) }) }
/-- Sampling of slice 0 runs. -/
def sSmpOn : State := sSmp.setFld (Fr.SMP_EN 0) 1
/-- The monitor converts, its table has one entry. -/
def sHk : State :=
  { fset r0 [(Fr.HK_RUNNING, 1), (Fr.HK_NENT, 1), (Fr.HK_BUSY, 1)] with hk := { State.reset.hk with mode := 0, delay := false } }
def sHk2 : State := sHk.setFld Fr.HK_NENT 2
/-- An entry waits for its DELAY. -/
def sHkWait : State := { sHk.setFld Fr.HK_BUSY 0 with hk := { sHk.hk with delay := true } }
/-- The self-calibration is due. -/
def sHkCal : State := { sHk.setFld Fr.HK_BUSY 0 with hk := { sHk.hk with calDue := true } }
/-- LK2 mode. -/
def sLeg : State := { fset sHk [(Fr.HK_MODE, 1), (Fr.HK_BUSY, 0)] with hk := { sHk.hk with mode := 1 } }
def sLegBusy : State := { fset sLeg [(Fr.HK_LEG_BUSY, 1), (Fr.HK_BUSY, 1)] with hk := { sLeg.hk with leg := some (3, 0) } }
/-- The display controller is present; the link is down, trains, is up. -/
def sVid : State := { r0 with straps := 512 }
def sVidTrain : State := { fset sVid [(Fr.VID_HPD, 1), (Fr.VID_LINK, dpTraining)] with vid := { sVid.vid with sink := some (4, 3) } }
def sVidTrain1 : State := { finf sVidTrain [(Fr.VID_PCLK, 594000)] with vid := { sVid.vid with sink := some (1, 0) } }
def sVidDown : State := fset sVid [(Fr.VID_HPD, 1)]
def sVidUp : State := fset sVid [(Fr.VID_HPD, 1), (Fr.VID_LINK, dpUp)]
/-- A frame buffer waits for the blanking. -/
def sVidFrame : State := { running sVid 0x44 [] with vid := { sVid.vid with frame := some (1, 4096, 64) } }
/-- The scan-out runs; its events are allowed. -/
def sVidOn : State := finf sVidUp [(Fr.VID_EN, 1)]
def sVidEv : State := finf sVidOn [(Fr.VID_EV_EN, 2)]
/-- An AUX read is in progress. -/
def sAux : State := fset sVid [(Fr.VID_AUX_BUSY, 1)]

/-- The hypotheses of PmcCounters are met, each clause's together. -/
theorem witness_PmcCounters :
    (0 < pmcN) ∧ (0 < 2 ^ 32) ∧ (0 < 2 ^ 25) := by
  and_intros <;> decide +kernel

/-- The hypotheses of SnapshotCopies are met, each clause's together. -/
theorem witness_SnapshotCopies :
    (r0.snaps = []) ∧ (sSnap.snaps = [snapNow]) ∧ (snapNow.immediate = true ∨ snapNow.t < (sSnap.samp + if sSnap.flag
    Fr.CLK_RUNNING = true then 0 else sSnap.clk.skipped) + 16) ∧ (sSnap.job snapNow.job = some (jobFor 1 (job 40 [0,
    0, 1]))) ∧ ((jobFor 1 (job 40 [0, 0, 1])).done = none) ∧ ((jobFor 1 (job 40 [0, 0, 1])).ring < 64) ∧ (snapDump
    (jobFor 1 (job 40 [0, 0, 1])).d = false) := by
  and_intros <;> decide +kernel

/-- The hypotheses of InstructionSampling are met, each clause's together. -/
theorem witness_InstructionSampling :
    (0 < 8) ∧ (sSmp.smp.length = 8) ∧ (0 < 2 ^ 32) ∧ ((nth sSmp.smp 0 { }).due = [zeros 12]) ∧ ((nth sSmp.smp 0 {
    }).ring.length < 4096) ∧ (sSmpFull.smp.length = 8) ∧ ((nth sSmpFull.smp 0 { }).due = [zeros 12]) ∧ (4096 ≤ (nth
    sSmpFull.smp 0 { }).ring.length) ∧ (sSmpFull.fld (Fr.SMP_DROPPED 0) + 1 < 2 ^ 32) ∧ ((nth sSmp.smp 0 { }).ring ≠
    []) ∧ (0 < sSmp.fld (Fr.SMP_SIZE_MIB 0)) ∧ (∀ (b : List Nat), b ∈ (nth sSmp.smp 0 { }).ring → b.length = 16) ∧
    (sSmpOn.smp.length = 8) ∧ (sSmpOn.flag (Fr.SMP_EN 0) = true) ∧ (0 = 0 ∨ 0 = 4 ∨ 0 = 8) ∧ (sSmp.flag (Fr.SMP_EN 0)
    = false) ∧ (bits 0 16 7 = 0 ∨ bits 0 16 7 ≤ 64 ∧ sSmp.badRegion (bits 0 0 16 * 2 ^ 20) (bits 0 16 7 * 2 ^ 20) =
    false ∧ (sSmp.meetsRegion (bits 0 0 16 * 2 ^ 20) (bits 0 16 7 * 2 ^ 20) fun r => decide (r.kind ≠ 6) || decide
    (r.idx ≠ 0)) = false) := by
  and_intros <;> decide +kernel

/-- The hypotheses of HkSequence are met, each clause's together. -/
theorem witness_HkSequence :
    (sHkWait.flag Fr.HK_RUNNING = true) ∧ (sHkWait.hk.mode = 0) ∧ (sHkWait.fld Fr.HK_MODE = 0) ∧ (sHkWait.hk.delay =
    true) ∧ (sHkWait.flag Fr.HK_BUSY = false) ∧ (sHkWait.hk.calDue = false) ∧ (sHk.flag Fr.HK_RUNNING = true) ∧
    (sHk.hk.mode = 0) ∧ (sHk.fld Fr.HK_MODE = 0) ∧ (sHk.flag Fr.HK_BUSY = true) ∧ (sHk.hk.leg = none) ∧ (sHk.hk.next =
    none) ∧ (sHk.hk.rep = 0) ∧ (bits (sHk.hkEntry (sHk.fld Fr.HK_ENTRY)) 8 8 = 1) ∧ (bits (sHk.hkEntry (sHk.fld
    Fr.HK_ENTRY)) 0 5 < 31) ∧ (sHk.flag (Fr.HK_PT_LIM_EN (bits (sHk.hkEntry (sHk.fld Fr.HK_ENTRY)) 0 5)) = false) ∧
    (sHk.fld Fr.HK_NENT ≤ sHk.fld Fr.HK_ENTRY + 1) ∧ (sHk2.flag Fr.HK_RUNNING = true) ∧ (sHk2.hk.mode = 0) ∧ (sHk2.fld
    Fr.HK_MODE = 0) ∧ (sHk2.flag Fr.HK_BUSY = true) ∧ (sHk2.hk.leg = none) ∧ (sHk2.hk.next = none) ∧ (sHk2.hk.rep = 0)
    ∧ (bits (sHk2.hkEntry (sHk2.fld Fr.HK_ENTRY)) 8 8 = 1) ∧ (bits (sHk2.hkEntry (sHk2.fld Fr.HK_ENTRY)) 0 5 < 31) ∧
    (sHk2.flag (Fr.HK_PT_LIM_EN (bits (sHk2.hkEntry (sHk2.fld Fr.HK_ENTRY)) 0 5)) = false) ∧ (sHk2.fld Fr.HK_ENTRY + 1
    < sHk2.fld Fr.HK_NENT) ∧ (sHkCal.flag Fr.HK_RUNNING = true) ∧ (sHkCal.hk.mode = 0) ∧ (sHkCal.fld Fr.HK_MODE = 0) ∧
    (sHkCal.flag Fr.HK_BUSY = false) ∧ (sHkCal.hk.calDue = true) := by
  and_intros <;> decide +kernel

/-- The hypotheses of HkSingleConversion are met, each clause's together. -/
theorem witness_HkSingleConversion :
    (0 < 31) ∧ (sLeg.flag Fr.HK_RUNNING = true) ∧ (sLeg.hk.mode = 1) ∧ (sLeg.fld Fr.HK_MODE = 1) ∧ (sLeg.flag
    Fr.HK_LEG_BUSY = false) ∧ (sLeg.flag Fr.HK_BUSY = false) ∧ (sHk.flag Fr.HK_RUNNING = true) ∧ (sHk.flag
    Fr.HK_LEG_BUSY = true ∨ sHk.hk.mode = 0 ∧ sHk.fld Fr.HK_MODE = 0) ∧ (3 < 31) ∧ (sLegBusy.flag Fr.HK_RUNNING =
    true) ∧ (sLegBusy.flag Fr.HK_BUSY = true) ∧ (sLegBusy.hk.leg = some (3, 0)) ∧ (sLegBusy.flag (Fr.HK_PT_LIM_EN 3) =
    false) ∧ (sLegBusy.fld Fr.HK_MODE = sLegBusy.hk.mode) := by
  and_intros <;> decide +kernel

/-- The hypotheses of DisplayLink are met, each clause's together. -/
theorem witness_DisplayLink :
    (sVid.hasDisplay = true) ∧ (sVid.flag Fr.VID_HPD = false) ∧ (sVidTrain.hasDisplay = true) ∧ (sVidTrain.fld
    Fr.VID_LINK = dpTraining) ∧ (sVidTrain.vid.sink = some (4, 3)) ∧ (4 < 8) ∧ (3 < 16) ∧ (sVidTrain.dpFits 4 3 =
    true) ∧ (sVidTrain1.hasDisplay = true) ∧ (sVidTrain1.fld Fr.VID_LINK = dpTraining) ∧ (sVidTrain1.vid.sink = some
    (1, 0)) ∧ (1 < 8) ∧ (0 < 16) ∧ (sVidTrain1.dpFits 1 0 = false) ∧ (sVidDown.hasDisplay = true) ∧ (sVidDown.flag
    Fr.VID_HPD = true) ∧ (sVidDown.fld Fr.VID_LINK = dpDown) ∧ (sVidUp.hasDisplay = true) ∧ (sVidUp.flag Fr.VID_HPD =
    true) ∧ (dpUp ≤ sVidUp.fld Fr.VID_LINK) ∧ (sVidTrain.flag Fr.VID_HPD = true) := by
  and_intros <;> decide +kernel

/-- The hypotheses of DisplayTiming are met, each clause's together. -/
theorem witness_DisplayTiming :
    (sVidFrame.hasDisplay = true) ∧ (sVidFrame.vid.pend = []) ∧ (sVidFrame.vid.loaded = false) ∧
    (sVidFrame.vid.modeDone = false) ∧ (sVidFrame.inf Fr.VID_EV_EN = 0) ∧ (sVidFrame.vid.frame = some (1, 4096, 64)) ∧
    (4096 < 2 ^ 64) ∧ (64 < 2 ^ 16) ∧ (sVidFrame.job 1 = some (jobFor 1 (job 68 []))) ∧ ((jobFor 1 (job 68 [])).done =
    none) ∧ ((jobFor 1 (job 68 [])).flt = 0) ∧ ((jobFor 1 (job 68 [])).ring < 64) ∧ (sVidFrame.fld Fr.VID_FRAME + 1 <
    2 ^ 64) ∧ (sVidEv.hasDisplay = true) ∧ (sVidEv.vid.match_ < 2 ^ 12) ∧ (bit (sVidEv.inf Fr.VID_EV_EN) 1 = true) ∧
    (sVid.hasDisplay = true) ∧ (sVid.vid.match_ < 2 ^ 12) ∧ (bit (sVid.inf Fr.VID_EV_EN) 1 = false) ∧
    (sVidOn.hasDisplay = true) ∧ (sVidOn.inf Fr.VID_EN = 1) ∧ (sVidOn.framePoison = 0) ∧ (0 < 1) ∧ (sVidOn.inf
    Fr.VID_EV_EN = 0) := by
  and_intros <;> decide +kernel

/-- The hypotheses of AuxReads are met, each clause's together. -/
theorem witness_AuxReads :
    (sVid.hasDisplay = true) ∧ (sVid.flag Fr.VID_AUX_BUSY = false) ∧ (sAux.hasDisplay = true) ∧ (sAux.flag
    Fr.VID_AUX_BUSY = true) := by
  and_intros <;> decide +kernel

/-- The synthesisers: 0 active, 1 standby and locked; the sample clock runs. -/
def sClk : State :=
  { fset ringOn [(Fr.CLK_RUNNING, 1), (Fr.CLK_SYN_ROLE 0, roleActive), (Fr.CLK_SYN_ROLE 1, roleStandby),
      (Fr.CLK_SYN_AL_LOCK 0, 1), (Fr.CLK_SYN_AL_LOCK 1, 1), (Fr.MEM_N_ACT, 31)] with
    clk := { State.reset.clk with active := 0 } }
/-- No standby is locked. -/
def sClkAlone : State := fset sClk [(Fr.CLK_SYN_ROLE 1, roleRelocking), (Fr.CLK_SYN_AL_LOCK 1, 0)]
/-- REF_IN is the reference, present or lost. -/
def sRef : State := finf sClk [(Fr.CLK_REF_SRC, 1)]
def sRefNo : State := finf sClk [(Fr.CLK_REF_SRC, 2)]
def sHold : State := fset sRef [(Fr.CLK_HOLDOVER, 1), (Fr.CLK_AUTO_REJOIN, 1)]
/-- A synthesiser relocks: beside an active one, in a halt, after fifteen attempts. -/
def sRelock : State := sClkAlone
def sHalt : State := { sClkAlone with clk := { sClk.clk with halted := true } }
def sLast : State := { sClkAlone with clk := { sClk.clk with synTry := [0, 15] } }
/-- The clock is gated and lock is confirmed. -/
def sGated : State :=
  { fset sClk [(Fr.CLK_RUNNING, 0), (Fr.CLK_CONT_OK, 1), (Fr.CLK_ALIGNED, 1)] with
    clk := { sClk.clk with relocked := true, started := true } }
/-- The memory PLL and the control PLL relock. -/
def sMemPll : State := { sClk with clk := { sClk.clk with memPll := some 1 } }
def sCtlPll : State := { sClk with clk := { sClk.clk with ctlPll := some 1 } }
/-- The trim walks. -/
def sWalk : State := { fset sClk [(Fr.CLK_WALKING, 1)] with clk := { sClk.clk with target := 5000 } }
def sWalkEnd : State := { fset sClk [(Fr.CLK_WALKING, 1)] with clk := { sClk.clk with target := 500 } }
/-- The sample time passes a pair boundary. -/
def sPair : State := { sClk with samp := 2 ^ 25 }
/-- PPS edges, counter stepped by them or not. -/
def sPps : State := fset sClk [(Fr.CLK_TOD_SRC, 3), (Fr.CLK_STEP_THR, 1), (Fr.CLK_PPS_PRESENT, 1)]
/-- PTP sets the time. -/
def sPtp : State := { fset sClk [(Fr.CLK_TOD_SRC, 2), (Fr.CLK_STEP_THR, 1)] with clk := { sClk.clk with ptpSync := true } }
/-- An epoch COMMIT, untimed, timed, and one with its SYNC_OUT pulse to send. -/
def epochWait : EpochReq := ⟨1, [], 0, false, false, false, false⟩
def epochAsked : EpochReq := ⟨1, [(0x10000, 0x20#32)], 0, false, false, true, false⟩
def epochGen : EpochReq := ⟨1, [(0x10080, 4#32)], 0, false, true, false, false⟩
def sEpoch (e : EpochReq) : State :=
  { running (fset sClk [(Fr.CLK_SYNC_PENDING, 1)]) 0x11 [] with clk := { sClk.clk with epoch := some e } }
/-- SYSREF is due; link 0 carries data. -/
def sSysref : State :=
  finf (fset sClk [(Fr.INTK_LINK_STATE 0, 5)]) [(Fr.CLK_SYSREF_MODE, 1)]
/-- An internal epoch is due. -/
def sInternal : State := { sClk with clk := { sClk.clk with internalDue := true } }
def runOfJob (r : Option Nat) : EpochRun := ⟨r, true, false, false, true⟩

/-- The hypotheses of ReferenceAndHoldover are met, each clause's together. -/
theorem witness_ReferenceAndHoldover :
    (sClk.srcIsRef = true) ∧ (sClk.flag Fr.CLK_HOLDOVER = false) ∧ (sRefNo.srcIsRef = false) ∧ (sHold.srcIsRef = true)
    ∧ (sHold.flag Fr.CLK_HOLDOVER = true) ∧ (sHold.clk.refBad = false) ∧ (Int.natAbs 0 ≤ 20000) ∧ (sHold.flag
    Fr.CLK_AUTO_REJOIN = true) ∧ (20000 < Int.natAbs 20001) := by
  and_intros <;> decide +kernel

/-- The hypotheses of SynthesiserLoss are met, each clause's together. -/
theorem witness_SynthesiserLoss :
    (sClk.clk.active < 2) ∧ (sClk.clk.run = none) ∧ (sClk.cal.run = none) ∧ (sClk.fld (Fr.CLK_SYN_ROLE
    sClk.clk.active) = roleActive) ∧ (sClk.fld (Fr.CLK_SYN_ROLE (otherSyn sClk.clk.active)) = roleStandby) ∧
    (sClk.flag (Fr.CLK_SYN_AL_LOCK (otherSyn sClk.clk.active)) = true) ∧ (sClkAlone.clk.active < 2) ∧
    (sClkAlone.clk.run = none) ∧ (sClkAlone.cal.run = none) ∧ (sClkAlone.fld (Fr.CLK_SYN_ROLE sClkAlone.clk.active) =
    roleActive) ∧ (sClkAlone.flag (Fr.CLK_SYN_AL_LOCK (otherSyn sClkAlone.clk.active)) = false) := by
  and_intros <;> decide +kernel

/-- The hypotheses of SynthesiserReturn are met, each clause's together. -/
theorem witness_SynthesiserReturn :
    (1 < 2) ∧ (sRelock.fld (Fr.CLK_SYN_ROLE 1) = roleRelocking) ∧ (sRelock.clk.halted = false) ∧ (sRelock.fld
    (Fr.CLK_SYN_ROLE (otherSyn 1)) = roleActive) ∧ (nth sRelock.clk.synAck 1 none = none) ∧ (sHalt.fld
    (Fr.CLK_SYN_ROLE 1) = roleRelocking) ∧ (sHalt.clk.halted = true) ∧ (sHalt.clk.relocked = false) ∧ (nth
    sHalt.clk.synAck 1 none = none) ∧ (sRelock.clk.run = none) ∧ (sRelock.clk.synTry.length = 2) ∧ (nth
    sRelock.clk.synTry 1 0 + 1 < 16) ∧ (sLast.fld (Fr.CLK_SYN_ROLE 1) = roleRelocking) ∧ (sLast.clk.run = none) ∧
    (sLast.clk.synTry.length = 2) ∧ (nth sLast.clk.synTry 1 0 = 15) ∧ (nth sLast.clk.synAck 1 none = none) ∧ (0 < 2) ∧
    (sGated.flag Fr.CLK_RUNNING = false) ∧ (sGated.clk.relocked = true) ∧ (sGated.clk.started = true) ∧
    (sGated.clk.run = none) ∧ (sGated.clk.halted = false) ∧ (true = true) ∧ (false = false) := by
  and_intros <;> decide +kernel

/-- The hypotheses of MemoryAndControlPll are met, each clause's together. -/
theorem witness_MemoryAndControlPll :
    (sClk.clk.memPll = none) ∧ (sMemPll.clk.memPll = some 1) ∧ (1 ≠ 0) ∧ (sClk.clk.ctlPll = none) ∧
    (sCtlPll.clk.ctlPll = some 1) := by
  and_intros <;> decide +kernel

/-- The hypotheses of TrimAndTimeOfDay are met, each clause's together. -/
theorem witness_TrimAndTimeOfDay :
    (sWalkEnd.flag Fr.CLK_WALKING = true) ∧ (-200000 ≤ sWalkEnd.clk.target) ∧ (sWalkEnd.clk.target ≤ 200000) ∧ (0 =
    signed 19 (sWalkEnd.fld Fr.CLK_TRIM_NOW)) ∧ (-200000 ≤ 0) ∧ (0 ≤ 200000) ∧ ((sWalkEnd.clk.target - 0).natAbs ≤
    1000) ∧ (sWalk.flag Fr.CLK_WALKING = true) ∧ (-200000 ≤ sWalk.clk.target) ∧ (sWalk.clk.target ≤ 200000) ∧ (0 =
    signed 19 (sWalk.fld Fr.CLK_TRIM_NOW)) ∧ (1000 < (sWalk.clk.target - 0).natAbs) ∧ (0 < 2 ^ 64) ∧ (sPair.clk.pairSt
    / 2 ^ 24 < sPair.samp / 2 ^ 24) ∧ (sClk.clk.ppsEdge = false) ∧ (sClk.fld Fr.CLK_TOD_SRC = 0) ∧ (sPps.clk.ppsEdge =
    false) ∧ (sPps.fld Fr.CLK_TOD_SRC = 3) ∧ (sPps.fld Fr.CLK_PPS_OFS = 0) ∧ (1 ≤ sPps.fld Fr.CLK_STEP_THR) ∧ (10 *
    sPps.fld Fr.CLK_STEP_THR ≤ (((2000000400 : Nat) : Int) - ↑(nearestSecond 2000000400 * 1000000000)).natAbs) ∧
    (2000000400 < 2 ^ 63) ∧ (sPps.flag Fr.CLK_PPS_PRESENT = true) ∧ (sPtp.fld Fr.CLK_TOD_SRC = 2) ∧ (sPtp.inf
    Fr.CLK_REF_SRC ≠ 2) ∧ (0 < 2 ^ 16) ∧ (sPtp.ptpUsed = true) ∧ (sPtp.clk.ptpSync = true) ∧ (sPtp.clk.ptpLost =
    false) := by
  and_intros <;> decide +kernel

/-- The hypotheses of SyncAndSysref are met, each clause's together. -/
theorem witness_SyncAndSysref :
    (sClk.clk.epoch = none) ∧ (sClk.fld Fr.CLK_SYNC_IGNORED + 1 < 2 ^ Fr.CLK_SYNC_IGNORED.w) ∧ ((sEpoch
    epochWait).clk.epoch = some epochWait) ∧ (epochWait.timed = false) ∧ (epochWait.requested = false) ∧ ((sEpoch
    epochWait).job epochWait.job = some (jobFor 1 (job 17 []))) ∧ ((jobFor 1 (job 17 [])).done = none) ∧ ((jobFor 1
    (job 17 [])).ring < 64) ∧ ((sEpoch epochWait).capFld epochWait.cap Fr.CLK_SYNC_OUT_MODE = 2) ∧
    (epochWait.generated = false) ∧ (epochWait.target ≤ (sEpoch epochWait).samp) ∧ (sSysref.flag Fr.CLK_RUNNING =
    true) ∧ (sSysref.clk.sysrefNext ≤ sSysref.samp) ∧ (sSysref.inf Fr.CLK_SYSREF_MODE = 1 ∨ sSysref.inf
    Fr.CLK_SYSREF_MODE = 2 ∧ 0 < sSysref.clk.sysrefLeft) ∧ (0 < 8) ∧ (sSysref.fld (Fr.INTK_LINK_STATE 0) = 5) := by
  and_intros <;> decide +kernel

/-- The hypotheses of Epochs are met, each clause's together. -/
theorem witness_Epochs :
    ((sEpoch epochAsked).clk.run = none) ∧ ((sEpoch epochAsked).clk.epoch = some epochAsked) ∧ (0 < 2 ^ 64) ∧ ((if
    epochAsked.timed = true then epochAsked.immediate || decide (epochAsked.target ≤ (sEpoch epochAsked).samp) else
    epochAsked.requested) = true) ∧ (sInternal.clk.run = none) ∧ (sInternal.clk.internalDue = true) ∧ ((runOfJob
    none).job = none) ∧ ((runOfJob (some 1)).job = some 1) ∧ ((sEpoch epochAsked).job 1 = some (jobFor 1 (job 17 [])))
    ∧ ((jobFor 1 (job 17 [])).done = none) ∧ ((jobFor 1 (job 17 [])).flt = 0) ∧ ((jobFor 1 (job 17 [])).ring < 64) := by
  and_intros <;> decide +kernel

/-- Link 0 in a state of its bring-up; with an 8b/10b encoding. -/
def sLink (st : Nat) : State := fset ringOn [(Fr.INTK_LINK_STATE 0, st)]
def sLink8 (st : Nat) : State := fset (sLink st) [(Fr.INTK_LINK_PARAM 0, 4)]
def sLinkSys : State := finf (sLink 3) [(Fr.CLK_SYSREF_MODE, 0)]
def sLinkSlot : State := fset (sLink 5) [(Fr.INTK_SLOT_SOURCE 0, 1)]
/-- The intakes run; their start-up calibration is done, nothing is due. -/
def sIntk : State :=
  { fset ringOn ((List.range 9).map (fun k => (Fr.INTK_STATE k, 1)) ++ (List.range 8).map (fun k => (Fr.INTK_SLOT_SOURCE k, 0))
      ++ (List.range 8).map (fun k => (Fr.INTK_SLOT_FEEDER k, k))) with
    cal := { State.reset.cal with started := List.replicate 9 true, due := List.replicate 9 {} } }
/-- Intake 0 is due for its temperature: covered, silent at the start, in place. -/
def sDue (d : CalDue) : State := { sIntk with cal := { sIntk.cal with due := modNth sIntk.cal.due 0 (fun _ => d) } }
def sDueTemp : State := sDue { temp := true }
def sDueStart : State := sDue { startUp := true }
/-- A calibration of intake 2 at a step. -/
def calAt (how : CalHow) (step : Nat) : CalRun := ⟨2, how, step, 0, false, false, none, [], false, 0, none⟩
def sCal (how : CalHow) (step : Nat) (steer : Bool) : State :=
  { sIntk with cal := { sIntk.cal with run := some (calAt how step), steering := steer } }
/-- A retry waits; AUTO_EN, a drift, background tracking. -/
def sRetry : State := { sIntk with cal := { sIntk.cal with retryWait := List.replicate 9 true } }
def sAuto : State := fset sIntk [(Fr.CAL_CTL_AUTO_EN, 1), (Fr.CAL_CTL_DELTA, 2)]
def sBg : State := { fset sIntk [(Fr.CAL_CTL_BG_EN, 1)] with cal := { sIntk.cal with bgN := List.replicate 9 (2 ^ 24) } }
/-- The self-test of the intakes is on; its turn stands at intake `k`. -/
def sRotate (k : Nat) : State := { fset sIntk [(Fr.CAL_BIST_PERIOD, 1)] with cal := { sIntk.cal with rotation := k } }
def sRotateFailed : State :=
  { sRotate 3 with cal := { (sRotate 3).cal with failed := [false, false, false, true, false, false, false, false, false] } }
def sRotateBusy : State := { sRotateFailed with cal := { sRotateFailed.cal with run := (sCal .covered 3 false).cal.run } }
/-- Intake 8 serves another input; it has failed; a link feeds slot 0. -/
def sTaken : State := { sIntk with cal := { sIntk.cal with takeover := some 1 } }
def sFailed8 : State := { sIntk with cal := { sIntk.cal with failed := [false, false, false, false, false, false, false, false, true] } }
def sFed : State := fset sIntk [(Fr.INTK_SLOT_SOURCE 0, 1)]

/-- The hypotheses of LinkBringUp are met, each clause's together. -/
theorem witness_LinkBringUp :
    (0 < 8) ∧ ((sLink 1).slots.length = 8) ∧ ((sLink 1).fld (Fr.INTK_LINK_STATE 0) = 1) ∧ ((sLink 2).slots.length = 8)
    ∧ ((sLink 2).fld (Fr.INTK_LINK_STATE 0) = 2) ∧ ((sLink 3).slots.length = 8) ∧ ((sLink 3).fld (Fr.INTK_LINK_STATE
    0) = 3) ∧ (((sLink 3).slot 0).ilasBad = false) ∧ ((sLink 3).inf Fr.CLK_SYSREF_MODE = 2) ∧ (sLinkSys.slots.length =
    8) ∧ (sLinkSys.fld (Fr.INTK_LINK_STATE 0) = 3) ∧ ((sLinkSys.slot 0).ilasBad = false) ∧ (sLinkSys.inf
    Fr.CLK_SYSREF_MODE ≠ 2) ∧ ((sLink8 3).slots.length = 8) ∧ ((sLink8 3).fld (Fr.INTK_LINK_STATE 0) = 3) ∧ (((sLink8
    3).slot 0).ilasBad = false) ∧ (bit ((sLink8 3).fld (Fr.INTK_LINK_PARAM 0)) 2 = true) ∧ (1 ≤ (sLink 1).fld
    (Fr.INTK_LINK_STATE 0)) ∧ ((sLink 1).fld (Fr.INTK_LINK_STATE 0) ≤ 4) ∧ (((sLink 1).slot 0).ilasBad = false) := by
  and_intros <;> decide +kernel

/-- The hypotheses of LinkErrors are met, each clause's together. -/
theorem witness_LinkErrors :
    (0 < 8) ∧ ((sLink 5).slots.length = 8) ∧ ((sLink 5).fld (Fr.INTK_LINK_STATE 0) = 5) ∧ (bit ((sLink 5).fld
    (Fr.INTK_LINK_PARAM 0)) 2 = false) ∧ ((sLink8 5).slots.length = 8) ∧ ((sLink8 5).fld (Fr.INTK_LINK_STATE 0) = 5) ∧
    (bit ((sLink8 5).fld (Fr.INTK_LINK_PARAM 0)) 2 = true) ∧ (sLinkSlot.slots.length = 8) ∧ (sLinkSlot.fld
    (Fr.INTK_LINK_STATE 0) = 5) ∧ (sLinkSlot.fld (Fr.INTK_SLOT_SOURCE 0) = 1) := by
  and_intros <;> decide +kernel

/-- The hypotheses of CalibrationRun are met, each clause's together. -/
theorem witness_CalibrationRun :
    (sDueTemp.cal.run = none) ∧ (sDueTemp.cal.returns = []) ∧ (∀ (m : Nat), m < 9 → (sDueTemp.due m).jobs = []) ∧
    (sDueTemp.calNext = some 0) ∧ (sDueTemp.calHow 0 = some CalHow.covered) ∧ (0 < 9) ∧ (sDueTemp.cal.due.length = 9)
    ∧ (CalHow.covered = CalHow.covered) ∧ (sDueStart.cal.run = none) ∧ (sDueStart.cal.returns = []) ∧ (∀ (m : Nat), m
    < 9 → (sDueStart.due m).jobs = []) ∧ (sDueStart.calNext = some 0) ∧ (sDueStart.calHow 0 = some CalHow.silent) ∧
    (sDueStart.cal.due.length = 9) ∧ (CalHow.silent ≠ CalHow.covered) ∧ ((sCal CalHow.covered 1 true).cal.run = some
    (calAt CalHow.covered 1)) ∧ ((calAt CalHow.covered 1).k < 8) ∧ ((sCal CalHow.covered 1 true).slots.length = 8) ∧
    ((calAt CalHow.covered 1).how = CalHow.covered) ∧ ((sCal CalHow.covered 1 true).cal.steering = true) ∧ ((sCal
    CalHow.covered 1 true).cal.steerNext = none) ∧ ((sCal CalHow.covered 1 true).cal.takeover = none) ∧ ((calAt
    CalHow.covered 1).step = 1) ∧ ((calAt CalHow.covered 1).own = false) ∧ ((sCal CalHow.covered 3 false).cal.run =
    some (calAt CalHow.covered 3)) ∧ ((calAt CalHow.covered 3).k < 8) ∧ ((sCal CalHow.covered 3 false).slots.length =
    8) ∧ ((calAt CalHow.covered 3).how = CalHow.covered) ∧ ((calAt CalHow.covered 3).step = 3 ∨ (calAt CalHow.covered
    3).step = 6) ∧ (0 < 2048) ∧ ((calAt CalHow.covered 3).repeats < 4) ∧ ((calAt CalHow.covered 3).step = 3) ∧ ((sCal
    CalHow.covered 3 false).fld (Fr.INTK_SLOT_SOURCE (calAt CalHow.covered 3).k) = 0) ∧ (2048 ≤ 2048) ∧ (Int.natAbs 0
    ≤ 50) ∧ ((sCal CalHow.covered 6 false).cal.run = some (calAt CalHow.covered 6)) ∧ ((calAt CalHow.covered 6).k < 8)
    ∧ ((sCal CalHow.covered 6 false).slots.length = 8) ∧ ((calAt CalHow.covered 6).how = CalHow.covered) ∧ ((calAt
    CalHow.covered 6).step = 6) ∧ ((sCal CalHow.covered 6 false).fld (Fr.INTK_SLOT_SOURCE (calAt CalHow.covered 6).k)
    = 0) ∧ ((calAt CalHow.covered 6).handback = none) ∧ ((calAt CalHow.covered 6).reject = none) ∧ ((calAt
    CalHow.covered 6).jobs = []) ∧ ((sCal CalHow.covered 6 false).cal.steering = false) ∧ ((sCal CalHow.covered 5
    false).cal.run = some (calAt CalHow.covered 5)) ∧ ((calAt CalHow.covered 5).k < 8) ∧ ((sCal CalHow.covered 5
    false).slots.length = 8) ∧ ((calAt CalHow.covered 5).how = CalHow.covered) ∧ ((calAt CalHow.covered 5).step = 5) ∧
    ((sCal CalHow.inPlace 1 false).cal.run = some (calAt CalHow.inPlace 1)) ∧ ((calAt CalHow.inPlace 1).k < 8) ∧
    ((calAt CalHow.inPlace 1).how = CalHow.inPlace) ∧ ((calAt CalHow.inPlace 1).own = false) ∧ ((calAt CalHow.inPlace
    1).jobs = []) ∧ (-3840 ≤ toneLimit) := by
  and_intros <;> decide +kernel

/-- The hypotheses of CalibrationTiming are met, each clause's together. -/
theorem witness_CalibrationTiming :
    (sRetry.cal.due.length = 9) ∧ (sRetry.cal.retryWait.length = 9) ∧ (sRetry.cal.bgN.length = 9) ∧
    (sRetry.cal.bgUpdates.length = 9) ∧ (0 < 9) ∧ (nth sRetry.cal.retryWait 0 false = true) ∧ ([0, 256, 257, 300,
    -256, -300, 5000, 1, 2].length = 9) ∧ (sRetry.cal.run = none) ∧ (sRetry.flag Fr.CAL_CTL_AUTO_EN = true) ∧
    (sAuto.cal.due.length = 9) ∧ (sAuto.cal.retryWait.length = 9) ∧ (sAuto.cal.bgN.length = 9) ∧
    (sAuto.cal.bgUpdates.length = 9) ∧ (sAuto.cal.run = none) ∧ (sAuto.flag Fr.CAL_CTL_AUTO_EN = true) ∧ (2 < 9) ∧
    (sAuto.powered 2 = true) ∧ (nth sAuto.cal.sched 2 false = false) ∧ (calHalfDegree * Nat.min 16 (Nat.max 1
    (sAuto.fld Fr.CAL_CTL_DELTA)) < (signed 16 (unsigned 16 (nth [0, 256, 257, 300, -256, -300, 5000, 1, 2] 2 0)) -
    nth sAuto.cal.base 2 0).natAbs) ∧ (sBg.cal.due.length = 9) ∧ (sBg.cal.retryWait.length = 9) ∧ (sBg.cal.bgN.length
    = 9) ∧ (sBg.cal.bgUpdates.length = 9) ∧ (sBg.flag Fr.CAL_CTL_BG_EN = true) ∧ (2 ^ 24 ≤ nth sBg.cal.bgN 0 0) ∧
    (sBg.fld (Fr.INTK_STATE 0) = 1) ∧ ((sRotate 0).cal.due.length = 9) ∧ ((sRotate 0).cal.retryWait.length = 9) ∧
    ((sRotate 0).cal.bgN.length = 9) ∧ ((sRotate 0).cal.bgUpdates.length = 9) ∧ ((sRotate 0).fld Fr.CAL_BIST_PERIOD ≠
    0) ∧ ((sRotate 0).powered (sRotate 0).cal.rotation = true) ∧ (nth (sRotate 0).cal.failed (sRotate 0).cal.rotation
    false = false) ∧ ((sRotate 0).fld Fr.CAL_SPARE_USE = 0) ∧ ((sRotate 0).cal.run = none) ∧ ((sRotate 0).spareBusy =
    false) ∧ ((sRotate 0).cal.rotation < 9) ∧ ((sRotate 0).bists = []) ∧ ((sRotate 0).cal.rotation < 8) ∧ ((sRotate
    8).cal.due.length = 9) ∧ ((sRotate 8).cal.retryWait.length = 9) ∧ ((sRotate 8).cal.bgN.length = 9) ∧ ((sRotate
    8).cal.bgUpdates.length = 9) ∧ ((sRotate 8).fld Fr.CAL_BIST_PERIOD ≠ 0) ∧ ((sRotate 8).powered (sRotate
    8).cal.rotation = true) ∧ (nth (sRotate 8).cal.failed (sRotate 8).cal.rotation false = false) ∧ ((sRotate 8).fld
    Fr.CAL_SPARE_USE = 0) ∧ ((sRotate 8).cal.run = none) ∧ ((sRotate 8).spareBusy = false) ∧ ((sRotate 8).cal.rotation
    < 9) ∧ ((sRotate 8).bists = []) ∧ ((sRotate 8).cal.rotation = 8) ∧ (sRotateBusy.cal.due.length = 9) ∧
    (sRotateBusy.cal.retryWait.length = 9) ∧ (sRotateBusy.cal.bgN.length = 9) ∧ (sRotateBusy.cal.bgUpdates.length = 9)
    ∧ (sRotateBusy.fld Fr.CAL_BIST_PERIOD ≠ 0) ∧ (sRotateBusy.cal.rotation < 7) ∧ (nth sRotateBusy.cal.failed
    sRotateBusy.cal.rotation false = true) ∧ (sRotateBusy.powered (sRotateBusy.cal.rotation + 1) = true) ∧ (nth
    sRotateBusy.cal.failed (sRotateBusy.cal.rotation + 1) false = false) ∧ (sRotateBusy.cal.run.isSome = true) ∧
    (sRotateFailed.cal.due.length = 9) ∧ (sRotateFailed.cal.retryWait.length = 9) ∧ (sRotateFailed.cal.bgN.length = 9)
    ∧ (sRotateFailed.cal.bgUpdates.length = 9) ∧ (sRotateFailed.fld Fr.CAL_BIST_PERIOD ≠ 0) ∧
    (sRotateFailed.cal.rotation < 7) ∧ (nth sRotateFailed.cal.failed sRotateFailed.cal.rotation false = true) ∧
    (sRotateFailed.powered (sRotateFailed.cal.rotation + 1) = true) ∧ (nth sRotateFailed.cal.failed
    (sRotateFailed.cal.rotation + 1) false = false) ∧ (sRotateFailed.fld Fr.CAL_SPARE_USE = 0) ∧
    (sRotateFailed.cal.run = none) ∧ (sRotateFailed.spareBusy = false) ∧ (sRotateFailed.bists = []) := by
  and_intros <;> decide +kernel

/-- The hypotheses of IntakeFaults are met, each clause's together. -/
theorem witness_IntakeFaults :
    (sIntk.cal.run = none) ∧ (sIntk.bists = []) ∧ (nth sIntk.cal.failed 0 false = false) ∧ (0 < 8) ∧ (sIntk.fld
    (Fr.INTK_SLOT_SOURCE 0) = 0) ∧ (sIntk.cal.takeover = none) ∧ (nth sIntk.cal.failed 8 false = false) ∧
    (sTaken.cal.run = none) ∧ (sTaken.bists = []) ∧ (nth sTaken.cal.failed 0 false = false) ∧ (sTaken.fld
    (Fr.INTK_SLOT_SOURCE 0) = 0) ∧ (sTaken.cal.takeover.isSome = true ∨ nth sTaken.cal.failed 8 false = true) ∧
    (sFed.cal.run = none) ∧ (sFed.bists = []) ∧ (nth sFed.cal.failed 0 false = false) ∧ (sFed.fld (Fr.INTK_SLOT_SOURCE
    0) = 1) ∧ (8 = 8) := by
  and_intros <;> decide +kernel

/-- Slot 0 is fed by its intake; the sample clock runs; no ring writer. -/
def sBeat : State := { fset sIntk [(Fr.CLK_RUNNING, 1), (Fr.MEM_N_ACT, 31)] with hbm := { sIntk.hbm with ringOn := false } }
def sBeatOff : State := fset sBeat [(Fr.CLK_RUNNING, 0)]
/-- The capture ring takes the beats of slot 0 into granule 0. -/
def sRing : State :=
  { sBeat with hbm := { sBeat.hbm with
      ringOn := true
      curGran := some 0 :: List.replicate 7 none
      gran := [(0, ⟨0, 1, 0, 1, 0, true, false, 0, 0, [], [], 0⟩)] } }
def gran0 : Gran := ⟨0, 1, 0, 1, 0, true, false, 0, 0, [], [], 0⟩
/-- An attenuation change of intake 0 is due. -/
def atten0 : AttenReq := ⟨1, 0, 9, 0⟩
def sAtten : State := { running sBeat 0x10 [] with attens := [atten0] }
/-- Pulses hold pins 0 and 1 high. -/
def sPins : State := { r0 with pulses := [1, 2, 0, 0], pins := 3 }
/-- Slice 0 takes slot 0 and has a frame of 16 samples, without and with a gap. -/
def sFrame (flags : Nat) : State :=
  { finf (fset sBeat [(Fr.SPX_INPUT 0, 0)]) [(Fr.SPX_CTL_EN 0, 1), (Fr.SPX_CTL_LOG2LEN 0, 4), (Fr.SPX_CTL_OVL 0, 0),
      (Fr.TRG_END_BIN 0 0, 7), (Fr.TRG_END_BIN 0 1, 7)] with
    slots := modNth State.reset.slots 0 (fun x => { x with next := 16 })
    slices := modNth State.reset.slices 0 (fun x =>
      { x with
        win := List.replicate 16 65536
        buf := [⟨0, 1, flags, List.replicate 16 100⟩] }) }
/-- A change that brings EN to slice 0. -/
def spxOn : SpxChange := ⟨1, [(0x80000, 13#32)], 0, 0, true, 0, false, none⟩
def sChange : State :=
  { running (finf sBeat [(Fr.SPX_CTL_EN 0, 0)]) 0x10 [] with slices := modNth State.reset.slices 0 (fun x => { x with pend := [spxOn] }) }
/-- A density period has ended; one is being read out. -/
def sDenDue : State :=
  { r0 with slices := modNth State.reset.slices 0 (fun x => { x with den := { x.den with due := true, cells := [(5, 100)] } }) }
def sDenDecay : State := finf sDenDue [(Fr.DEN_DECAY 0, 2)]
def denOut : DenOut := ⟨[(5, 100)], 0, 16, 1, 0, 0, false, 0, 0, 0⟩
def sDenOut : State :=
  { finf (fset r0 [(Fr.MEM_N_ACT, 31)]) [(Fr.HIST_BASE_MIB 0, 16), (Fr.HIST_SIZE_MIB 0, 4)] with
    slices := modNth State.reset.slices 0 (fun x => { x with den := { x.den with out := some denOut } }) }
/-- The flag summary of a frame without its overflow bit. -/
def gapFlags (s : State) (n : Nat) : Nat :=
  let x := s.slice n
  let fl := flagSummary ((framePick (s.spxW n / 16) x.buf x.next (s.sliceD n)).map (fun b => b.flags))
  if x.next < x.gapUntil then setBits fl 3 1 1 else fl
/-- Whether a frame carries GAP does not depend on the transform. -/
theorem frame_gap (s : State) (n : Nat) (v : Bool) (h : bit (gapFlags s n) 3 = v) : bit (s.mkFrame n).flags 3 = v := by
  have e : ∀ x y : Nat, bit (x + 16 * y) 3 = bit x 3 := by
    intro x y
    have h2 : (x + 16 * y) / 8 % 2 = x / 8 % 2 := by omega
    simp only [bit, show (2 : Nat) ^ 3 = 8 from rfl, h2]
  rw [← h]
  exact e _ _

/-- The hypotheses of BeatsAndPins are met, each clause's together. -/
theorem witness_BeatsAndPins :
    (0 < 8) ∧ (sBeatOff.slots.length = 8) ∧ (sBeatOff.powered 0 = false ∨ sBeatOff.flag Fr.CLK_RUNNING = false) ∧
    (sBeat.slots.length = 8) ∧ (sBeat.NothingDue) ∧ (sBeat.powered 0 = true) ∧ (sBeat.flag Fr.CLK_RUNNING = true) ∧
    (sBeat.clk.run = none) ∧ (sBeat.inReset = false) ∧ (sBeat.fld (Fr.INTK_SLOT_SOURCE 0) = 0) ∧ ((sBeat.slot
    0).settle = 0) ∧ ((sBeat.slot 0).gapSource = false) ∧ ((sBeat.slot 0).lost = false) ∧ ((sBeat.slot 0).restore = 0)
    ∧ (sBeat.hbm.stalled = []) ∧ (sBeat.hbm.ringOn = false) ∧ (sRing.slots.length = 8) ∧ (sRing.NothingDue) ∧
    (sRing.powered 0 = true) ∧ (sRing.flag Fr.CLK_RUNNING = true) ∧ (sRing.clk.run = none) ∧ (sRing.inReset = false) ∧
    (sRing.fld (Fr.INTK_SLOT_SOURCE 0) = 0) ∧ ((sRing.slot 0).settle = 0) ∧ ((sRing.slot 0).gapSource = false) ∧
    ((sRing.slot 0).lost = false) ∧ ((sRing.slot 0).restore = 0) ∧ (sRing.hbm.stalled = []) ∧ (sRing.hbm.ringOn =
    true) ∧ (sRing.slotGap 0 = false) ∧ (sRing.hbm.holes = []) ∧ (nth sRing.hbm.curGran 0 none = some 0) ∧ (sRing.gran
    0 = some gran0) ∧ (gran0.live = true) ∧ (gran0.slot = 0) ∧ (gran0.d = 1) ∧ (gran0.epoch = sRing.epoch8) ∧
    (gran0.first = (sRing.slot 0).next / 65536 * 65536) ∧ (nth sRing.hbm.ringNext 0 0 = (sRing.slot 0).next) ∧ ((0 +
    1) * granBytes ≤ sRing.hbmSize) ∧ (∀ (r : AttenReq), r ∈ sBeatOff.attens → r.intake ≠ 0) ∧ (sAtten.attens =
    [atten0]) ∧ (atten0.intake < 8) ∧ (atten0.target ≤ (sAtten.slot atten0.intake).next) ∧ (atten0.atten < 32) ∧
    (sAtten.inf (Fr.INTK_ATTEN atten0.intake) ≠ atten0.atten) ∧ (sAtten.slots.length = 8) ∧ (sAtten.fld
    (Fr.INTK_SLOT_SOURCE atten0.intake) = 0) ∧ ((sAtten.slot atten0.intake).settle = 0) ∧ (atten0.job ≠ 0) ∧
    (sAtten.job atten0.job = some (jobFor 1 (job 16 []))) ∧ ((jobFor 1 (job 16 [])).done = none) ∧ ((jobFor 1 (job 16
    [])).ring < 64) ∧ (∀ (x : Slice), x ∈ sAtten.slices → x.pend = []) ∧ (∀ (x : Tuner), x ∈ sAtten.tuners → x.pend =
    [] ∧ x.queued = none) ∧ (∀ (x : Zoom), x ∈ sAtten.zooms → x.pend = []) ∧ (0 < 4) ∧ (sPins.pulses.length = 4) ∧ (∀
    (n : Nat), n < 8 → sPins.flag (Fr.INTK_OVR_FAST_NOW n) = false) ∧ (∀ (k : Nat), k < 4 → bit sPins.pins k = decide
    (0 < nth sPins.pulses k 0)) ∧ (nth sPins.pulses 0 0 = 1) ∧ (sBeatOff.pulses.length = 4) ∧ (∀ (n : Nat), n < 8 →
    sBeatOff.flag (Fr.INTK_OVR_FAST_NOW n) = false) ∧ (∀ (k : Nat), k < 4 → bit sBeatOff.pins k = decide (0 < nth
    sBeatOff.pulses k 0)) ∧ (nth sBeatOff.pulses 0 0 ≠ 1) := by
  and_intros <;> decide +kernel

/-- The hypotheses of SliceFrames are met, each clause's together. -/
theorem witness_SliceFrames :
    (0 < 9) ∧ (r0.frameDue 0 = false) ∧ ((sFrame 8).frameDue 0 = true) ∧ ((sFrame 8).slices.length = 9) ∧ ((sFrame
    8).inf (Fr.DEN_EN 0) = 0) ∧ ((sFrame 8).inf (Fr.SPX_DET_TRACE_EN 0) = 0) ∧ ((sFrame 8).inf (Fr.SPX_SK_EN 0) = 0) ∧
    ((sFrame 8).xcorBound 0 = false) ∧ (((sFrame 8).trg 0 0).swapReq = false) ∧ (((sFrame 8).trg 0 1).swapReq = false)
    ∧ ((sFrame 8).jobs = []) ∧ (bit ((sFrame 8).mkFrame 0).flags 3 = true) ∧ ((sFrame 0).frameDue 0 = true) ∧ ((sFrame
    0).slices.length = 9) ∧ ((sFrame 0).inf (Fr.DEN_EN 0) = 0) ∧ ((sFrame 0).inf (Fr.SPX_DET_TRACE_EN 0) = 0) ∧
    ((sFrame 0).inf (Fr.SPX_SK_EN 0) = 0) ∧ ((sFrame 0).xcorBound 0 = false) ∧ (((sFrame 0).trg 0 0).swapReq = false)
    ∧ (((sFrame 0).trg 0 1).swapReq = false) ∧ ((sFrame 0).jobs = []) ∧ (bit ((sFrame 0).mkFrame 0).flags 3 = false) ∧
    ((r0.slice 0).pend = []) ∧ (sChange.slices.length = 9) ∧ ((sChange.slice 0).pend = [spxOn]) ∧ (spxOn.cap =
    [(524288 + 524288 * 0, 13#32)]) ∧ (spxOn.spx = true) ∧ (spxOn.trg = 0) ∧ (spxOn.den = false) ∧ (spxOn.xbar = none)
    ∧ (sChange.reached 0 spxOn.at_ = true) ∧ (sChange.inf (Fr.SPX_CTL_EN 0) = 0) ∧ (sChange.streams = []) ∧
    ((sChange.slice 0).trace.used = 0) ∧ ((sChange.slice 0).sk.added = 0) ∧ ((sChange.slice 0).den.out = none) ∧
    ((sChange.slice 0).den.used = 0) ∧ (spxOn.at_ < 2 ^ 64) ∧ (spxOn.job ≠ 0) ∧ (sChange.job spxOn.job = some (jobFor
    1 (job 16 []))) ∧ ((jobFor 1 (job 16 [])).done = none) ∧ ((jobFor 1 (job 16 [])).ring < 64) ∧ (∀ (m : Nat), m < 9
    → m ≠ 0 → (sChange.slice m).pend = []) ∧ (sChange.attens = []) ∧ (∀ (x : Tuner), x ∈ sChange.tuners → x.pend = []
    ∧ x.queued = none) ∧ (∀ (x : Zoom), x ∈ sChange.zooms → x.pend = []) ∧ (sDenDecay.slices.length = 9) ∧
    ((sDenDecay.slice 0).den.due = true) ∧ ((sDenDecay.slice 0).den.out = none) ∧ (sDenDue.slices.length = 9) ∧
    ((sDenDue.slice 0).den.due = true) ∧ ((sDenDue.slice 0).den.out = none) ∧ (sDenDue.inf (Fr.DEN_DECAY 0) = 0) ∧
    (r0.slices.length = 9) ∧ ((r0.slice 0).den.out = none) ∧ (sDenOut.slices.length = 9) ∧ ((sDenOut.slice 0).den.out
    = some denOut) ∧ ((sDenOut.slice 0).den.due = false) ∧ (sDenOut.streams = []) ∧ (sDenOut.fld (Fr.HIST_WR_OFS 0) <
    sDenOut.inf (Fr.HIST_SIZE_MIB 0) * 16384) := by
  and_intros <;> first | decide +kernel | exact frame_gap _ _ _ (by decide +kernel)

/-- Tuner 0 of slice 0 runs on slot 0: decimation by 4, blocks of 16; a beat waits. -/
def sTun : State :=
  { finf (fset sBeat [(Fr.SPX_INPUT 0, 0)]) [(Fr.DDC_EN 0 0, 1), (Fr.DDC_NHB 0 0, 0), (Fr.DDC_LOG2BLK 0 0, 4), (Fr.DDC_CIC_R 0 0, 1), (Fr.DDC_DF 0 0, 1),
      (Fr.DDC_RING_BASE_MIB 0 0, 16), (Fr.DDC_RING_SIZE_MIB 0 0, 1), (Fr.HIST_BASE_MIB 0, 32), (Fr.HIST_SIZE_MIB 0, 4),
      (Fr.ZOOM_TUNERS 0, 1), (Fr.ZOOM_T_Z 0, 1)] with
    tuners := modNth State.reset.tuners 0 (fun x => { x with inq := [⟨0, 1, 0, List.replicate 16 100⟩] }) }
/-- Its first output is suppressed. -/
def sTunSupp : State := { sTun with tuners := modNth sTun.tuners 0 (fun x => { x with s := 1 }) }
/-- A block is full. -/
def sTunBlk : State :=
  { sTun with tuners := modNth sTun.tuners 0 (fun x => { x with blk := { x.blk with data := List.replicate 16 (1, 2) } }) }
/-- A fade of 8 outputs to bank 1 is done. -/
def fade8 : Fade := ⟨8, 8, 1⟩
def sFade : State := { sTun with tuners := modNth sTun.tuners 0 (fun x => { x with fade := some fade8 }) }
/-- A change that enables tuner 0 is due. -/
def tunOn : TunChange := ⟨1, [(0x80400, 0x41#32)], 0⟩
def sRestart : State :=
  { running (finf sTun [(Fr.DDC_EN 0 0, 0)]) 0x10 [] with tuners := modNth State.reset.tuners 0 (fun x => { x with pend := [tunOn] }) }
/-- A trigger delivery of tuner 0's blocks has reached its end. -/
def delivery : Stream :=
  { job := 1
    p := [0x00010000, 0x10]
    port := 0
    window := some (10, 20) }
def sDeliv : State :=
  { sTun with
    streams := [delivery]
    tuners := modNth sTun.tuners 0 (fun x => { x with start := 20 }) }
/-- The zoom serves tuner 0 and has a frame to write. -/
def sZoom : State :=
  { finf sTun [(Fr.ZOOM_EN 0, 1)] with
    zooms := modNth State.reset.zooms 0 (fun z => { z with tun := modNth z.tun 0 (fun y => { y with frames := 1, pts := [1, 2] }) }) }
/-- A change enables correlation of slice 0. -/
def corrOn : XChange := ⟨1, [(0x580000, 0xA1#32)], 0, true, false⟩
def sXcorOff : State := finf (fset sBeat [(Fr.SPX_INPUT 0, 0)]) [(Fr.XCOR_SRC, 0xFFFFFFF0)]
def sXcorChg : State := { running sXcorOff 0x10 [] with xcor := { sXcorOff.xcor with pend := [corrOn] } }
/-- Correlation runs and its integration of two frames has ended. -/
def sXcorEnd : State :=
  { finf sXcorOff [(Fr.XCOR_CORR_EN, 1), (Fr.XCOR_LOG2NINT, 0), (Fr.SPX_CTL_EN 0, 1), (Fr.SPX_CTL_LOG2LEN 0, 4), (Fr.XCOR_NCH, 1)] with
    slices := modNth State.reset.slices 0 (fun x => { x with next := 16 })
    slots := modNth State.reset.slots 0 (fun x => { x with next := 16 })
    xcor := { State.reset.xcor with running := true, cur := { frames := 1, stop := 16, acc := [(1, 0)] } } }
/-- A record is read out; a payload waits for the staging ring. -/
def sXcorOut : State :=
  { finf sXcorOff [(Fr.XCOR_OUT_BASE_MIB, 16), (Fr.XCOR_OUT_SIZE_MIB, 1)] with
    xcor := { State.reset.xcor with out := some (0, [1, 2, 3]) } }
def payload : FBuf := ⟨0, 0, 0, 16, 1, 0, [7, 8]⟩
def sXcorF : State :=
  { finf sXcorOff [(Fr.XCOR_FRING_BASE_MIB, 16), (Fr.XCOR_FRING_SIZE_MIB, 1), (Fr.XCOR_LOG2NSPEC, 0)] with
    xcor := { State.reset.xcor with fbufs := [payload] } }
/-- One half has failed. -/
def sHalf : State := { sXcorOff with xcor := { State.reset.xcor with failed := [1] } }

/-- The hypotheses of TunerOutputs are met, each clause's together. -/
theorem witness_TunerOutputs :
    (0 < 9) ∧ (0 < 4) ∧ (r0.tuners.length = 36) ∧ ((nth r0.zooms 0 { }).pend = []) ∧ (r0.ddcReady 0 0 = false) ∧
    (sTun.tuners.length = 36) ∧ ((nth sTun.zooms 0 { }).pend = []) ∧ (sTun.ddcReady 0 0 = true) ∧ ((sTun.ddcCfg 0
    0).thrEn = 0) ∧ (sTun.zoomServes 0 0 = false) ∧ (1 < 4) ∧ ((0, 1) ≠ (0, 0)) ∧ ((r0.tuner 0 0).blk.data.length < 2
    ^ (r0.ddcCfg 0 0).l2blk) ∧ (sTunBlk.tuners.length = 36) ∧ ((nth sTunBlk.zooms 0 { }).pend = []) ∧ (2 ^
    (sTunBlk.ddcCfg 0 0).l2blk ≤ (sTunBlk.tuner 0 0).blk.data.length) ∧ (sTunBlk.streams = []) ∧ (6 * (sTunBlk.tuner 0
    0).blk.data.length + 128 ≤ sTunBlk.inf (Fr.DDC_RING_SIZE_MIB 0 0) * 2 ^ 20) ∧ (sTunBlk.fld (Fr.DDC_WR_OFS 0 0) <
    sTunBlk.inf (Fr.DDC_RING_SIZE_MIB 0 0) * 16384) ∧ ((r0.tuner 0 0).fade = none) ∧ (sFade.tuners.length = 36) ∧
    ((nth sFade.zooms 0 { }).pend = []) ∧ ((sFade.tuner 0 0).fade = some fade8) ∧ (fade8.len ≤ fade8.k) ∧ (fade8.bank <
    2) ∧ ((sFade.tuner 0 0).queued = none) ∧ ((r0.tuner 0 0).pend = []) ∧ (sRestart.tuners.length = 36) ∧ ((nth
    sRestart.zooms 0 { }).pend = []) ∧ ((sRestart.tuner 0 0).pend = [tunOn]) ∧ (sRestart.reached 0 tunOn.at_ = true) ∧
    (sRestart.ddcRuns 0 0 = false) ∧ (tunOn.cap ≠ []) ∧ (tunOn.at_ < 2 ^ 64) ∧ ((sRestart.ddcCfg 0 0).restarts
    (sRestart.ddcCfgOf tunOn.cap 0 0) = true) ∧ (sRestart.streams = []) ∧ ((sRestart.tuner 0 0).blk.data = []) ∧
    ((sRestart.zoomTun 0 0).used = 0) ∧ (sRestart.flag (Fr.DDC_ABOVE 0 0) = false) ∧ ((sRestart.tuner 0 0).fade =
    none) ∧ ((sRestart.tuner 0 0).fadeAt = none) ∧ ((sRestart.tuner 0 0).queued = none) ∧ (tunOn.job ≠ 0) ∧
    (sRestart.job tunOn.job = some (jobFor 1 (job 16 []))) ∧ ((jobFor 1 (job 16 [])).done = none) ∧ ((jobFor 1 (job 16
    [])).ring < 64) ∧ (sRestart.attens = []) ∧ (∀ (x : Slice), x ∈ sRestart.slices → x.pend = []) ∧ (∀ (x : Tuner), x
    ∈ sRestart.tuners → x.queued = none) ∧ (∀ (x : Zoom), x ∈ sRestart.zooms → x.pend = []) ∧ (∀ (m : Nat), m < 9 → ∀
    (q : Nat), q < 4 → (m, q) ≠ (0, 0) → (sRestart.tuner m q).pend = []) ∧ (sDeliv.tuners.length = 36) ∧ ((nth
    sDeliv.zooms 0 { }).pend = []) ∧ (sDeliv.stream 65536 = some delivery) ∧ (delivery.window = some (10, 20)) ∧
    (sDeliv.jobs = []) ∧ ((10, 20).snd ≠ 0) ∧ ((sDeliv.tuner delivery.slice delivery.inst).blk.data = []) ∧ ((10,
    20).snd ≤ (sDeliv.tuner delivery.slice delivery.inst).start) ∧ (r0.zoomServes 0 0 = false) ∧ (sZoom.tuners.length
    = 36) ∧ ((nth sZoom.zooms 0 { }).pend = []) ∧ (sZoom.zoomServes 0 0 = true) ∧ (0 < (sZoom.zoomTun 0 0).frames) ∧
    (sZoom.inf (Fr.ZOOM_T_Z 0) ≤ (sZoom.zoomTun 0 0).frames) ∧ (sZoom.zooms.length = 9) ∧ (∀ (z : Zoom), z ∈
    sZoom.zooms → z.tun.length = 4) ∧ (sZoom.streams = []) ∧ (sZoom.fld (Fr.HIST_WR_OFS 0) < sZoom.inf
    (Fr.HIST_SIZE_MIB 0) * 16384) ∧ (4 * sZoom.zoomN 0 + 128 ≤ (sZoom.histAt 0).snd) := by
  and_intros <;> decide +kernel

/-- The hypotheses of Correlator are met, each clause's together. -/
theorem witness_Correlator :
    (∀ (c : XChange), c ∈ sXcorOff.xcor.pend → c.instant = false) ∧ (sXcorChg.xcor.pend = [corrOn]) ∧ (corrOn.instant
    = true) ∧ (corrOn.cap = [(5767168, 161#32)]) ∧ (sXcorChg.inf Fr.XCOR_CORR_EN = 0) ∧ (sXcorChg.inf Fr.XCOR_FENG_EN
    = 0) ∧ (sXcorChg.xcor.out = none) ∧ (sXcorChg.xcor.running = false) ∧ (sXcorChg.xcorChanges corrOn.cap = true) ∧
    (sXcorChg.xcorInstant corrOn < 2 ^ 64) ∧ (∃ n, n ∈ boundSlices (sXcorChg.capFld corrOn.cap Fr.XCOR_SRC) ∧
    sXcorChg.reached n (sXcorChg.xcorInstant corrOn) = true) ∧ (sXcorChg.job corrOn.job = some (jobFor 1 (job 16 [])))
    ∧ ((jobFor 1 (job 16 [])).done = none) ∧ ((jobFor 1 (job 16 [])).ring < 64) ∧ (sXcorChg.streams = []) ∧
    (sXcorOff.xcor.running = false) ∧ (sXcorEnd.xcor.running = true) ∧ (sXcorEnd.xcor.out = none) ∧
    (sXcorEnd.xcor.pend = []) ∧ (sXcorEnd.xcor.failed = []) ∧ (sXcorEnd.xcor.ret = []) ∧ (0 <
    sXcorEnd.xcor.cur.frames) ∧ (sXcorEnd.xcorPassed (sXcorEnd.xcorEnd sXcorEnd.xcor.cur.begin_) = true) ∧
    (sXcorEnd.xcorEnd sXcorEnd.xcor.cur.begin_ < 2 ^ 64) ∧ (∃ n, n ∈ boundSlices (sXcorEnd.inf Fr.XCOR_SRC) ∧
    sXcorEnd.reached n (sXcorEnd.xcorEnd sXcorEnd.xcor.cur.begin_) = true) ∧ (sXcorOff.xcor.out = none) ∧
    (sXcorOut.xcor.out = some (0, [1, 2, 3])) ∧ (16777216 = sXcorOut.inf Fr.XCOR_OUT_BASE_MIB * 2 ^ 20) ∧ (16384 =
    sXcorOut.inf Fr.XCOR_OUT_SIZE_MIB * 16384) ∧ (sXcorOut.streams = []) ∧ (0 < (0, [1, 2, 3]).snd.length) ∧
    (sXcorOut.fld Fr.XCOR_WR_OFS + ceilDiv (0, [1, 2, 3]).snd.length 64 ≤ 16384) ∧ (16777216 + 16384 * 64 ≤
    sXcorOut.hbmSize) ∧ (sXcorOut.hbm.holes = []) ∧ (∀ (b : FBuf), b ∈ sXcorOff.xcor.fbufs → b.i ≠ 0) ∧
    (sXcorF.xcor.fbufs = [payload]) ∧ (2 ^ sXcorF.inf Fr.XCOR_LOG2NSPEC ≤ payload.frames) ∧ (16777216 = sXcorF.inf
    Fr.XCOR_FRING_BASE_MIB * 2 ^ 20) ∧ (16384 = sXcorF.inf Fr.XCOR_FRING_SIZE_MIB * 16384) ∧ (0 <
    payload.bytes.length) ∧ (sXcorF.fld Fr.XCOR_F_WR_OFS + ceilDiv payload.bytes.length 64 ≤ 16384) ∧ (16777216 +
    16384 * 64 ≤ sXcorF.hbmSize) ∧ (sXcorF.hbm.holes = []) ∧ (sXcorF.streams = []) ∧ (1 < 2) ∧ (1 ∈ sHalf.xcor.failed)
    ∧ (0 < 2) ∧ ((List.filter (fun p => decide (p.fst = 0)) sXcorOff.xcor.fails).length < 3) ∧ (sXcorOff.xcor.failed =
    []) ∧ (sXcorOff.fld Fr.FLTJNL_LAST_ID + 1 < 2 ^ 32) ∧ (sHalf.xcor.failed = [1 - 0]) ∧ (sHalf.streams = []) ∧
    (sHalf.fld Fr.FLTJNL_LAST_ID + 1 < 2 ^ 32) := by
  and_intros <;> decide +kernel

/-- Pseudo-channel 0 serves slot 0, channel 1 is a spare, channel 2 a spare being filled; the scrubber is on. -/
def sHbm : State :=
  fset ringOn [(Fr.MEM_PC_SLOT 0, 0), (Fr.MEM_PC_STATE 1, pcSpare), (Fr.MEM_PC_STATE 2, pcFilling), (Fr.MEM_SPARES, 1),
    (Fr.MEM_N_ACT, 1), (Fr.MEM_RING_GIB, 0), (Fr.MEM_SCRUB_H, 24), (Fr.MEM_DELTA, 5)]
/-- The same without a spare. -/
def sHbmBare : State := fset sHbm [(Fr.MEM_PC_STATE 1, pcRetired), (Fr.MEM_SPARES, 0)]
/-- Channel 0 trains. -/
def training (s : State) : State :=
  { fset s [(Fr.MEM_PC_STATE 0, pcTraining)] with hbm := { s.hbm with training := some 0, stalled := [0], fill := 100 } }
/-- Channel 0 is in self-refresh; traffic keeps the stacks busy. -/
def sSelf : State := { fset sHbm [(Fr.MEM_PC_STATE 0, pcSelfRefresh)] with hbm := { sHbm.hbm with stalled := [0] } }
def sHbmBusy : State := finf sHbm [(Fr.VID_EN, 1)]
/-- Stack 0 is in recovery. -/
def sStack : State := { fset sHbm [(Fr.MEM_PC_STATE 0, pcTraining)] with hbm := { sHbm.hbm with recovering := [0], stalled := [0] } }
/-- A RESTRIPE with one spare and a ring of 1 GiB runs. -/
def dRestripe : Desc := job 0x52 [0x110]
def sRestripe : State :=
  { running sHbm 0x52 [0x110] with hbm := { sHbm.hbm with restripe := some (1, dRestripe), cells := [(5, 7#8)], poison := [9] } }
/-- A transfer of 768 bytes from HBM to host memory in bursts of 256, on channel 3. -/
def xfer0 : Xfer :=
  { owner := .move 1
    srcSpace := spHbm
    dstSpace := spHost
    share := 1
    burst := 0
    retry := 2
    bar := false
    irqHalf := false
    irqFull := false
    length := 768
    src := 4096
    dst := 0x10000
    gap := 0
    host := [] }
def xferFly : Xfer := { xfer0 with issued := 2, flight := [0, 1] }
def xferOne : Xfer := { xfer0 with issued := 1, flight := [0], tries := [(0, 2)], retries := 2 }
def xferTwo : Xfer := { xferFly with tries := [(0, 2)], retries := 2 }
def xferEnd : Xfer := { xfer0 with issued := 3 }
def sDma (x : Xfer) : State :=
  { running (fset sHbm [(Fr.DMA_CH_STATE 3, chRunning)]) 0x40 [] with chans := modNth State.reset.chans 3 (fun _ => ⟨some x, []⟩) }
def sDmaHalt : State := fset (sDma xfer0) [(Fr.DMA_CH_STATE 3, chHalted)]
def sDmaUe : State := { sDma xferFly with hbm := { sHbm.hbm with poison := [4100] } }
/-- The scrubber is off. -/
def sNoScrub : State := fset sHbm [(Fr.MEM_SCRUB_H, 0)]

/-- The hypotheses of HbmUpkeep are met, each clause's together. -/
theorem witness_HbmUpkeep :
    (0 < 128) ∧ ((training sHbm).hbm.training.isSome = true ∨ ballastCalm ≤ (training sHbm).hbm.fill) ∧
    (sHbm.hbm.training = none) ∧ (sHbm.hbm.recovering = []) ∧ (sHbm.hbm.fill < ballastCalm) ∧ (sHbm.fld
    (Fr.MEM_PC_STATE 0) = pcActive) ∧ (sHbm.fld (Fr.MEM_PC_SLOT 0) ≠ 255) ∧ (sHbm.trainDue 0 40 = true) ∧
    (sHbm.clk.memPll = none) ∧ ((training sHbm).hbm.training = some 0) ∧ ((training sHbm).clk.memPll = none) ∧
    ((training sHbm).hbm.stalled = [(training sHbm).fld (Fr.MEM_PC_SLOT 0)]) ∧ (-128 ≤ 0) ∧ ((training sHbm).fld
    Fr.FLTJNL_LAST_ID + 1 < 2 ^ 32) ∧ ((training sHbm).fld (Fr.MEM_PC_STATE 0) ≠ pcSpare) ∧ ((training
    sHbmBare).hbm.training = some 0) ∧ ((training sHbmBare).fld Fr.FLTJNL_LAST_ID + 1 < 2 ^ 32) ∧ ((training
    sHbmBare).fld (Fr.MEM_PC_STATE 0) ≠ pcSpare) ∧ ((training sHbmBare).spareFor 0 = none) ∧ (1 < 128) ∧ (sHbm.fld
    (Fr.MEM_PC_STATE 1) ≠ pcActive) ∧ (0 < 4) ∧ (sHbmBusy.hbmBusy = true) ∧ (r0.hbmBusy = false) ∧ (r0.hbm.training =
    none) ∧ (r0.hbm.recovering = []) ∧ (sHbm.hbmBusy = false) ∧ (r0.clk.memPll = none) ∧ (sSelf.clk.memPll = none) ∧
    (sNoScrub.fld Fr.MEM_SCRUB_H = 0) ∧ (sHbm.fld Fr.MEM_SCRUB_H ≠ 0) ∧ (sHbm.ringBytes ≤ 0) ∧ (0 < sHbm.hbmSize) ∧
    (sHbm.pcOfSlot (sHbm.slotOf (0 / 32 * 32)) = some 0) := by
  and_intros <;> decide +kernel

/-- The hypotheses of HbmRecovery are met, each clause's together. -/
theorem witness_HbmRecovery :
    (0 < 4) ∧ (¬0 ∈ sHbm.hbm.recovering) ∧ (0 / 32 = 0) ∧ (0 < 128) ∧ (sHbm.fld (Fr.MEM_PC_STATE 0) = pcActive) ∧
    (sHbm.fld (Fr.MEM_PC_SLOT 0) ≠ 255) ∧ (1 < 4) ∧ (¬1 ∈ sHbm.hbm.recovering) ∧ (0 ∈ sStack.hbm.recovering) ∧
    (sStack.clk.memPll = none) ∧ (sStack.stackPcs 0 pcTraining ≠ []) ∧ (sHbm.fld (Fr.MEM_PC_STATE 0) ≠ pcFilling) ∧ (2
    < 128) ∧ (sHbm.fld (Fr.MEM_PC_STATE 2) = pcFilling) ∧ (sHbm.fld Fr.MEM_SPARES < 15) ∧ (sHbm.hbm.restripe = none) ∧
    (sRestripe.hbm.restripe = some (1, dRestripe)) ∧ (sRestripe.job 1 = some (jobFor 1 (job 82 [272]))) ∧ ((jobFor 1
    (job 82 [272])).done = none) ∧ ((jobFor 1 (job 82 [272])).ring < 64) ∧ (restripeSpares dRestripe ≤
    sRestripe.healthyPcs.length) ∧ (restripeGrain dRestripe ≤ 4) := by
  and_intros <;> decide +kernel

/-- The hypotheses of DmaBursts are met, each clause's together. -/
theorem witness_DmaBursts :
    (3 < 32) ∧ (sDmaHalt.chans.length = 32) ∧ (sDmaHalt.chan 3 = { cur := some xfer0 }) ∧ (xfer0.owner = XOwner.move
    1) ∧ (sDmaHalt.fld (Fr.DMA_CH_STATE 3) ≠ chRunning) ∧ ((sDma xfer0).chans.length = 32) ∧ ((sDma xfer0).chan 3 = {
    cur := some xfer0 }) ∧ ((sDma xfer0).fld (Fr.DMA_CH_STATE 3) = chRunning) ∧ (xfer0.fail = none) ∧ (xfer0.issued <
    xfer0.bursts) ∧ (∀ (u : Nat), xfer0.starts[15]? = some u → u + xfer0.gap ≤ (sDma xfer0).samp) ∧ (xfer0.flight =
    []) ∧ ((sDma xferFly).chans.length = 32) ∧ ((sDma xferFly).chan 3 = { cur := some xferFly }) ∧ (xferFly.owner =
    XOwner.move 1) ∧ (xferFly.flight = [0, 1]) ∧ (xferFly.srcSpace = spHbm) ∧ (xferFly.dstSpace = spHost) ∧
    (xferFly.irqHalf = false) ∧ (xferFly.fail = none) ∧ ((sDma xferFly).hbmBytes (xferFly.src + 0 * burstBytes
    xferFly.burst) (xferFly.burstLen 0) = List.map some (zeros 256)) ∧ ((sDma xferFly).fld (Fr.DMA_CH_DONE_BYTES 3) +
    (zeros 256).length < 2 ^ 32) ∧ (sDmaUe.chans.length = 32) ∧ (sDmaUe.chan 3 = { cur := some xferFly }) ∧ (none ∈
    sDmaUe.hbmBytes (xferFly.src + 0 * burstBytes xferFly.burst) (xferFly.burstLen 0)) ∧ (sDmaUe.job 1 = some (jobFor
    1 (job 64 []))) ∧ ((jobFor 1 (job 64 [])).done = none) ∧ ((jobFor 1 (job 64 [])).ring < 64) ∧ (¬0 ∈ xfer0.flight ∨
    0 = 0 ∨ 0 = 6 ∨ 7 < 0) ∧ (0 ∈ xferFly.flight) ∧ (1 ≤ 1) ∧ (1 ≤ 7) ∧ (1 ≠ 6) ∧ ((Option.map (fun x => x.snd)
    (List.find? (fun p => decide (p.fst = 0)) xferFly.tries)).getD 0 < xferFly.retry) ∧ ((sDma xferTwo).chans.length =
    32) ∧ ((sDma xferTwo).chan 3 = { cur := some xferTwo }) ∧ (xferTwo.owner = XOwner.move 1) ∧ (0 ∈ xferTwo.flight) ∧
    (xferTwo.fail = none) ∧ (xferTwo.retry ≤ (Option.map (fun x => x.snd) (List.find? (fun p => decide (p.fst = 0))
    xferTwo.tries)).getD 0) ∧ (∃ m, m ∈ xferTwo.flight ∧ m ≠ 0) ∧ ((sDma xferOne).chans.length = 32) ∧ ((sDma
    xferOne).chan 3 = { cur := some xferOne }) ∧ (xferOne.owner = XOwner.move 1) ∧ (0 ∈ xferOne.flight) ∧
    (xferOne.fail = none) ∧ (xferOne.retry ≤ (Option.map (fun x => x.snd) (List.find? (fun p => decide (p.fst = 0))
    xferOne.tries)).getD 0) ∧ (xferOne.flight = [0]) ∧ ((sDma xferOne).job 1 = some (jobFor 1 (job 64 []))) ∧
    (xferOne.srcSpace = spHbm) ∧ (0 + 1 < xferOne.bursts) ∧ (xfer0.issued ≠ xfer0.bursts) ∧ ((sDma
    xferEnd).chans.length = 32) ∧ ((sDma xferEnd).chan 3 = { cur := some xferEnd }) ∧ (xferEnd.owner = XOwner.move 1)
    ∧ (xferEnd.issued = xferEnd.bursts) ∧ (xferEnd.flight = []) ∧ (xferEnd.fail = none) ∧ ((sDma xferEnd).job 1 = some
    (jobFor 1 (job 64 []))) ∧ (xferEnd.irqFull = false) := by
  and_intros <;> decide +kernel

/-- Both Ethernet ports are up; port 0 has an address. -/
def sNet : State :=
  fset ringOn [(Fr.NET_PORT_STATE 0, 1), (Fr.NET_PORT_STATE 1, 1), (Fr.NET_PORT_IPV4 0, 0x0A000001), (Fr.NET_PORT_MAC 0, 5),
    (Fr.CLK_RUNNING, 1)]
def sNetDown : State := fset sNet [(Fr.NET_PORT_STATE 0, 0)]
/-- The row of PORT[0].MAC. -/
def rowPort : RegRow := ⟨7864580, 2, 128, 1, 4, 4294967295, 0, 0, 0, 0⟩
/-- A record stream: a whole payload waits; nothing waits. -/
def recItem : Item := ⟨0x1000000, zeros 256, 0, 0, 0, 256, 0, 0⟩
def recStream : Stream :=
  { job := 1
    p := [0x00030000, 0, 0x12340000, 0, 0, 0, 0, 0, 0, 0x000A0100, 5, 0]
    port := 0
    queue := [recItem] }
def recStreamIdle : Stream := { recStream with queue := [] }
def recPayload : Payload := ⟨zeros 256, 0, 0, recItem, [], 0, true⟩
/-- A tuner stream with nothing queued and no pair due by a change. -/
def iqStream : Stream := { recStreamIdle with p := [0x00010000, 0, 0x12340000, 0, 0, 0, 0, 0, 0, 0x000A0010, 5, 0], ctxDue := false }
/-- A host-memory stream with a record of 64 bytes waiting. -/
def hostItem : Item := ⟨0x1000000, zeros 64, 0, 0, 0, 64, 0, 0⟩
def hostStream : Stream :=
  { recStream with
    p := [0x00030000, 1, 0, 0x40000, 0, 64, 0, 0, 0, 0x000A0100, 5, 0]
    queue := [hostItem] }
def hostStreamIdle : Stream := { hostStream with queue := [] }
def hostStreamFull : Stream := { hostStream with wrOfs := 64 }
def sStream (x : Stream) (now : Nat) : State := { sNet with streams := [x], samp := now }
/-- One port stands by for the other. -/
def sFailover : State := 
  { running (fset sNet [(Fr.NET_MODE, 1), (Fr.NET_ACTIVE, 0)]) 0x14 [] with
    streams := [recStream]
    jobs := [jobFor 1 (job 0x14 []), { jobFor 2 (job 0x28 []) with done := some 0 }] }
/-- A recording on namespace 0 in segments of 1 MiB. -/
def rec0 : Rec :=
  { job := 1
    p := [7, 0x1401, 0, 100, 0, 1000, 0, 0, 0, 0, 0, 0]
    begun := true
    cseq := 3
    chain := zeros 32
    ofs := 1024 }
def recFull : Rec := { rec0 with need := 160 }
def recLast : Rec := { recFull with p := [7, 0x1401, 0, 100, 0, 1000, 0, 1, 0, 0, 0, 0] }
def recOut : Rec := { rec0 with writes := [(0, some 2)], tries := [(0, 1)] }
def sRec (r : Rec) (now : Nat) : State :=
  { running (fset ringOn [(Fr.REC_LINK_UP, 1), (Fr.REC_NS_STATE 0, 1), (Fr.REC_NS_CAP_LBAS 0, 1000000), (Fr.REC_OPEN, 1),
      (Fr.CLK_RUNNING, 1)]) 0x1A [] with
    recs := [r]
    samp := now }
/-- Namespaces found at the link's start. -/
def found3 : List (List Nat) := [[4096, 0, 20, 0, 0, 1000, 1], [512, 1, 20, 0, 0, 1000, 2], [512, 0, 8, 1, 0, 1000, 3]]

/-- The hypotheses of NetworkPorts are met, each clause's together. -/
theorem witness_NetworkPorts :
    (0 < 2) ∧ (sNet.ptpUsed = false) ∧ ((if true = true then sNet.portIpv6 0 else sNet.fld (Fr.NET_PORT_IPV4 0)) ≠ 1 ∨
    sNet.fld (Fr.NET_PORT_STATE 0) ≠ 1) ∧ ((if false = true then sNet.portIpv6 0 else sNet.fld (Fr.NET_PORT_IPV4 0)) =
    167772161) ∧ (167772161 ≠ 0) ∧ (sNet.fld (Fr.NET_PORT_STATE 0) = 1) ∧ ((sStream recStream 0).ptpUsed = false) ∧ (4
    ≤ 36) ∧ (4 % 4 = 0) ∧ ((sStream recStream 0).fld Fr.NET_MODE = 0) ∧ (∃ x, x ∈ (sStream recStream 0).streams ∧
    x.dest = 0 ∧ x.port = 0) ∧ (regRow (7864576 + 128 * 0 + 4) = some rowPort) ∧ (rowPort.rw ≠ 0) ∧ (sNet.fld
    Fr.NET_MODE = 0) ∧ (∀ (x : Machine.Stream), x ∈ sNet.streams → x.dest ≠ 0 ∨ x.port ≠ 0) ∧ (sNetDown.ptpUsed =
    false) ∧ (sNetDown.fld (Fr.NET_PORT_STATE 0) ≠ 1) ∧ (sFailover.ptpUsed = false) ∧ (sFailover.fld
    (Fr.NET_PORT_STATE 0) = 1) ∧ (sFailover.fld (Fr.NET_PORT_STATE (1 - 0)) = 1) ∧ (sFailover.fld Fr.NET_MODE = 1) ∧
    (sFailover.fld Fr.NET_ACTIVE = 0) ∧ (sFailover.streams = [recStream]) ∧ (recStream.dest = 0) ∧ (recStream.port =
    0) ∧ (recStream.log = []) ∧ (sFailover.fld Fr.FLTJNL_LAST_ID + 1 < 2 ^ 32) := by
  and_intros <;> decide +kernel

/-- The hypotheses of StreamPackets are met, each clause's together. -/
theorem witness_StreamPackets :
    ((sStream recStream 0).stream 196608 = some recStream) ∧ (recStream.dest = 0) ∧ ((sStream recStream 0).maySend =
    true) ∧ (recStream.payload false = some recPayload) ∧ ((sStream recStream 0).pairDue recStream recPayload = false)
    ∧ ((sStream recStream 0).pairOld recStream = false) ∧ ((sStream recStreamIdle 0).stream 196608 = some
    recStreamIdle) ∧ (recStreamIdle.dest = 0) ∧ ((sStream recStreamIdle 0).maySend = true) ∧ ((sStream recStreamIdle
    0).pairOld recStreamIdle = false) ∧ (recStreamIdle.payload false = none) ∧ ((sStream iqStream 100000000000).stream
    65536 = some iqStream) ∧ (iqStream.dest = 0) ∧ ((sStream iqStream 100000000000).maySend = true) ∧
    (iqStream.payload false = none) ∧ ((sStream iqStream 100000000000).pairOld iqStream = true) ∧ ((sStream recStream
    0).samp < recStream.dataAt + (sStream recStream 0).samplesOfNs (1000000 * recStream.alive)) ∧ ((sStream
    recStreamIdle 100000000000).stream 196608 = some recStreamIdle) ∧ ((sStream recStreamIdle 100000000000).maySend =
    true) ∧ (recStreamIdle.dataAt + (sStream recStreamIdle 100000000000).samplesOfNs (1000000 * recStreamIdle.alive) ≤
    (sStream recStreamIdle 100000000000).samp) ∧ (recStreamIdle.queue = []) ∧ (recStreamIdle.pairs = false ∨
    recStreamIdle.ctxDue = false) ∧ ((sStream hostStreamIdle 0).stream 196608 = some hostStreamIdle) ∧
    (hostStreamIdle.dest = 1) ∧ ((sStream hostStreamIdle 0).flag Fr.HIF_LINK_UP = false ∨ hostStreamIdle.queue = []) ∧
    ((sStream hostStream 0).stream 196608 = some hostStream) ∧ (hostStream.dest = 1) ∧ ((sStream hostStream 0).flag
    Fr.HIF_LINK_UP = true) ∧ (hostStream.queue = [hostItem]) ∧ (hostStream.wrOfs + ceilDiv hostItem.bytes.length 64 *
    64 ≤ hostStream.hostBytes) ∧ (ceilDiv hostItem.bytes.length 64 * 64 + 64 ≤ hostStream.hostBytes) ∧
    (hostStream.wrOfs ≠ 64) ∧ (hostRoom hostStream.hostBytes hostStream.wrOfs 64 < ceilDiv hostItem.bytes.length 64 *
    64) ∧ (hostStream.wrOfs = 0 ∨ ceilDiv hostItem.bytes.length 64 * 64 ≤ hostRoom hostStream.hostBytes
    hostStream.wrOfs 0) := by
  and_intros <;> decide +kernel

/-- The hypotheses of Recordings are met, each clause's together. -/
theorem witness_Recordings :
    ((sRec rec0 0).recs = [rec0]) ∧ (rec0.signed = false) ∧ (rec0.begun = true) ∧ (rec0.ended = none) ∧ (rec0.need =
    0) ∧ ((sRec recFull 0).recs = [recFull]) ∧ (recFull.signed = false) ∧ (recFull.begun = true) ∧ (recFull.ended =
    none) ∧ (recFull.need ≠ 0) ∧ ((sRec recFull 0).segEnd recFull (recFull.seg + 1) = none) ∧ ((sRec recLast 0).recs =
    [recLast]) ∧ (recLast.signed = false) ∧ (recLast.begun = true) ∧ (recLast.ended = none) ∧ (recLast.need ≠ 0) ∧
    ((sRec recLast 0).segEnd recLast (recLast.seg + 1) = some 2) ∧ ((sRec rec0 0).samp < rec0.ckpt + (sRec rec0
    0).samplesOfNs (1000000 * rec0.ckptMs)) ∧ ((sRec rec0 100000000000).recs = [rec0]) ∧ (rec0.ckpt + (sRec rec0
    100000000000).samplesOfNs (1000000 * rec0.ckptMs) ≤ (sRec rec0 100000000000).samp) ∧ (rec0.fits (rec0.ckptLen -
    32) = true) ∧ ((sRec recOut 0).recs = [recOut]) ∧ (recOut.signed = false) ∧ (recOut.begun = true) ∧ (recOut.ended
    = none) ∧ (bit recOut.mask 0 = true) ∧ (recOut.writes = [(0, some 2)]) ∧ ((sRec recOut 0).flag (Fr.REC_NS_VWC 0) =
    false) ∧ ((Option.map (fun x => x.snd) (List.find? (fun p => decide (p.fst = 0)) recOut.tries)).getD 0 < 3) ∧ (2 ≤
    2) ∧ (0 < 8) ∧ ((sRec recOut 0).streams = []) ∧ ((sRec recOut 0).job recOut.job = some (jobFor 1 (job 26 []))) ∧
    ((jobFor 1 (job 26 [])).done = none) ∧ ((jobFor 1 (job 26 [])).ring < 64) ∧ ((sRec recOut 0).fld Fr.FLTJNL_LAST_ID
    + 1 < 2 ^ 32) ∧ ((sRec rec0 0).flag Fr.REC_LINK_UP = true) ∧ ((sRec rec0 0).streams = []) ∧ ((sRec rec0 0).job
    rec0.job = some (jobFor 1 (job 26 []))) ∧ ((sRec rec0 0).fld Fr.FLTJNL_LAST_ID + 1 < 2 ^ 32) ∧ (sNet.flag
    Fr.REC_LINK_UP = true ∨ 0 = 0) ∧ (sNet.flag Fr.REC_LINK_UP = false) ∧ (0 < 1) ∧ (1 < 16) := by
  and_intros <;> decide +kernel

/-- Entries stand in both rings and the event ring; job 1's entry is posted, job 2 runs. -/
def sPosted : State :=
  { fset ringOn [(Fr.CQ_TAIL 0, 2), (Fr.SQ_HEAD 0, 2), (Fr.SQ_TAIL 0, 2), (Fr.HIF_EV_TAIL, 3)] with
    jobs := [{ jobFor 1 (job 0x0C []) with posted := true, done := some 0 }, { jobFor 2 (job 0x0C []) with idx := 1 }]
    nextJob := 3
    journal := [⟨0, 1, 0, 0, 0x0C, 0, 0, 0, 0, 0, 0, 1, 0, 0, 0⟩, ⟨1, 1, 0, 0, 0x0C, 1, 0, 0, 0, 0, 0, 2, 0, 0, 0⟩] }
/-- The ring is halted. -/
def sHaltRing : State := sPosted.setFld (Fr.SQ_STATE 0) 2
/-- Events wait: new, logged, without room; a full log. -/
def ev1 : Ev := ⟨1, 4, 1, 0, 0, zeros 48⟩
def ev2 : Ev := ⟨2, 1, 1, 0, 0, zeros 48⟩
def sEv : State := { ringOn with evq := [ev1] }
def sEvLog : State := { ringOn with evlog := [ev1], evq := [ev2] }
def sEvHeld : State := { ringOn.setFld Fr.HIF_EV_EN 0 with evq := [ev1] }
def sEvFull : State := { ringOn.setFld Fr.HIF_EV_EN 0 with evlog := List.replicate 16384 ev2, evq := [ev2] }
/-- A coalescing timer runs; its vector 0 is free, masked, in its interval. -/
def sTimer : State := { ringOn with cqs := modNth State.reset.cqs 0 (fun _ => ⟨1, true⟩) }
def sTimerMask : State := { sTimer with msixMasked := [0], msixBusy := [0], msixMerged := [0] }
def sTimerBusy : State := { sTimer with msixBusy := [0], msixMerged := [0] }
/-- A descriptor of SNAPSHOT: one that passes, one whose read fails, one out of sequence, one with a reserved word. -/
def dSnap : Desc := job 0x0C [0, 0, 1]
def dSnapErr : Desc := { dSnap with hostErr := some 0 }
def dSnapSeq : Desc := { dSnap with seq := 5 }
def dSnapBad : Desc := job 0x0C [0, 0, 1, 1]
def dSnapBar : Desc := { dSnap with flags := 256 }
/-- Ring 0 has one descriptor to fetch; nothing to fetch; an earlier job runs. -/
def sFetch : State := fset ringOn [(Fr.SQ_TAIL 0, 1), (Fr.PMC_PENDING, 0)]
def sSnap2 : State := { sFetch with snaps := List.replicate 8 ⟨1, 0, true⟩ }
def sBusy : State := running sFetch 0x0C [0, 0, 1]
def sRetry1 : State := { sFetch with fetchFail := [(0, 0, 0)] }
def sRetry3 : State := { sFetch with fetchFail := [(0, 2, 0)] }
/-- A completed job waits for its entry. -/
def jobDone1 : Job := { jobFor 1 (job 0x0C []) with done := some 0 }
def sDone : State := { sBusy with jobs := [jobDone1, jobFor 2 (job 0x0C [])], nextJob := 3 }

/-- A descriptor that no check of Table 11.4 stops passes. -/
theorem passes_of_checks (s : State) (d : Desc) (k : JobDef) (hq : d.seq = (s.reading d.ring).fld (Fr.SQ_SEQ_NEXT d.ring))
    (hk : jobOf d = some k)
    (h1 : firstRefusal [stepHeader d k.flags, stepSecurity (s.reading d.ring) ((s.reading d.ring).ownerSq d.ring) d] = none)
    (h2 : k.sec (s.reading d.ring) ((s.reading d.ring).ownerSq d.ring) d = none)
    (h3 : k.fmt (s.reading d.ring) ((s.reading d.ring).ownerSq d.ring) d = none)
    (h3' : reservedWord d k.used = none)
    (h4 : k.st (s.reading d.ring) ((s.reading d.ring).ownerSq d.ring) d = none)
    (h5 : k.win (s.reading d.ring) d = none) (h6 : k.budget (s.reading d.ring) d = none) : s.passes d := by
  unfold State.passes State.checkJob
  simp only [hk, ← hq, ne_eq, not_true_eq_false, if_false, h1, h2, h3, h3', h4, h5, h6, stepFormat, firstRefusal]

/-- A descriptor that reserves a DMA share passes where it does whatever the share is. -/
theorem passes_share (path : Nat) (s : State) (d : Desc) (k : JobDef) (hb : k.budget = needBudget (shareNeed path))
    (hq : d.seq = (s.reading d.ring).fld (Fr.SQ_SEQ_NEXT d.ring)) (hk : jobOf d = some k)
    (h1 : firstRefusal [stepHeader d k.flags, stepSecurity (s.reading d.ring) ((s.reading d.ring).ownerSq d.ring) d] = none)
    (h2 : k.sec (s.reading d.ring) ((s.reading d.ring).ownerSq d.ring) d = none)
    (h3 : k.fmt (s.reading d.ring) ((s.reading d.ring).ownerSq d.ring) d = none) (h3' : reservedWord d k.used = none)
    (h4 : k.st (s.reading d.ring) ((s.reading d.ring).ownerSq d.ring) d = none) (h5 : k.win (s.reading d.ring) d = none)
    (h6 : ∀ v : Fin 231, (s.reading d.ring).withinBudget [(path, ceilDiv (v.val * (s.reading d.ring).capacity path) 256)]
      none = none) : s.passes d :=
  passes_of_checks s d k hq hk h1 h2 h3 h3' h4 h5 (by rw [hb]; exact h6 _)

/-- The hypotheses of RingDoorbells are met, each clause's together. -/
theorem witness_RingDoorbells :
    (sPosted.globalSq 0 64 = none) ∧ (sPosted.globalSq 0 0 = some 0) ∧ (2 < 2 ^ 17) ∧ (sPosted.sqDoorbellOk 0 2 =
    true) ∧ (0 < 2 ^ 17) ∧ (sPosted.sqDoorbellOk 0 0 = false) ∧ (sPosted.globalCq 0 64 = none) ∧ (sPosted.globalCq 0 0
    = some 0) ∧ ((sPosted.flag (Fr.CQ_EN 0) && !sPosted.ringBlocked 7 0 && headOk (sPosted.fld (Fr.CQ_LOG2SIZE 0))
    (sPosted.fld (Fr.CQ_HEAD 0)) (sPosted.fld (Fr.CQ_TAIL 0)) 0) = true) ∧ ((after (Instr.completionDoorbell 0 0 0)
    sPosted).jobs.length < 2 ^ 15) ∧ (3 < 2 ^ 17) ∧ ((sPosted.flag (Fr.CQ_EN 0) && !sPosted.ringBlocked 7 0 && headOk
    (sPosted.fld (Fr.CQ_LOG2SIZE 0)) (sPosted.fld (Fr.CQ_HEAD 0)) (sPosted.fld (Fr.CQ_TAIL 0)) 3) = false) ∧
    ((sPosted.flag Fr.HIF_EV_EN && !sPosted.ringBlocked 8 0 && headOk (sPosted.fld Fr.HIF_EV_LOG2SIZE) (sPosted.fld
    Fr.HIF_EV_HEAD) (sPosted.fld Fr.HIF_EV_TAIL) 0) = true) ∧ (40 < 2 ^ 17) ∧ ((sPosted.flag Fr.HIF_EV_EN &&
    !sPosted.ringBlocked 8 0 && headOk (sPosted.fld Fr.HIF_EV_LOG2SIZE) (sPosted.fld Fr.HIF_EV_HEAD) (sPosted.fld
    Fr.HIF_EV_TAIL) 40) = false) ∧ (sPosted.evlog = []) ∧ (sPosted.evq = []) ∧ (sEv.evlog = [ev1] ∧ sEv.evq = [] ∨
    sEv.evlog = [] ∧ ([] : List Nat) = [] ∧ sEv.evq = [ev1]) ∧ ((sEv.mayPost && sEv.evRoom) = true) ∧ (sEv.fld
    Fr.HIF_EV_LOG2SIZE ≤ 16) ∧ (sEvHeld.evq = [ev1]) ∧ ((sEvHeld.mayPost && sEvHeld.evRoom) = false) ∧
    (sEvHeld.evlog.length < 16384) ∧ (sEvFull.evq = [ev2]) ∧ ((sEvFull.mayPost && sEvFull.evRoom) = false) ∧ (16384 ≤
    sEvFull.evlog.length) ∧ (evLow ev2.cls = true) ∧ ((nth sPosted.cqs 0 { }).timer = false) ∧ ((nth sTimerMask.cqs 0
    { }).timer = true) ∧ (sTimerMask.fld (Fr.CQ_VECTOR 0) ∈ sTimerMask.msixMasked) ∧ ((nth sTimerBusy.cqs 0 { }).timer
    = true) ∧ (¬sTimerBusy.fld (Fr.CQ_VECTOR 0) ∈ sTimerBusy.msixMasked) ∧ (sTimerBusy.fld (Fr.CQ_VECTOR 0) ∈
    sTimerBusy.msixBusy) ∧ ((nth sTimer.cqs 0 { }).timer = true) ∧ (¬sTimer.fld (Fr.CQ_VECTOR 0) ∈ sTimer.msixMasked)
    ∧ (¬sTimer.fld (Fr.CQ_VECTOR 0) ∈ sTimer.msixBusy) ∧ (0 ∈ sTimerBusy.msixBusy) ∧ (0 ∈ sTimerBusy.msixMerged) ∧ (¬0
    ∈ sTimerBusy.msixMasked) ∧ (0 ∈ sTimerMask.msixBusy) ∧ (0 ∈ sTimerMask.msixMerged) ∧ (0 ∈ sTimerMask.msixMasked) ∧
    (¬0 ∈ sPosted.msixBusy ∨ ¬0 ∈ sPosted.msixMerged) := by
  and_intros <;> decide +kernel

/-- The hypotheses of RingJobs are met, each clause's together. -/
theorem witness_RingJobs :
    (sRetry1.nextRing ≠ some dSnap.ring) ∧ (sFetch.nextRing = some dSnapErr.ring) ∧ (dSnapErr.hostErr = some 0) ∧
    (sFetch.nextRing = some dSnap.ring) ∧ (dSnap.hostErr = none) ∧ (dSnapSeq.ring < 64) ∧ (dSnapSeq.opcode = 12) ∧
    ((sFetch.fetchFail.all fun f => decide (f.fst ≠ dSnapSeq.ring)) = true) ∧ (((sFetch.reading
    dSnapSeq.ring).checkJob dSnapSeq).refuse = some { status := 18, dword := 254, dres := 0 }) ∧ (((sFetch.reading
    dSnapSeq.ring).checkJob dSnapSeq).own3 = false) ∧ (sFetch.fld (Fr.SQ_CQ dSnapSeq.ring) < 64) ∧ (sFetch.fld
    (Fr.CQ_LOG2SIZE (sFetch.fld (Fr.SQ_CQ dSnapSeq.ring))) ≤ 16) ∧ (dSnapSeq.seq ≠ sFetch.fld (Fr.SQ_SEQ_NEXT
    dSnapSeq.ring)) ∧ (((sFetch.reading dSnapSeq.ring).checkJob dSnapSeq).step1 = true) ∧ (dSnapBad.ring < 64) ∧
    (dSnapBad.opcode = 12) ∧ ((sFetch.fetchFail.all fun f => decide (f.fst ≠ dSnapBad.ring)) = true) ∧
    (((sFetch.reading dSnapBad.ring).checkJob dSnapBad).refuse = some { status := 16, dword := 3, dres := 0 }) ∧
    (((sFetch.reading dSnapBad.ring).checkJob dSnapBad).own3 = false) ∧ (sFetch.fld (Fr.SQ_CQ dSnapBad.ring) < 64) ∧
    (sFetch.fld (Fr.CQ_LOG2SIZE (sFetch.fld (Fr.SQ_CQ dSnapBad.ring))) ≤ 16) ∧ (((sFetch.reading
    dSnapBad.ring).checkJob dSnapBad).step1 = false) ∧ (dSnapBar.ring < 64) ∧ (dSnapBar.opcode = 12) ∧
    ((sBusy.fetchFail.all fun f => decide (f.fst ≠ dSnapBar.ring)) = true) ∧ (sBusy.passes dSnapBar) ∧ (bit
    dSnapBar.flags 8 = true) ∧ (jobFor 1 (job 12 [0, 0, 1]) ∈ sBusy.jobs) ∧ ((jobFor 1 (job 12 [0, 0, 1])).ring =
    dSnapBar.ring) ∧ (∀ (y : Job), y ∈ sBusy.jobs → y.id < sBusy.nextJob) ∧ ((jobFor 1 (job 12 [0, 0, 1])).done =
    none) ∧ ((jobFor 1 (job 12 [0, 0, 1])).standing = false) ∧ (∀ (y : Job), y ∈ sBusy.jobs → y.ring = dSnapBar.ring →
    y.waiting = false) ∧ (List.find? (fun f => decide (f.fst = dSnap.ring)) sFetch.fetchFail = none) ∧ (List.find?
    (fun f => decide (f.fst = dSnap.ring)) sRetry1.fetchFail = some (0, 0, 0)) ∧ (List.find? (fun f => decide (f.fst =
    dSnapErr.ring)) sRetry1.fetchFail = some (0, 0, 0)) ∧ ((0, 0, 0).snd.fst + 1 < 3) ∧ (dSnapErr.ring < 64) ∧
    (List.find? (fun f => decide (f.fst = dSnapErr.ring)) sRetry3.fetchFail = some (0, 2, 0)) ∧ (3 ≤ (0, 2, 0).snd.fst
    + 1) ∧ (0 < 64) ∧ (sBusy.quiesces = []) ∧ (∀ (x : Job), x ∈ sBusy.jobs → x.waiting = false) ∧ (sBusy.mayPost =
    true) ∧ (sBusy.resetDue = 0) ∧ (List.find? (fun x => decide (x.ring = 0) && !x.posted) sBusy.jobs = some (jobFor 1
    (job 12 [0, 0, 1]))) ∧ ((jobFor 1 (job 12 [0, 0, 1])).cq < 64) ∧ (sBusy.fld (Fr.CQ_LOG2SIZE (jobFor 1 (job 12 [0,
    0, 1])).cq) ≤ 16) ∧ (sDone.quiesces = []) ∧ (∀ (x : Job), x ∈ sDone.jobs → x.waiting = false) ∧ (sDone.mayPost =
    true) ∧ (sDone.resetDue = 0) ∧ (List.find? (fun x => decide (x.ring = 0) && !x.posted) sDone.jobs = some jobDone1)
    ∧ (jobDone1.cq < 64) ∧ (sDone.fld (Fr.CQ_LOG2SIZE jobDone1.cq) ≤ 16) ∧ (jobDone1.done = some 0) := by
  and_intros <;> first | decide +kernel | (unfold State.passes; decide +kernel)

/-- A CONFIGURE, and one whose data are read from host memory. -/
def cfg (w0 w1 w2 w3 : Nat) (data : List Nat) : Desc := { job 1 [w0, w1, w2, w3] with data := data }
def linkWord : Nat := 8 * 2 ^ 13 + 3 * 2 ^ 18 + 2 * 2 ^ 22 + 2 ^ 27 + 12 * 2 ^ 8 + 64 + 1
def dSlot : Desc := cfg 0x100 linkWord 7 0 []
def dSlotBack : Desc := cfg 0x100 0 0 0 []
def dTable : Desc := cfg 0x100 0 0 256 [5, 0, 3, 0]
def dTableOne : Desc := cfg 0x10100 0 0 256 [5, 0, 3, 0]
def dTableErr : Desc := { cfg 0x100 0 0 2048 [5, 0, 3, 0] with hostErr := some 4096 }
def dMask : Desc := cfg 0x10100 0 0 2 [0, 0, 0, 0, 0, 0, 9, 0]
def dMaskErr : Desc := { dMask with hostErr := some 4 }
def dFir : Desc := cfg 0x30100 0 0 2 [1, 0, 0, 0, 2, 0, 0, 0]
def dFirA : Desc := cfg 0x20100 0 0 2 [1, 0, 0, 0, 2, 0, 0, 0]
def dGain : Desc := cfg 0x10200 0 0 8 [1, 0, 0, 0, 2, 0, 0, 0]
def dGainA : Desc := cfg 0x200 0 0 8 [1, 0, 0, 0, 2, 0, 0, 0]
def dSqRing : Desc := cfg 0x100 0x1000 0 0x20004 []
def dSqOff : Desc := cfg 0x100 0x1000 0 0 []
def dCqRing : Desc := cfg 0x100 0x2000 1 0x304 []
def dEvRing : Desc := cfg 0 0x3000 0 0x204 []
def dPal : Desc := cfg 0 0 0 2 [1, 2, 3, 4, 5, 6, 7, 0xFF]
def dHk : Desc := { job 0x12 [2, 0] with data := [0, 1, 0, 0, 31, 2, 0, 0] }
/-- The rings run; slot 1 is on its link; the gain banks hold nothing in force; the display stands; a conversion runs. -/
def sCfg : State := sFetch
def sCfgOff : State :=
  { fset sFetch [(Fr.INTK_SLOT_SOURCE 1, 1), (Fr.INTK_LINK_STATE 1, 5)] with
    slots := modNth State.reset.slots 1 (fun x => { x with linkReq := true }) }
def sCfgVid : State := { sFetch with straps := State.reset.straps ||| 512 }
def sCfgHk : State := fset sFetch [(Fr.HK_BUSY, 1)]

/-- Every DMA share of path 4 fits. -/
theorem share_cfg : ∀ v : Fin 231, (sCfg.reading 0).withinBudget [(4, ceilDiv (v.val * (sCfg.reading 0).capacity 4) 256)]
    none = none := by decide +kernel
/-- Every DMA share of path 4 fits. -/
theorem share_vid : ∀ v : Fin 231, (sCfgVid.reading 0).withinBudget [(4, ceilDiv (v.val * (sCfgVid.reading 0).capacity 4) 256)]
    none = none := by decide +kernel
/-- The table loads pass. -/
theorem pass_window : sCfg.passes (asTarget dTable 2) :=
  passes_share 4 _ _ cfWindowTable rfl (by decide +kernel) rfl (by decide +kernel)
    (by decide +kernel) (by decide +kernel) (by decide +kernel) (by decide +kernel) (by decide +kernel) share_cfg
theorem pass_windowErr : sCfg.passes (asTarget dTableErr 2) :=
  passes_share 4 _ _ cfWindowTable rfl (by decide +kernel) rfl (by decide +kernel)
    (by decide +kernel) (by decide +kernel) (by decide +kernel) (by decide +kernel) (by decide +kernel) share_cfg
theorem pass_mask : sCfg.passes (asTarget dFir 3) :=
  passes_share 4 _ _ cfMaskTable rfl (by decide +kernel) rfl (by decide +kernel)
    (by decide +kernel) (by decide +kernel) (by decide +kernel) (by decide +kernel) (by decide +kernel) share_cfg
theorem pass_fir : sCfg.passes (asTarget dTableOne 4) :=
  passes_share 4 _ _ cfFirBank rfl (by decide +kernel) rfl (by decide +kernel)
    (by decide +kernel) (by decide +kernel) (by decide +kernel) (by decide +kernel) (by decide +kernel) share_cfg
theorem pass_gain : sCfg.passes (asTarget dTable 5) :=
  passes_share 4 _ _ cfGainBank rfl (by decide +kernel) rfl (by decide +kernel)
    (by decide +kernel) (by decide +kernel) (by decide +kernel) (by decide +kernel) (by decide +kernel) share_cfg
theorem pass_palette : sCfgVid.passes (asTarget dPal 9) :=
  passes_share 4 _ _ cfPalette rfl (by decide +kernel) rfl (by decide +kernel)
    (by decide +kernel) (by decide +kernel) (by decide +kernel) (by decide +kernel) (by decide +kernel) share_vid

/-- The hypotheses of TableJobs are met, each clause's together. -/
theorem witness_TableJobs :
    (∀ (w : Nat), w ∈ dSlot.p → w < 2 ^ 32) ∧ (∀ (b : Nat), b ∈ dSlot.data → b < 256) ∧ (sCfg.Ready (asTarget dSlot
    1)) ∧ (sCfg.slots.length = 8) ∧ (bit (nth (asTarget dSlot 1).p 1 0) 0 = true) ∧ (sCfg.fld (Fr.INTK_SLOT_SOURCE
    (bits (nth (asTarget dSlot 1).p 0 0) 8 8)) ≠ 1) ∧ ((sCfg.slot (bits (nth (asTarget dSlot 1).p 0 0) 8 8)).linkReq =
    false) ∧ (∀ (w : Nat), w ∈ dSlotBack.p → w < 2 ^ 32) ∧ (∀ (b : Nat), b ∈ dSlotBack.data → b < 256) ∧
    (sCfgOff.Ready (asTarget dSlotBack 1)) ∧ (sCfgOff.slots.length = 8) ∧ (bit (nth (asTarget dSlotBack 1).p 1 0) 0 =
    false) ∧ (bit (nth (asTarget dSlotBack 1).p 1 0) 1 = false) ∧ (sCfgOff.fld (Fr.INTK_SLOT_SOURCE (bits (nth
    (asTarget dSlotBack 1).p 0 0) 8 8)) = 1) ∧ ((sCfgOff.slot (bits (nth (asTarget dSlotBack 1).p 0 0) 8 8)).linkReq =
    true) ∧ (∀ (w : Nat), w ∈ dTable.p → w < 2 ^ 32) ∧ (∀ (b : Nat), b ∈ dTable.data → b < 256) ∧ (sCfg.Ready
    (asTarget dTable 2)) ∧ (sCfg.slices.length = 9) ∧ ((sCfg.slice (bits (nth (asTarget dTable 2).p 0 0) 8
    8)).banks.length = 2) ∧ ((sCfg.slice (bits (nth (asTarget dTable 2).p 0 0) 8 8)).bankLen.length = 2) ∧
    (dTable.reads (4 * nth (asTarget dTable 0).p 3 0)) ∧ (∀ (w : Nat), w ∈ dTableErr.p → w < 2 ^ 32) ∧ (∀ (b : Nat), b
    ∈ dTableErr.data → b < 256) ∧ (sCfg.Ready (asTarget dTableErr 2)) ∧ ((sCfg.slice (bits (nth (asTarget dTableErr
    2).p 0 0) 8 8)).banks.length = 2) ∧ ((sCfg.slice (bits (nth (asTarget dTableErr 2).p 0 0) 8 8)).bankLen.length =
    2) ∧ (dTableErr.hostErr = some 4096) ∧ (4096 < 4 * nth (asTarget dTableErr 0).p 3 0) ∧ (∀ (w : Nat), w ∈ dFir.p →
    w < 2 ^ 32) ∧ (∀ (b : Nat), b ∈ dFir.data → b < 256) ∧ (sCfg.Ready (asTarget dFir 3)) ∧ ((sCfg.slice (bits (nth
    (asTarget dFir 3).p 0 0) 8 8)).masks.length = 4) ∧ (dFir.reads (4 * nth (asTarget dFir 0).p 3 0)) ∧
    (dTableErr.ring < 64) ∧ ((sCfg.fetchFail.all fun f => decide (f.fst ≠ dTableErr.ring)) = true) ∧ (∀ (w : Nat), w ∈
    dTableOne.p → w < 2 ^ 32) ∧ (∀ (b : Nat), b ∈ dTableOne.data → b < 256) ∧ (sCfg.Ready (asTarget dTableOne 4)) ∧
    (sCfg.tuners.length = 36) ∧ ((sCfg.tuner (bits (nth (asTarget dTableOne 4).p 0 0) 8 8) (bits (nth (asTarget
    dTableOne 4).p 0 0) 17 2)).banks.length = 2) ∧ (dTableOne.reads (4 * nth (asTarget dTableOne 0).p 3 0)) ∧
    (sCfg.Ready (asTarget dTable 5)) ∧ (sCfg.xcor.banks.length = 16) ∧ (sCfg.Ready (asTarget dSlotBack 6)) ∧
    (sCfg.globalSq (sCfg.ownerSq dSlotBack.ring) (cfIndex (asTarget dSlotBack 6)) = some 1) ∧ (∀ (w : Nat), w ∈
    dGainA.p → w < 2 ^ 32) ∧ (∀ (b : Nat), b ∈ dGainA.data → b < 256) ∧ (sCfg.Ready (asTarget dGainA 6)) ∧
    (sCfg.globalSq (sCfg.ownerSq dGainA.ring) (cfIndex (asTarget dGainA 6)) = some 2) ∧ (sCfg.Ready (asTarget
    dSlotBack 7)) ∧ (sCfg.globalCq (sCfg.ownerSq dSlotBack.ring) (cfIndex (asTarget dSlotBack 7)) = some 1) ∧ (∀ (w :
    Nat), w ∈ dEvRing.p → w < 2 ^ 32) ∧ (∀ (b : Nat), b ∈ dEvRing.data → b < 256) ∧ (sCfg.Ready (asTarget dEvRing 8))
    ∧ (∀ (w : Nat), w ∈ dPal.p → w < 2 ^ 32) ∧ (∀ (b : Nat), b ∈ dPal.data → b < 256) ∧ (sCfgVid.Ready (asTarget dPal
    9)) ∧ (dPal.reads (4 * nth (asTarget dPal 0).p 3 0)) ∧ (∀ (w : Nat), w ∈ dHk.p → w < 2 ^ 32) ∧ (∀ (b : Nat), b ∈
    dHk.data → b < 256) ∧ (sCfg.Ready (asOp dHk 18)) ∧ (dHk.reads (4 * nth (asOp dHk 18).p 0 0)) ∧ (sCfg.flag
    Fr.HK_BUSY = false) ∧ (sCfgHk.Ready (asOp dHk 18)) ∧ (sCfgHk.flag Fr.HK_BUSY = true) ∧ (sCfgHk.hk.nextJob = 0) := by
  and_intros <;> first | decide +kernel | (unfold State.Ready State.passes; decide +kernel) | (unfold State.passes; decide +kernel) | with_reducible exact pass_window | with_reducible exact pass_windowErr | with_reducible exact pass_mask | with_reducible exact pass_fir | with_reducible exact pass_gain | with_reducible exact pass_palette | (intro e h; cases h)

/-- A COMMIT: its flags, its block and copies, its groups, its words 4 and 5. -/
def cmt (fl t w2 g x4 x5 : Nat) : Desc := { job 2 [t, 0, w2, g, x4, x5] with flags := fl }
def cSlc : Desc := cmt 1 0 0x105 3 0 0
def cXbar : Desc := cmt 1 0 0x105 0x200 1 0
def cXbarStay : Desc := cmt 1 0 0x105 0x200 15 0
def cDdc : Desc := cmt 1 0 0x105 0x10 0 0
def cDdc1 : Desc := cmt 1 0 0x205 0x20 0 0
def cZoom : Desc := cmt 1 0 0x105 0x100 0 0
def cAtten : Desc := cmt 1 0 0x302 1 0 0
def cXcor : Desc := cmt 1 0 6 1 0 0
def cVid : Desc := cmt 1 0 0xC 1 0 0
def cVidLater : Desc := cmt 0 (10 ^ 9) 0xC 1 0 0
def cTrimLater : Desc := cmt 0 (10 ^ 9) 0 0 0 0
def cFrame : Desc := job 0x11 [0, 13, 2048]
def sCmVid : State :=
  { fset sFetch [(Fr.HIST_SIZE_MIB 0, 16), (Fr.VID_PCLK, 594000), (Fr.VID_H_ACTIVE, 640), (Fr.VID_H_SYNC_START, 656),
      (Fr.VID_H_SYNC_END, 700), (Fr.VID_H_TOTAL, 800), (Fr.VID_V_ACTIVE, 480), (Fr.VID_V_SYNC_START, 490),
      (Fr.VID_V_SYNC_END, 492), (Fr.VID_V_TOTAL, 525)] with straps := State.reset.straps ||| 512 }
def sTrimHigh : State := fset sFetch [(Fr.CLK_TRIM_TARGET, 0x3FFFF)]
def sScan : State :=
  { running sCmVid 0x11 [] with vid := { sFetch.vid with frame := some (1, 0, 2048) } }
def sXcCm : State := fset sFetch [(Fr.XCOR_OUT_SIZE_MIB, 16), (Fr.XCOR_OUT_BASE_MIB, 50000)]

/-- The hypotheses of CommitJobs are met, each clause's together. -/
theorem witness_CommitJobs :
    (∀ (w : Nat), w ∈ cSlc.p → w < 2 ^ 32) ∧ (sFetch.waiting = []) ∧ (sFetch.slices.length = 9) ∧
    (sFetch.tuners.length = 36) ∧ (sFetch.zooms.length = 9) ∧ (sFetch.Ready (asOp cSlc 2)) ∧ (0 < 9) ∧ (cmBlock (asOp
    cSlc 2) = 5) ∧ (cmMask (asOp cSlc 2) = 2 ^ 0) ∧ (0 < cmGroups (asOp cSlc 2)) ∧ (cmGroups (asOp cSlc 2) < 16) ∧ (∀
    (w : Nat), w ∈ cXbar.p → w < 2 ^ 32) ∧ (sFetch.Ready (asOp cXbar 2)) ∧ (cmBlock (asOp cXbar 2) = 5) ∧ (cmMask
    (asOp cXbar 2) = 2 ^ 0) ∧ (cmGroups (asOp cXbar 2) = 512) ∧ (∀ (w : Nat), w ∈ cXbarStay.p → w < 2 ^ 32) ∧
    (sFetch.Ready (asOp cXbarStay 2)) ∧ (cmBlock (asOp cXbarStay 2) = 5) ∧ (cmMask (asOp cXbarStay 2) = 2 ^ 0) ∧
    (cmGroups (asOp cXbarStay 2) = 512) ∧ (cmNibble (asOp cXbarStay 2) 0 = sFetch.sliceInput 0) ∧ (∀ (w : Nat), w ∈
    cDdc.p → w < 2 ^ 32) ∧ (sFetch.Ready (asOp cDdc 2)) ∧ (0 < 4) ∧ (cmBlock (asOp cDdc 2) = 5) ∧ (cmMask (asOp cDdc
    2) = 2 ^ 0) ∧ (cmGroups (asOp cDdc 2) = 2 ^ (4 + 0)) ∧ (∀ (w : Nat), w ∈ cZoom.p → w < 2 ^ 32) ∧ (sFetch.Ready
    (asOp cZoom 2)) ∧ (cmBlock (asOp cZoom 2) = 5) ∧ (cmMask (asOp cZoom 2) = 2 ^ 0) ∧ (cmGroups (asOp cZoom 2) = 256)
    ∧ (∀ (w : Nat), w ∈ cAtten.p → w < 2 ^ 32) ∧ (sFetch.Ready (asOp cAtten 2)) ∧ (cmBlock (asOp cAtten 2) = 2) ∧ (∀
    (w : Nat), w ∈ cXcor.p → w < 2 ^ 32) ∧ (sXcCm.waiting = []) ∧ (sXcCm.slices.length = 9) ∧ (sXcCm.tuners.length =
    36) ∧ (sXcCm.zooms.length = 9) ∧ (sXcCm.Ready (asOp cXcor 2)) ∧ (cmBlock (asOp cXcor 2) = 6) ∧ (∃ a, a ∈ xcorRegs
    ∧ 5767168 < a ∧ a < 5767232 ∧ sXcCm.reg a ≠ sXcCm.forceReg a) ∧ (∀ (c : XChange), c ∈ sXcCm.xcor.pend → c.instant
    = true) ∧ (∀ (w : Nat), w ∈ cVidLater.p → w < 2 ^ 32) ∧ (sCmVid.waiting = []) ∧ (sCmVid.slices.length = 9) ∧
    (sCmVid.tuners.length = 36) ∧ (sCmVid.zooms.length = 9) ∧ (sCmVid.Ready (asOp cVidLater 2)) ∧ (cmBlock (asOp
    cVidLater 2) = 12) ∧ (sCmVid.vidWaits = true ∨ sCmVid.samp < if cmImm (asOp cVidLater 2) = true then sCmVid.samp
    else cmT (asOp cVidLater 2)) ∧ (∀ (w : Nat), w ∈ cVid.p → w < 2 ^ 32) ∧ (sCmVid.Ready (asOp cVid 2)) ∧ (cmBlock
    (asOp cVid 2) = 12) ∧ (sCmVid.vidWaits = false) ∧ ((if cmImm (asOp cVid 2) = true then sCmVid.samp else cmT (asOp
    cVid 2)) ≤ sCmVid.samp) ∧ (sFetch.Ready (withField (withField (asOp cXcor 2) 2 0 8 1) 3 0 2 1)) ∧
    (sTrimHigh.waiting = []) ∧ (sTrimHigh.slices.length = 9) ∧ (sTrimHigh.tuners.length = 36) ∧
    (sTrimHigh.zooms.length = 9) ∧ (sTrimHigh.Ready (withField (withField (asOp cXcor 2) 2 0 8 1) 3 0 2 2)) ∧ (cmImm
    (withField (withField (asOp cXcor 2) 2 0 8 1) 3 0 2 2) = true) ∧ (trimClamp (signed 19 (sTrimHigh.fld
    Fr.CLK_TRIM_TARGET)) ≠ signed 19 (sTrimHigh.fld Fr.CLK_TRIM_TARGET)) ∧ (sFetch.Ready (withField (withField (asOp
    cXcor 2) 2 0 8 1) 3 0 2 2)) ∧ (trimClamp (signed 19 (sFetch.fld Fr.CLK_TRIM_TARGET)) = signed 19 (sFetch.fld
    Fr.CLK_TRIM_TARGET)) ∧ (sFetch.Ready (withField (withField (asOp cVidLater 2) 2 0 8 1) 3 0 2 2)) ∧ (cmImm
    (withField (withField (asOp cVidLater 2) 2 0 8 1) 3 0 2 2) = false) ∧ (∀ (w : Nat), w ∈ cFrame.p → w < 2 ^ 32) ∧
    (sCmVid.Ready (asOp cFrame 17)) ∧ (sCmVid.vid.frame = none) ∧ (sScan.waiting = []) ∧ (sScan.slices.length = 9) ∧
    (sScan.tuners.length = 36) ∧ (sScan.zooms.length = 9) ∧ (sScan.Ready (asOp cFrame 17)) ∧ (sScan.vid.frame =
    some (1, 0, 2048)) ∧ (sScan.job (1, 0, 2048).fst = some (jobFor 1 (job 17 []))) ∧ ((jobFor 1 (job 17 [])).done =
    none) ∧ ((jobFor 1 (job 17 [])).ring < 64) := by
  and_intros <;> first | decide +kernel | (unfold State.Ready State.passes; decide +kernel) | (unfold State.passes; decide +kernel)

/-- Descriptors of streams, triggers, extracts, recordings, MOVE and CHECK. -/
def oHost : Desc := job 3 [0x00030000, 1, 0, 0x40000, 0, 4096, 0, 0, 0, 0x000A0100, 5, 0]
def oNet : Desc := job 3 [0x00030000, 0, 0x12340000, 0, 0, 0, 0, 0, 0, 0x000A0100, 5, 0]
def oRec : Desc := job 3 [0x00030000, 2, 0, 7, 0, 0, 0, 0, 0, 0x000A0100, 5, 0]
def oClose : Desc := job 4 [0x00030000]
def oCloseX : Desc := job 4 [0x00020000]
def oArm : Desc := job 5 [0]
def oExtract : Desc := job 6 [1, 9, 0, 0, 0, 0, 0x1000, 0, 2000, 1]
def oRelease : Desc := job 6 [0, 9]
def oRecord : Desc := job 7 [7, 0x1A01, 0, 1, 1, 100]
def oRecordEnc : Desc := job 7 [7, 0x5A01, 0, 1, 1, 100, 0x50000]
def oStop : Desc := job 8 [7]
def oMove : Desc := job 0x10 [0, 64, 0, 0, 4096, 0]
def oCheck : Desc := { job 0x15 [0x4100, 0, 0, 4] with data := [1, 2, 3, 4] }
def oVerify : Desc := job 0x15 [1, 0, 0, 1]
def oVerifyErr : Desc := { oVerify with hostErr := some 0 }
/-- Ring 0 has one descriptor to fetch, over any state. -/
def fetching (s : State) : State := fset s [(Fr.SQ_TAIL 0, 1), (Fr.PMC_PENDING, 0)]
def sOpen : State := fetching (finf sNet [(Fr.HIST_SIZE_MIB 0, 16)])
def recNew : Rec := { rec0 with begun := false }
def sOpenRec : State := { sOpen with recs := [recNew] }
def jobWait (d : Desc) : Job := jobFor 1 d
def sClose : State := { sOpen with streams := [hostStreamIdle], jobs := [jobWait oHost], nextJob := 2 }
def iqX : Stream := { recStreamIdle with p := [0x00020000, 0, 0x12340000, 0, 0, 0, 0, 0, 0, 0x000A0100, 5, 0], sent := 3 }
def sCloseX : State := { sOpen with streams := [iqX], jobs := [jobWait oNet], nextJob := 2 }
def sArm : State := finf sFetch [(Fr.SPX_CTL_EN 0, 1), (Fr.TRG_HOLDOFF 0 0, 999)]
def sArmed : State :=
  { sFetch.setFld (Fr.TRG_ARMED 0 0) 1 with
    slices := modNth State.reset.slices 0 (fun x => { x with trg := modNth x.trg 0 (fun y => { y with job := 1 }) })
    jobs := [jobWait oArm]
    nextJob := 2 }
def sFrz : State :=
  { sFetch with hbm := { sFetch.hbm with freezes := [⟨9, 1, 0, 65536, 0, true, 0, [], 0⟩] } }
def sRecords : State :=
  { fetching (fset ringOn [(Fr.REC_LINK_UP, 1), (Fr.REC_NS_STATE 0, 1), (Fr.REC_NS_CAP_LBAS 0, 1000000), (Fr.CLK_RUNNING, 1)]) with
    sec := { State.reset.sec with keys := [⟨5, 3, 1, 0⟩] } }
def sRecording : State := { fetching (sRec rec0 0) with jobs := [jobWait oRecord] }

/-- Every DMA share of path 4 fits. -/
theorem share_open : ∀ v : Fin 231, (sOpen.reading 0).withinBudget [(4, ceilDiv (v.val * (sOpen.reading 0).capacity 4) 256)]
    none = none := by decide +kernel
/-- CHECK of a buffer passes. -/
theorem pass_check : sOpen.passes (withField (asOp oCheck 21) 0 0 2 0) :=
  passes_share 4 _ _ jobCheckBuffer rfl (by decide +kernel) rfl (by decide +kernel)
    (by decide +kernel) (by decide +kernel) (by decide +kernel) (by decide +kernel) (by decide +kernel) share_open

/-- The hypotheses of StreamTriggerJobs are met, each clause's together. -/
theorem witness_StreamTriggerJobs :
    (∀ (w : Nat), w ∈ oHost.p → w < 2 ^ 32) ∧ (∀ (b : Nat), b ∈ oHost.data → b < 256) ∧ (sOpen.Ready (asOp oHost 3)) ∧
    ((streamDesc (asOp oHost 3) sOpen.nextJob).dest ≠ 2) ∧ (∀ (w : Nat), w ∈ oRec.p → w < 2 ^ 32) ∧ (∀ (b : Nat), b ∈
    oRec.data → b < 256) ∧ (sOpenRec.Ready (asOp oRec 3)) ∧ ((streamDesc (asOp oRec 3) sOpenRec.nextJob).dest = 2) ∧
    (sOpenRec.recOf (nth (asOp oRec 3).p 3 0) = some recNew) ∧ (recNew.begun = false) ∧ (∀ (w : Nat), w ∈ oClose.p → w
    < 2 ^ 32) ∧ (∀ (b : Nat), b ∈ oClose.data → b < 256) ∧ (sClose.Ready (asOp oClose 4)) ∧ (sClose.stream (nth (asOp
    oClose 4).p 0 0) = some hostStreamIdle) ∧ (sClose.job hostStreamIdle.job = some (jobWait oHost)) ∧ ((jobWait
    oHost).done = none) ∧ (hostStreamIdle.kind ≠ 1) ∧ (∀ (n : Nat), n < 9 → ∀ (m : Nat), m < 2 → (sClose.trg n
    m).fired = false) ∧ (hostStreamIdle.dest = 1) ∧ (∀ (w : Nat), w ∈ oCloseX.p → w < 2 ^ 32) ∧ (∀ (b : Nat), b ∈
    oCloseX.data → b < 256) ∧ (sCloseX.Ready (asOp oCloseX 4)) ∧ (sCloseX.stream (nth (asOp oCloseX 4).p 0 0) = some
    iqX) ∧ (sCloseX.job iqX.job = some (jobWait oNet)) ∧ ((jobWait oNet).done = none) ∧ (iqX.kind ≠ 1) ∧ (∀ (n : Nat),
    n < 9 → ∀ (m : Nat), m < 2 → (sCloseX.trg n m).fired = false) ∧ (iqX.dest = 0) ∧ (sCloseX.maySend = true) ∧
    (iqX.queue = []) ∧ (iqX.kind = 2) ∧ (∀ (w : Nat), w ∈ oArm.p → w < 2 ^ 32) ∧ (∀ (b : Nat), b ∈ oArm.data → b <
    256) ∧ (0 < 2) ∧ (sArm.Ready (withField (asOp oArm 5) 0 5 2 0)) ∧ (sArm.slices.length = 9) ∧ ((sArm.slice
    (armSlice (withField (asOp oArm 5) 0 5 2 0))).trg.length = 2) ∧ (sArm.Ready (withField (asOp oArm 5) 0 5 2 1)) ∧
    ((sArm.slice (armSlice (withField (asOp oArm 5) 0 5 2 1))).trg.length = 2) ∧ (sArmed.Ready (withField (asOp oClose
    5) 0 5 2 2)) ∧ (sArmed.slices.length = 9) ∧ ((sArmed.slice (armSlice (withField (asOp oClose 5) 0 5 2
    2))).trg.length = 2) ∧ (sArmed.job (sArmed.trg (armSlice (withField (asOp oClose 5) 0 5 2 2)) (armTrg (withField
    (asOp oClose 5) 0 5 2 2))).job = some (jobWait oArm)) ∧ ((jobWait oArm).done = none) ∧ (∀ (w : Nat), w ∈
    oExtract.p → w < 2 ^ 32) ∧ (∀ (b : Nat), b ∈ oExtract.data → b < 256) ∧ (sFrz.Ready (withField (asOp oExtract 6) 0
    8 2 0)) ∧ (sFrz.chans.length = 32) ∧ (exFreeze (withField (asOp oExtract 6) 0 8 2 0) ≠ 0) ∧ (sFrz.Ready (withField
    (asOp oExtract 6) 0 8 2 1)) ∧ (exFreeze (withField (asOp oExtract 6) 0 8 2 1) ≠ 0) ∧ (sFrz.Ready (withField (asOp
    oExtract 6) 0 8 2 2)) ∧ (∀ (w : Nat), w ∈ oRecord.p → w < 2 ^ 32) ∧ (∀ (b : Nat), b ∈ oRecord.data → b < 256) ∧
    (sRecords.Ready (asOp oRecord 7)) ∧ (∀ (w : Nat), w ∈ oStop.p → w < 2 ^ 32) ∧ (∀ (b : Nat), b ∈ oStop.data → b <
    256) ∧ (sRecording.Ready (asOp oStop 8)) ∧ (sRecording.recOf (nth (asOp oStop 8).p 0 0) = some rec0) ∧
    (rec0.signed = false) ∧ (∀ (w : Nat), w ∈ oMove.p → w < 2 ^ 32) ∧ (∀ (b : Nat), b ∈ oMove.data → b < 256) ∧
    (sOpen.Ready (asOp oMove 16)) ∧ (sOpen.chans.length = 32) ∧ (∀ (w : Nat), w ∈ oCheck.p → w < 2 ^ 32) ∧ (∀ (b :
    Nat), b ∈ oCheck.data → b < 256) ∧ (sOpen.Ready (withField (asOp oCheck 21) 0 0 2 0)) ∧ (oCheck.reads (nth
    (withField (asOp oCheck 21) 0 0 2 0).p 3 0)) ∧ (sRecords.Ready (withField (asOp oCheck 21) 0 0 2 1)) ∧
    (oCheck.hostErr = none) ∧ (∀ (w : Nat), w ∈ oVerifyErr.p → w < 2 ^ 32) ∧ (∀ (b : Nat), b ∈ oVerifyErr.data → b <
    256) ∧ (sRecords.Ready (withField (asOp oVerifyErr 21) 0 0 2 1)) ∧ (oVerifyErr.hostErr = some 0) := by
  and_intros <;> first | decide +kernel | (unfold State.Ready State.passes; decide +kernel) | (unfold State.passes; decide +kernel) | with_reducible exact pass_check | (intro e h; cases h)

/-- An image of one instruction, as its bytes and as parsed. -/
def coreBytes : List Nat :=
  le 4 0x49434B4C ++ [1, 0, 0, 0] ++ le 4 4 ++ zeros 8 ++ le 4 (crc32c (zeros 4)) ++ le 4 (crc32c []) ++ zeros 40
def coreImg : Image := ⟨[0], [], 0, 0, crc32c coreBytes⟩
/-- Descriptors of the jobs about cores and upkeep. -/
def uLoad : Desc := { job 9 [0x20, 0, 0, 68] with data := coreBytes }
def uRun : Desc := job 0xA [0x10, 4]
def uCal : Desc := job 0xB [0x204]
def uSnap : Desc := job 0xC [0, 0, 1]
def uBist8 : Desc := job 0xD [0x10803]
def uBist2 : Desc := job 0xD [0x10002]
def uAck : Desc := job 0x16 [7, 0]
def uRestripe : Desc := job 0x14 [0x230]
def uJournal : Desc := job 0x17 [1, 0, 0x40, 0, 128]
def uJournal0 : Desc := job 0x17 [0, 0, 0x40, 0, 128]
def uShed : Desc := job 0x18 [0x100, 0, 3]
/-- Core 1 of slice 0 is loaded; runs; runs with requests pending. -/
def sCore (n : Nat) (f : Core → Core) : State :=
  { sFetch.setFld (Fr.CORE_STATE 0 1) n with cores := modNth State.reset.cores 1 f }
def sCoreLoaded : State := sCore 1 (fun x => { x with im := [0], image := some coreImg })
def sCoreRun : State := { sCore 2 (fun x => { x with im := [0], job := 1 }) with jobs := [jobWait oArm], nextJob := 2 }
def sCoreDma : State := { sCore 2 (fun x => { x with im := [0], job := 1, dmaOut := 1 }) with jobs := [jobWait oArm], nextJob := 2 }
/-- Faults: of an intake, of a synthesiser. -/
def fltIn : Flt := ⟨7, 1, 2, 0, false, false, false, false, false, 0, 0, 0, 0, 0, 0, 0, 0⟩
def fltSyn : Flt := { fltIn with kind := 3, index := 0 }
def sFltIn : State :=
  { sFetch with
    faults := [fltIn]
    cal := { sFetch.cal with failed := modNth State.reset.cal.failed 2 (fun _ => true) } }
def sFltSyn : State := { sFetch.setFld (Fr.CLK_SYN_ROLE 0) 3 with faults := [fltSyn] }
def jobShown : Job := { jobWait oArm with standing := true }
def jobTwo : Job := { jobFor 2 oArm with d := { oArm with seq := 9 } }
def sShed : State := { sFetch with jobs := [jobShown, jobTwo], nextJob := 3 }

/-- Every DMA share of path 5 fits. -/
theorem share_fetch : ∀ v : Fin 231, (sFetch.reading 0).withinBudget [(5, ceilDiv (v.val * (sFetch.reading 0).capacity 5) 256)]
    none = none := by decide +kernel
/-- JOURNAL_READ passes. -/
theorem pass_journal : sFetch.passes (asOp uSnap 23) :=
  passes_share 5 _ _ jobJournal rfl (by decide +kernel) rfl (by decide +kernel)
    (by decide +kernel) (by decide +kernel) (by decide +kernel) (by decide +kernel) (by decide +kernel) share_fetch

/-- The hypotheses of CoreAndUpkeepJobs are met, each clause's together. -/
theorem witness_CoreAndUpkeepJobs :
    (∀ (w : Nat), w ∈ uLoad.p → w < 2 ^ 32) ∧ (∀ (b : Nat), b ∈ uLoad.data → b < 256) ∧ (sFetch.Ready (asOp uLoad 9))
    ∧ (sFetch.cores.length = 144) ∧ (uLoad.reads (clLen (asOp uLoad 9))) ∧ (parseImage (clImage (asOp uLoad 9) (padTo
    (clLen (asOp uLoad 9)) uLoad.data)) = some coreImg) ∧ (0 < 9) ∧ (0 < 16) ∧ (0 = clSlice (asOp uLoad 9) → bit
    (clMask (asOp uLoad 9)) 0 = false) ∧ (∀ (w : Nat), w ∈ uRun.p → w < 2 ^ 32) ∧ (∀ (b : Nat), b ∈ uRun.data → b <
    256) ∧ (sCoreLoaded.Ready (withField (asOp uRun 10) 0 8 2 0)) ∧ (sCoreLoaded.cores.length = 144) ∧ (sCoreRun.Ready
    (withField (asOp uRun 10) 0 8 2 1)) ∧ (sCoreRun.cores.length = 144) ∧ (sCoreRun.job (sCoreRun.core (crSlice
    (withField (asOp uRun 10) 0 8 2 1)) (crCore (withField (asOp uRun 10) 0 8 2 1))).job = some (jobWait oArm)) ∧
    ((jobWait oArm).done = none) ∧ ((sCoreRun.core (crSlice (withField (asOp uRun 10) 0 8 2 1)) (crCore (withField
    (asOp uRun 10) 0 8 2 1))).dmaOut = 0) ∧ (sCoreDma.Ready (withField (asOp uRun 10) 0 8 2 1)) ∧
    (sCoreDma.cores.length = 144) ∧ (sCoreDma.job (sCoreDma.core (crSlice (withField (asOp uRun 10) 0 8 2 1)) (crCore
    (withField (asOp uRun 10) 0 8 2 1))).job = some (jobWait oArm)) ∧ ((sCoreDma.core (crSlice (withField (asOp uRun
    10) 0 8 2 1)) (crCore (withField (asOp uRun 10) 0 8 2 1))).dmaOut ≠ 0) ∧ (∀ (w : Nat), w ∈ uCal.p → w < 2 ^ 32) ∧
    (∀ (b : Nat), b ∈ uCal.data → b < 256) ∧ (sFetch.Ready (asOp uCal 11)) ∧ (sFetch.cal.run = none) ∧
    (sFetch.cal.due.length = 9) ∧ (∀ (w : Nat), w ∈ uAck.p → w < 2 ^ 32) ∧ (∀ (b : Nat), b ∈ uAck.data → b < 256) ∧
    (sFetch.Ready (asOp uAck 11)) ∧ (sFetch.Ready (asOp uRun 12)) ∧ (∀ (w : Nat), w ∈ uBist8.p → w < 2 ^ 32) ∧ (∀ (b :
    Nat), b ∈ uBist8.data → b < 256) ∧ (sFetch.Ready (asOp uBist8 13)) ∧ (bistKind (asOp uBist8 13) = 3) ∧ (bistIndex
    (asOp uBist8 13) = 8) ∧ (nth sFetch.cal.failed 8 false = false) ∧ (sFetch.Ready (asOp uCal 20)) ∧ (sFltIn.Ready
    (withField (asOp uAck 22) 1 0 1 0)) ∧ ((after (Instr.faultAckAck uAck) sFltIn).faults.length < 2 ^ 16) ∧
    (sFltIn.Ready (withField (asOp uAck 22) 1 0 1 1)) ∧ (sFltIn.ackFlt (withField (asOp uAck 22) 1 0 1 1) = some
    fltIn) ∧ (fltIn.kind ≠ 3) ∧ (regionOf fltIn.kind = some 3) ∧ (sFltSyn.Ready (withField (asOp uAck 22) 1 0 1 1)) ∧
    (sFltSyn.ackFlt (withField (asOp uAck 22) 1 0 1 1) = some fltSyn) ∧ (fltSyn.kind = 3) ∧ (fltSyn.index < 2) ∧
    (sFltSyn.clk.synTry.length = 2) ∧ (sFltSyn.clk.synAck.length = 2) ∧ (sFltSyn.clk.synFlt.length = 2) ∧ (∀ (w :
    Nat), w ∈ uSnap.p → w < 2 ^ 32) ∧ (∀ (b : Nat), b ∈ uSnap.data → b < 256) ∧ (sFetch.Ready (asOp uSnap 23)) ∧
    (uSnap.hostErr = none) ∧ (∀ (w : Nat), w ∈ uShed.p → w < 2 ^ 32) ∧ (∀ (b : Nat), b ∈ uShed.data → b < 256) ∧
    (sShed.Ready (asOp uShed 24)) ∧ (sShed.globalSq (sShed.ownerSq uShed.ring) (shSq (asOp uShed 24)) = some 0) ∧
    (List.Pairwise (fun a b => a.id ≠ b.id) sShed.jobs) ∧ (List.Pairwise (fun a b => a.fst ≠ b.fst) (shPairs (asOp
    uShed 24))) := by
  and_intros <;> first | decide +kernel | (unfold State.Ready State.passes; decide +kernel) | (unfold State.passes; decide +kernel) | with_reducible exact pass_journal | (intro e h; cases h)

/-- Descriptors of ATTEST and KEY_OP: TYPE 2 in handle 7, key 5 to unwrap with, value 2. -/
def kQuote : Desc := job 0xE [0, 0x1000, 0, 640, 1, 2, 3, 4, 5, 6, 7, 8]
def kCerts : Desc := job 0xE [1, 0x1000, 0, 32768]
def kOp : Desc := job 0xF [0x70200, 0x1000, 0, 1024, 2]
def kOpErr : Desc := { kOp with hostErr := some 0 }
def kImport : Desc := job 0xF [0x70000, 0x1000, 0, 384, 5]
def kImportErr : Desc := { kImport with hostErr := some 0 }
def kExport : Desc := job 0xF [0x60000, 0x1000, 0, 1024]
def kExport0 : Desc := job 0xF [0, 0x1000, 0, 1024]
def kSvn : Desc := job 0xF [0x10000, 0, 0, 0, 3]
def kSvnFw : Desc := job 0xF [0, 0, 0, 0, 0]
def kZero : Desc := job 0xF [0x10000, 0, 0, 0, 1]
def kZero0 : Desc := job 0xF [0x10000, 0, 0, 0, 0]
/-- Keys 5, an unwrapping key, and 6, a signing key; the module is in its normal state, in its other states. -/
def key6 : Key := ⟨6, 1, 2, 0⟩
def sKeys : State :=
  { fset sFetch [(Fr.SEC_IDENTITY, 1), (Fr.SEC_STATE, 0), (Fr.SEC_KEYS, 3)] with
    sec := { State.reset.sec with keys := [⟨5, 2, 1, 0⟩, ⟨6, 1, 2, 0⟩], nextMat := 3 } }
def recSigned : Rec := { rec0 with p := [7, 0x9401, 0, 100, 0, 1000, 6, 0, 0, 0, 0, 0] }
def sKeysRec : State := { sKeys with recs := [recSigned], jobs := [jobWait oRecord], nextJob := 2 }
def sDegraded : State := { sKeys.setFld Fr.SEC_STATE 1 with sec := { sKeys.sec with entropyBad := true } }
def sZeroising (sc : Nat) : State :=
  { sKeys with
    sec := { sKeys.sec with keys := [], zeroise := some (sc, 1) }
    jobs := [jobFor 1 (job 0xF [6]), jobFor 2 oArm]
    nextJob := 3 }

/-- The hypotheses of KeyJobs are met, each clause's together. -/
theorem witness_KeyJobs :
    (∀ (w : Nat), w ∈ kQuote.p → w < 2 ^ 32) ∧ (∀ (b : Nat), b ∈ kQuote.data → b < 256) ∧ (sKeys.Ready (withField
    (asOp kQuote 14) 0 0 2 0)) ∧ (kQuote.hostErr = none) ∧ (∀ (w : Nat), w ∈ kOp.p → w < 2 ^ 32) ∧ (∀ (b : Nat), b ∈
    kOp.data → b < 256) ∧ (sKeys.Ready (asKeyOp kOp 0)) ∧ (∀ (w : Nat), w ∈ kImportErr.p → w < 2 ^ 32) ∧ (∀ (b : Nat),
    b ∈ kImportErr.data → b < 256) ∧ (sKeys.Ready (asKeyOp kImportErr 1)) ∧ (kImportErr.hostErr = some 0) ∧ (0 < 384)
    ∧ (∀ (w : Nat), w ∈ kExport.p → w < 2 ^ 32) ∧ (∀ (b : Nat), b ∈ kExport.data → b < 256) ∧ (sKeys.Ready (asKeyOp
    kExport 2)) ∧ (kExport.hostErr = none) ∧ (exportKey sKeys (asKeyOp kExport 2) = some key6) ∧ (sKeys.Ready (asKeyOp
    kOp 3)) ∧ (sKeys.Ready (asKeyOp kOp 4)) ∧ (kOp.reads 32) ∧ (∀ (w : Nat), w ∈ kOpErr.p → w < 2 ^ 32) ∧ (∀ (b :
    Nat), b ∈ kOpErr.data → b < 256) ∧ (sKeys.Ready (asKeyOp kOpErr 4)) ∧ (kOpErr.hostErr = some 0) ∧ (0 < 32) ∧ (∀ (w
    : Nat), w ∈ kCerts.p → w < 2 ^ 32) ∧ (∀ (b : Nat), b ∈ kCerts.data → b < 256) ∧ (sKeys.Ready (asKeyOp kCerts 5)) ∧
    (sKeys.Ready (asKeyOp kExport 6)) ∧ (sKeys.recs = []) ∧ (sKeysRec.Ready (asKeyOp kExport 6)) ∧ (sKeysRec.recs =
    [recSigned]) ∧ (recSigned.ended = none) ∧ (recSigned.begun = true) ∧ (recSigned.signed = true) ∧ ((sKeysRec.key
    recSigned.keySign).isSome = true) ∧ (sKeysRec.streams = []) ∧ (sKeys.Ready (asKeyOp kOp 7)) ∧ (sKeys.Ready
    (asKeyOp kOp 8)) ∧ ((sZeroising 1).sec.zeroise = some (1, 1)) ∧ (∀ (x : Job), x ∈ (sZeroising 1).jobs → x.ring <
    64) ∧ (List.Pairwise (fun a b => a.id ≠ b.id) (sZeroising 1).jobs) ∧ (1 = 1) ∧ ((sZeroising 0).sec.zeroise = some
    (0, 1)) ∧ (∀ (x : Job), x ∈ (sZeroising 0).jobs → x.ring < 64) ∧ (List.Pairwise (fun a b => a.id ≠ b.id)
    (sZeroising 0).jobs) ∧ (0 ≠ 1) ∧ (nth (after Instr.zeroised (sZeroising 0)).jobs 0 (jobFor 9 oArm) ∈ (after
    Instr.zeroised (sZeroising 0)).jobs) ∧ ((nth (after Instr.zeroised (sZeroising 0)).jobs 0 (jobFor 9
    oArm)).d.opcode = 15) ∧ (koOp (nth (after Instr.zeroised (sZeroising 0)).jobs 0 (jobFor 9 oArm)).d = 6) ∧
    (sDegraded.sec.entropyBad = true ∨ sDegraded.sec.zeroise.isSome = true) ∧ (sKeys.sec.entropyBad = false) ∧
    (sKeys.sec.zeroise = none) ∧ (sKeys.sec.entropyBad = false ∨ true = false) ∧ (sDegraded.sec.entropyBad = true) ∧
    (sDegraded.sec.zeroise = none) := by
  and_intros <;> first | decide +kernel | (unfold State.Ready State.passes; decide +kernel) | (unfold State.passes; decide +kernel) | (intro e h; cases h)

/-- ATTEST of the certificates, which the part fixes, is ready. -/
theorem witness_KeyJobs_certificates : sKeys.Ready (withField (asOp kCerts 0x0E) 0 0 2 1) ∧ kCerts.hostErr = none := by
  have hl : certificateBytes.length ≤ 32768 := by
    rw [certificateBytes, List.length_map, List.length_take]
    exact Nat.min_le_left _ _
  have he : withField (asOp kCerts 0x0E) 0 0 2 1 = kCerts := by decide +kernel
  have ha : atLen kCerts = certificateBytes.length := by rw [atLen, if_neg (by decide +kernel)]
  have h3 : nth kCerts.p 3 0 = 32768 := by decide +kernel
  have h0 : check (2 ≤ nth kCerts.p 0 0) (refuseFormat 0) = none := by decide +kernel
  have h1 : check (pAddr kCerts 1 % 64 ≠ 0) (refuseFormat 1) = none := by decide +kernel
  have hf : attestFmt (sKeys.reading kCerts.ring) kCerts = none := by
    have : ¬ 32768 < certificateBytes.length := by omega
    rw [attestFmt, h0, h1, ha, h3]
    simp [firstRefusal, check, this]
  rw [he]
  refine ⟨⟨by decide +kernel, by decide +kernel, ?_, by decide +kernel, by decide +kernel⟩, rfl⟩
  exact passes_of_checks _ _ jobAttest (by decide +kernel) rfl (by decide +kernel) (by decide +kernel) hf
    (by decide +kernel) rfl rfl (by decide +kernel)

/-- An IMPORT whose block unwraps, which is a free value of the part, is ready. -/
theorem witness_KeyJobs_import (m : Nat) (h : Config.oaep 1 (padTo 384 kImport.data) = some m) :
    sKeys.Ready (asKeyOp kImport 1) ∧ kImport.reads 384 ∧ importKeyOf sKeys (asKeyOp kImport 1) = some m := by
  have hk : (sKeys.reading 0).key (koVal (asKeyOp kImport 1)) = some ⟨5, 2, 1, 0⟩ := by decide +kernel
  have hk' : sKeys.key (koVal (asKeyOp kImport 1)) = some ⟨5, 2, 1, 0⟩ := by decide +kernel
  have hi : importKeyOf (sKeys.reading 0) (asKeyOp kImport 1) = some m := by
    rw [importKeyOf, hk]; exact h
  refine ⟨⟨by decide +kernel, by decide +kernel, ?_, by decide +kernel, by decide +kernel⟩, (fun e he => by cases he), ?_⟩
  · refine passes_of_checks _ _ koImport (by decide +kernel) rfl (by decide +kernel) ?_ (by decide +kernel)
      (by decide +kernel) rfl rfl (by decide +kernel)
    show importSec (sKeys.reading 0) (asKeyOp kImport 1) = none
    have hb : badHandle (asKeyOp kImport 1) = false := by decide +kernel
    simp [importSec, hi, hk, hb, check]
  · rw [importKeyOf, hk']; exact h

/-- QUIESCE with slice 0 and 1 ms. -/
def qDesc : Desc := job 0x13 [0x100, 1]
def qDesc1 : Desc := job 0x13 [0x100, 0]
/-- A stream stands; a DRAIN waits beside a job, and is over time. -/
def jobStream : Job := { jobWait oHost with standing := true }
def sStands : State := { sClose with jobs := [jobStream] }
def jobPosted : Job := { jobWait oArm with posted := true, done := some 0 }
def sAllPosted : State := { sFetch with jobs := [jobPosted], nextJob := 2 }
def jobDrain : Job := jobFor 2 qDesc
def quDrain : Quiesce := ⟨2, 0, 0, 100⟩
def sDraining : State :=
  { sBusy with
    jobs := [jobFor 1 (job 0x0C [0, 0, 1]), jobDrain]
    nextJob := 3
    quiesces := [quDrain]
    samp := 50 }
def sDrained : State := { sDraining with samp := 100 }

/-- The hypotheses of QuiesceAndProgress are met, each clause's together. -/
theorem witness_QuiesceAndProgress :
    (∀ (w : Nat), w ∈ qDesc.p → w < 2 ^ 32) ∧ (sFetch.Ready (withField (asOp qDesc 19) 0 0 2 0)) ∧ (sFetch.quiesces =
    []) ∧ (sFetch.othersOpen (sFetch.ownerSq qDesc.ring) sFetch.nextJob = 0) ∧ (sBusy.Ready (withField (asOp qDesc 19)
    0 0 2 0)) ∧ (sBusy.quiesces = []) ∧ (sBusy.othersOpen (sBusy.ownerSq qDesc.ring) sBusy.nextJob ≠ 0) ∧
    (sFetch.Ready (withField (asOp qDesc 19) 0 0 2 1)) ∧ ((sFetch.openJobs fun j => decide (j.func = sFetch.ownerSq
    qDesc.ring) && j.standing) = []) ∧ (sStands.Ready (withField (asOp qDesc 19) 0 0 2 1)) ∧ (sStands.quiesces = []) ∧
    ((sStands.openJobs fun j => decide (j.func = sStands.ownerSq qDesc.ring) && j.standing) = [jobStream]) ∧
    (sStands.job jobStream.id = some jobStream) ∧ (jobStream.ring < 64) ∧ (jobStream.d.opcode = 3) ∧ (List.find? (fun
    x => decide (x.job = jobStream.id)) sStands.streams = some hostStreamIdle) ∧ (sStands.stream hostStreamIdle.id =
    some hostStreamIdle) ∧ (sBusy.Ready (withField (asOp qDesc 19) 0 0 2 2)) ∧ (0 < sBusy.nextJob) ∧ (∃ j, j ∈
    sBusy.jobs ∧ j.posted = false) ∧ (sFetch.Ready (withField (asOp qDesc 19) 0 0 2 2)) ∧ (0 < sFetch.nextJob) ∧ (∀ (j
    : Job), j ∈ sFetch.jobs → j.posted = true) ∧ (sFetch.Ready (withField (asOp qDesc 19) 0 0 2 3)) ∧ (sFetch.jobs =
    []) ∧ (sFetch.slices.length = 9) ∧ (sFetch.tuners.length = 36) ∧ (sFetch.cores.length = 144) ∧ (∀ (x : Slice), x ∈
    sFetch.slices → x.pend = []) ∧ (∀ (x : Zoom), x ∈ sFetch.zooms → x.pend = []) ∧ (∀ (x : Tuner), x ∈ sFetch.tuners
    → x.pend = [] ∧ x.queued = none) ∧ (sBusy.job 1 = some (jobFor 1 (job 12 [0, 0, 1]))) ∧ ((jobFor 1 (job 12 [0, 0,
    1])).running = true) ∧ (∀ (x : Job), sFetch.job 0 = some x → x.running = false) ∧ (List.find? (fun q => decide
    (q.job = 2) && decide (q.mode = 0)) sDrained.quiesces = some quDrain) ∧ (sDrained.job 2 = some jobDrain) ∧
    (jobDrain.done = none) ∧ (jobDrain.ring < 64) ∧ (quDrain.stop ≤ sDrained.samp) ∧ (∀ (q : Quiesce), List.find? (fun
    q => decide (q.job = 0) && decide (q.mode = 0)) sFetch.quiesces = some q → sFetch.samp < q.stop) := by
  and_intros <;> first | decide +kernel | (unfold State.Ready State.passes; decide +kernel) | (unfold State.passes; decide +kernel)

/-- The signatures expected of regions 1 and 7 are 5, 6 and 7, 8; a self-test runs for job 1. -/
def sExp : State :=
  [(0x110, 5#32), (0x114, 0#32), (0x118, 6#32), (0x11C, 0#32), (0x170, 7#32), (0x174, 0#32), (0x178, 8#32), (0x17C, 0#32)].foldl
    (fun s p => s.setReg p.1 p.2) sBusy
def bist1 : BistRun := ⟨1, 1, 3, 1, false, 0⟩
def bistBack : BistRun := ⟨1, 7, 1, 3, true, 7⟩
def bistAck1 : BistRun := ⟨1, 1, 3, 3, true, 7⟩
def bistRot : BistRun := ⟨0, 1, 3, 3, false, 0⟩
def sBist (b : BistRun) : State := { sExp with bists := [b], ctlFailed := [1], faults := [fltIn], cal := State.reset.cal }
def rotTest : RotSt := ⟨2, 1, 3, 8, 0, false⟩
def rotAttach : RotSt := ⟨2, 0, 3, 8, 0, false⟩
def sRotTest : State := { sExp with bists := [bistRot], rot := some rotTest }
def sRotAttach : State := { sExp with rot := some rotAttach }
def sRotLate : State := { sRotAttach with samp := 10 ^ 15 }
def sRot (m : Nat) : State := { sFetch.setFld Fr.BIST_PERIOD 1 with rotNext := m }
/-- Slice 8 has failed; slice 2 has; a control pair has; both have. -/
def sEightFailed : State := { sRot 8 with sliceFailed := [8] }
def sTwoFailed : State := { sRot 2 with sliceFailed := [2], slices := modNth State.reset.slices 2 (fun x => { x with failed := true }) }
def sCtl1 : State := { sFetch with ctlFailed := [1] }
def sCtl0 : State := { sFetch with ctlFailed := [0] }

/-- The hypotheses of SliceFaultsAndTests are met, each clause's together. -/
theorem witness_SliceFaultsAndTests :
    (9 ≤ 9 ∨ sFetch.powered 9 = false ∨ sFetch.sliceFailed.contains 9 = true) ∧ (sFetch.bists = [] ∧ sFetch.rot = none
    ∧ sFetch.slices.length = 9 ∧ sFetch.fld Fr.FLTJNL_LAST_ID + 1 < 2 ^ 32) ∧ (8 < 9) ∧ (sFetch.powered 8 = true) ∧
    (sFetch.sliceFailed.contains 8 = false) ∧ (sFetch.servedBy 8 = none) ∧ (2 < 9) ∧ (sFetch.powered 2 = true) ∧
    (sFetch.sliceFailed.contains 2 = false) ∧ (sFetch.servedBy 2 = some 2) ∧ (2 < 8) ∧ (((sFetch.slices.any fun x =>
    decide (x.phys = 8) && !x.failed) && (sFetch.slice 8).failed) = false) ∧ (sEightFailed.bists = [] ∧
    sEightFailed.rot = none ∧ sEightFailed.slices.length = 9 ∧ sEightFailed.fld Fr.FLTJNL_LAST_ID + 1 < 2 ^ 32) ∧
    (sEightFailed.powered 2 = true) ∧ (sEightFailed.sliceFailed.contains 2 = false) ∧ (sEightFailed.servedBy 2 = some
    2) ∧ (sEightFailed.sliceFailed.contains 8 = true ∨ ((sEightFailed.slices.any fun x => decide (x.phys = 8) &&
    !x.failed) && (sEightFailed.slice 8).failed) = true) ∧ (List.find? (fun b => decide (b.kind = 2) && decide
    (b.index = 2)) sFetch.bists = none) ∧ (1 < 256) ∧ (3 < 256) ∧ (List.find? (fun b => decide (b.kind = 1) && decide
    (b.index = 3)) (sBist bist1).bists = some bist1) ∧ ((sBist bist1).rot = none) ∧ ((sBist bist1).job bist1.job =
    some (jobFor 1 (job 12 [0, 0, 1]))) ∧ ((jobFor 1 (job 12 [0, 0, 1])).done = none) ∧ ((jobFor 1 (job 12 [0, 0,
    1])).flt = 0) ∧ ((jobFor 1 (job 12 [0, 0, 1])).ring < 64) ∧ ((sBist bist1).fld Fr.FLTJNL_LAST_ID + 1 < 2 ^ 32) ∧
    (bist1.ack = false) ∧ (bist1.type = 1) ∧ (5 % 2 ^ 64 = (sBist bist1).bistExp 1 1) ∧ (2 % 2 ^ 64 ≠ (sBist
    bist1).bistExp 1 1) ∧ (1 = 1) ∧ (3 < 9) ∧ ((sBist bist1).sliceFailed.contains 3 = false) ∧ (7 < 256) ∧ (List.find?
    (fun b => decide (b.kind = 7) && decide (b.index = 1)) (sBist bistBack).bists = some bistBack) ∧ ((sBist
    bistBack).rot = none) ∧ ((sBist bistBack).job bistBack.job = some (jobFor 1 (job 12 [0, 0, 1]))) ∧ ((sBist
    bistBack).fld Fr.FLTJNL_LAST_ID + 1 < 2 ^ 32) ∧ (bistBack.ack = true) ∧ (bistBack.type = 3) ∧ (7 = 7) ∧ (7 % 2 ^
    64 = (sBist bistBack).bistExp 7 1) ∧ (8 % 2 ^ 64 = (sBist bistBack).bistExp 7 2) ∧ (2 % 2 ^ 64 ≠ (sBist
    bistBack).bistExp 7 1) ∧ (2 % 2 ^ 64 ≠ (sBist bistBack).bistExp 7 2) ∧ (sRotTest.rot = some rotTest) ∧
    (rotTest.phase = 1) ∧ (rotTest.m < 8) ∧ (rotTest.from_ < 9) ∧ (sRotTest.sliceBack = []) ∧ (bistRot.type = 3) ∧
    (bistRot.job = 0) ∧ (bistRot.ack = false) ∧ (List.find? (fun b => decide (b.kind = 1) && decide (b.index =
    rotTest.from_)) sRotTest.bists = some bistRot) ∧ (sRotTest.fld Fr.FLTJNL_LAST_ID + 1 < 2 ^ 32) ∧ (5 % 2 ^ 64 =
    sRotTest.bistExp 1 1) ∧ (6 % 2 ^ 64 = sRotTest.bistExp 1 2) ∧ (2 % 2 ^ 64 ≠ sRotTest.bistExp 1 1) ∧ (sFetch.fld
    Fr.BIST_PERIOD = 0 ∨ sFetch.rot.isSome = true) ∧ ((sRot 2).fld Fr.BIST_PERIOD ≠ 0) ∧ ((sRot 2).rot = none) ∧
    ((sRot 2).rotNext < 8) ∧ (¬((sRot 2).powered (sRot 2).rotNext = false ∨ (sRot 2).spareSliceIdle = false ∨ 2 ≤
    (sRot 2).fedBy ((sRot 2).sliceInput (sRot 2).rotNext) ∨ ((List.range 16).any fun c => decide (((sRot 2).core (sRot
    2).rotNext c).job ≠ 0)) = true ∧ (sRot 2).flag Fr.BIST_CORES = false ∨ ((sRot 2).slice (sRot 2).rotNext).failed =
    true)) ∧ (sEightFailed.fld Fr.BIST_PERIOD ≠ 0) ∧ (sEightFailed.rot = none) ∧ (sEightFailed.rotNext < 8 ∧
    (sEightFailed.powered sEightFailed.rotNext = false ∨ sEightFailed.spareSliceIdle = false ∨ 2 ≤ sEightFailed.fedBy
    (sEightFailed.sliceInput sEightFailed.rotNext) ∨ ((List.range 16).any fun c => decide ((sEightFailed.core
    sEightFailed.rotNext c).job ≠ 0)) = true ∧ sEightFailed.flag Fr.BIST_CORES = false ∨ (sEightFailed.slice
    sEightFailed.rotNext).failed = true) ∨ sEightFailed.rotNext = 8 ∧ sEightFailed.spareSliceIdle = false) ∧ ((sRot
    8).fld Fr.BIST_PERIOD ≠ 0) ∧ ((sRot 8).rot = none) ∧ ((sRot 8).rotNext = 8) ∧ ((sRot 8).spareSliceIdle = true) ∧
    (sRotLate.rot = some rotAttach) ∧ (rotAttach.phase = 0) ∧ (sRotLate.sliceBack = []) ∧ (rotAttach.a +
    sRotLate.samplesOfNs (60 * 10 ^ 9) ≤ sRotLate.samp) ∧ (∀ (r : RotSt), sFetch.rot = some r → r.phase ≠ 0 ∨
    sFetch.samp < r.a + sFetch.samplesOfNs (60 * 10 ^ 9)) ∧ (sCtl0.ctlPair < 2) ∧ (sCtl0.fld Fr.FLTJNL_LAST_ID + 1 < 2
    ^ 32) ∧ (sCtl0.ctlPair ∈ sCtl0.ctlFailed) ∧ (sFetch.ctlPair < 2) ∧ (sFetch.fld Fr.FLTJNL_LAST_ID + 1 < 2 ^ 32) ∧
    (sFetch.ctlFailed = []) ∧ ((sBist bist1).ctlPair < 2) ∧ ((sBist bist1).ctlFailed = [1 - (sBist bist1).ctlPair]) := by
  and_intros <;> decide +kernel

/-- A firmware image of four payload bytes, rollback number 3, signed under the modulus 2^3072 − 1103717, a prime. -/
def kvPay : List Nat := [1, 2, 3, 4]
def kvHead : List Nat := le 4 0x5256554B ++ [1, 0, 1, 0, 3, 0, 0, 0] ++ le 4 832 ++ le 4 4 ++ zeros 12 ++ sha256 kvPay
def kvKeyBytes : List Nat := be 384 (2 ^ 3072 - 1103717)
def kvSigParts : List Nat :=
  [0xef8fa4ade48706e6c067e38420be1a0cb41ea9fe600737767e4faf2120e25805c59b33bd4ddf3fd1e62e98bca4b5977f,
    0x1e097cfd6351434e711dea7f61a6d36fee9504932c98468fd7043d5ba4e723b2ef3316dade052763a39a86b35a6365fe,
    0xaa6d4e47fbc2d337bed1ac03c52f285db319e76d6d49fd552e3c9267ee6902a65e77037841344fcc07768fb6a1961e1a,
    0x1e9ea976edc45c2eea5cce0e77ab58818dd41558f62b7843d2b98d5167a7ca4469bf41818f3fe1f1450931ca103bf642,
    0x4842b0e7ce41dbc5c791306a457e393c0977c0e0ec421d782cefa1f746a26925bd669506eaec3bcde6a72a21c057ae76,
    0xf31797762570e635a6f773d657f1032466daaf8d9ddbd320d9ad8711f2389c4197536e7765247222699eaa0d12001b88,
    0xc6534cee46fbafba514e120d18d4c24ad898a004b5cfbb0506200a9d2c69626c4d4915397b4b0e88475d6ee57c58b5cf,
    0xc4b3c7249ef051cbc33c8a3e8fb1b8a08963ae8c388c74e710a1f2be35d52781ae01068a95c8ab1c816aed881fc82c2f]
def kvImage : List Nat := kvHead ++ kvKeyBytes ++ kvSigParts.flatMap (be 48) ++ kvPay
/-- Boots: from a good image, into recovery, under a power-fail warning. -/
def bootGood : Boot := ⟨0x20, kvImage, [], 0, false, []⟩
def bootRecov : Boot := ⟨4, [], [], 0, true, []⟩
/-- The part knows the vendor's key; jobs run, have completed; records stand. -/
def sVendor : State := { sBusy with sec := { State.reset.sec with vendor := [sha256 kvKeyBytes] } }
def jobEnded : Job := { jobFor 2 oArm with done := some 0, extent := 4 }
def sRuns : State :=
  { sVendor with
    jobs := [jobFor 1 (job 0x0C [0, 0, 1]), jobEnded]
    nextJob := 3
    journal := [⟨0, 1, 0, 0, 0x0C, 0, 0, 7, 0, 0, 0, 1, 0, 0, 0⟩]
    everUsed := true }
/-- No job: parked with records; never used; in use and unwarned. -/
def sParked : State := { sRuns with jobs := [], parked := true }
def sNever : State := { sVendor with jobs := [], everUsed := false, journal := [], jlast := (0, 0, 0) }
def sUsed : State := { sParked with parked := false }
/-- Under a power-fail warning; before BOOT_DONE; rails out of range. -/
def sPfail : State := sRuns.setFld Fr.FLTJNL_PFAIL_NOW 1
def sUnbooted : State := sRuns.setFld Fr.HIF_BOOT_DONE 0
def sRails : State := { sRuns with rails := [0, 1, 2, 3] }
/-- The straps in force select recovery. -/
def sStrap4 : State := { sRuns with straps := 4 }

/-- The hypotheses of ResetsAndPower are met, each clause's together. -/
theorem witness_ResetsAndPower :
    (0 < 1000) ∧ (1000 ≤ 5000) ∧ (5000 < 10000) ∧ (10000 ≤ 10000) ∧ (sRuns.parked = false) ∧ (bits (bootRecov.straps %
    4096) 0 3 = 4) ∧ (sStrap4.parked = false) ∧ (bits sStrap4.straps 0 3 = 4) ∧ (sParked.jobs = []) ∧ ((sParked.parked
    || !sParked.everUsed) = true) ∧ ((sParked.journal.any fun r => decide (r.kind ≠ 5)) = true) ∧ (sNever.jobs = []) ∧
    (sNever.everUsed = false) ∧ (sNever.journal = []) ∧ (sNever.flag Fr.FLTJNL_RESUME_PENDING = false) ∧ (sNever.jlast
    = (0, 0, 0)) ∧ (sNever.intr = 0) ∧ (sNever.unknown = 0) ∧ (0 = 0 ∨ 16 ≤ 0) ∧ (0 < 1) ∧ (1 < 16) ∧ (sPfail.flag
    Fr.FLTJNL_PFAIL_NOW = true) ∧ (sUnbooted.flag Fr.FLTJNL_PFAIL_NOW = false) ∧ (sUnbooted.flag Fr.HIF_BOOT_DONE =
    false) ∧ (sRuns.flag Fr.FLTJNL_PFAIL_NOW = false) ∧ (sRuns.flag Fr.HIF_BOOT_DONE = true) ∧ (4 ≤ 5 ∨ 5 ∈
    sRuns.rails) ∧ (0 < 4) ∧ (¬0 ∈ sRuns.rails) ∧ (0 = 0) ∧ (1 < 4) ∧ (¬1 ∈ sRuns.rails) ∧ (1 = 1) ∧ (2 < 4) ∧ (¬2 ∈
    sRuns.rails) ∧ (2 = 2) ∧ (3 < 4) ∧ (¬3 ∈ sRuns.rails) ∧ (3 = 3) ∧ (4 ≤ 0 ∨ ¬0 ∈ sRuns.rails) ∧ (0 ∈ sRails.rails)
    ∧ (1 ∈ sRails.rails) ∧ (sRails.cal.due.length = 9) ∧ (0 < 9) ∧ (sRails.powered 0 = true) ∧ (nth sRails.cal.failed
    0 false = false) ∧ (1 < 2) ∧ (2 ∈ sRails.rails) := by
  and_intros <;> decide +kernel

/-- The link is down, was lost with one entry to write again; a RESUME is due, on a full event ring, abandoned. -/
def sUp : State := { sRuns with out := [Out.event 0 ev1 [1], Out.event 1 ev2 [2]] }
def sDown : State := sUp.setFld Fr.HIF_LINK_UP 0
def sLost : State := { sDown with linkLost := true, recent := 1 }
def sResume : State := { fset sUp [(Fr.FLTJNL_RESUME_PENDING, 1)] with resumeHold := 3, jobs := [jobEnded] }
def sResumeFull : State := sResume.setFld Fr.HIF_EV_TAIL 16
def sAbandon : State := { fset sUp [(Fr.FLTJNL_RESUME_PENDING, 1), (Fr.HIF_FETCH_EN, 0)] with resumeHold := 3 }
def sAbandonVf : State := { sAbandon with resumeHold := 6 }
/-- The ROM waits for an image of 836 bytes; a self-test fails. -/
def sRecov : State := fset sVendor [(Fr.ID_RECOV_WAIT, 1), (Fr.ID_RECOV_LEN, 836)]
def sRecovTest : State := { sRecov with bootTests := 1 }

/-- The hypotheses of HostLinkAndResume are met, each clause's together. -/
theorem witness_HostLinkAndResume :
    (sUp.flag Fr.HIF_LINK_UP = true) ∧ (sUp.flag Fr.HIF_LINK_UP = true ∨ sUp.inReset = true) ∧ (sDown.flag
    Fr.HIF_LINK_UP = false) ∧ (sDown.inReset = false) ∧ (0 < 16) ∧ (sDown.linkLost = false) ∧ (sLost.flag
    Fr.HIF_LINK_UP = false) ∧ (sLost.inReset = false) ∧ (sLost.linkLost = true) ∧ ((sUp.flag Fr.FLTJNL_RESUME_PENDING
    && sUp.flag Fr.HIF_FETCH_EN && sUp.flag Fr.HIF_LINK_UP && sUp.flag Fr.HIF_BOOT_DONE && (!sUp.abandoned || sUp.flag
    Fr.HIF_EV_EN)) = false) ∧ ((sResume.flag Fr.FLTJNL_RESUME_PENDING && sResume.flag Fr.HIF_FETCH_EN && sResume.flag
    Fr.HIF_LINK_UP && sResume.flag Fr.HIF_BOOT_DONE && (!sResume.abandoned || sResume.flag Fr.HIF_EV_EN)) = true) ∧
    (sResume.evRoom = true) ∧ ((sResumeFull.flag Fr.FLTJNL_RESUME_PENDING && sResumeFull.flag Fr.HIF_FETCH_EN &&
    sResumeFull.flag Fr.HIF_LINK_UP && sResumeFull.flag Fr.HIF_BOOT_DONE && (!sResumeFull.abandoned ||
    sResumeFull.flag Fr.HIF_EV_EN)) = true) ∧ (sResumeFull.evRoom = false) ∧ (List.Pairwise (fun a b => a.id ≠ b.id)
    sResume.jobs) ∧ (∀ (j : Job), j ∈ sResume.jobs → j.done.isSome = true ∧ j.ring < 64) ∧ ((bit 0 0 && sUp.flag
    Fr.FLTJNL_RESUME_PENDING && !sUp.flag Fr.HIF_FETCH_EN) = false) ∧ ((bit 1 0 && sAbandonVf.flag
    Fr.FLTJNL_RESUME_PENDING && !sAbandonVf.flag Fr.HIF_FETCH_EN) = true) ∧ (sAbandonVf.resumeHold = 6) ∧ ((bit 1 0 &&
    sAbandon.flag Fr.FLTJNL_RESUME_PENDING && !sAbandon.flag Fr.HIF_FETCH_EN) = true) ∧ (sAbandon.resumeHold ≠ 6) ∧
    (bit 0 0 = false ∨ sUp.flag Fr.ID_RECOV_WAIT = false) ∧ (bit 1 0 = true) ∧ (sRecov.flag Fr.ID_RECOV_WAIT = true) ∧
    (sRecov.kuver 1 (List.take (sRecov.fld Fr.ID_RECOV_LEN) []) ≠ 0) ∧ (sRecov.kuver 1 (List.take (sRecov.fld
    Fr.ID_RECOV_LEN) kvImage) = 0) ∧ (sRecov.bootTests % 8192 = 0) ∧ (sRecovTest.flag Fr.ID_RECOV_WAIT = true) ∧
    (sRecovTest.kuver 1 (List.take (sRecovTest.fld Fr.ID_RECOV_LEN) kvImage) = 0) ∧ (sRecovTest.bootTests % 8192 ≠ 0) := by
  and_intros <;> decide +kernel

/-- Core 1 of slice 0 runs for job 1 with instruction `i` at its PC, on the core that `f` makes of one with values in its
registers. -/
def coreVals : Core :=
  { ({} : Core) with
    d := [0x8001, 3, 0x7FFF, 0, 5, 6, 7, 8, 9, 10, 11, 12, 13, 14, 15, 16]
    a := [1000, -7]
    p := [10, 0x8000, 0xC001, 0, 0, 0, 0, 0]
    m := [1, 2, 0, 0, 0, 0, 0, 0]
    dm := [(10, 77)]
    pc := 4 }
def sAt (i : Instr) (f : Core → Core) : State :=
  let w := (encodeCore i).getD 0
  { sCoreRun with cores := modNth State.reset.cores 1 (fun _ => { f coreVals with im := [0, 0, 0, 0, w, 0], job := 1 }) }
def sOne (i : Instr) : State := sAt i id
/-- Results out of range: saturated, trapped. -/
def sOut (i : Instr) : State := sAt i (fun k => { k with a := [2 ^ 39 - 1, 2 ^ 39 - 1] })
def sOutNeg (i : Instr) : State := sAt i (fun k => { k with a := [2 ^ 39 - 1, -(2 ^ 39)] })
def sTrap (i : Instr) : State := sAt i (fun k => { k with a := [2 ^ 39 - 1, 2 ^ 39 - 1], sr := 256 })
def sTrapNeg (i : Instr) : State := sAt i (fun k => { k with a := [2 ^ 39 - 1, -(2 ^ 39)], sr := 256 })
def f1a : F1 := ⟨0, 0, 1, 2, 1⟩
def f1b : F1 := ⟨0, 2, 4, 0, 0⟩
def f1c : F1 := ⟨1, 1, 3, 1, 0⟩
def f1x : F1 := ⟨2, 1, 0, 9, 0⟩
def f2d : F2 := ⟨4, 0, 0xFFFF⟩
def f2p : F2 := ⟨1, 1, 7⟩

/-- The hypotheses of CoreArithmetic are met, each clause's together. -/
theorem witness_CoreArithmetic :
    ((sOne (Instr.add 0 1 f1a)).runs 0 1 (Instr.add 0 1 f1a)) ∧ ((sOne (Instr.sub 0 1 f1a)).runs 0 1 (Instr.sub 0 1
    f1a)) ∧ ((sOne (Instr.adds 0 1 f1a)).runs 0 1 (Instr.adds 0 1 f1a)) ∧ ((sOne (Instr.subs 0 1 f1a)).runs 0 1
    (Instr.subs 0 1 f1a)) ∧ ((sOne (Instr.and 0 1 f1a)).runs 0 1 (Instr.and 0 1 f1a)) ∧ ((sOne (Instr.or 0 1
    f1a)).runs 0 1 (Instr.or 0 1 f1a)) ∧ ((sOne (Instr.xor 0 1 f1a)).runs 0 1 (Instr.xor 0 1 f1a)) ∧ ((sOne (Instr.not
    0 1 f1a)).runs 0 1 (Instr.not 0 1 f1a)) ∧ ((sOne (Instr.shl 0 1 f1a)).runs 0 1 (Instr.shl 0 1 f1a)) ∧ ((sOne
    (Instr.shr 0 1 f1a)).runs 0 1 (Instr.shr 0 1 f1a)) ∧ ((sOne (Instr.asr 0 1 f1a)).runs 0 1 (Instr.asr 0 1 f1a)) ∧
    ((sOne (Instr.min 0 1 f1a)).runs 0 1 (Instr.min 0 1 f1a)) ∧ ((sOne (Instr.max 0 1 f1a)).runs 0 1 (Instr.max 0 1
    f1a)) ∧ ((sOne (Instr.abs 0 1 f1a)).runs 0 1 (Instr.abs 0 1 f1a)) ∧ ((sOne (Instr.neg 0 1 f1a)).runs 0 1
    (Instr.neg 0 1 f1a)) ∧ ((sOne (Instr.cmp 0 1 f1a)).runs 0 1 (Instr.cmp 0 1 f1a)) ∧ ((sOne (Instr.mov 0 1
    f1a)).runs 0 1 (Instr.mov 0 1 f1a)) ∧ (¬((if f1a.t = 1 then nth ((sOne (Instr.ext 0 1 f1a)).core 0 1).a (f1a.sa %
    2) 0 / 2 ^ f1a.sh else (2 * nth ((sOne (Instr.ext 0 1 f1a)).core 0 1).a (f1a.sa % 2) 0 + 2 ^ f1a.sh) / 2 ^ (f1a.sh
    + 1)) < -2 ^ 15 ∨ 2 ^ 15 ≤ if f1a.t = 1 then nth ((sOne (Instr.ext 0 1 f1a)).core 0 1).a (f1a.sa % 2) 0 / 2 ^
    f1a.sh else (2 * nth ((sOne (Instr.ext 0 1 f1a)).core 0 1).a (f1a.sa % 2) 0 + 2 ^ f1a.sh) / 2 ^ (f1a.sh + 1))) ∧
    ((sOne (Instr.ext 0 1 f1a)).runs 0 1 (Instr.ext 0 1 f1a)) ∧ ((if f1a.t = 1 then nth ((sOut (Instr.ext 0 1
    f1a)).core 0 1).a (f1a.sa % 2) 0 / 2 ^ f1a.sh else (2 * nth ((sOut (Instr.ext 0 1 f1a)).core 0 1).a (f1a.sa % 2) 0
    + 2 ^ f1a.sh) / 2 ^ (f1a.sh + 1)) < -2 ^ 15 ∨ 2 ^ 15 ≤ if f1a.t = 1 then nth ((sOut (Instr.ext 0 1 f1a)).core 0
    1).a (f1a.sa % 2) 0 / 2 ^ f1a.sh else (2 * nth ((sOut (Instr.ext 0 1 f1a)).core 0 1).a (f1a.sa % 2) 0 + 2 ^
    f1a.sh) / 2 ^ (f1a.sh + 1)) ∧ ((sOut (Instr.ext 0 1 f1a)).runs 0 1 (Instr.ext 0 1 f1a)) ∧ ((sOne (Instr.aclr 0 1
    f1a)).runs 0 1 (Instr.aclr 0 1 f1a)) ∧ ((sOne (Instr.ald 0 1 f1a)).runs 0 1 (Instr.ald 0 1 f1a)) ∧ (bit ((sOne
    (Instr.aadd 0 1 f1a)).core 0 1).sr 8 = false ∨ ¬(nth ((sOne (Instr.aadd 0 1 f1a)).core 0 1).a (f1a.dst % 2) 0 +
    nth ((sOne (Instr.aadd 0 1 f1a)).core 0 1).a (1 - f1a.dst % 2) 0 < -2 ^ 39 ∨ 2 ^ 39 ≤ nth ((sOne (Instr.aadd 0 1
    f1a)).core 0 1).a (f1a.dst % 2) 0 + nth ((sOne (Instr.aadd 0 1 f1a)).core 0 1).a (1 - f1a.dst % 2) 0)) ∧ ((sOne
    (Instr.aadd 0 1 f1a)).runs 0 1 (Instr.aadd 0 1 f1a)) ∧ (bit ((sTrap (Instr.aadd 0 1 f1a)).core 0 1).sr 8 = true) ∧
    (nth ((sTrap (Instr.aadd 0 1 f1a)).core 0 1).a (f1a.dst % 2) 0 + nth ((sTrap (Instr.aadd 0 1 f1a)).core 0 1).a (1
    - f1a.dst % 2) 0 < -2 ^ 39 ∨ 2 ^ 39 ≤ nth ((sTrap (Instr.aadd 0 1 f1a)).core 0 1).a (f1a.dst % 2) 0 + nth ((sTrap
    (Instr.aadd 0 1 f1a)).core 0 1).a (1 - f1a.dst % 2) 0) ∧ ((sTrap (Instr.aadd 0 1 f1a)).runs 0 1 (Instr.aadd 0 1
    f1a)) ∧ (bit ((sOne (Instr.asub 0 1 f1a)).core 0 1).sr 8 = false ∨ ¬(nth ((sOne (Instr.asub 0 1 f1a)).core 0 1).a
    (f1a.dst % 2) 0 - nth ((sOne (Instr.asub 0 1 f1a)).core 0 1).a (1 - f1a.dst % 2) 0 < -2 ^ 39 ∨ 2 ^ 39 ≤ nth ((sOne
    (Instr.asub 0 1 f1a)).core 0 1).a (f1a.dst % 2) 0 - nth ((sOne (Instr.asub 0 1 f1a)).core 0 1).a (1 - f1a.dst % 2)
    0)) ∧ ((sOne (Instr.asub 0 1 f1a)).runs 0 1 (Instr.asub 0 1 f1a)) ∧ (bit ((sTrapNeg (Instr.asub 0 1 f1a)).core 0
    1).sr 8 = true) ∧ (nth ((sTrapNeg (Instr.asub 0 1 f1a)).core 0 1).a (f1a.dst % 2) 0 - nth ((sTrapNeg (Instr.asub 0
    1 f1a)).core 0 1).a (1 - f1a.dst % 2) 0 < -2 ^ 39 ∨ 2 ^ 39 ≤ nth ((sTrapNeg (Instr.asub 0 1 f1a)).core 0 1).a
    (f1a.dst % 2) 0 - nth ((sTrapNeg (Instr.asub 0 1 f1a)).core 0 1).a (1 - f1a.dst % 2) 0) ∧ ((sTrapNeg (Instr.asub 0
    1 f1a)).runs 0 1 (Instr.asub 0 1 f1a)) ∧ (bit ((sOne (Instr.ashl 0 1 f1a)).core 0 1).sr 8 = false ∨ ¬(nth ((sOne
    (Instr.ashl 0 1 f1a)).core 0 1).a (f1a.dst % 2) 0 * 2 ^ f1a.sh < -2 ^ 39 ∨ 2 ^ 39 ≤ nth ((sOne (Instr.ashl 0 1
    f1a)).core 0 1).a (f1a.dst % 2) 0 * 2 ^ f1a.sh)) ∧ ((sOne (Instr.ashl 0 1 f1a)).runs 0 1 (Instr.ashl 0 1 f1a)) ∧
    (bit ((sTrap (Instr.ashl 0 1 f1a)).core 0 1).sr 8 = true) ∧ (nth ((sTrap (Instr.ashl 0 1 f1a)).core 0 1).a
    (f1a.dst % 2) 0 * 2 ^ f1a.sh < -2 ^ 39 ∨ 2 ^ 39 ≤ nth ((sTrap (Instr.ashl 0 1 f1a)).core 0 1).a (f1a.dst % 2) 0 *
    2 ^ f1a.sh) ∧ ((sTrap (Instr.ashl 0 1 f1a)).runs 0 1 (Instr.ashl 0 1 f1a)) ∧ ((sOne (Instr.aasr 0 1 f1a)).runs 0 1
    (Instr.aasr 0 1 f1a)) ∧ (f1b.sh = 0) ∧ ((sOne (Instr.aget 0 1 f1b)).runs 0 1 (Instr.aget 0 1 f1b)) ∧ (f1c.sh = 1)
    ∧ ((sOne (Instr.aget 0 1 f1c)).runs 0 1 (Instr.aget 0 1 f1c)) ∧ (f1a.sh = 2) ∧ ((sOne (Instr.aget 0 1 f1a)).runs 0
    1 (Instr.aget 0 1 f1a)) ∧ ((sOne (Instr.mvx 0 1 f1x)).runs 0 1 (Instr.mvx 0 1 f1x)) ∧ (f2d.imm < 2 ^ 16) ∧ ((sOne
    (Instr.ldi 0 1 f2d)).runs 0 1 (Instr.ldi 0 1 f2d)) ∧ (f2d.file = 0) ∧ ((sOne (Instr.addi 0 1 f2d)).runs 0 1
    (Instr.addi 0 1 f2d)) ∧ (f2p.imm < 2 ^ 16) ∧ (f2p.file ≠ 0) ∧ ((sOne (Instr.addi 0 1 f2p)).runs 0 1 (Instr.addi 0
    1 f2p)) ∧ ((sOne (Instr.andi 0 1 f2d)).runs 0 1 (Instr.andi 0 1 f2d)) ∧ ((sOne (Instr.ori 0 1 f2d)).runs 0 1
    (Instr.ori 0 1 f2d)) ∧ ((sOne (Instr.cmpi 0 1 f2d)).runs 0 1 (Instr.cmpi 0 1 f2d)) := by
  and_intros <;> first | decide +kernel | (unfold State.runs; decide +kernel)

/-- Pointers into data memory, past the window, to the mask tables and to MSG_NOTIFY; accumulators at their ends. -/
def ptrs (k : Core) : Core := { k with p := [10, 0x8000, 0xC001, 0xFFFF, 0xC022, 0, 0, 0], l := [0, 0, 0, 0, 0, 3, 0, 0] }
def sPtr (i : Instr) : State := sAt i ptrs
def sPtrOut (i : Instr) (sr : Nat) : State := sAt i (fun k => { ptrs k with a := [2 ^ 39 - 1, -(2 ^ 39)], sr := sr })
def f0a : F0 := ⟨0, 1, 2, 1, 0, 3, 1, 0, 4, 1, 1⟩
def f0b : F0 := ⟨1, 1, 2, 1, 5, 3, 1, 5, 3, 1, 1⟩
def f0bad : F0 := ⟨0, 1, 2, 1, 3, 3, 0, 0, 0, 0, 0⟩
def loadsOf (i : Instr) (x : F0) : F0Loads := ((sPtr i).f0Reads 0 1 x).getD ⟨sFetch, none, none, []⟩
def loadsOut (i : Instr) (sr : Nat) (x : F0) : F0Loads := ((sPtrOut i sr).f0Reads 0 1 x).getD ⟨sFetch, none, none, []⟩
def f3a : F3 := ⟨0, 2, 1, 0xFFFF⟩
def f3o : F3 := ⟨0, 2, 0, 5⟩
def f3bad : F3 := ⟨3, 2, 1, 1⟩
def f3win : F3 := ⟨4, 2, 1, 1⟩
def f3tab : F3 := ⟨1, 2, 1, 1⟩
def readOf (i : Instr) (a : Nat) : DataRead := ((sPtr i).dataRead 0 1 a).getD ⟨0, sFetch, []⟩
/-- Core 1 owns trigger 0's masks and a swap is pending. -/
def sPtrSwap (i : Instr) : State :=
  let s := finf (sPtr i) [(Fr.TRG_OWNER 0 0, 1), (Fr.TRG_OWNER_CORE 0 0, 1)]
  { s with slices := modNth s.slices 0 (fun x => { x with trg := modNth x.trg 0 (fun y => { y with swapReq := true }) }) }
def doneOf (i : Instr) (a v : Nat) : State :=
  match (sPtr i).winWrite 0 1 a v with
  | .done u => u
  | _ => sFetch
def f0c : F0 := ⟨0, 1, 2, 1, 5, 3, 1, 5, 3, 1, 1⟩
def f0d : F0 := ⟨1, 1, 2, 1, 0, 3, 1, 0, 4, 1, 1⟩
/-- A word as an integer, a data address and an accumulator result as the statement CoreLoadsStores reads them. -/
def asInt (v : Nat) : Int := if 2 ^ 15 ≤ v % 2 ^ 16 then (v % 2 ^ 16 : Nat) - 2 ^ 16 else (v % 2 ^ 16 : Nat)
def addrOf (k : Core) (x : F3) : Nat :=
  if x.pm = 1 then nth k.p x.p 0 else (((nth k.p x.p 0 : Nat) + asInt x.ofs) % 2 ^ 16).toNat
def accWith (sign : Int) (s : State) (x : F0) : Int :=
  let k := s.core 0 1
  nth k.a x.acc 0 + sign * (asInt (nth k.d x.sa 0) * asInt (nth k.d x.sb 0))

/-- The hypotheses of CoreLoadsStores are met, each clause's together. -/
theorem witness_CoreLoadsStores :
    ((sPtr (Instr.mac 0 1 f0bad)).runs 0 1 (Instr.mac 0 1 f0bad)) ∧ ((sPtr (Instr.mac 0 1 f0bad)).f0Reads 0 1 f0bad =
    none) ∧ ((sPtr (Instr.mac 0 1 f0a)).runs 0 1 (Instr.mac 0 1 f0a)) ∧ ((sPtr (Instr.mac 0 1 f0a)).f0Reads 0 1 f0a =
    some (loadsOf (Instr.mac 0 1 f0a) f0a)) ∧ (¬((accWith 1 (sPtr (Instr.mac 0 1 f0a)) f0a) < -2 ^ 39 ∨ 2 ^ 39 ≤
    accWith 1 (sPtr (Instr.mac 0 1 f0a)) f0a)) ∧ (¬(f0a.lx = 1 ∧ f0a.ly = 1 ∧ f0a.dx = f0a.dy)) ∧ ((sPtr (Instr.mac 0
    1 f0b)).runs 0 1 (Instr.mac 0 1 f0b)) ∧ ((sPtr (Instr.mac 0 1 f0b)).f0Reads 0 1 f0b = some (loadsOf (Instr.mac 0 1
    f0b) f0b)) ∧ (¬((accWith 1 (sPtr (Instr.mac 0 1 f0b)) f0b) < -2 ^ 39 ∨ 2 ^ 39 ≤ accWith 1 (sPtr (Instr.mac 0 1
    f0b)) f0b)) ∧ (f0b.lx = 1 ∧ f0b.ly = 1 ∧ f0b.dx = f0b.dy) ∧ ((sPtrOut (Instr.mac 0 1 f0a) 0).runs 0 1 (Instr.mac 0
    1 f0a)) ∧ ((sPtrOut (Instr.mac 0 1 f0a) 0).f0Reads 0 1 f0a = some (loadsOut (Instr.mac 0 1 f0a) 0 f0a)) ∧
    ((accWith 1 (sPtrOut (Instr.mac 0 1 f0a) 0) f0a) < -2 ^ 39 ∨ 2 ^ 39 ≤ accWith 1 (sPtrOut (Instr.mac 0 1 f0a) 0)
    f0a) ∧ (bit ((sPtrOut (Instr.mac 0 1 f0a) 0).core 0 1).sr 8 = false) ∧ ((sPtrOut (Instr.mac 0 1 f0c) 0).runs 0 1
    (Instr.mac 0 1 f0c)) ∧ ((sPtrOut (Instr.mac 0 1 f0c) 0).f0Reads 0 1 f0c = some (loadsOut (Instr.mac 0 1 f0c) 0
    f0c)) ∧ ((accWith 1 (sPtrOut (Instr.mac 0 1 f0c) 0) f0c) < -2 ^ 39 ∨ 2 ^ 39 ≤ accWith 1 (sPtrOut (Instr.mac 0 1
    f0c) 0) f0c) ∧ (bit ((sPtrOut (Instr.mac 0 1 f0c) 0).core 0 1).sr 8 = false) ∧ (f0c.lx = 1 ∧ f0c.ly = 1 ∧ f0c.dx =
    f0c.dy) ∧ ((sPtrOut (Instr.mac 0 1 f0a) 256).runs 0 1 (Instr.mac 0 1 f0a)) ∧ ((sPtrOut (Instr.mac 0 1 f0a)
    256).f0Reads 0 1 f0a = some (loadsOut (Instr.mac 0 1 f0a) 256 f0a)) ∧ ((accWith 1 (sPtrOut (Instr.mac 0 1 f0a)
    256) f0a) < -2 ^ 39 ∨ 2 ^ 39 ≤ accWith 1 (sPtrOut (Instr.mac 0 1 f0a) 256) f0a) ∧ (bit ((sPtrOut (Instr.mac 0 1
    f0a) 256).core 0 1).sr 8 = true) ∧ ((sPtr (Instr.msu 0 1 f0bad)).runs 0 1 (Instr.msu 0 1 f0bad)) ∧ ((sPtr
    (Instr.msu 0 1 f0bad)).f0Reads 0 1 f0bad = none) ∧ ((sPtr (Instr.msu 0 1 f0a)).runs 0 1 (Instr.msu 0 1 f0a)) ∧
    ((sPtr (Instr.msu 0 1 f0a)).f0Reads 0 1 f0a = some (loadsOf (Instr.msu 0 1 f0a) f0a)) ∧ (¬((accWith (-1) (sPtr
    (Instr.msu 0 1 f0a)) f0a) < -2 ^ 39 ∨ 2 ^ 39 ≤ accWith (-1) (sPtr (Instr.msu 0 1 f0a)) f0a)) ∧ ((sPtr (Instr.msu 0
    1 f0b)).runs 0 1 (Instr.msu 0 1 f0b)) ∧ ((sPtr (Instr.msu 0 1 f0b)).f0Reads 0 1 f0b = some (loadsOf (Instr.msu 0 1
    f0b) f0b)) ∧ (¬((accWith (-1) (sPtr (Instr.msu 0 1 f0b)) f0b) < -2 ^ 39 ∨ 2 ^ 39 ≤ accWith (-1) (sPtr (Instr.msu 0
    1 f0b)) f0b)) ∧ ((sPtrOut (Instr.msu 0 1 f0d) 0).runs 0 1 (Instr.msu 0 1 f0d)) ∧ ((sPtrOut (Instr.msu 0 1 f0d)
    0).f0Reads 0 1 f0d = some (loadsOut (Instr.msu 0 1 f0d) 0 f0d)) ∧ ((accWith (-1) (sPtrOut (Instr.msu 0 1 f0d) 0)
    f0d) < -2 ^ 39 ∨ 2 ^ 39 ≤ accWith (-1) (sPtrOut (Instr.msu 0 1 f0d) 0) f0d) ∧ (bit ((sPtrOut (Instr.msu 0 1 f0d)
    0).core 0 1).sr 8 = false) ∧ (¬(f0d.lx = 1 ∧ f0d.ly = 1 ∧ f0d.dx = f0d.dy)) ∧ ((sPtrOut (Instr.msu 0 1 f0b)
    0).runs 0 1 (Instr.msu 0 1 f0b)) ∧ ((sPtrOut (Instr.msu 0 1 f0b) 0).f0Reads 0 1 f0b = some (loadsOut (Instr.msu 0
    1 f0b) 0 f0b)) ∧ ((accWith (-1) (sPtrOut (Instr.msu 0 1 f0b) 0) f0b) < -2 ^ 39 ∨ 2 ^ 39 ≤ accWith (-1) (sPtrOut
    (Instr.msu 0 1 f0b) 0) f0b) ∧ (bit ((sPtrOut (Instr.msu 0 1 f0b) 0).core 0 1).sr 8 = false) ∧ ((sPtrOut (Instr.msu
    0 1 f0b) 256).runs 0 1 (Instr.msu 0 1 f0b)) ∧ ((sPtrOut (Instr.msu 0 1 f0b) 256).f0Reads 0 1 f0b = some (loadsOut
    (Instr.msu 0 1 f0b) 256 f0b)) ∧ ((accWith (-1) (sPtrOut (Instr.msu 0 1 f0b) 256) f0b) < -2 ^ 39 ∨ 2 ^ 39 ≤ accWith
    (-1) (sPtrOut (Instr.msu 0 1 f0b) 256) f0b) ∧ (bit ((sPtrOut (Instr.msu 0 1 f0b) 256).core 0 1).sr 8 = true) ∧
    ((sPtr (Instr.mpy 0 1 f0bad)).runs 0 1 (Instr.mpy 0 1 f0bad)) ∧ ((sPtr (Instr.mpy 0 1 f0bad)).f0Reads 0 1 f0bad =
    none) ∧ ((sPtr (Instr.mpy 0 1 f0a)).runs 0 1 (Instr.mpy 0 1 f0a)) ∧ ((sPtr (Instr.mpy 0 1 f0a)).f0Reads 0 1 f0a =
    some (loadsOf (Instr.mpy 0 1 f0a) f0a)) ∧ ((sPtr (Instr.mpy 0 1 f0b)).runs 0 1 (Instr.mpy 0 1 f0b)) ∧ ((sPtr
    (Instr.mpy 0 1 f0b)).f0Reads 0 1 f0b = some (loadsOf (Instr.mpy 0 1 f0b) f0b)) ∧ ((sPtr (Instr.parallelLoad 0 1
    f0bad)).runs 0 1 (Instr.parallelLoad 0 1 f0bad)) ∧ ((sPtr (Instr.parallelLoad 0 1 f0bad)).f0Reads 0 1 f0bad =
    none) ∧ ((sPtr (Instr.parallelLoad 0 1 f0a)).runs 0 1 (Instr.parallelLoad 0 1 f0a)) ∧ ((sPtr (Instr.parallelLoad 0
    1 f0a)).f0Reads 0 1 f0a = some (loadsOf (Instr.parallelLoad 0 1 f0a) f0a)) ∧ ((sPtr (Instr.parallelLoad 0 1
    f0b)).runs 0 1 (Instr.parallelLoad 0 1 f0b)) ∧ ((sPtr (Instr.parallelLoad 0 1 f0b)).f0Reads 0 1 f0b = some
    (loadsOf (Instr.parallelLoad 0 1 f0b) f0b)) ∧ (f0a.lx = 1 → nth ((sPtrOut (Instr.mac 0 1 f0c) 0).core 0 0).p
    f0a.px 0 < 2 ^ 15) ∧ (f0a.ly = 1 → nth ((sPtrOut (Instr.mac 0 1 f0c) 0).core 0 0).p f0a.py 0 < 2 ^ 15) ∧ (f0bad.lx
    = 1) ∧ (2 ^ 15 ≤ nth ((sPtrOut (Instr.mac 0 1 f0c) 0).core 0 1).p f0bad.px 0) ∧ ((sPtrOut (Instr.mac 0 1 f0c)
    0).winRead 0 1 (nth ((sPtrOut (Instr.mac 0 1 f0c) 0).core 0 1).p f0bad.px 0) = none) ∧ ((sPtr (Instr.load 0 1
    f3a)).runs 0 1 (Instr.load 0 1 f3a)) ∧ ((sPtr (Instr.load 0 1 f3a)).dataRead 0 1 (addrOf ((sPtr (Instr.load 0 1
    f3a)).core 0 1) f3a) = some (readOf (Instr.load 0 1 f3a) 10)) ∧ ((addrOf ((sPtr (Instr.load 0 1 f3a)).core 0 1)
    f3a) < 2 ^ 15) ∧ ((sPtr (Instr.load 0 1 f3bad)).runs 0 1 (Instr.load 0 1 f3bad)) ∧ (2 ^ 15 ≤ addrOf ((sPtr
    (Instr.load 0 1 f3bad)).core 0 1) f3bad) ∧ ((sPtr (Instr.load 0 1 f3bad)).dataRead 0 1 (addrOf ((sPtr (Instr.load
    0 1 f3bad)).core 0 1) f3bad) = none) ∧ ((sPtr (Instr.store 0 1 f3a)).runs 0 1 (Instr.store 0 1 f3a)) ∧ ((addrOf
    ((sPtr (Instr.store 0 1 f3a)).core 0 1) f3a) < 2 ^ 15) ∧ ((sPtr (Instr.store 0 1 f3bad)).runs 0 1 (Instr.store 0 1
    f3bad)) ∧ (2 ^ 15 ≤ addrOf ((sPtr (Instr.store 0 1 f3bad)).core 0 1) f3bad) ∧ ((sPtr (Instr.store 0 1
    f3bad)).winWrite 0 1 (addrOf ((sPtr (Instr.store 0 1 f3bad)).core 0 1) f3bad) (nth ((sPtr (Instr.store 0 1
    f3bad)).core 0 1).d f3bad.d 0 % 2 ^ 16) = WinRes.trap) ∧ ((sPtrSwap (Instr.store 0 1 f3tab)).runs 0 1 (Instr.store
    0 1 f3tab)) ∧ (2 ^ 15 ≤ addrOf ((sPtrSwap (Instr.store 0 1 f3tab)).core 0 1) f3tab) ∧ ((sPtrSwap (Instr.store 0 1
    f3tab)).winWrite 0 1 (addrOf ((sPtrSwap (Instr.store 0 1 f3tab)).core 0 1) f3tab) (nth ((sPtrSwap (Instr.store 0 1
    f3tab)).core 0 1).d f3tab.d 0 % 2 ^ 16) = WinRes.stall 8) ∧ ((doneOf (Instr.store 0 1 f3win) 49186 32767).runs 0 1
    (Instr.store 0 1 f3win)) ∧ (2 ^ 15 ≤ addrOf ((doneOf (Instr.store 0 1 f3win) 49186 32767).core 0 1) f3win) ∧
    ((doneOf (Instr.store 0 1 f3win) 49186 32767).winWrite 0 1 (addrOf ((doneOf (Instr.store 0 1 f3win) 49186
    32767).core 0 1) f3win) (nth ((doneOf (Instr.store 0 1 f3win) 49186 32767).core 0 1).d f3win.d 0 % 2 ^ 16) =
    WinRes.done (doneOf (Instr.store 0 1 f3win) 49186 32767)) := by
  and_intros <;> first | decide +kernel | (unfold State.runs; decide +kernel)

/-- Cores for branches, calls and loops. -/
def lpIn : Loop := ⟨1, 12, 3⟩
def lpOut : Loop := ⟨5, 6, 2⟩
def lpEnd : Loop := ⟨1, 4, 2⟩
def lpLast : Loop := ⟨1, 4, 1⟩
def f4a : F4 := ⟨10, 0, 3⟩
def f4back : F4 := ⟨2, 0, 3⟩
def f4zero : F4 := ⟨10, 0, 0⟩
def f4reg : F4 := ⟨10, 1, 1⟩
def sLoops (i : Instr) (l : List Loop) (sr : Nat) : State := sAt i (fun k => { k with loops := l, sr := sr })
def sRet (i : Instr) (n : Nat) : State := sAt i (fun k => { k with ret := List.replicate n 1 })
def f5a : F5 := ⟨2, 3, 1⟩
def f5b : F5 := ⟨2, 0, 0⟩
def sMsg (i : Instr) (n : Nat) : State := sAt i (fun k => { k with msgs := List.replicate n ⟨2, 3, zeros 32⟩ })
def sOutst (i : Instr) (n : Nat) : State := sAt i (fun k => { k with dmaOut := n })
/-- A word that is no instruction stands at PC; a store to a window word whose pointer is `p` writes `v`. -/
def sIllegal : State :=
  { sCoreRun with cores := modNth State.reset.cores 1 (fun _ => { coreVals with im := [0, 0, 0, 0, 0xE0000000], job := 1 }) }
def f3s : F3 := ⟨0, 0, 1, 1⟩
def sWin (p v : Nat) (f : Core → Core) : State :=
  sAt (.store 0 1 f3s) (fun k => f { k with p := p :: k.p.drop 1, d := v :: k.d.drop 1 })
def owning (s : State) : State := finf s [(Fr.TRG_OWNER 0 0, 1), (Fr.TRG_OWNER_CORE 0 0, 1), (Fr.TRG_OWNER 0 1, 1), (Fr.TRG_OWNER_CORE 0 1, 1)]
def full16 (s : State) : State :=
  { s with cores := modNth s.cores 2 (fun k => { k with msgs := List.replicate 16 ⟨2, 3, zeros 32⟩ }) }
def rated (s : State) : State := s.setFld (Fr.CORE_EV_RATE 0 1) 5
def outTwo (k : Core) : Core := { k with dmaOut := 2 }
def lenOne (k : Core) : Core := { k with dmaLen := 1 }
def twoMsgs (k : Core) : Core := { k with msgs := List.replicate 2 ⟨2, 3, zeros 32⟩ }
/-- The slot of a tick is used up. -/
def sCapped : State := sAt (.nop 0 1 f5b) (fun k => { k with capped := true, used := 9 })

/-- The hypotheses of CoreControlAndWindow are met, each clause's together. -/
theorem witness_CoreControlAndWindow :
    (((sLoops (Instr.br 0 1 f4a) [lpOut, lpIn] 0).core 0 0).loops = []) ∧ (((sLoops (Instr.br 0 1 f4a) [lpOut, lpIn]
    0).core 0 1).loops = [lpOut, lpIn]) ∧ (lpOut.stop ≠ ((sLoops (Instr.br 0 1 f4a) [lpOut, lpIn] 0).core 0 1).pc) ∧
    (((sLoops (Instr.br 0 1 f4a) [lpEnd, lpIn] 0).core 0 1).loops = [lpEnd, lpIn]) ∧ (lpEnd.stop = ((sLoops (Instr.br
    0 1 f4a) [lpEnd, lpIn] 0).core 0 1).pc) ∧ (1 < lpEnd.count) ∧ (((sLoops (Instr.br 0 1 f4a) [lpLast, lpIn] 0).core
    0 1).loops = [lpLast, lpIn]) ∧ (lpLast.stop = ((sLoops (Instr.br 0 1 f4a) [lpLast, lpIn] 0).core 0 1).pc) ∧
    (lpLast.count ≤ 1) ∧ ((sLoops (Instr.br 0 1 f4a) [lpOut, lpIn] 0).runs 0 1 (Instr.br 0 1 f4a)) ∧ (True) ∧ ((sLoops
    (Instr.beq 0 1 f4a) [lpOut, lpIn] 1).runs 0 1 (Instr.beq 0 1 f4a)) ∧ (bit ((sLoops (Instr.beq 0 1 f4a) [lpOut,
    lpIn] 1).core 0 1).sr 0 = true) ∧ ((sLoops (Instr.beq 0 1 f4a) [lpOut, lpIn] 0).runs 0 1 (Instr.beq 0 1 f4a)) ∧
    (¬bit ((sLoops (Instr.beq 0 1 f4a) [lpOut, lpIn] 0).core 0 1).sr 0 = true) ∧ ((sLoops (Instr.bne 0 1 f4a) [lpOut,
    lpIn] 0).runs 0 1 (Instr.bne 0 1 f4a)) ∧ (bit ((sLoops (Instr.bne 0 1 f4a) [lpOut, lpIn] 0).core 0 1).sr 0 =
    false) ∧ ((sLoops (Instr.bne 0 1 f4a) [lpOut, lpIn] 1).runs 0 1 (Instr.bne 0 1 f4a)) ∧ (¬bit ((sLoops (Instr.bne 0
    1 f4a) [lpOut, lpIn] 1).core 0 1).sr 0 = false) ∧ ((sLoops (Instr.blt 0 1 f4a) [lpOut, lpIn] 2).runs 0 1
    (Instr.blt 0 1 f4a)) ∧ ((bit ((sLoops (Instr.blt 0 1 f4a) [lpOut, lpIn] 2).core 0 1).sr 1 != bit ((sLoops
    (Instr.blt 0 1 f4a) [lpOut, lpIn] 2).core 0 1).sr 3) = true) ∧ ((sLoops (Instr.blt 0 1 f4a) [lpOut, lpIn] 0).runs
    0 1 (Instr.blt 0 1 f4a)) ∧ (¬(bit ((sLoops (Instr.blt 0 1 f4a) [lpOut, lpIn] 0).core 0 1).sr 1 != bit ((sLoops
    (Instr.blt 0 1 f4a) [lpOut, lpIn] 0).core 0 1).sr 3) = true) ∧ ((sLoops (Instr.bge 0 1 f4a) [lpOut, lpIn] 0).runs
    0 1 (Instr.bge 0 1 f4a)) ∧ ((bit ((sLoops (Instr.bge 0 1 f4a) [lpOut, lpIn] 0).core 0 1).sr 1 != bit ((sLoops
    (Instr.bge 0 1 f4a) [lpOut, lpIn] 0).core 0 1).sr 3) = false) ∧ ((sLoops (Instr.bge 0 1 f4a) [lpOut, lpIn] 2).runs
    0 1 (Instr.bge 0 1 f4a)) ∧ (¬(bit ((sLoops (Instr.bge 0 1 f4a) [lpOut, lpIn] 2).core 0 1).sr 1 != bit ((sLoops
    (Instr.bge 0 1 f4a) [lpOut, lpIn] 2).core 0 1).sr 3) = false) ∧ ((sRet (Instr.call 0 1 f4a) 0).runs 0 1
    (Instr.call 0 1 f4a)) ∧ (((sRet (Instr.call 0 1 f4a) 0).core 0 1).ret.length < 8) ∧ ((sRet (Instr.call 0 1 f4a)
    8).runs 0 1 (Instr.call 0 1 f4a)) ∧ (8 ≤ ((sRet (Instr.call 0 1 f4a) 8).core 0 1).ret.length) ∧ ((sRet (Instr.ret
    0 1 f4a) 1).runs 0 1 (Instr.ret 0 1 f4a)) ∧ (((sRet (Instr.ret 0 1 f4a) 1).core 0 1).ret = [1]) ∧ ((sRet
    (Instr.ret 0 1 f4a) 0).runs 0 1 (Instr.ret 0 1 f4a)) ∧ (((sRet (Instr.ret 0 1 f4a) 0).core 0 1).ret = []) ∧ ((sOne
    (Instr.loop 0 1 f4back)).runs 0 1 (Instr.loop 0 1 f4back)) ∧ (f4back.target ≤ ((sOne (Instr.loop 0 1 f4back)).core
    0 1).pc) ∧ ((sOne (Instr.loop 0 1 f4zero)).runs 0 1 (Instr.loop 0 1 f4zero)) ∧ (((sOne (Instr.loop 0 1
    f4zero)).core 0 1).pc < f4zero.target) ∧ ((if f4zero.src = 1 then nth ((sOne (Instr.loop 0 1 f4zero)).core 0 1).d
    (f4zero.count % 16) 0 % 2 ^ 16 else f4zero.count) = 0) ∧ ((sOne (Instr.loop 0 1 f4a)).runs 0 1 (Instr.loop 0 1
    f4a)) ∧ (((sOne (Instr.loop 0 1 f4a)).core 0 1).pc < f4a.target) ∧ ((if f4a.src = 1 then nth ((sOne (Instr.loop 0
    1 f4a)).core 0 1).d (f4a.count % 16) 0 % 2 ^ 16 else f4a.count) ≠ 0) ∧ (((sOne (Instr.loop 0 1 f4a)).core 0
    1).loops.length < 4) ∧ ((sLoops (Instr.loop 0 1 f4a) [lpIn, lpIn, lpIn, lpIn] 0).runs 0 1 (Instr.loop 0 1 f4a)) ∧
    (((sLoops (Instr.loop 0 1 f4a) [lpIn, lpIn, lpIn, lpIn] 0).core 0 1).pc < f4a.target) ∧ ((if f4a.src = 1 then nth
    ((sLoops (Instr.loop 0 1 f4a) [lpIn, lpIn, lpIn, lpIn] 0).core 0 1).d (f4a.count % 16) 0 % 2 ^ 16 else f4a.count)
    ≠ 0) ∧ (4 ≤ ((sLoops (Instr.loop 0 1 f4a) [lpIn, lpIn, lpIn, lpIn] 0).core 0 1).loops.length) ∧ ((sOne (Instr.nop
    0 1 f5a)).runs 0 1 (Instr.nop 0 1 f5a)) ∧ ((sOne (Instr.halt 0 1 f5a)).runs 0 1 (Instr.halt 0 1 f5a)) ∧ ((sOne
    (Instr.halt 0 1 f5a)).job ((sOne (Instr.halt 0 1 f5a)).core 0 1).job = some (jobWait oArm)) ∧ ((jobWait oArm).done
    = none) ∧ ((jobWait oArm).ring < 64) ∧ ((sOne (Instr.wait 0 1 f5b)).runs 0 1 (Instr.wait 0 1 f5b)) ∧ (f5b.code % 4
    = 0 ∨ bit f5b.code 0 = true ∧ ((sOne (Instr.wait 0 1 f5b)).core 0 1).msgs ≠ [] ∨ bit f5b.code 1 = true ∧ ((sOne
    (Instr.wait 0 1 f5b)).core 0 1).dmaDone = true) ∧ ((sOne (Instr.wait 0 1 f5a)).runs 0 1 (Instr.wait 0 1 f5a)) ∧
    (¬(f5a.code % 4 = 0 ∨ bit f5a.code 0 = true ∧ ((sOne (Instr.wait 0 1 f5a)).core 0 1).msgs ≠ [] ∨ bit f5a.code 1 =
    true ∧ ((sOne (Instr.wait 0 1 f5a)).core 0 1).dmaDone = true)) ∧ ((sOne (Instr.mfs 0 1 f5b)).runs 0 1 (Instr.mfs 0
    1 f5b)) ∧ (f5b.sreg = 0) ∧ ((sLoops (Instr.mfs 0 1 f5a) [lpIn] 0).runs 0 1 (Instr.mfs 0 1 f5a)) ∧ (f5a.sreg = 1) ∧
    (((sLoops (Instr.mfs 0 1 f5a) [lpIn] 0).core 0 1).loops = [lpIn]) ∧ ((sOne (Instr.mfs 0 1 f5a)).runs 0 1
    (Instr.mfs 0 1 f5a)) ∧ (((sOne (Instr.mfs 0 1 f5a)).core 0 1).loops = []) ∧ ((sOne (Instr.mts 0 1 f5b)).runs 0 1
    (Instr.mts 0 1 f5b)) ∧ ((sLoops (Instr.mts 0 1 f5a) [lpIn] 0).runs 0 1 (Instr.mts 0 1 f5a)) ∧ (((sLoops (Instr.mts
    0 1 f5a) [lpIn] 0).core 0 1).loops = [lpIn]) ∧ ((sOne (Instr.mts 0 1 f5a)).runs 0 1 (Instr.mts 0 1 f5a)) ∧ (((sOne
    (Instr.mts 0 1 f5a)).core 0 1).loops = []) ∧ ((sOne (Instr.fence 0 1 f5a)).runs 0 1 (Instr.fence 0 1 f5a)) ∧
    (((sOne (Instr.fence 0 1 f5a)).core 0 1).dmaOut = 0) ∧ ((sOutst (Instr.fence 0 1 f5a) 1).runs 0 1 (Instr.fence 0 1
    f5a)) ∧ (((sOutst (Instr.fence 0 1 f5a) 1).core 0 1).dmaOut ≠ 0) ∧ (0 < 9 ∧ 1 < 16 ∧ sIllegal.coreRuns 0 1 = true
    ∧ (sIllegal.core 0 1).capped = false ∧ (sIllegal.core 0 1).ending = none ∧ decodeCore 0 1 (nth (sIllegal.core 0
    1).im (sIllegal.core 0 1).pc 0) = none) ∧ (sIllegal.cores.length = 144) ∧ (¬(0 < 9 ∧ 0 < 16 ∧ (sLoops (Instr.br 0
    1 f4a) [lpOut, lpIn] 0).coreRuns 0 0 = true ∧ ((sLoops (Instr.br 0 1 f4a) [lpOut, lpIn] 0).core 0 0).capped =
    false ∧ ((sLoops (Instr.br 0 1 f4a) [lpOut, lpIn] 0).core 0 0).ending = none ∧ decodeCore 0 0 (nth ((sLoops
    (Instr.br 0 1 f4a) [lpOut, lpIn] 0).core 0 0).im ((sLoops (Instr.br 0 1 f4a) [lpOut, lpIn] 0).core 0 0).pc 0) =
    none)) ∧ ((sLoops (Instr.br 0 1 f4a) [lpOut, lpIn] 0).cores.length = 144) ∧ ((sWin 49153 1 id).runs 0 1
    (Instr.store 0 1 f3s)) ∧ ((sWin 49153 1 id).slices.length = 9) ∧ (0 < 2) ∧ (((sWin 49153 1 id).core 0 1).f3Addr
    f3s = 49153 + 2 * 0) ∧ ((sWin 49153 1 id).maskOwner 0 0 1 = false) ∧ ((owning (sWin 49153 1 id)).runs 0 1
    (Instr.store 0 1 f3s)) ∧ ((owning (sWin 49153 1 id)).slices.length = 9) ∧ (((owning (sWin 49153 1 id)).core 0
    1).f3Addr f3s = 49153 + 2 * 0) ∧ ((owning (sWin 49153 1 id)).maskOwner 0 0 1 = true) ∧ (nth ((owning (sWin 49153 1
    id)).core 0 1).d f3s.d 0 % 2 ^ 16 = 1) ∧ (((owning (sWin 49153 1 id)).slice 0).trg.length = 2) ∧ ((sWin 49216 2
    id).runs 0 1 (Instr.store 0 1 f3s)) ∧ ((sWin 49216 2 id).slices.length = 9) ∧ (((sWin 49216 2 id).core 0 1).f3Addr
    f3s = 49216) ∧ (((sWin 49216 2 id).core 0 (nth ((sWin 49216 2 id).core 0 1).d f3s.d 0 % 2 ^ 16 % 16)).msgs.length
    < 16) ∧ ((full16 (sWin 49216 2 id)).runs 0 1 (Instr.store 0 1 f3s)) ∧ ((full16 (sWin 49216 2 id)).slices.length =
    9) ∧ (((full16 (sWin 49216 2 id)).core 0 1).f3Addr f3s = 49216) ∧ (16 ≤ ((full16 (sWin 49216 2 id)).core 0 (nth
    ((full16 (sWin 49216 2 id)).core 0 1).d f3s.d 0 % 2 ^ 16 % 16)).msgs.length) ∧ ((rated (sWin 49244 144 id)).runs 0
    1 (Instr.store 0 1 f3s)) ∧ ((rated (sWin 49244 144 id)).slices.length = 9) ∧ (((rated (sWin 49244 144 id)).core 0
    1).f3Addr f3s = 49244) ∧ (128 ≤ nth ((rated (sWin 49244 144 id)).core 0 1).d f3s.d 0 % 2 ^ 16 ∧ nth ((rated (sWin
    49244 144 id)).core 0 1).d f3s.d 0 % 2 ^ 16 ≤ 255 ∧ (List.filter (fun t => decide ((rated (sWin 49244 144
    id)).samp < t + (rated (sWin 49244 144 id)).samplesOfNs (10 ^ 9))) ((rated (sWin 49244 144 id)).core 0
    1).posts).length < (rated (sWin 49244 144 id)).fld (Fr.CORE_EV_RATE 0 1)) ∧ ((sWin 49244 144 id).runs 0 1
    (Instr.store 0 1 f3s)) ∧ ((sWin 49244 144 id).slices.length = 9) ∧ (((sWin 49244 144 id).core 0 1).f3Addr f3s =
    49244) ∧ (¬(128 ≤ nth ((sWin 49244 144 id).core 0 1).d f3s.d 0 % 2 ^ 16 ∧ nth ((sWin 49244 144 id).core 0 1).d
    f3s.d 0 % 2 ^ 16 ≤ 255 ∧ (List.filter (fun t => decide ((sWin 49244 144 id).samp < t + (sWin 49244 144
    id).samplesOfNs (10 ^ 9))) ((sWin 49244 144 id).core 0 1).posts).length < (sWin 49244 144 id).fld (Fr.CORE_EV_RATE
    0 1))) ∧ ((sWin 49253 2 outTwo).runs 0 1 (Instr.store 0 1 f3s)) ∧ ((sWin 49253 2 outTwo).slices.length = 9) ∧
    (((sWin 49253 2 outTwo).core 0 1).f3Addr f3s = 49253) ∧ (((sWin 49253 2 outTwo).slice 0).phys < (sWin 49253 2
    outTwo).chans.length) ∧ (2 ≤ ((sWin 49253 2 outTwo).core 0 1).dmaOut) ∧ ((sWin 49253 2 id).runs 0 1 (Instr.store 0
    1 f3s)) ∧ ((sWin 49253 2 id).slices.length = 9) ∧ (((sWin 49253 2 id).core 0 1).f3Addr f3s = 49253) ∧ (((sWin
    49253 2 id).slice 0).phys < (sWin 49253 2 id).chans.length) ∧ (((sWin 49253 2 id).core 0 1).dmaOut < 2) ∧ (nth
    ((sWin 49253 2 id).core 0 1).tags (nth ((sWin 49253 2 id).core 0 1).d f3s.d 0 % 2 ^ 16 / 2 % 8) 0 = 1 ∨ (sWin
    49253 2 id).coreDmaBad 0 1 (bit (nth ((sWin 49253 2 id).core 0 1).d f3s.d 0 % 2 ^ 16) 0) (nth ((sWin 49253 2
    id).core 0 1).dmaHbm 0 0 + 65536 * nth ((sWin 49253 2 id).core 0 1).dmaHbm 1 0 + 2 ^ 32 * (nth ((sWin 49253 2
    id).core 0 1).dmaHbm 2 0 % 16)) ((sWin 49253 2 id).core 0 1).dmaLocal (16 * ((sWin 49253 2 id).core 0 1).dmaLen) =
    true) ∧ ((sWin 49253 2 lenOne).runs 0 1 (Instr.store 0 1 f3s)) ∧ ((sWin 49253 2 lenOne).slices.length = 9) ∧
    (((sWin 49253 2 lenOne).core 0 1).f3Addr f3s = 49253) ∧ (((sWin 49253 2 lenOne).slice 0).phys < (sWin 49253 2
    lenOne).chans.length) ∧ (((sWin 49253 2 lenOne).core 0 1).dmaOut < 2) ∧ (¬(nth ((sWin 49253 2 lenOne).core 0
    1).tags (nth ((sWin 49253 2 lenOne).core 0 1).d f3s.d 0 % 2 ^ 16 / 2 % 8) 0 = 1 ∨ (sWin 49253 2 lenOne).coreDmaBad
    0 1 (bit (nth ((sWin 49253 2 lenOne).core 0 1).d f3s.d 0 % 2 ^ 16) 0) (nth ((sWin 49253 2 lenOne).core 0 1).dmaHbm
    0 0 + 65536 * nth ((sWin 49253 2 lenOne).core 0 1).dmaHbm 1 0 + 2 ^ 32 * (nth ((sWin 49253 2 lenOne).core 0
    1).dmaHbm 2 0 % 16)) ((sWin 49253 2 lenOne).core 0 1).dmaLocal (16 * ((sWin 49253 2 lenOne).core 0 1).dmaLen) =
    true)) ∧ ((sWin 49185 0 twoMsgs).runs 0 1 (Instr.store 0 1 f3s)) ∧ ((sWin 49185 0 twoMsgs).slices.length = 9) ∧
    (((sWin 49185 0 twoMsgs).core 0 1).f3Addr f3s = 49185) := by
  and_intros <;> first | decide +kernel | (unfold State.runs; decide +kernel)

/-- No store of a core that does not run stands at a window word. -/
theorem witness_CoreControlAndWindow_elsewhere : State.reset.cores.length = 144 ∧
    ∀ a, ¬ ∃ x, State.reset.coreReady 0 1 (.store 0 1 x) = true ∧ (State.reset.core 0 1).f3Addr x = a := by
  refine ⟨by decide +kernel, fun a => ?_⟩
  rintro ⟨x, h, -⟩
  simp [State.coreReady, show State.reset.coreRuns 0 1 = false by decide +kernel] at h

/-! ## Core instruction words, written out bit by bit from Table 9.4 (R195) and the opcodes of R196 -/

/-- F0: MAC (MOP 1), ACC 1, SA 3, SB 4, LX 1, PX 2, DX 5, LY 0, PY 3, DY 6, MODX 1, MODY 0. -/
theorem test_word_mac :
    decodeCore 2 7 0b000_01_1_0011_0100_1_010_0101_0_011_0110_1_0 = some (.mac 2 7 ⟨1, 3, 4, 1, 2, 5, 0, 3, 6, 1, 0⟩) := by
  decide +kernel

/-- F0: MOP 0, no arithmetic, both loads. -/
theorem test_word_parallelLoad :
    decodeCore 0 0 0b000_00_0_0000_0000_1_001_0010_1_111_1111_0_1 =
      some (.parallelLoad 0 0 ⟨0, 0, 0, 1, 1, 2, 1, 7, 15, 0, 1⟩) := by decide +kernel

/-- F1: SUB (0x01), DST 9, SA 10, SB 11, SH 0, T 0. -/
theorem test_word_sub :
    decodeCore 0 1 0b001_00001_1001_1010_1011_000000_0_00000 = some (.sub 0 1 ⟨9, 10, 11, 0, 0⟩) := by decide +kernel

/-- F1: EXT (0x11), DST 2, SA 1, SH 15, T 1. -/
theorem test_word_ext :
    decodeCore 0 1 0b001_10001_0010_0001_0000_001111_1_00000 = some (.ext 0 1 ⟨2, 1, 0, 15, 1⟩) := by decide +kernel

/-- F2: ADDI (1), IDX 6, FILE 1 (P), IMM 0xFFFE. -/
theorem test_word_addi :
    decodeCore 0 1 0b010_0001_0110_001_00_1111111111111110 = some (.addi 0 1 ⟨6, 1, 0xFFFE⟩) := by decide +kernel

/-- F3: a store through P3 of D12, PM 1, OFS 0x8001; the same word with S 0 is the load. -/
theorem test_word_store_load :
    decodeCore 0 1 0b011_1_011_1100_1_0000_1000000000000001 = some (.store 0 1 ⟨3, 12, 1, 0x8001⟩)
    ∧ decodeCore 0 1 0b011_0_011_1100_1_0000_1000000000000001 = some (.load 0 1 ⟨3, 12, 1, 0x8001⟩) := by decide +kernel

/-- F4: LOOP (6) to END 0x1234 with SRC 1 and the D index 5; F4: BNE (2) to 0x0003. -/
theorem test_word_loop_bne :
    decodeCore 0 1 0b100_110_1001000110100_1_000000000101 = some (.loop 0 1 ⟨0x1234, 1, 5⟩)
    ∧ decodeCore 0 1 0b100_010_0000000000011_0_000000000000 = some (.bne 0 1 ⟨3, 0, 0⟩) := by decide +kernel

/-- F5: HALT (1) with CODE 0xBEEF; F5: MFS (3) of LCNT into D14. -/
theorem test_word_halt_mfs :
    decodeCore 0 1 0b101_00001_0000_1011111011101111_0000 = some (.halt 0 1 ⟨0, 0xBEEF, 0⟩)
    ∧ decodeCore 0 1 0b101_00011_1110_0000000000000000_0001 = some (.mfs 0 1 ⟨14, 0, 1⟩) := by decide +kernel

/-- Formats 110 and 111, a reserved opcode and a reserved field that is not 0 are no instruction. -/
theorem test_words_illegal :
    [0b110 * 2 ^ 29, 0b111 * 2 ^ 29, 0b001_11010 * 2 ^ 24, 0b001_00000 * 2 ^ 24 + 1, 0b010_0101 * 2 ^ 25, 0b010_0000 * 2 ^ 25 + 2 ^ 16,
      0b011 * 2 ^ 29 + 2 ^ 16, 0b101_00110 * 2 ^ 24].all (fun w => (decodeCore 0 1 w).isNone) = true := by decide +kernel

/-- The opcode table gives no row a bit: no word spells a command, and a word placed in front changes nothing. -/
theorem test_table_words : decodeTableWord 32 5 = none ∧ State.reset.withFetchWord 32 5 = State.reset := by decide +kernel

/-! ## Single steps -/

/-- With no command waiting the block idles (assumption log, entry 1). -/
theorem test_idle_step : step State.reset = .next State.reset := rfl

/-- D0 := D0 + D1 with 0x8001 + 3, of f1a's fields DST 0, SA 0, SB 1: negative, no zero, no carry, no overflow (R196). -/
theorem test_add : nth ((after (.add 0 1 f1a) (sOne (.add 0 1 f1a))).core 0 1).d 0 0 = 0x8004
    ∧ ((after (.add 0 1 f1a) (sOne (.add 0 1 f1a))).core 0 1).sr % 16 = 2 := by decide +kernel

/-- ABS of D0 = 0x8001 is 0x7FFF, and ABS saturates 0x8000 there too (R196). -/
theorem test_abs : nth ((after (.abs 0 1 f1a) (sOne (.abs 0 1 f1a))).core 0 1).d 0 0 = 0x7FFF := by decide +kernel

/-- A write of a read-only word changes nothing and a write of a nine-byte access is refused as unsupported (R6). -/
theorem test_write_id : (after (.registerWrite 0 0 5 false) ringOn).reg 0 = ringOn.reg 0 := by decide +kernel

/-- A tick makes every core's budget whole. -/
theorem test_tick : ((after .coreBudgetTick sCapped).core 0 1).capped = false ∧ ((after .coreBudgetTick sCapped).core 0 1).used = 0 := by
  decide +kernel

/-- A RESET_N pulse of 5 µs is neither ignored nor a reset: the spec leaves it undefined, and the model stops (R405). -/
theorem test_reset_pulse_undefined :
    exec (.resetN 5000 bGood) ringOn = .fault (.resetPulseUndefined 5000) := rfl

/-- Shorter than 1 µs it is ignored (R405). -/
theorem test_reset_pulse_ignored : exec (.resetN 999 bGood) ringOn = .next ringOn := rfl

/-! ## Witnesses of the statements about steps, reset and words -/

/-- A state with one command waiting. -/
def sQueued : State := { State.reset with pending := [.coreBudgetTick] }

theorem witness_StepRunsFront : sQueued.pending = [.coreBudgetTick] ∧ State.reset.pending = [] := by decide +kernel

theorem witness_CommandsLeaveQueue : completes .coreBudgetTick sQueued = true := by decide +kernel

theorem witness_StepKeepsInv : sQueued.Inv ∧ completes .coreBudgetTick { sQueued with pending := [] } = true := by
  unfold State.Inv; decide +kernel

theorem witness_StepKeepsShape : sQueued.Inv ∧ sQueued.Shaped ∧ completes .coreBudgetTick { sQueued with pending := [] } = true := by
  unfold State.Inv State.Shaped; decide +kernel

theorem witness_CoreEncodeDecode :
    wellFormed (.loop 0 1 ⟨8191, 1, 4095⟩) = true ∧ encodeCore (.loop 0 1 ⟨8191, 1, 4095⟩) = some 0x9BFFFFFF
    ∧ wellFormed (.parallelLoad 8 15 g0) = true ∧ encodeCore (.parallelLoad 8 15 g0) = some 0 := by decide +kernel

theorem witness_CoreDecodeEncode :
    decodeCore 0 1 0x9BFFFFFF = some (.loop 0 1 ⟨8191, 1, 4095⟩) ∧ decodeCore 0 1 0 = some (.parallelLoad 0 1 g0) := by decide +kernel

theorem witness_CoreWordsIllegal :
    6 ≤ bits 0xC0000000 29 3 ∧ (bits 0x20000001 29 3 = 1 ∧ bits 0x20000001 0 5 ≠ 0) ∧ (bits 0x3A000000 29 3 = 1 ∧ 0x1A ≤ bits 0x3A000000 24 5)
    ∧ (bits 0x40010000 29 3 = 2 ∧ bits 0x40010000 16 2 ≠ 0) ∧ (bits 0x4A000000 29 3 = 2 ∧ 5 ≤ bits 0x4A000000 25 4)
    ∧ (bits 0x60010000 29 3 = 3 ∧ bits 0x60010000 16 4 ≠ 0) ∧ (bits 0xA6000000 29 3 = 5 ∧ 6 ≤ bits 0xA6000000 24 5) := by decide +kernel

end Sys2Proof.Tests
end

section
/-! PROOFS. What a host write of a register word does to the block, case by case, and the statements about BAR0 accesses
settled from it (R6 to R9, R64). -/

namespace Sys2Proof.Machine

/-! ## Register words after an update -/

theorem reg_congr {s t : State} (h : t.regs = s.regs) (a : Nat) : t.reg a = s.reg a := by
  simp only [State.reg, h]

theorem onlyWords_of_regs {s t : State} {l : List Nat} (h : t.regs = s.regs) : s.onlyWords t l :=
  fun a _ => reg_congr h a

theorem onlyWords_trans {s t u : State} {l : List Nat} (h : s.onlyWords t l) (h' : t.onlyWords u l) :
    s.onlyWords u l := fun a ha => (h' a ha).trans (h a ha)

theorem onlyWords_mono {s t : State} {l m : List Nat} (hl : ∀ a ∈ l, a ∈ m) (h : s.onlyWords t l) :
    s.onlyWords t m := fun a ha => h a (fun hm => ha (hl a hm))

theorem onlyWords_setReg (s : State) {a : Nat} (v : Word) {l : List Nat} (ha : a ∈ l) : s.onlyWords (s.setReg a v) l :=
  fun _ hb => reg_setReg_other s v (fun e => hb (e ▸ ha))

theorem onlyWords_setFld (s : State) {f : FRef} (v : Nat) {l : List Nat} (hf : f.lo + f.w ≤ 32) (ha : f.addr ∈ l) :
    s.onlyWords (s.setFld f v) l :=
  fun _ hb => reg_setFld_other s v hf (fun e => hb (e ▸ ha))

/-- A bit of a register word is the one-bit field at its place. -/
theorem reg_getLsbD_eq_flag (s : State) (a : Nat) {i : Nat} (hi : i < 32) :
    (s.reg a).getLsbD i = s.flag ⟨a, i, 1⟩ := by
  have hw : i + 1 ≤ 32 := hi
  simp only [State.flag, State.fld, bits, hw, if_true, BitVec.getLsbD, Nat.testBit_eq_decide_div_mod_eq, Nat.pow_one]

/-- RW and RWS bits take the value written; another bit stays, unless it is a W1C bit written 1 (R7, R8). -/
theorem getLsbD_writeMasked (r : RegRow) (old v : Word) {i : Nat} (hi : i < 32) :
    (writeMasked r old v).getLsbD i =
      if (BitVec.ofNat 32 r.rw).getLsbD i || (BitVec.ofNat 32 r.rws).getLsbD i then v.getLsbD i
      else old.getLsbD i && !((BitVec.ofNat 32 r.w1c).getLsbD i && v.getLsbD i) := by
  simp only [writeMasked, BitVec.getLsbD_or, BitVec.getLsbD_and, BitVec.getLsbD_not, hi, decide_true, Bool.true_and]
  cases (BitVec.ofNat 32 r.rw).getLsbD i || (BitVec.ofNat 32 r.rws).getLsbD i <;> simp

/-! ## What a host write can change beside the register words -/

/-- From `s` to `t` only register words, the clock's time-of-day mark, the housekeeping monitor, the TRIG_OUT pins and
what leaves the block may differ. -/
def State.WriteFrame (s t : State) : Prop :=
  t = { s with regs := t.regs, clk := t.clk, hk := t.hk, pins := t.pins, out := t.out }

theorem writeFrame_trans {s t u : State} (h : s.WriteFrame t) (h' : t.WriteFrame u) : s.WriteFrame u := by
  unfold State.WriteFrame at h h' ⊢
  rw [h', h]

theorem writeFrame_setReg (s : State) (a : Nat) (v : Word) : s.WriteFrame (s.setReg a v) := rfl

theorem writeFrame_setFld (s : State) (f : FRef) (v : Nat) : s.WriteFrame (s.setFld f v) := by
  unfold State.setFld
  split <;> rfl

theorem writeFrame_force {s t : State} (h : s.WriteFrame t) : t.force = s.force := by rw [h]

theorem writeFrame_hbm {s t : State} (h : s.WriteFrame t) : t.hbm = s.hbm := by rw [h]

/-! ### The housekeeping entry (R362, R363) -/

/-- Between conversions the housekeeping monitor takes its settings; entering native mode moves it to entry 0. -/
theorem hkBoundary_cases (s : State) :
    ∃ h, s.hkBoundary = { s with hk := h } ∨ s.hkBoundary = State.setFld { s with hk := h } Fr.HK_ENTRY 0 := by
  simp only [State.hkBoundary]
  split
  · exact ⟨_, .inl rfl⟩
  · split
    · exact ⟨_, .inr rfl⟩
    · exact ⟨_, .inl rfl⟩

theorem hkBoundary_writeFrame (s : State) : s.WriteFrame s.hkBoundary := by
  obtain ⟨h, e | e⟩ := hkBoundary_cases s <;> rw [e]
  · rfl
  · exact writeFrame_trans (t := { s with hk := h }) rfl (writeFrame_setFld _ _ _)

theorem hkBoundary_onlyWords (s : State) : s.onlyWords s.hkBoundary [0x40004] := by
  obtain ⟨h, e | e⟩ := hkBoundary_cases s <;> rw [e]
  · exact onlyWords_of_regs rfl
  · exact onlyWords_trans (onlyWords_of_regs rfl) (onlyWords_setFld { s with hk := h } 0 (by decide) (by decide))

/-! ### The TRIG_OUT pins (R33) -/

/-- The pins follow their sources and each edge leaves the block. -/
theorem updatePins_cases (s : State) : ∃ p o, s.updatePins = { s with pins := p, out := o } := by
  refine List.foldlRecOn _ _ (motive := fun t => ∃ p o, t = { s with pins := p, out := o }) ⟨s.pins, s.out, rfl⟩ ?_
  rintro t ⟨p, o, rfl⟩ k -
  dsimp only
  split
  · exact ⟨_, _, rfl⟩
  · exact ⟨_, _, rfl⟩

/-! ### FLT.PIN (R415) -/

theorem updatePin_writeFrame (s : State) : s.WriteFrame s.updatePin :=
  writeFrame_trans (writeFrame_setFld _ _ _) (writeFrame_setFld _ _ _)

theorem updatePin_onlyWords (s : State) : s.onlyWords s.updatePin [0x8C0010] :=
  onlyWords_trans (onlyWords_setFld _ _ (by decide) (by decide)) (onlyWords_setFld _ _ (by decide) (by decide))

theorem updatePin_onlyFields (s : State) : s.onlyFields s.updatePin [Fr.FLT_PIN_WHY, Fr.FLT_PIN_STATE] :=
  onlyFields_setFld _ (by decide) (onlyFields_setFld _ (by decide) (onlyFields_refl s _))

/-- The device computes FLT.PIN from bit 18 up; MASK and FORCE below stay as written. -/
theorem updatePin_getLsbD (s : State) {i : Nat} (hi : i < 18) :
    (s.updatePin.reg 0x8C0010).getLsbD i = (s.reg 0x8C0010).getLsbD i := by
  have hi32 : i < 32 := by omega
  have hfld : s.updatePin.fld ⟨0x8C0010, i, 1⟩ = s.fld ⟨0x8C0010, i, 1⟩ := by
    refine updatePin_onlyFields s _ hi32 fun f hf => ?_
    have hlo : 18 ≤ f.lo ∧ f.lo + f.w ≤ 32 := by
      revert f
      decide
    simp only [FRef.apart, hlo.2, if_true]
    omega
  simp only [reg_getLsbD_eq_flag _ _ hi32, State.flag, hfld]

/-! ### The effect of a write beside the word it stores -/

/-- A write of MODE or of the test DAC may start the housekeeping entry, one of FLT.PIN recomputes the pin, and any
other reaches no register word beside its own. -/
theorem wrote_cases (s : State) (a : Nat) :
    ((a = 0x40000 ∨ a = 0x40010) ∧ s.wrote a = s.hkBoundary) ∨ (a = 0x8C0010 ∧ s.wrote a = s.updatePin)
      ∨ ∃ c h p o, s.wrote a = { s with clk := c, hk := h, pins := p, out := o } := by
  unfold State.wrote
  split
  · exact .inr (.inr ⟨_, s.hk, s.pins, s.out, rfl⟩)
  split
  · rename_i h
    split
    · exact .inr (.inr ⟨s.clk, s.hk, s.pins, s.out, rfl⟩)
    · exact .inl ⟨by simpa using h, rfl⟩
  split
  · exact .inr (.inr ⟨s.clk, _, s.pins, s.out, rfl⟩)
  split
  · obtain ⟨p, o, e⟩ := updatePins_cases s
    exact .inr (.inr ⟨s.clk, s.hk, p, o, e⟩)
  split
  · rename_i h
    exact .inr (.inl ⟨h, rfl⟩)
  · exact .inr (.inr ⟨s.clk, s.hk, s.pins, s.out, rfl⟩)

theorem wrote_writeFrame (s : State) (a : Nat) : s.WriteFrame (s.wrote a) := by
  obtain ⟨-, e⟩ | ⟨-, e⟩ | ⟨_, _, _, _, e⟩ := wrote_cases s a <;> rw [e]
  · exact hkBoundary_writeFrame s
  · exact updatePin_writeFrame s
  · rfl

theorem wrote_onlyWords (s : State) (a : Nat) : s.onlyWords (s.wrote a) [a, 0x40004] := by
  obtain ⟨-, e⟩ | ⟨rfl, e⟩ | ⟨_, _, _, _, e⟩ := wrote_cases s a <;> rw [e]
  · exact onlyWords_mono (by simp) (hkBoundary_onlyWords s)
  · exact onlyWords_mono (by simp) (updatePin_onlyWords s)
  · exact onlyWords_of_regs rfl

/-- The word written stays as stored, but for the bits of FLT.PIN that the device computes. -/
theorem wrote_getLsbD_same (s : State) {a i : Nat} (hi : a = 0x8C0010 → i < 18) :
    ((s.wrote a).reg a).getLsbD i = (s.reg a).getLsbD i := by
  obtain ⟨ha, e⟩ | ⟨rfl, e⟩ | ⟨_, _, _, _, e⟩ := wrote_cases s a <;> rw [e]
  · rw [hkBoundary_onlyWords s a (by simp; omega)]
  · exact updatePin_getLsbD s (hi rfl)
  · rfl

theorem wrote_regs (s : State) {a : Nat} (hm : a ≠ 0x40000) (ht : a ≠ 0x40010) (hp : a ≠ 0x8C0010) :
    (s.wrote a).regs = s.regs := by
  obtain ⟨ha, -⟩ | ⟨ha, -⟩ | ⟨_, _, _, _, e⟩ := wrote_cases s a
  · omega
  · exact absurd ha hp
  · rw [e]

/-! ## A host write, case by case (R6 to R8) -/

/-- A write of the physical function at an aligned offset is a host write of that word. -/
theorem exec_registerWrite_pf (s : State) {a : Nat} (v : Nat) (c : Bool) (ha : a % 4 = 0) :
    exec (.registerWrite 0 a v c) s = .next (s.hostWrite a v c) := by
  simp [exec, execRegisterWrite, ha]

theorem exec_registerWrite_unaligned (s : State) (f : Nat) {a : Nat} (v : Nat) (c : Bool) (ha : a % 4 ≠ 0) :
    exec (.registerWrite f a v c) s = .next s := by
  simp [exec, execRegisterWrite, ha]

theorem exec_bar0UnsupportedAccess (s : State) {a n : Nat} (w : Bool) (h : n ≠ 4 ∨ a % 4 ≠ 0) :
    exec (.bar0UnsupportedAccess a n w) s = .next (s.emit .unsupported) := by
  simp [exec, execBar0UnsupportedAccess, h]

theorem hostWrite_unassigned (s : State) {a : Nat} (v : Nat) (c : Bool) (h : regRow a = none) :
    s.hostWrite a v c = s := by
  simp [State.hostWrite, h]

section
variable (s : State) {a : Nat} (v : Nat) (c : Bool) {r : RegRow} (hr : regRow a = some r) (ho : ownWord a = false)
include hr ho

theorem hostWrite_readOnly (hl : r.rl = 0) (hw : r.rw = 0) (hs : r.rws = 0) (h1 : r.w1c = 0) :
    s.hostWrite a v c = s := by
  simp [State.hostWrite, hr, ho, hl, hw, hs, h1]

/-- The low word of an RL pair waits for its high word. -/
theorem hostWrite_rlLow (hl : r.rl = 1) :
    s.hostWrite a v c = { s with rlPend := rfPut s.rlPend a (BitVec.ofNat 32 v) } := by
  simp [State.hostWrite, hr, ho, hl]

/-- The high word of an RL pair makes both words take effect, the low word as it waits. -/
theorem hostWrite_rlHigh (hl : r.rl = 2) :
    s.hostWrite a v c =
      (((State.setReg { s with rlPend := rfDrop s.rlPend (a - 4) a } (a - 4)
        ((rfGet s.rlPend (a - 4)).getD (s.reg (a - 4)))).setReg a (BitVec.ofNat 32 v)).wrote a) := by
  simp [State.hostWrite, hr, ho, hl]

/-- A word with a bit that a write acts on is stored by its masks, and the write brings about what belongs to it. -/
theorem hostWrite_stored (hl : r.rl = 0) (hm : r.rw ≠ 0 ∨ r.rws ≠ 0 ∨ r.w1c ≠ 0)
    (hk : a = 0x600000 → bits (keptWord a v) 8 7 < bits (keptWord a v) 0 7) :
    s.hostWrite a v c =
      let t := (s.setReg a (writeMasked r (s.reg a) (BitVec.ofNat 32 (keptWord a v)))).wrote a
      if c then t.collided a else t := by
  have hk' : ¬ (a = 0x600000 ∧ bits (keptWord a v) 0 7 ≤ bits (keptWord a v) 8 7) :=
    fun h => absurd (hk h.1) (Nat.not_lt.mpr h.2)
  have hm' : ¬ ((r.rw = 0 ∧ r.rws = 0) ∧ r.w1c = 0) := by omega
  simp [State.hostWrite, hr, ho, hl, hm', hk']

end

/-- No RL pair has its high word where a write brings about a change of a register word. -/
theorem rlHigh_ne {a : Nat} {r : RegRow} (hr : regRow a = some r) (hl : r.rl = 2) :
    a ≠ 0x40000 ∧ a ≠ 0x40010 ∧ a ≠ 0x8C0010 := by
  have hrl : ∀ b ∈ [0x40000, 0x40010, 0x8C0010], (regRow b).map (·.rl) = some 0 := by decide
  have hne : ∀ b ∈ [0x40000, 0x40010, 0x8C0010], a ≠ b := by
    rintro b hb rfl
    simpa [hr, hl] using hrl a hb
  simpa using hne

/-- Both words of an RL pair stored, with no low word of it left waiting. -/
def State.storePair (s : State) (a v w : Nat) : State :=
  (State.setReg { s with rlPend := rfDrop (rfPut s.rlPend a (BitVec.ofNat 32 v)) a (a + 4) } a (BitVec.ofNat 32 v)).setReg
    (a + 4) (BitVec.ofNat 32 w)

theorem storePair_onlyWords (s : State) (a v w : Nat) : s.onlyWords (s.storePair a v w) [a, a + 4] :=
  onlyWords_trans (onlyWords_trans (onlyWords_of_regs rfl) (onlyWords_setReg _ _ (by simp)))
    (onlyWords_setReg _ _ (by simp))

theorem storePair_reg_high (s : State) (a v w : Nat) : (s.storePair a v w).reg (a + 4) = BitVec.ofNat 32 w :=
  reg_setReg_same _ _ _

theorem storePair_reg_low (s : State) (a v w : Nat) : (s.storePair a v w).reg a = BitVec.ofNat 32 v := by
  rw [State.storePair, reg_setReg_other _ _ (by omega), reg_setReg_same]

/-- The two writes of an RL pair, low word first, store both words. -/
theorem hostWrite_rlPair (s : State) {a : Nat} (v w : Nat) (c : Bool) {r r' : RegRow}
    (hr : regRow a = some r) (hl : r.rl = 1) (ho : ownWord a = false)
    (hr' : regRow (a + 4) = some r') (hl' : r'.rl = 2) (ho' : ownWord (a + 4) = false) :
    (s.hostWrite a v c).hostWrite (a + 4) w c = (s.storePair a v w).wrote (a + 4) := by
  rw [hostWrite_rlLow s v c hr ho hl, hostWrite_rlHigh _ w c hr' ho' hl']
  simp only [Nat.add_sub_cancel, rfGet_rfPut_same, Option.getD_some, State.storePair]

/-- A device update of a CAL record on the same edge sets WCOL (R64). -/
theorem collided_calWcol (s : State) {a : Nat} (h0 : 0x30100 ≤ a) (h1 : a < 0x30340) :
    (s.collided a).flag Fr.CAL_SPARE_WCOL = true := by
  simp only [State.collided, h0, h1, decide_true, Bool.and_self, if_true, State.flag]
  rw [fld_setFld_eq _ _ _ (by decide) (by decide)]
  rfl

end Sys2Proof.Machine

namespace Sys2Proof.Proofs
open Sys2Proof.Machine

/-- Settles O9: the row emits Unsupported Request, and a register write at such an offset is dropped. -/
theorem unsupportedAccess : Obligations.UnsupportedAccess :=
  ⟨fun s _ _ w h => exec_bar0UnsupportedAccess s w h, fun s f _ v c h => exec_registerWrite_unaligned s f v c h⟩

/-- Settles O10, by the access code of the word's row: unassigned, read only, stored by its masks. -/
theorem registerWriteByCode : Obligations.RegisterWriteByCode := by
  intro s a v c ha ho
  simp only [exec_registerWrite_pf s v _ ha]
  refine ⟨fun hn => by rw [hostWrite_unassigned s v c hn], fun r hr hl => ⟨?readOnly, ?stored, ?collision⟩⟩
  case readOnly =>
    intro hw hs h1
    rw [hostWrite_readOnly s v c hr ho hl hw hs h1]
  case stored =>
    intro hm hk
    rw [hostWrite_stored s v false hr ho hl hm hk]
    refine ⟨_, rfl, fun i hi hp => ?_, ?_, ?_⟩
    · exact (wrote_getLsbD_same _ hp).trans (by rw [reg_setReg_same, getLsbD_writeMasked _ _ _ hi])
    · exact onlyWords_trans (onlyWords_setReg s _ (by simp)) (wrote_onlyWords _ a)
    · exact writeFrame_trans (writeFrame_setReg s _ _) (wrote_writeFrame _ a)
  case collision =>
    intro hm h0 h1
    rw [hostWrite_stored s v true hr ho hl hm (by omega)]
    exact ⟨_, rfl, collided_calWcol _ h0 h1⟩

/-- Settles O11: the low word waits unseen, and the write of the high word stores both. -/
theorem rlPairWrite : Obligations.RlPairWrite := by
  intro s a v w r r' c ha hv hw hr hl ho hr' hl' ho'
  obtain ⟨hm, ht, hp⟩ := rlHigh_ne hr' hl'
  have hregs : ((s.storePair a v w).wrote (a + 4)).regs = (s.storePair a v w).regs := wrote_regs _ hm ht hp
  have hframe := wrote_writeFrame (s.storePair a v w) (a + 4)
  refine ⟨s.hostWrite a v c, (s.storePair a v w).wrote (a + 4), exec_registerWrite_pf s v c ha, ?_, ?_, ?_, ?_, ?_, ?_, ?_⟩
  · rw [hostWrite_rlLow s v c hr ho hl]
  · rw [exec_registerWrite_pf _ w c (by omega), hostWrite_rlPair s v w c hr hl ho hr' hl' ho']
  · rw [reg_congr hregs, storePair_reg_low, BitVec.toNat_ofNat, Nat.mod_eq_of_lt hv]
  · rw [reg_congr hregs, storePair_reg_high, BitVec.toNat_ofNat, Nat.mod_eq_of_lt hw]
  · exact onlyWords_trans (storePair_onlyWords s a v w) (onlyWords_of_regs hregs)
  · exact (writeFrame_force hframe).trans rfl
  · exact (writeFrame_hbm hframe).trans rfl

end Sys2Proof.Proofs
end
